-- ==== Sys2Proof/Word.lean ====
section
/-! DEFINITION. The word types of the FS24 (00_scope section 5, R197). -/

namespace Sys2Proof

/-- Eight bits: the unit of every wire layout (R197). -/
abbrev Octet := BitVec 8
/-- A 16-bit linear audio sample; its value is `toInt`, from -32768 to 32767. -/
abbrev Sample := BitVec 16
/-- A block: 16 consecutive samples, 2 ms of audio. -/
abbrev Block := Vector Sample 16
/-- A station number as held in frames, 0 to 63 (R197). Stations run from 1 to 62; as a target 63
means all stations. -/
abbrev Station := BitVec 6
/-- A line number as held in frames, 16 bits (R197). -/
abbrev LineNo := BitVec 16
/-- Station time: a 32-bit count of samples that wraps. -/
abbrev Time := BitVec 32
/-- The 16 octets of a line label (R38). -/
abbrev Label := Vector Octet 16
/-- A 16-bit live counter or snapshot. -/
abbrev Count := BitVec 16

/-- Sixteen zero samples. -/
def Block.silence : Block := Vector.replicate 16 0#16

end Sys2Proof
end

