-- ==== Sys2Proof/Syntax.lean ====
section
/-! DEFINITION. The commands of the FS24: one constructor of `Instr` per row of opcode_table.json, and the
operands they carry. A frame heard on the medium is carried as all its octets, those before the CRC (for the row of an
unknown operation the header and the body) and the CRC's, heard one after the other as R197 lays them out (R1, R197); a
malformed message is carried as its octets (R189), the configuration memory as its bytes (R28). The fields of a panel message stand as
R197 and R198 code them; what the part's own clock or ports name (a port, a slot, a table index) is carried by its
number. -/

namespace Sys2Proof

/-- The image words of one line port's settings (02 section 2.6); the labels as their octets, an
`expectedLabel` of none where the image leaves it unset. -/
structure PortWords where
  lineNumber : BitVec 16
  lineType : BitVec 16
  transmitLabel : Label
  expectedLabel : Option Label
  shareLimit : BitVec 16
  privacyDefault : BitVec 16
  recorded : BitVec 16
  parityMode : BitVec 16
  degradeThreshold : BitVec 16
  holdRecall : BitVec 16
  alignEnter : BitVec 16
  alignExit : BitVec 16
  lolSet : BitVec 16
  lolReset : BitVec 16
  lolClear : BitVec 16
  deriving DecidableEq, Repr

/-- The image words of one speaker channel's settings (02 section 2.6). -/
structure ChannelWords where
  bindingKind : BitVec 16
  bindingNumber : BitVec 16
  volume : BitVec 16
  output : BitVec 16
  deriving DecidableEq, Repr

/-- The image words of one entry of BUZZ_TARGET. -/
structure BuzzWords where
  station : BitVec 16
  bit : BitVec 16
  deriving DecidableEq, Repr

/-- The words an image holds for the settings, each at the place the configuration tool gave it. -/
structure SettingWords where
  stationNumber : BitVec 16
  supervisor : BitVec 16
  panelPresent : BitVec 16
  monitorInterval : BitVec 16
  ports : Vector PortWords 8
  appearance : Vector (BitVec 16) 128
  handsetVolume : BitVec 16
  sidetone : BitVec 16
  duck : BitVec 16
  speakerMaster : Vector (BitVec 16) 2
  channels : Vector ChannelWords 8
  talkers : BitVec 16
  gate : BitVec 16
  hangover : BitVec 16
  groupCount : BitVec 16
  groups : Vector (BitVec 16) 8
  buzzTargets : Vector BuzzWords 8
  deriving DecidableEq, Repr

/-- The blocks the audio input ports give for one block boundary (00_scope section 3). -/
structure AudioIn where
  mouthpiece : Vector Block 2
  microphone : Block
  deriving DecidableEq, Repr

/-- What can end a frame period of a line port (R39): an octet received, a change of carrier-present, or a
block boundary. -/
inductive FramerStimulus where
  | octet (o : Octet)
  | carrierFall
  | carrierRise
  | boundary (io : AudioIn)
  deriving DecidableEq, Repr

/-- The commands: one constructor per row of opcode_table.json, in the table's order. -/
inductive Instr where
  | fullReset
  | loadComplete (memory : List Octet) (settings : SettingWords)
  | listenPeriodExpiry
  | join
  | leave
  | mediumIdle
  | contentionLoss
  | frameSent
  | clashEvent
  | clashWindowExpiry
  | lifetimeExpiry (entry : Nat)
  | beaconIntervalExpiry
  | voiceReceived (unit crc : List Octet)
  | stateReceived (unit crc : List Octet)
  | replyReceived (unit crc : List Octet)
  | beaconReceived (unit crc : List Octet)
  | peerSilenceExpiry (station : Station)
  | askTake (unit crc : List Octet)
  | askDrop (unit crc : List Octet)
  | askHold (unit crc : List Octet)
  | askResume (unit crc : List Octet)
  | askRing (unit crc : List Octet)
  | askPrivacy (unit crc : List Octet)
  | askListen (unit crc : List Octet)
  | askUnlisten (unit crc : List Octet)
  | outRingExpiry (port : Fin 8)
  | recallTimerExpiry (port : Fin 8) (entry : Nat)
  | holdOverExpiry (port : Fin 8)
  | refreshExpiry (port : Fin 8)
  | conflictTimerExpiry (port : Fin 8)
  | carrierFall (port : Fin 8)
  | carrierRise (port : Fin 8)
  | losCleared (port : Fin 8) (octet : Octet)
  | lineOctetReceived (port : Fin 8) (octet : Octet)
  | alignmentConfirmed (port : Fin 8) (octet : Octet)
  | alignmentLost (port : Fin 8) (octet : Octet)
  | lolDeclared (port : Fin 8) (stimulus : FramerStimulus)
  | lolCleared (port : Fin 8) (octet : Octet)
  | labelSettled (port : Fin 8) (octet : Octet)
  | signallingAccepted (port : Fin 8) (octet : Octet)
  | farDefectDecided (port : Fin 8) (octet : Octet)
  | degradeWindowEnd (port : Fin 8) (octet : Octet)
  | linePortOut (port : Octet)
  | linePortIn (port : Octet)
  | forceOoa (port : Octet)
  | forceRd (port : Octet)
  | forceNone (port : Octet)
  | blockBoundary (io : AudioIn)
  | hangoverExpiry (channel : Fin 8) (station : Station) (port : Octet) (io : AudioIn)
  | segmentFull (port : Fin 8) (io : AudioIn)
  | stalenessTimerExpiry (line : LineNo)
  | pendingAskExpiry (tag : Octet)
  | hookOff (handset : Octet)
  | hookOn (handset : Octet)
  | mute (handset : Octet) (on : Bool)
  | volume (handset : Octet) (code : Octet)
  | balance (handset : Octet) (binding : Octet) (code : Octet)
  | lineKey (key : Octet) (handset : Octet)
  | release (handset : Octet) (binding : Octet)
  | hold (handset : Octet) (binding : Octet)
  | ring (handset : Octet)
  | privacy (handset : Octet) (on : Bool)
  | call (handset : Octet) (targetStation : Octet) (called : Octet)
  | offer (unit crc : List Octet)
  | alert (unit crc : List Octet)
  | accept (unit crc : List Octet)
  | decline (unit crc : List Octet)
  | endReceived (unit crc : List Octet)
  | alertWaitExpiry (slot : Fin 4)
  | callerAnswerWaitExpiry (slot : Fin 4)
  | calledAnswerWaitExpiry (slot : Fin 4)
  | answer (slot : Octet) (handset : Octet)
  | reject (slot : Octet)
  | callEnd (slot : Octet)
  | signalSet (unit crc : List Octet)
  | signalClear (unit crc : List Octet)
  | buzzMask (bits : Octet)
  | buzzUnmask (bits : Octet)
  | buzzClear (bits : Octet)
  | buzz (index : Octet)
  | buzzOff (index : Octet)
  | remoteMute (station : Octet) (channel : Octet) (on : Bool)
  | bind (channel : Octet) (kind : Octet) (number : BitVec 16)
  | unbind (channel : Octet)
  | listenWaitExpiry (channel : Fin 8)
  | talkers (limit : Octet)
  | talk (channel : Octet)
  | talkUp (channel : Octet)
  | channelVolume (channel : Octet) (code : Octet)
  | channelOutput (channel : Octet) (output : Octet)
  | channelMute (channel : Octet) (on : Bool)
  | master (output : Octet) (code : Octet)
  | streamSilenceExpiry (entry : Fin 32) (io : AudioIn)
  | status
  | readDescriptor (index : Octet)
  | readAudio (index : Octet) (offset : BitVec 16) (count : BitVec 16)
  | returnDescriptor (index : Octet)
  | malformedMessage (recorder : Bool) (octets : List Octet)
  | readEvent
  | eventMask (kinds : BitVec 16) (masked : Bool)
  | readChanges
  | conditionMask (views : Octet) (masked : Bool)
  | snapshot
  | monitorIntervalExpiry
  | readCounters (group : Octet) (port : Octet)
  | askUnknownOperation (header body crc : List Octet)
  deriving DecidableEq, Repr

end Sys2Proof
end

