-- ==== Sys2Proof/Config.lean ====
section
/-! DEFINITION. What the FS24 fixes once: the capacities of its tables and the station numbers with a
meaning of their own, and the one value the spec leaves open to the medium. -/

namespace Sys2Proof.Config

/-- The target that means all stations (00_scope "Station numbers and targets"). -/
def allStations : Station := 63#6
/-- The highest station number (00_scope). -/
def lastStation : Nat := 62
/-- Entries of the transmit queue (R7). -/
def queueCapacity : Nat := 24
/-- Clash events the clash window holds (R18). -/
def clashWindowCapacity : Nat := 2
/-- Entries of a listener list (R65). -/
def listenerCapacity : Nat := 16
/-- Entries of the pending ask list (R107). -/
def pendingCapacity : Nat := 4
/-- Entries of the held list (R106). -/
def heldCapacity : Nat := 8
/-- Places of a handset (R103). -/
def handsetPlaces : Nat := 2
/-- Blocks of an elastic store (R59). -/
def storeCapacity : Nat := 3
/-- Blocks of a playout queue (R150). -/
def playoutCapacity : Nat := 4
/-- Notices of the event notice queue (R190). -/
def noticeCapacity : Nat := 32
/-- Sample pairs of a full recording segment (R180). -/
def segmentPairs : Nat := 256
/-- Octets of a broker line frame (R38). -/
def lineFrameOctets : Nat := 36
/-- Evaluated frames of a degrade window (R54). -/
def degradeWindow : Nat := 500
/-- Words of the configuration image (R28). -/
def imageWords : Nat := 2048
/-- The word an image holds for an unset setting, and a missing memory reads as (R28, R30). -/
def unsetWord : BitVec 16 := 0xFFFF#16

/-- How deep one announcement of a home line may lead to further announcements of it: each further one follows
the removal of one of the station's own entries, of which a record holds at most 6 + 16 (R65). -/
def announceDepth : Nat := 24

/-- A free value: whether some other station has begun a frame since the medium became idle, at the station's
`n`th offer of a frame to an empty queue while it holds the medium idle (R3). No row of the table says when another
station begins, so nothing is known of it; a counter of the state gives each such offer a value of its own (log 10). -/
opaque otherHasBegun (n : Nat) : Bool

end Sys2Proof.Config
end

