-- ==== Sys2Proof/Machine/State.lean ====
section
/-! DEFINITION. What an FS24 holds: every register, table, queue, mark and counter the spec gives the
station, as plain data, and the state after a full reset. -/

namespace Sys2Proof.Machine

/-! ### Names the chapters share -/

/-- The seven station states, in the row order of R27. -/
inductive StationState where
  | loading | configFault | listening | duplicate | active | left | clashed
  deriving DecidableEq, Repr

/-- A running timer holds the number of block boundaries still to come before it is due; `some 0` is due,
`none` is stopped (00_scope "Timers"; log 1). -/
abbrev Timer := Option Nat

/-- The ports that may stand in a party (00_scope section 5). Handset 0 is A and handset 1 is B. -/
inductive Port where
  | handset (h : Fin 2)
  | mic
  | speakerCh (k : Fin 8)
  | linePort (k : Fin 8)
  deriving DecidableEq, Repr

/-- One talker or member floor-wide (00_scope section 4). -/
structure Party where
  station : Station
  port : Port
  deriving DecidableEq, Repr

/-- What audio on the floor bus is tagged with (00_scope "Circuits"). -/
inductive Circuit where
  | line (n : LineNo)
  | hoot (n : Nat)
  /-- The number is the caller station times 4 plus the caller slot. -/
  | call (n : Nat)
  deriving DecidableEq, Repr

/-- Far-end and near-end signalling (R38). -/
inductive Signalling where
  | idle | ring | offhook | fault
  deriving DecidableEq, Repr

/-- The five defects in the order of R58, from highest to lowest. -/
inductive Defect where
  | los | lol | labelMismatch | degraded | farDefect
  deriving DecidableEq, Repr

/-- The alarm summary of a line: its five defect states (R57). -/
structure Alarms where
  los : Bool
  lol : Bool
  labelMismatch : Bool
  degraded : Bool
  farDefect : Bool
  deriving DecidableEq, Repr

/-- Every defect clear. -/
def Alarms.clear : Alarms := ⟨false, false, false, false, false⟩

/-- The six line states, in the order of their codes (R197). -/
inductive LineState where
  | outOfService | failed | idle | ringingIn | engaged | held
  deriving DecidableEq, Repr

/-- The mode of a member entry (R65). -/
inductive Mode where
  | active | held
  deriving DecidableEq, Repr

/-- The eight operations of an ASK, in the order of their codes (R197). -/
inductive AskOp where
  | take | drop | hold | resume | ring | privacy | listen | unlisten
  deriving DecidableEq, Repr

/-- The reasons of a REFUSED REPLY, in the order of their codes from 1 (R197). -/
inductive AskReason where
  | outOfService | failed | isPrivate | full | notMember | inUse
  deriving DecidableEq, Repr

/-- The five kinds of CALL frame (R117). -/
inductive CallKind where
  | offer | alert | accept | decline | callEnd
  deriving DecidableEq, Repr

/-- Call reasons, in the order of their codes (R197, R198); `none` is carried in frames without a reason,
`peerLost` only in notices (R117). -/
inductive CallReason where
  | none | busy | cleared | noAnswer | glare | answeredElsewhere | peerLost
  deriving DecidableEq, Repr

/-- The tag of a call: its caller station and caller slot (R116). -/
structure CallId where
  station : Station
  slot : Fin 4
  deriving DecidableEq, Repr

/-- The called field of a CALL body: a port, or a hunt group (R197). -/
inductive Called where
  | port (p : Port)
  | group (g : Station)
  deriving DecidableEq, Repr

/-! ### Frames -/

/-- A station card (01 section 1.5). -/
structure Card where
  station : Station
  leaving : Bool
  hasLines : Bool
  hasPanel : Bool
  supervisor : Bool
  homeLines : List (LineNo × Fin 8)
  deriving DecidableEq, Repr

/-- A member entry of a STATE body (R89). -/
structure MemberStatus where
  party : Party
  mode : Mode
  recallFlag : Bool
  deriving DecidableEq, Repr

/-- The content of a STATE frame (R89). -/
structure LineStatus where
  line : LineNo
  state : LineState
  privacy : Bool
  outRing : Bool
  farSignalling : Signalling
  alarms : Alarms
  members : List MemberStatus
  listeners : List Party
  deriving DecidableEq, Repr

/-- A REPLY body: a reason of none is the outcome GRANTED (R73). -/
structure Reply where
  line : LineNo
  tag : Octet
  refused : Bool
  reason : Option AskReason
  deriving DecidableEq, Repr

/-- An ASK body; an operation of none is one R73 does not know. -/
structure Ask where
  line : LineNo
  op : Option AskOp
  port : Port
  secondPort : Port
  wanted : Bool
  tag : Octet
  deriving DecidableEq, Repr

/-- A CALL body (R117). -/
structure CallFrame where
  kind : CallKind
  id : CallId
  callerPort : Port
  called : Called
  reason : CallReason
  deriving DecidableEq, Repr

/-- A SIGNAL body (R129). -/
structure Signal where
  set : Bool
  bit : Octet
  deriving DecidableEq, Repr

/-- A VOICE body (R1). -/
structure Voice where
  circuit : Circuit
  port : Port
  sequence : Octet
  talking : Bool
  samples : Block
  deriving DecidableEq, Repr

/-- The body of a frame, by kind (R1). -/
inductive Body where
  | state (b : LineStatus)
  | reply (b : Reply)
  | ask (b : Ask)
  | call (b : CallFrame)
  | signal (b : Signal)
  | voice (b : Voice)
  | beacon (b : Card)
  deriving DecidableEq, Repr

/-- An entry of the transmit queue (01 section 1.3); `life` counts the boundaries its lifetime still has. -/
structure TxEntry where
  target : Station
  body : Body
  queuedAt : Time
  life : Nat
  stale : Bool
  deriving DecidableEq, Repr

/-! ### Peers -/

/-- The states of a peer table entry (R21). -/
inductive PeerState where
  | absent | present | silent | left
  deriving DecidableEq, Repr

/-- A peer table entry (R21). -/
structure Peer where
  state : PeerState
  card : Option Card
  silence : Timer
  deriving DecidableEq, Repr

/-! ### Settings -/

/-- The settings of one line port, checked (02 section 2.6). Line number 0 is an unused port. -/
structure PortSettings where
  line : LineNo
  automatic : Bool
  transmitLabel : Label
  expectedLabel : Option Label
  shareLimit : Nat
  privacyDefault : Bool
  recorded : Bool
  parityFrame : Bool
  degradeThreshold : Nat
  holdRecall : Nat
  alignEnter : Nat
  alignExit : Nat
  lolSet : Nat
  lolReset : Nat
  lolClear : Nat
  deriving DecidableEq, Repr

/-- What a speaker channel is bound to (R133). -/
inductive ChannelBinding where
  | unbound
  | hoot (n : Nat)
  | line (n : LineNo)
  deriving DecidableEq, Repr

/-- The settings of one speaker channel, checked. -/
structure ChannelSettings where
  binding : ChannelBinding
  volume : Nat
  output : Fin 2
  deriving DecidableEq, Repr

/-- The configuration image in use, checked under R29 to R31. -/
structure Settings where
  station : Station
  supervisor : Bool
  panelPresent : Bool
  monitorInterval : Nat
  ports : Vector PortSettings 8
  appearance : Vector LineNo 128
  handsetVolume : Nat
  sidetone : Nat
  duck : Nat
  speakerMaster : Vector Nat 2
  channels : Vector ChannelSettings 8
  talkers : Nat
  gate : Nat
  hangover : Nat
  groups : List Nat
  buzzTargets : Vector (Station × Fin 8) 8
  deriving DecidableEq, Repr

/-- The defaults of 02 section 2.6 for a line port; the port is unused. -/
def PortSettings.default : PortSettings where
  line := 0#16
  automatic := false
  transmitLabel := Vector.replicate 16 0#8
  expectedLabel := none
  shareLimit := 4
  privacyDefault := false
  recorded := true
  parityFrame := false
  degradeThreshold := 50
  holdRecall := 90
  alignEnter := 3
  alignExit := 4
  lolSet := 24
  lolReset := 8
  lolClear := 50

/-- What stands for the settings before a load has completed: the defaults of 02 section 2.6, no line, no
station number (DESIGN CHOICE, log 7). -/
def Settings.unloaded : Settings where
  station := 0#6
  supervisor := false
  panelPresent := true
  monitorInterval := 1
  ports := Vector.replicate 8 PortSettings.default
  appearance := Vector.replicate 128 0#16
  handsetVolume := 72
  sidetone := 40
  duck := 48
  speakerMaster := Vector.replicate 2 72
  channels := Vector.replicate 8 ⟨.unbound, 72, 0⟩
  talkers := 3
  gate := 200
  hangover := 100
  groups := []
  buzzTargets := Vector.replicate 8 (0#6, 0)

/-! ### Line ports -/

/-- The framer's states (03 section 3.3). -/
inductive Framer where
  | hunt | confirm | aligned
  deriving DecidableEq, Repr

/-- What one line port keeps (03, opening list), its counters apart. -/
structure LinePort where
  framer : Framer
  /-- The octets of the frame under way, in the order received; empty in HUNT (no phase). -/
  frame : List Octet
  /-- The octets of the frame period under way (R39). -/
  periodOctets : Nat
  confirmCount : Nat
  missCount : Nat
  carrierCount : Nat
  lolCount : Nat
  alignedRun : Nat
  /-- The multiframe under way: none until a frame with MF; its length is the label position (R51). -/
  labelOctets : Option (List Octet)
  candidate : Option Label
  matchCount : Nat
  settled : Option Label
  parityReference : Octet
  degradeFrames : Nat
  degradeErrors : Nat
  signallingCandidate : Option Signalling
  signallingRun : Nat
  rdValue : Option Bool
  rdRun : Nat
  accepted : Signalling
  alarms : Alarms
  store : List Block
  storeRunning : Bool
  /-- The block last yielded, which after a boundary is the line's RX block of it (R60). -/
  lastBlock : Block
  txIndex : Fin 16
  txParity : Octet
  /-- The frame the transmit side built last; empty before the first (R61). -/
  txFrame : List Octet
  out : Bool
  forceOoa : Bool
  forceRd : Bool
  deriving DecidableEq, Repr

/-- A line port after a full reset (R40). -/
def LinePort.reset : LinePort where
  framer := .hunt
  frame := []
  periodOctets := 0
  confirmCount := 0
  missCount := 0
  carrierCount := 0
  lolCount := 0
  alignedRun := 0
  labelOctets := none
  candidate := none
  matchCount := 0
  settled := none
  parityReference := 0#8
  degradeFrames := 0
  degradeErrors := 0
  signallingCandidate := none
  signallingRun := 0
  rdValue := none
  rdRun := 0
  accepted := .idle
  alarms := Alarms.clear
  store := []
  storeRunning := false
  lastBlock := Block.silence
  txIndex := 0
  txParity := 0#8
  txFrame := []
  out := false
  forceOoa := false
  forceRd := false

/-! ### Line records -/

/-- A member entry (R65). -/
structure Member where
  party : Party
  mode : Mode
  joinTime : Time
  recallTimer : Timer
  recallFlag : Bool
  deriving DecidableEq, Repr

/-- A listener entry (R65). -/
structure Listener where
  party : Party
  joinTime : Time
  deriving DecidableEq, Repr

/-- The conflict mark, set (R92). -/
structure Conflict where
  station : Station
  timer : Nat
  deriving DecidableEq, Repr

/-- A line record (R64). Its line number, port, type and tap link stand in the settings, its copy of the
alarm summary is the port's (log 26). -/
structure LineRecord where
  state : LineState
  members : List Member
  listeners : List Listener
  privacy : Bool
  outRing : Timer
  farSignalling : Signalling
  conflict : Option Conflict
  holdOver : Timer
  refresh : Timer
  deriving DecidableEq, Repr

/-! ### Position -/

/-- The states of a mirror (R96). -/
inductive MirrorState where
  | unknown | current | stale
  deriving DecidableEq, Repr

/-- The mirror of one appearing line (R96). -/
structure Mirror where
  line : LineNo
  state : MirrorState
  content : Option LineStatus
  timer : Timer
  deriving DecidableEq, Repr

/-- A handset binding with its balance and, for a LINE binding, its miss count (R101, R115). -/
structure Binding where
  circuit : Circuit
  balance : Nat
  misses : Nat
  deriving DecidableEq, Repr

/-- A handset context (R101). -/
structure Handset where
  onHook : Bool
  bindings : List Binding
  volume : Nat
  muted : Bool
  deriving DecidableEq, Repr

/-- A held list entry (R106). -/
structure HeldLine where
  line : LineNo
  handset : Fin 2
  misses : Nat
  deriving DecidableEq, Repr

/-- A pending ask (R107). -/
structure PendingAsk where
  tag : Octet
  line : LineNo
  op : AskOp
  handset : Fin 2
  oldPort : Fin 2
  wanted : Bool
  station : Station
  timer : Nat
  deriving DecidableEq, Repr

/-! ### Calls -/

/-- The states of a call slot (R116). -/
inductive SlotState where
  | free | offering | ringback | alerting | talking
  deriving DecidableEq, Repr

/-- The roles of a call slot (R116). -/
inductive Role where
  | caller | called
  deriving DecidableEq, Repr

/-- The target of a CALLER slot (R116). -/
inductive CallTarget where
  | party (p : Party)
  | group (g : Station)
  deriving DecidableEq, Repr

/-- A call slot (R116). -/
structure Slot where
  state : SlotState
  role : Option Role
  id : Option CallId
  target : Option CallTarget
  peer : Option Party
  called : Option Called
  handset : Option (Fin 2)
  timer : Timer
  deriving DecidableEq, Repr

/-- A FREE slot: all fields absent, the timer stopped (R116). -/
def Slot.empty : Slot := ⟨.free, none, none, none, none, none, none, none⟩

/-! ### Speaker channels -/

/-- An entry of a talker set, with the source's level at the last boundary (R133, R142). -/
structure Talker where
  party : Party
  hangover : Nat
  level : Nat
  deriving DecidableEq, Repr

/-- The wait of a WAITING channel; its line is the binding's (R133). -/
structure ListenWait where
  tag : Octet
  station : Station
  timer : Nat
  deriving DecidableEq, Repr

/-- A speaker channel record (R133). Its state follows from the record and the talk state (R134). -/
structure Channel where
  binding : ChannelBinding
  volume : Nat
  output : Fin 2
  muted : Bool
  talkers : List Talker
  wait : Option ListenWait
  misses : Nat
  deriving DecidableEq, Repr

/-! ### Streams -/

/-- The stream classes, in rank order (R148). -/
inductive StreamClass where
  | speaker | handset | lineMix
  deriving DecidableEq, Repr

/-- An entry of the receive stream table (R149). -/
structure StreamEntry where
  circuit : Circuit
  party : Party
  cls : StreamClass
  playing : Bool
  queue : List (Octet × Block)
  expected : Octet
  level : Nat
  concealed : Nat
  lastBlock : Block
  silence : Nat
  deriving DecidableEq, Repr

/-- The next sequence of one (circuit, source port) pair the station sends on (R2). -/
structure SeqCount where
  circuit : Circuit
  port : Port
  next : Octet
  deriving DecidableEq, Repr

/-! ### Recording -/

/-- The states of a tap, in the row order of R175. -/
inductive TapState where
  | idle | recording | starved | closing
  deriving DecidableEq, Repr

/-- A recording tap (R174). -/
structure Tap where
  state : TapState
  number : Option (BitVec 16)
  nextSegment : BitVec 16
  filling : Option (Fin 64)
  lostPairs : Count
  owedStart : Option Count
  deriving DecidableEq, Repr

/-- The owner states of a descriptor (R176). -/
inductive Owner where
  | free | filling | ready
  deriving DecidableEq, Repr

/-- A recording descriptor and its buffer (R176, R178). -/
structure Descriptor where
  owner : Owner
  recording : BitVec 16
  segment : BitVec 16
  first : Bool
  last : Bool
  line : LineNo
  port : Fin 8
  startTime : Time
  truncated : Bool
  lostPairs : Count
  alarm : Bool
  gap : Bool
  parties : List (Party × Mode)
  farLabel : Option Label
  pairs : List (Sample × Sample)
  deriving DecidableEq, Repr

/-- A FREE descriptor, whose record and buffer hold nothing (R176). -/
def Descriptor.empty : Descriptor :=
  ⟨.free, 0#16, 0#16, false, false, 0#16, 0, 0#32, false, 0#16, false, false, [], none, []⟩

/-! ### Panel -/

/-- The event notices with the fields of their kinds (R190). -/
inductive Event where
  | ringStart (line : LineNo)
  | ringStop (line : LineNo)
  | askRefused (line : LineNo) (op : AskOp) (port : Port) (reason : Option AskReason)
  | askNoAnswer (line : LineNo) (op : AskOp) (port : Port)
  | lineLost (line : LineNo) (port : Port)
  | holdRecall (line : LineNo) (port : Port)
  | callOffer (slot : Fin 4) (id : CallId) (caller : Party) (called : Called)
  | callEnded (slot : Fin 4) (id : CallId) (reason : CallReason)
  | buzz (bit : Fin 8) (setter : Option Station)
  | talkStopped (channel : Fin 8)
  | lineAlarm (line : LineNo) (port : Fin 8) (defect : Defect) (declared : Bool)
  | lineConflict (line : LineNo) (port : Fin 8) (station : Station)
  | duplicate
  | clashed
  | recordStarved (line : LineNo) (port : Fin 8) (recording : BitVec 16)
  deriving DecidableEq, Repr

/-- A notice in the event notice queue (R190). -/
structure Notice where
  event : Event
  time : Time
  deriving DecidableEq, Repr

/-- The change marks of the five condition views (R192). -/
structure Marks where
  lamp : Vector Bool 128
  talker : Vector Bool 8
  handset : Vector Bool 2
  alarm : Vector Bool 8
  station : Bool
  deriving DecidableEq, Repr

/-- The counters of one line port (R63). -/
structure LineCounters where
  parityErrors : Count
  ooaPeriods : Count
  lineSlips : Count
  deriving DecidableEq, Repr

/-- Every live counter of the station (R195). A port without a line or a tap keeps 0 (R196). -/
structure Counters where
  badFrames : Count
  staleDrops : Count
  txOverruns : Count
  evictions : Count
  controlRefused : Count
  contentionLosses : Count
  clashEvents : Count
  lines : Vector LineCounters 8
  underruns : Count
  slips : Count
  lateFrames : Count
  gaps : Count
  restarts : Count
  streamsRefused : Count
  evictedStreams : Count
  clipsHandset : Vector Count 2
  clipsSpeaker : Vector Count 2
  clipsLine : Vector Count 8
  lostPairs : Vector Count 8
  signalIgnored : Count
  deriving DecidableEq, Repr

/-- Every counter 0. -/
def Counters.zero : Counters where
  badFrames := 0#16
  staleDrops := 0#16
  txOverruns := 0#16
  evictions := 0#16
  controlRefused := 0#16
  contentionLosses := 0#16
  clashEvents := 0#16
  lines := Vector.replicate 8 ⟨0#16, 0#16, 0#16⟩
  underruns := 0#16
  slips := 0#16
  lateFrames := 0#16
  gaps := 0#16
  restarts := 0#16
  streamsRefused := 0#16
  evictedStreams := 0#16
  clipsHandset := Vector.replicate 2 0#16
  clipsSpeaker := Vector.replicate 2 0#16
  clipsLine := Vector.replicate 8 0#16
  lostPairs := Vector.replicate 8 0#16
  signalIgnored := 0#16

/-- The outcomes of an answer, in the order of their codes (R197). -/
inductive Verdict where
  | done | busy | noLine | hookOn | fullHandset | heldFull | notBound | listenOnly | muted | badValue
  | badIndex | notActive | notReady | badRange
  deriving DecidableEq, Repr

/-- An answer message offered to a master: the request's kind, its outcome and the returned fields (R189). -/
structure Answer where
  kind : Octet
  verdict : Verdict
  fields : List Octet
  deriving DecidableEq, Repr

/-! ### The station -/

/-- Everything an FS24 holds, and the queue of the commands that wait. -/
structure State where
  stationTime : Time
  stationState : StationState
  cfg : Settings
  configClamps : Count
  listenTimer : Timer
  carrier : Vector Bool 8
  txQueue : List TxEntry
  transmitting : Bool
  mediumIdle : Bool
  mediumLooks : Nat
  clashWindow : List Nat
  beaconTimer : Timer
  peers : Vector Peer 64
  sequences : List SeqCount
  ports : Vector LinePort 8
  records : Vector (Option LineRecord) 8
  mirrors : List Mirror
  handsets : Vector Handset 2
  held : List HeldLine
  pendingAsks : List PendingAsk
  tagCount : Octet
  slots : Vector Slot 4
  signalWord : BitVec 16
  setters : Vector (Option Station) 16
  buzzMasked : BitVec 8
  channels : Vector Channel 8
  talk : Option (Fin 8)
  talkerLimit : Nat
  localLevels : List (Port × Nat)
  streams : Vector (Option StreamEntry) 32
  masters : Vector Nat 2
  earpieceOut : Vector Block 2
  speakerOut : Vector Block 2
  lineOut : Vector Block 8
  taps : Vector (Option Tap) 8
  recordingCount : BitVec 16
  ring : Vector Descriptor 64
  claimIndex : Fin 64
  notices : List Notice
  overflow : Octet
  eventMasked : BitVec 16
  marks : Marks
  viewMasked : BitVec 8
  live : Counters
  snapshots : Counters
  snapshotTime : Time
  monitorTimer : Nat
  panelAnswer : Option Answer
  recorderAnswer : Option Answer
  pending : List Instr
  deriving DecidableEq, Repr

/-- The reasons a command could stop the machine with a fault: none. The spec describes no condition in
which the part stops (INVENTORY.md, Faults), so no command raises one. -/
inductive Fault where
  deriving DecidableEq, Repr

/-- The reasons a command could be without a meaning. -/
inductive Refusal where
  /-- Raised by an arm of `exec` for a row that has no meaning yet; safe, since nothing follows from it. -/
  | notModelled (mnemonic : String)
  deriving DecidableEq, Repr

/-- An absent peer: no card, its timer stopped (R21). -/
def Peer.absent : Peer := ⟨.absent, none, none⟩

/-- The station right after a full reset (R37): every block at the reset values its chapter gives. The
settings that are not yet in use, the volumes and limits that take them, the medium and the carrier inputs
have values the log names (logs 4, 7, 10). -/
def State.reset : State where
  stationTime := 0#32
  stationState := .loading
  cfg := Settings.unloaded
  configClamps := 0#16
  listenTimer := none
  carrier := Vector.replicate 8 false
  txQueue := []
  transmitting := false
  mediumIdle := false
  mediumLooks := 0
  clashWindow := []
  beaconTimer := none
  peers := Vector.replicate 64 Peer.absent
  sequences := []
  ports := Vector.replicate 8 LinePort.reset
  records := Vector.replicate 8 none
  mirrors := []
  handsets := Vector.replicate 2 ⟨true, [], 72, false⟩
  held := []
  pendingAsks := []
  tagCount := 0#8
  slots := Vector.replicate 4 Slot.empty
  signalWord := 0#16
  setters := Vector.replicate 16 none
  buzzMasked := 0xF0#8
  channels := Vector.replicate 8 ⟨.unbound, 72, 0, false, [], none, 0⟩
  talk := none
  talkerLimit := 3
  localLevels := []
  streams := Vector.replicate 32 none
  masters := Vector.replicate 2 72
  earpieceOut := Vector.replicate 2 Block.silence
  speakerOut := Vector.replicate 2 Block.silence
  lineOut := Vector.replicate 8 Block.silence
  taps := Vector.replicate 8 none
  recordingCount := 0#16
  ring := Vector.replicate 64 Descriptor.empty
  claimIndex := 0
  notices := []
  overflow := 0#8
  eventMasked := 0#16
  marks := ⟨Vector.replicate 128 false, Vector.replicate 8 false, Vector.replicate 2 false,
    Vector.replicate 8 false, false⟩
  viewMasked := 0#8
  live := Counters.zero
  snapshots := Counters.zero
  snapshotTime := 0#32
  monitorTimer := 500
  panelAnswer := none
  recorderAnswer := none
  pending := []

end Sys2Proof.Machine
end

