-- ==== Sys2Proof/Machine/Ops.lean ====
section
/-! DEFINITION. The named operations every chapter uses: station time and timers, tables, notices, counters,
answers, voice sequences, and the lookups of peers, records and homes. -/

namespace Sys2Proof

/-! ### Counters and octets -/

/-- A live counter raised by `n`, saturating at 65535 (00_scope "Counters"). -/
def Count.add (c : Count) (n : Nat) : Count := BitVec.ofNat 16 (min 65535 (c.toNat + n))

/-- The high and the low octet of a 16-bit number, high octet first (R197). -/
def octets16 (w : BitVec 16) : List Octet := [(w >>> 8).setWidth 8, w.setWidth 8]

/-- The four octets of a 32-bit number, high octet first (R197). -/
def octets32 (w : BitVec 32) : List Octet :=
  octets16 ((w >>> 16).setWidth 16) ++ octets16 (w.setWidth 16)

/-- A mark as one octet: 1 for set, 0 for clear (R198). -/
def octetOfBool (b : Bool) : Octet := if b then 1#8 else 0#8

end Sys2Proof

namespace Sys2Proof.Machine

/-! ### Tables -/

/-- The numbers of the line ports and of the speaker channels, lowest first. -/
def allPorts : List (Fin 8) := [0, 1, 2, 3, 4, 5, 6, 7]
/-- The numbers of the call slots, lowest first. -/
def allSlots : List (Fin 4) := [0, 1, 2, 3]
/-- The handsets A and B. -/
def bothHandsets : List (Fin 2) := [0, 1]

/-- A table with one entry replaced by its image. -/
def modifyAt {α : Type} {n : Nat} (v : Vector α n) (i : Fin n) (f : α → α) : Vector α n := v.set i (f v[i])

/-- A table with every entry replaced by its image, given its index. -/
def mapTable {α β : Type} {n : Nat} (v : Vector α n) (f : Fin n → α → β) : Vector β n :=
  Vector.ofFn fun i => f i v[i]

/-- The number an octet names in a table of `n` entries, if it names one. -/
def indexOf (n : Nat) (o : Octet) : Option (Fin n) := if h : o.toNat < n then some ⟨o.toNat, h⟩ else none

/-- A list without repeats, each element at its first place. -/
def distinct {α : Type} [DecidableEq α] (l : List α) : List α :=
  l.foldl (fun acc a => if a ∈ acc then acc else acc ++ [a]) []

/-- A list with the entry at an index removed. -/
def removeAt {α : Type} : List α → Nat → List α
  | [], _ => []
  | _ :: t, 0 => t
  | a :: t, n + 1 => a :: removeAt t n

/-- A list with the entry at an index replaced by its image. -/
def mapAt {α : Type} (f : α → α) : List α → Nat → List α
  | [], _ => []
  | a :: t, 0 => f a :: t
  | a :: t, n + 1 => a :: mapAt f t n

/-! ### Station time and timers -/

/-- How many samples have passed since the last block boundary. -/
def State.phase (s : State) : Nat := s.stationTime.toNat % 16

/-- A timer of `ms` milliseconds that starts now, in the block boundaries still to come: it is due at the first
boundary at or after its time (00_scope "Timers"). -/
def State.blocks (s : State) (ms : Nat) : Nat := (s.phase + 8 * ms + 15) / 16

/-- A running timer, one block boundary later. -/
def Timer.tick (t : Timer) : Timer := t.map (· - 1)

/-- Whether a timer runs and is due. -/
def Timer.due (t : Timer) : Bool := t == some 0

/-- Station time at the next block boundary. -/
def nextBoundary (t : Time) : Time := t - BitVec.ofNat 32 (t.toNat % 16) + 16#32

/-- Station time one sample later, but never past a block boundary that has not been taken (log 3). -/
def State.passSample (s : State) : State :=
  if s.phase = 15 then s else { s with stationTime := s.stationTime + 1#32 }

/-! ### Station state -/

/-- Whether the load has completed: the settings are in use (R28, R29). -/
def State.loaded (s : State) : Bool :=
  match s.stationState with
  | .loading | .configFault => false
  | _ => true

/-- Whether the station is in ACTIVE. -/
def State.isActive (s : State) : Bool := s.stationState == .active

/-- Whether the station is in LISTENING or ACTIVE, where home lines are announced locally and give a home
candidate (R90, R94). -/
def State.onFloor (s : State) : Bool := s.stationState == .listening || s.stationState == .active

/-- The settings of a line port. -/
def State.portCfg (s : State) (k : Fin 8) : PortSettings := s.cfg.ports[k]

/-- Whether a line port is used (R40). -/
def State.used (s : State) (k : Fin 8) : Bool := s.loaded && (s.portCfg k).line != 0#16

/-- The station's own party at one of its ports. -/
def State.own (s : State) (p : Port) : Party := ⟨s.cfg.station, p⟩

/-! ### Notices, counters and answers -/

/-- Queue an event notice, or count it as overflow when the queue is full (R190). -/
def State.notify (e : Event) (s : State) : State :=
  if s.notices.length < Config.noticeCapacity then { s with notices := s.notices ++ [⟨e, s.stationTime⟩] }
  else { s with overflow := if s.overflow = 255#8 then 255#8 else s.overflow + 1#8 }

/-- Queue several notices in order. -/
def State.notifyAll (es : List Event) (s : State) : State := es.foldl (fun s e => s.notify e) s

/-- Change the live counters. -/
def State.count (f : Counters → Counters) (s : State) : State := { s with live := f s.live }

/-- Raise the counters of one line port (R63). -/
def Counters.addLine (k : Fin 8) (parity ooa slips : Nat) (c : Counters) : Counters :=
  { c with lines := modifyAt c.lines k fun l =>
      ⟨l.parityErrors.add parity, l.ooaPeriods.add ooa, l.lineSlips.add slips⟩ }

/-- Raise LOST_PAIRS of one tap (R184). -/
def Counters.addLost (k : Fin 8) (n : Nat) (c : Counters) : Counters :=
  { c with lostPairs := modifyAt c.lostPairs k (·.add n) }

/-- Offer an answer to the panel controller; an earlier one that was not read is discarded (R189). -/
def State.answerPanel (kind : Octet) (v : Verdict) (fields : List Octet) (s : State) : State :=
  { s with panelAnswer := some ⟨kind, v, fields⟩ }

/-- Offer an answer to the recorder (R188, R189). -/
def State.answerRecorder (kind : Octet) (v : Verdict) (fields : List Octet) (s : State) : State :=
  { s with recorderAnswer := some ⟨kind, v, fields⟩ }

/-! ### Voice sequences -/

/-- The next sequence of a pair the station sends on; 0 where no count stands (R2). -/
def State.sequenceOf (s : State) (c : Circuit) (p : Port) : Octet :=
  match s.sequences.find? (fun q => q.circuit == c && q.port == p) with
  | some q => q.next
  | none => 0#8

/-- Drop the count of a pair whose source stops sending (R2). -/
def State.dropSequence (c : Circuit) (p : Port) (s : State) : State :=
  { s with sequences := s.sequences.filter fun q => !(q.circuit == c && q.port == p) }

/-- Advance the count of a pair at an offering, whatever the queue answers (R2). -/
def State.advanceSequence (c : Circuit) (p : Port) (s : State) : State :=
  { s.dropSequence c p with
    sequences := (s.dropSequence c p).sequences ++ [⟨c, p, s.sequenceOf c p + 1#8⟩] }

/-! ### Peers and homes -/

/-- The place of a station in the peer table. -/
def stationIndex (st : Station) : Fin 64 := ⟨st.toNat, st.isLt⟩

/-- The peer table entry of a station (R21). -/
def State.peer (s : State) (st : Station) : Peer := s.peers[stationIndex st]

/-- Replace the peer table entry of a station. -/
def State.setPeer (st : Station) (p : Peer) (s : State) : State :=
  { s with peers := s.peers.set (stationIndex st) p }

/-- Whether a stored card lists a line; an absent card has an empty home line list (R21). -/
def Peer.lists (p : Peer) (line : LineNo) : Bool :=
  match p.card with
  | some c => c.homeLines.any fun e => e.1 == line
  | none => false

/-- Whether a station's stored card carries the SUPERVISOR flag; an absent card does not (R21, R73, R132). -/
def State.peerIsSupervisor (s : State) (st : Station) : Bool :=
  match (s.peer st).card with
  | some c => c.supervisor
  | none => false

/-- The line port whose record holds a line number, if the station has one (R73). -/
def State.recordFor (s : State) (line : LineNo) : Option (Fin 8) :=
  allPorts.find? fun k => s.records[k].isSome && (s.portCfg k).line == line

/-- Whether a station is a candidate for the home of a line (R94). -/
def State.homeCandidate (s : State) (line : LineNo) (st : Station) : Bool :=
  ((s.peer st).state == .present && (s.peer st).lists line) ||
  (st == s.cfg.station && s.onFloor && (s.recordFor line).isSome)

/-- Every station number, lowest first. -/
def allStationNumbers : List Station := (List.range Config.lastStation).map fun n => BitVec.ofNat 6 (n + 1)

/-- The home of a line: the lowest-numbered candidate (R94). -/
def State.homeOf (s : State) (line : LineNo) : Option Station :=
  allStationNumbers.find? (s.homeCandidate line)

/-! ### Line records -/

/-- Replace a line record. -/
def State.setRecord (k : Fin 8) (r : LineRecord) (s : State) : State :=
  { s with records := s.records.set k (some r) }

/-- The station cause of R67. -/
def State.awayFromFloor (s : State) : Bool := s.stationState == .left || s.stationState == .clashed

/-- Whether an out-of-service cause holds for a line (R67). -/
def State.outCause (s : State) (k : Fin 8) (r : LineRecord) : Bool :=
  s.ports[k].out || r.conflict.isSome || s.awayFromFloor

/-- The content of the line's STATE frame as the record stands (R89). -/
def State.lineStatus (s : State) (k : Fin 8) (r : LineRecord) : LineStatus where
  line := (s.portCfg k).line
  state := r.state
  privacy := r.privacy
  outRing := r.outRing.isSome
  farSignalling := r.farSignalling
  alarms := s.ports[k].alarms
  members := r.members.map fun m => ⟨m.party, m.mode, m.recallFlag⟩
  listeners := r.listeners.map (·.party)

/-- The content of the STATE frame of a line port, if it has a record. -/
def State.statusOf (s : State) (k : Fin 8) : Option LineStatus := (s.records[k]).map (s.lineStatus k)

/-! ### Tags -/

/-- The tags held by asks that await an answer (R107). -/
def State.tagsInUse (s : State) : List Octet :=
  s.pendingAsks.map (·.tag) ++ (s.channels.toList.filterMap fun c => c.wait.map (·.tag))

/-- The first of the tags from `t` on that no ask awaiting an answer holds; at most 4 + 8 are held (R107). -/
def freeTag (held : List Octet) : Nat → Octet → Octet
  | 0, t => t
  | n + 1, t => if t ∈ held then freeTag held n (t + 1#8) else t

/-- The tag the next ask takes. -/
def State.nextTag (s : State) : Octet := freeTag s.tagsInUse 13 s.tagCount

/-- The station after an ask has taken its tag (R107). -/
def State.takeTag (s : State) : State := { s with tagCount := s.nextTag + 1#8 }

end Sys2Proof.Machine
end

