-- ==== Sys2Proof/Machine/Operands.lean ====
section
/-! DEFINITION. Every operand form: the codes of ports, states, reasons and bodies as they stand in frames and
messages (R197, R198), read to what they name and written back. A read that answers none is a value the layouts
give no meaning. -/

namespace Sys2Proof.Machine

/-! ### Ports and stations -/

/-- The port code of a port (R197). -/
def Port.code : Port → Nat
  | .handset h => h.val
  | .mic => 2
  | .speakerCh k => 3 + k.val
  | .linePort k => 11 + k.val

/-- The port code as an octet. -/
def Port.octet (p : Port) : Octet := BitVec.ofNat 8 p.code

/-- The port a code names; codes above 18 name none (R197). -/
def Port.ofCode (o : Octet) : Option Port :=
  let n := o.toNat
  if h : n < 2 then some (.handset ⟨n, h⟩)
  else if n = 2 then some .mic
  else if h : n - 3 < 8 then some (.speakerCh ⟨n - 3, h⟩)
  else if h : n - 11 < 8 then some (.linePort ⟨n - 11, h⟩)
  else none

/-- A station number held in an octet of a body, 0 to 63 (R197; log 9). -/
def stationOfOctet (o : Octet) : Option Station := if o.toNat < 64 then some (o.setWidth 6) else none

/-- A station number as an octet. -/
def stationOctet (st : Station) : Octet := st.setWidth 8

/-- A line port number held in an octet (R197). -/
def linePortOfOctet (o : Octet) : Option (Fin 8) := indexOf 8 o

/-- The party of two octets (R198). -/
def partyOfOctets (station port : Octet) : Option Party :=
  match stationOfOctet station, Port.ofCode port with
  | some st, some p => some ⟨st, p⟩
  | _, _ => none

/-- The port of a handset. -/
def handsetPort (h : Fin 2) : Port := .handset h

/-! ### Codes of the bodies -/

/-- The code of a line state (R197). -/
def LineState.code : LineState → Nat
  | .outOfService => 0 | .failed => 1 | .idle => 2 | .ringingIn => 3 | .engaged => 4 | .held => 5

/-- The line state a code names. -/
def LineState.ofCode (o : Octet) : Option LineState :=
  match o.toNat with
  | 0 => some .outOfService | 1 => some .failed | 2 => some .idle
  | 3 => some .ringingIn | 4 => some .engaged | 5 => some .held | _ => none

/-- The two-bit code of a signalling value (R197). -/
def Signalling.code : Signalling → Nat
  | .idle => 0 | .ring => 1 | .offhook => 2 | .fault => 3

/-- The signalling value of a two-bit code. -/
def Signalling.ofCode (n : Nat) : Signalling :=
  match n with
  | 0 => .idle | 1 => .ring | 2 => .offhook | _ => .fault

/-- The alarm summary as one octet, bits 4 to 0 (R197). -/
def Alarms.octet (a : Alarms) : Octet :=
  BitVec.ofNat 8 ((if a.los then 16 else 0) + (if a.lol then 8 else 0) + (if a.labelMismatch then 4 else 0) +
    (if a.degraded then 2 else 0) + (if a.farDefect then 1 else 0))

/-- The alarm summary an octet holds; bits 7 to 5 are ignored. -/
def Alarms.ofOctet (o : Octet) : Alarms :=
  ⟨o.getLsbD 4, o.getLsbD 3, o.getLsbD 2, o.getLsbD 1, o.getLsbD 0⟩

/-- The code of an ASK operation (R197). -/
def AskOp.code : AskOp → Nat
  | .take => 1 | .drop => 2 | .hold => 3 | .resume => 4
  | .ring => 5 | .privacy => 6 | .listen => 7 | .unlisten => 8

/-- The operation a code names, if R73 knows it. -/
def AskOp.ofCode (o : Octet) : Option AskOp :=
  match o.toNat with
  | 1 => some .take | 2 => some .drop | 3 => some .hold | 4 => some .resume
  | 5 => some .ring | 6 => some .privacy | 7 => some .listen | 8 => some .unlisten | _ => none

/-- The code of a REPLY reason; 0 is none (R197). -/
def AskReason.code : Option AskReason → Nat
  | none => 0
  | some .outOfService => 1 | some .failed => 2 | some .isPrivate => 3
  | some .full => 4 | some .notMember => 5 | some .inUse => 6

/-- The reason a code names; the outer none is a code without meaning. -/
def AskReason.ofCode (o : Octet) : Option (Option AskReason) :=
  match o.toNat with
  | 0 => some none
  | 1 => some (some .outOfService) | 2 => some (some .failed) | 3 => some (some .isPrivate)
  | 4 => some (some .full) | 5 => some (some .notMember) | 6 => some (some .inUse)
  | _ => none

/-- The code of a call kind (R197). -/
def CallKind.code : CallKind → Nat
  | .offer => 1 | .alert => 2 | .accept => 3 | .decline => 4 | .callEnd => 5

/-- The code of a call reason (R197, R198). -/
def CallReason.code : CallReason → Nat
  | .none => 0 | .busy => 1 | .cleared => 2 | .noAnswer => 3 | .glare => 4
  | .answeredElsewhere => 5 | .peerLost => 6

/-- The call reason a frame's code names; PEER_LOST is not carried in frames (R117). -/
def CallReason.ofCode (o : Octet) : Option CallReason :=
  match o.toNat with
  | 0 => some .none | 1 => some .busy | 2 => some .cleared | 3 => some .noAnswer
  | 4 => some .glare | 5 => some .answeredElsewhere | _ => none

/-- The called field of a CALL body: a port code, or a group number plus 64 (R197). -/
def Called.octet : Called → Octet
  | .port p => p.octet
  | .group g => BitVec.ofNat 8 (g.toNat + 64)

/-- What a called field names: a port code up to 18, a group from 65 to 127 (R197). -/
def Called.ofOctet (o : Octet) : Option Called :=
  if o.toNat ≤ 18 then (Port.ofCode o).map .port
  else if 65 ≤ o.toNat ∧ o.toNat ≤ 127 then some (.group (BitVec.ofNat 6 (o.toNat - 64)))
  else none

/-- A call id of two octets; slots run from 0 to 3 (R198; log 9). -/
def callIdOfOctets (station slot : Octet) : Option CallId :=
  match stationOfOctet station, indexOf 4 slot with
  | some st, some k => some ⟨st, k⟩
  | _, _ => none

/-! ### Circuits -/

/-- The circuit of a line. -/
def lineCircuit (line : LineNo) : Circuit := .line line

/-- The circuit of a call: the caller station times 4 plus the caller slot (00_scope "Circuits", R197). -/
def callCircuit (id : CallId) : Circuit := .call (id.station.toNat * 4 + id.slot.val)

/-- The two-bit kind code of a circuit (R197). -/
def Circuit.kindCode : Circuit → Nat
  | .line _ => 1 | .hoot _ => 2 | .call _ => 3

/-- The number of a circuit (R197). -/
def Circuit.number : Circuit → Nat
  | .line n => n.toNat
  | .hoot n => n
  | .call n => n

/-- The circuit of a two-bit kind code and a ten-bit number; kind 0 names none (R197). A number out of its kind's range
makes a circuit that nothing contributes to the listen interest (R151). -/
def Circuit.ofCode (kind number : Nat) : Option Circuit :=
  match kind with
  | 1 => some (.line (BitVec.ofNat 16 number))
  | 2 => some (.hoot number)
  | 3 => some (.call number)
  | _ => none

/-! ### Gain codes and indexes of panel requests -/

/-- A panel gain code as taken: above 95 none, 89 to 95 as 88 (R105, R147, R170). -/
def gainOfOctet (o : Octet) : Option Nat := if o.toNat ≤ 95 then some (min o.toNat 88) else none

/-! ### Received bodies -/

/-- The 16-bit number of two octets, high octet first (R197). -/
def word16 (high low : Octet) : BitVec 16 := high ++ low

/-- Member entries of a STATE body, three octets each: station, port code, bit 7 mode HELD, bit 6 recall flag. -/
def readMembers : List Octet → Option (List MemberStatus)
  | [] => some []
  | station :: port :: flags :: rest =>
    match partyOfOctets station port, readMembers rest with
    | some p, some ms => some (⟨p, if flags.getLsbD 7 then .held else .active, flags.getLsbD 6⟩ :: ms)
    | _, _ => none
  | _ => none

/-- Listener entries of a STATE body, two octets each: station, port code. -/
def readListeners : List Octet → Option (List Party)
  | [] => some []
  | station :: port :: rest =>
    match partyOfOctets station port, readListeners rest with
    | some p, some ps => some (p :: ps)
    | _, _ => none
  | _ => none

/-- Home line entries of a BEACON body, three octets each: line number, line port. -/
def readHomeLines : List Octet → Option (List (LineNo × Fin 8))
  | [] => some []
  | high :: low :: port :: rest =>
    match linePortOfOctet port, readHomeLines rest with
    | some k, some ls => some ((word16 high low, k) :: ls)
    | _, _ => none
  | _ => none

/-- The sixteen samples of 32 octets, two octets each, in time order. -/
def readSamples (octets : List Octet) : Block :=
  Vector.ofFn fun i => word16 (octets.getD (2 * i.val) 0#8) (octets.getD (2 * i.val + 1) 0#8)

/-- A STATE body, 7 + 3m + 2n octets (R197): the counts within their range and in agreement with the length, every
code with a meaning (R16). -/
def readState : List Octet → Option LineStatus
  | l1 :: l2 :: state :: flags :: alarms :: m :: n :: rest =>
    if m.toNat ≤ 6 ∧ n.toNat ≤ Config.listenerCapacity ∧ rest.length = 3 * m.toNat + 2 * n.toNat then
      match LineState.ofCode state, readMembers (rest.take (3 * m.toNat)), readListeners (rest.drop (3 * m.toNat)) with
      | some st, some ms, some ls =>
        some ⟨word16 l1 l2, st, flags.getLsbD 7, flags.getLsbD 6, Signalling.ofCode (flags.toNat % 4),
          Alarms.ofOctet alarms, ms, ls⟩
      | _, _, _ => none
    else none
  | _ => none

/-- A REPLY body, 5 octets (R197). -/
def readReply : List Octet → Option Reply
  | [l1, l2, tag, outcome, reason] =>
    if outcome.toNat ≤ 1 then (AskReason.ofCode reason).map fun r => ⟨word16 l1 l2, tag, outcome == 1#8, r⟩ else none
  | _ => none

/-- An ASK body, 8 octets (R197): an operation without meaning passes the checks (R16, R73). A wanted setting of 0 or 1
has a meaning whatever the operation, so a 1 in an ASK other than PRIVACY passes, and is not looked at (log 31). -/
def readAsk : List Octet → Option Ask
  | [l1, l2, op, port, second, wanted, tag, _] =>
    match Port.ofCode port, Port.ofCode second with
    | some p, some q =>
      if wanted.toNat ≤ 1 then some ⟨word16 l1 l2, AskOp.ofCode op, p, q, wanted == 1#8, tag⟩ else none
    | _, _ => none
  | _ => none

/-- The call kind a code names (R197). -/
def CallKind.ofCode (o : Octet) : Option CallKind :=
  match o.toNat with
  | 1 => some .offer | 2 => some .alert | 3 => some .accept | 4 => some .decline | 5 => some .callEnd | _ => none

/-- A CALL body, 6 octets (R197). -/
def readCall : List Octet → Option CallFrame
  | [kind, station, slot, port, called, reason] =>
    match CallKind.ofCode kind, callIdOfOctets station slot, Port.ofCode port, Called.ofOctet called,
        CallReason.ofCode reason with
    | some k, some id, some p, some c, some r => some ⟨k, id, p, c, r⟩
    | _, _, _, _, _ => none
  | _ => none

/-- A SIGNAL body, 2 octets: 1 SET or 2 CLEAR, and the bit number (R197). -/
def readSignal : List Octet → Option Signal
  | [code, bit] =>
    match code.toNat with
    | 1 => some ⟨true, bit⟩
    | 2 => some ⟨false, bit⟩
    | _ => none
  | _ => none

/-- A VOICE body, 37 octets (R197): exactly 16 samples and a circuit kind with a meaning (R16). -/
def readVoice : List Octet → Option Voice
  | high :: low :: port :: sequence :: flags :: rest =>
    if rest.length = 32 then
      match Circuit.ofCode (high.toNat / 64) (high.toNat % 4 * 256 + low.toNat), Port.ofCode port with
      | some c, some p => some ⟨c, p, sequence, flags.getLsbD 7, readSamples rest⟩
      | _, _ => none
    else none
  | _ => none

/-- A BEACON body, 3 + 3h octets (R197). -/
def readBeacon : List Octet → Option Card
  | station :: flags :: h :: rest =>
    if h.toNat ≤ 8 ∧ rest.length = 3 * h.toNat then
      match stationOfOctet station, readHomeLines rest with
      | some st, some ls => some ⟨st, flags.getLsbD 7, flags.getLsbD 6, flags.getLsbD 5, flags.getLsbD 4, ls⟩
      | _, _ => none
    else none
  | _ => none

end Sys2Proof.Machine
end

