-- ==== Sys2Proof/Machine/Flags.lean ====
section
/-! DEFINITION. Every derived condition and mark: lamps, channel states, the values of the five condition views
and their change marks, the suppression of line alarms, the interrupt line and the ready output. State that a
view shows is written here through one operation each, so that a change always sets its mark. -/

namespace Sys2Proof.Machine

/-! ### Station view -/

/-- Put the station in a state; a change marks the station view (R27, R192). -/
def State.enter (st : StationState) (s : State) : State :=
  { s with
    stationState := st
    marks := { s.marks with station := s.marks.station || s.stationState != st } }

/-! ### Lamps -/

/-- The lamp conditions, in the row order of R99. -/
inductive Lamp where
  | dark | alarmWink | off | fastFlash | steadyGreen | holdRecallFlash | slowFlash | redWithPrivacy | steadyRed
  deriving DecidableEq, Repr

/-- The place of a lamp condition in R99's table, counted from 0 (R198). -/
def Lamp.code : Lamp → Nat
  | .dark => 0 | .alarmWink => 1 | .off => 2 | .fastFlash => 3 | .steadyGreen => 4
  | .holdRecallFlash => 5 | .slowFlash => 6 | .redWithPrivacy => 7 | .steadyRed => 8

/-- Whether a member entry is an own entry in a mode (R99). -/
def MemberStatus.isOwn (own : Station) (mode : Mode) (m : MemberStatus) : Bool :=
  m.party.station == own && m.mode == mode

/-- The lamp a line's content gives: rows 2 to 9 of R99. -/
def lampOfContent (own : Station) (b : LineStatus) : Lamp :=
  match b.state with
  | .outOfService | .failed => .alarmWink
  | .idle => .off
  | .ringingIn => .fastFlash
  | .engaged | .held =>
    if b.members.any (·.isOwn own .active) then .steadyGreen
    else if b.members.any (fun m => m.isOwn own .held && m.recallFlag) then .holdRecallFlash
    else if b.members.any (·.isOwn own .held) then .slowFlash
    else if b.privacy then .redWithPrivacy
    else .steadyRed

/-- The lamp of the keys that carry a mirror's line (R99). -/
def Mirror.lamp (own : Station) (m : Mirror) : Lamp :=
  match m.state, m.content with
  | .current, some b => lampOfContent own b
  | _, _ => .dark

/-- Whether a line is mirrored ringing (R100). -/
def Mirror.ringing (m : Mirror) : Bool :=
  match m.state, m.content with
  | .current, some b => b.state == .ringingIn
  | _, _ => false

/-- The mirror of a line, if the line appears (R96). -/
def State.mirrorOf (s : State) (line : LineNo) : Option Mirror := s.mirrors.find? fun m => m.line == line

/-- The lamp of a key (R99). -/
def State.lamp (s : State) (key : Fin 128) : Lamp :=
  match s.mirrorOf s.cfg.appearance[key] with
  | some m => m.lamp s.cfg.station
  | none => .dark

/-- Mark the lamp entries of the keys that carry a line. -/
def State.markLamps (line : LineNo) (s : State) : State :=
  { s with marks := { s.marks with
      lamp := mapTable s.marks.lamp fun k v => v || s.cfg.appearance[k] == line } }

/-- Replace the mirror of a line: a lamp that changes is marked (R99), and the line that starts or stops being
mirrored ringing queues its notice (R100). -/
def State.setMirror (old new : Mirror) (s : State) : State :=
  let s1 := { s with mirrors := s.mirrors.map fun m => if m.line = old.line then new else m }
  let s2 := if old.lamp s.cfg.station = new.lamp s.cfg.station then s1 else s1.markLamps old.line
  if old.ringing = new.ringing then s2
  else s2.notify (if new.ringing then .ringStart old.line else .ringStop old.line)

/-! ### Handset view -/

/-- The value of a handset view entry: hook, mute, volume, and bindings with balances (R101). -/
def Handset.view (h : Handset) : Bool × Bool × Nat × List (Circuit × Nat) :=
  (h.onHook, h.muted, h.volume, h.bindings.map fun b => (b.circuit, b.balance))

/-- Replace a handset context; a change of its view value marks it (R101). -/
def State.setHandset (h : Fin 2) (x : Handset) (s : State) : State :=
  { s with
    handsets := s.handsets.set h x
    marks := { s.marks with
      handset := modifyAt s.marks.handset h fun v => v || (s.handsets[h]).view != x.view } }

/-! ### Talker view -/

/-- The states of a speaker channel, in the order of their codes (R134, R198). -/
inductive ChannelState where
  | off | waiting | quiet | active | talking
  deriving DecidableEq, Repr

/-- The code of a channel state (R198). -/
def ChannelState.code : ChannelState → Nat
  | .off => 0 | .waiting => 1 | .quiet => 2 | .active => 3 | .talking => 4

/-- The state of channel `k` given the talk state (R134). -/
def Channel.state (c : Channel) (talk : Option (Fin 8)) (k : Fin 8) : ChannelState :=
  if c.binding = .unbound then .off
  else if c.wait.isSome then .waiting
  else if talk = some k then .talking
  else if c.talkers = [] then .quiet
  else .active

/-- The state of a channel now. -/
def State.channelState (s : State) (k : Fin 8) : ChannelState := (s.channels[k]).state s.talk k

/-- Whether a channel is in QUIET, ACTIVE or TALKING, where it plays its circuit (R140). -/
def State.channelPlays (s : State) (k : Fin 8) : Bool :=
  match s.channelState k with
  | .quiet | .active | .talking => true
  | _ => false

/-- Whether one party stands before another at equal levels: the lower station, then the lower port (R141). -/
def Party.before (a b : Party) : Bool :=
  a.station.toNat < b.station.toNat || (a.station == b.station && a.port.code < b.port.code)

/-- The loudest talker of a set: the highest level, ties to the party that stands before (R143). -/
def loudest : List Talker → Option Talker
  | [] => none
  | t :: ts =>
    match loudest ts with
    | none => some t
    | some u => if u.level > t.level || (u.level == t.level && u.party.before t.party) then some u else some t

/-- The circuit of a channel binding. -/
def ChannelBinding.circuit : ChannelBinding → Option Circuit
  | .unbound => none
  | .hoot n => some (.hoot n)
  | .line n => some (.line n)

/-- The value of a talker view entry: binding, state, and party of the loudest talker (R143). -/
def State.talkerView (s : State) (k : Fin 8) : ChannelBinding × ChannelState × Option Party :=
  ((s.channels[k]).binding, s.channelState k, (loudest (s.channels[k]).talkers).map (·.party))

/-- Mark the talker view entries whose value differs from an earlier state's. -/
def State.markTalkers (s before : State) : State :=
  { s with marks := { s.marks with
      talker := mapTable s.marks.talker fun k v => v || before.talkerView k != s.talkerView k } }

/-- Replace a channel record, marking the talker view (R143). -/
def State.setChannel (k : Fin 8) (c : Channel) (s : State) : State :=
  ({ s with channels := s.channels.set k c }).markTalkers s

/-- Set the talk state, marking the talker view (R134, R143). -/
def State.setTalk (t : Option (Fin 8)) (s : State) : State := ({ s with talk := t }).markTalkers s

/-- Replace every talker set by its image, marking the talker view. -/
def State.mapTalkers (f : Fin 8 → Channel → List Talker) (s : State) : State :=
  ({ s with channels := mapTable s.channels fun k c => { c with talkers := f k c } }).markTalkers s

/-! ### Alarms -/

/-- Whether one defect holds. -/
def Alarms.holds (a : Alarms) : Defect → Bool
  | .los => a.los | .lol => a.lol | .labelMismatch => a.labelMismatch
  | .degraded => a.degraded | .farDefect => a.farDefect

/-- Set one defect state. -/
def Alarms.put (a : Alarms) (d : Defect) (v : Bool) : Alarms :=
  match d with
  | .los => { a with los := v } | .lol => { a with lol := v }
  | .labelMismatch => { a with labelMismatch := v }
  | .degraded => { a with degraded := v } | .farDefect => { a with farDefect := v }

/-- The place of a defect in the order of R58, counted from 0 (R198). -/
def Defect.code : Defect → Nat
  | .los => 0 | .lol => 1 | .labelMismatch => 2 | .degraded => 3 | .farDefect => 4

/-- Whether a defect higher in the order of R58 holds. -/
def Alarms.suppresses (a : Alarms) : Defect → Bool
  | .los => false
  | .lol => a.los
  | .labelMismatch => a.los || a.lol
  | .degraded => a.los || a.lol || a.labelMismatch
  | .farDefect => a.los || a.lol || a.labelMismatch || a.degraded

/-- Whether a line is FAILED by these alarms (R66). -/
def Alarms.failing (a : Alarms) : Bool := a.los || a.lol || a.labelMismatch

/-- Whether any defect holds (R182). -/
def Alarms.any (a : Alarms) : Bool := a.los || a.lol || a.labelMismatch || a.degraded || a.farDefect

/-- Whether some defect holds in the second summary and not in the first. -/
def Alarms.declaresMore (old new : Alarms) : Bool :=
  (new.los && !old.los) || (new.lol && !old.lol) || (new.labelMismatch && !old.labelMismatch) ||
  (new.degraded && !old.degraded) || (new.farDefect && !old.farDefect)

/-- Replace a line port; a change of its alarm summary marks the view (R57). -/
def State.setPort (k : Fin 8) (p : LinePort) (s : State) : State :=
  { s with
    ports := s.ports.set k p
    marks := { s.marks with
      alarm := modifyAt s.marks.alarm k fun v => v || (s.ports[k]).alarms != p.alarms } }

/-! ### Output lines -/

/-- The code of an event kind, its place in the table of R190. -/
def Event.code : Event → Nat
  | .ringStart _ => 1 | .ringStop _ => 2 | .askRefused .. => 3 | .askNoAnswer .. => 4 | .lineLost .. => 5
  | .holdRecall .. => 6 | .callOffer .. => 7 | .callEnded .. => 8 | .buzz .. => 9 | .talkStopped _ => 10
  | .lineAlarm .. => 11 | .lineConflict .. => 12 | .duplicate => 13 | .clashed => 14 | .recordStarved .. => 15

/-- Whether a view holds a change mark, by view number (R192). -/
def Marks.view (m : Marks) : Nat → Bool
  | 0 => m.lamp.toList.any id
  | 1 => m.talker.toList.any id
  | 2 => m.handset.toList.any id
  | 3 => m.alarm.toList.any id
  | 4 => m.station
  | _ => false

/-- Whether the panel port answers: not while a completed load has PANEL_PRESENT set to no (R189). -/
def State.panelAnswers (s : State) : Bool := !s.loaded || s.cfg.panelPresent

/-- The interrupt line (R194). -/
def State.interrupt (s : State) : Bool :=
  s.panelAnswers &&
  (s.notices.any (fun n => !s.eventMasked.getLsbD n.event.code) ||
   [0, 1, 2, 3, 4].any fun v => s.marks.view v && !s.viewMasked.getLsbD v)

/-- The ready output of the recorder port (R176). -/
def State.readyOutput (s : State) : Bool := s.ring.toList.any fun d => d.owner == .ready

end Sys2Proof.Machine
end

