-- ==== Sys2Proof/Machine/Layouts.lean ====
section
/-! DEFINITION. The layouts the part sends and checks by (R197, R198): floor bus frames with their CRC, broker
line frames, recording descriptors, notices, view values and answer messages, as octets. -/

namespace Sys2Proof.Machine

/-- A number as one octet. -/
def octet (n : Nat) : Octet := BitVec.ofNat 8 n

/-! ### Frame kinds -/

/-- The seven frame kinds (R1). -/
inductive Kind where
  | state | reply | ask | call | signal | voice | beacon
  deriving DecidableEq, Repr

/-- The class priority of a kind (R1). -/
def Kind.cls : Kind → Nat
  | .state => 2 | .reply => 2 | .ask => 3 | .call => 3 | .signal => 3 | .voice => 4 | .beacon => 5

/-- The kind octet (R197). -/
def Kind.code : Kind → Nat
  | .state => 1 | .reply => 2 | .ask => 3 | .call => 4 | .signal => 5 | .voice => 6 | .beacon => 7

/-- The lifetime of a kind in the transmit queue, in ms (R1). -/
def Kind.lifetime : Kind → Nat
  | .state => 50 | .reply => 50 | .ask => 50 | .call => 50 | .signal => 50 | .voice => 4 | .beacon => 100

/-- Whether a kind may carry a target (R1). -/
def Kind.allows (k : Kind) (target : Station) : Bool :=
  match k with
  | .state | .voice | .beacon => target == Config.allStations
  | .reply | .ask => 1 ≤ target.toNat && target.toNat ≤ Config.lastStation
  | .call | .signal => 1 ≤ target.toNat

/-- The kind of a body. -/
def Body.kind : Body → Kind
  | .state _ => .state | .reply _ => .reply | .ask _ => .ask | .call _ => .call
  | .signal _ => .signal | .voice _ => .voice | .beacon _ => .beacon

/-- The kind a kind octet names (R197). -/
def Kind.ofCode (o : Octet) : Option Kind :=
  match o.toNat with
  | 1 => some .state | 2 => some .reply | 3 => some .ask | 4 => some .call | 5 => some .signal | 6 => some .voice
  | 7 => some .beacon | _ => none

/-- The body of a kind that a frame's body octets hold; none where the kind's layout gives them no meaning (R16). -/
def Kind.read (k : Kind) (octets : List Octet) : Option Body :=
  match k with
  | .state => (readState octets).map .state | .reply => (readReply octets).map .reply
  | .ask => (readAsk octets).map .ask | .call => (readCall octets).map .call
  | .signal => (readSignal octets).map .signal | .voice => (readVoice octets).map .voice
  | .beacon => (readBeacon octets).map .beacon

/-! ### Bodies as octets -/

/-- A flag octet: bit 7, bit 6, bit 5, bit 4. -/
def flagOctet (b7 b6 b5 b4 : Bool) : Octet :=
  octet ((if b7 then 128 else 0) + (if b6 then 64 else 0) + (if b5 then 32 else 0) + (if b4 then 16 else 0))

/-- The octets of a member entry. -/
def MemberStatus.octets (m : MemberStatus) : List Octet :=
  [stationOctet m.party.station, m.party.port.octet, flagOctet (m.mode == .held) m.recallFlag false false]

/-- The octets of a party. -/
def Party.octets (p : Party) : List Octet := [stationOctet p.station, p.port.octet]

/-- The octets of a STATE body (R89, R197). -/
def LineStatus.octets (b : LineStatus) : List Octet :=
  octets16 b.line ++
  [octet b.state.code, flagOctet b.privacy b.outRing false false + octet b.farSignalling.code, b.alarms.octet,
    octet b.members.length, octet b.listeners.length] ++
  b.members.flatMap MemberStatus.octets ++ b.listeners.flatMap Party.octets

/-- The octets of a REPLY body. -/
def Reply.octets (b : Reply) : List Octet :=
  octets16 b.line ++ [b.tag, octetOfBool b.refused, octet (AskReason.code b.reason)]

/-- The operation octet of an ASK. -/
def Ask.opOctet (b : Ask) : Octet :=
  match b.op with
  | some op => octet op.code
  | none => 0#8

/-- The octets of an ASK body. -/
def Ask.octets (b : Ask) : List Octet :=
  octets16 b.line ++ [b.opOctet, b.port.octet, b.secondPort.octet, octetOfBool b.wanted, b.tag, 0#8]

/-- A call id as two octets (R197, R198). -/
def CallId.octets (id : CallId) : List Octet := [stationOctet id.station, octet id.slot.val]

/-- The octets of a CALL body. -/
def CallFrame.octets (b : CallFrame) : List Octet :=
  octet b.kind.code :: b.id.octets ++ [b.callerPort.octet, b.called.octet, octet b.reason.code]

/-- The octets of a SIGNAL body. -/
def Signal.octets (b : Signal) : List Octet := [if b.set then 1#8 else 2#8, b.bit]

/-- The octets of a VOICE body. -/
def Voice.octets (b : Voice) : List Octet :=
  [octet (b.circuit.kindCode * 64 + b.circuit.number / 256), octet b.circuit.number, b.port.octet, b.sequence,
    flagOctet b.talking false false false] ++ b.samples.toList.flatMap octets16

/-- The octets of a BEACON body: a station card. -/
def Card.octets (c : Card) : List Octet :=
  [stationOctet c.station, flagOctet c.leaving c.hasLines c.hasPanel c.supervisor, octet c.homeLines.length] ++
  c.homeLines.flatMap fun e => octets16 e.1 ++ [octet e.2.val]

/-- The octets of a body (R197). -/
def Body.octets : Body → List Octet
  | .state b => b.octets | .reply b => b.octets | .ask b => b.octets | .call b => b.octets
  | .signal b => b.octets | .voice b => b.octets | .beacon b => b.octets

/-! ### The floor bus frame and its CRC -/

/-- One bit into the CRC register: polynomial 0x04C11DB7, most significant bit first (R197). -/
def crcBit (c : BitVec 32) (b : Bool) : BitVec 32 :=
  if Bool.xor c.msb b then (c <<< 1) ^^^ 0x04C11DB7#32 else c <<< 1

/-- One octet into the CRC register, from bit 7 down. -/
def crcOctet (c : BitVec 32) (o : Octet) : BitVec 32 :=
  [7, 6, 5, 4, 3, 2, 1, 0].foldl (fun c i => crcBit c (o.getLsbD i)) c

/-- The CRC-32 of a frame's octets: initial value all ones, result inverted (R197). -/
def crc32 (os : List Octet) : BitVec 32 := ~~~(os.foldl crcOctet 0xFFFFFFFF#32)

/-- Octets 0 to 4 of a frame and its body (R197). -/
def frameOctets (cls : Nat) (source target : Station) (kind : Octet) (length : BitVec 16) (body : List Octet) :
    List Octet :=
  [octet (cls * 32 + source.toNat / 2), octet (source.toNat % 2 * 128 + target.toNat * 2), kind] ++
  octets16 length ++ body

/-- The octets of a frame the station sends, without its CRC (R197). -/
def sentUnit (source target : Station) (b : Body) : List Octet :=
  frameOctets b.kind.cls source target (octet b.kind.code) (BitVec.ofNat 16 b.octets.length) b.octets

/-- The octets of a frame the station sends, its CRC last (R1, R197). -/
def sentFrame (source target : Station) (b : Body) : List Octet :=
  let unit := sentUnit source target b
  unit ++ octets32 (crc32 unit)

/-- The frame the station has on the medium (R3). -/
def State.onMedium (s : State) : Option (List Octet) :=
  if s.transmitting then s.txQueue.head?.map fun e => sentFrame s.cfg.station e.target e.body else none

/-! ### Broker line frames -/

/-- The overhead octet (R197). -/
def overheadOctet (sig : Signalling) (rd mf : Bool) : Octet :=
  octet (sig.code * 64 + (if rd then 32 else 0) + (if mf then 16 else 0))

/-- The exclusive-or of octets. -/
def xorAll (os : List Octet) : Octet := os.foldl (· ^^^ ·) 0#8

/-- The samples of a block as octets, high octet first (R38). -/
def Block.octets (b : Block) : List Octet := b.toList.flatMap octets16

/-- A broker line frame (R38). -/
def lineFrame (overhead label parity : Octet) (samples : Block) : List Octet :=
  [0x5C#8, overhead, label, parity] ++ Block.octets samples

/-! ### Answers -/

/-- The octets of a label, or zeros. -/
def labelOctets : Option Label → List Octet
  | some l => l.toList
  | none => List.replicate 16 0#8

/-- The party entry of a descriptor. -/
def partyEntry (e : Party × Mode) : List Octet :=
  [stationOctet e.1.station, e.1.port.octet, flagOctet (e.2 == .held) false false false]

/-- The first `n` octets of a list, filled up with zeros. -/
def padTo (n : Nat) (l : List Octet) : List Octet := (l ++ List.replicate n 0#8).take n

/-- A recording descriptor as READ_DESCRIPTOR returns it: 51 octets (R197). -/
def Descriptor.octets (d : Descriptor) : List Octet :=
  octets16 d.recording ++ octets16 d.segment ++
  [flagOctet d.first d.last d.truncated d.alarm + octet ((if d.gap then 8 else 0) + (if d.farLabel.isSome then 4 else 0))] ++
  octets16 d.line ++ [octet d.port.val] ++ octets32 d.startTime ++
  octets16 (BitVec.ofNat 16 d.pairs.length) ++ octets16 (if d.truncated then d.lostPairs else 0#16) ++
  [octet d.parties.length] ++ padTo 18 (d.parties.flatMap partyEntry) ++ labelOctets d.farLabel

/-- Sample pairs as READ_AUDIO returns them: near, then far (R197). -/
def pairOctets (ps : List (Sample × Sample)) : List Octet := ps.flatMap fun p => octets16 p.1 ++ octets16 p.2

/-- A circuit as three octets; none is kind 0 (R198). -/
def circuitOctets : Option Circuit → List Octet
  | some c => octet c.kindCode :: octets16 (BitVec.ofNat 16 c.number)
  | none => [0#8, 0#8, 0#8]

/-- A party as two octets; none is two octets of 0 (R198). -/
def partyOctets : Option Party → List Octet
  | some p => p.octets
  | none => [0#8, 0#8]

/-- The fields of a notice's kind, in the order of R190's table. The recording number of RECORD_STARVED is two octets, as
in a descriptor; R197 and R198 give its width in no message (log 40). -/
def Event.fields : Event → List Octet
  | .ringStart l | .ringStop l => octets16 l
  | .askRefused l op p r => octets16 l ++ [octet op.code, p.octet, octet (AskReason.code r)]
  | .askNoAnswer l op p => octets16 l ++ [octet op.code, p.octet]
  | .lineLost l p | .holdRecall l p => octets16 l ++ [p.octet]
  | .callOffer k id p c => [octet k.val] ++ id.octets ++ partyOctets (some p) ++ [c.octet]
  | .callEnded k id r => [octet k.val] ++ id.octets ++ [octet r.code]
  | .buzz b st => [octet b.val, match st with | some x => stationOctet x | none => 0#8]
  | .talkStopped k => [octet k.val, 1#8]
  | .lineAlarm l k d on => octets16 l ++ [octet k.val, octet d.code, octetOfBool on]
  | .lineConflict l k st => octets16 l ++ [octet k.val, stationOctet st]
  | .duplicate | .clashed => []
  | .recordStarved l k n => octets16 l ++ [octet k.val] ++ octets16 n

/-- The place of a station state in R27's table, counted from 0 (R198). -/
def StationState.code : StationState → Nat
  | .loading => 0 | .configFault => 1 | .listening => 2 | .duplicate => 3
  | .active => 4 | .left => 5 | .clashed => 6

/-- The value of an entry of a view, as octets in the field order of R192. -/
def State.lampValue (s : State) (k : Fin 128) : List Octet := [octet (s.lamp k).code]

/-- The talker view value: binding, state, loudest talker. -/
def State.talkerValue (s : State) (k : Fin 8) : List Octet :=
  circuitOctets (s.channels[k]).binding.circuit ++ [octet (s.channelState k).code] ++
  partyOctets ((loudest (s.channels[k]).talkers).map (·.party))

/-- The handset view value: hook, mute, volume, bindings with balances. -/
def State.handsetValue (s : State) (h : Fin 2) : List Octet :=
  let x := s.handsets[h]
  [octetOfBool x.onHook, octetOfBool x.muted, octet x.volume, octet x.bindings.length] ++
  x.bindings.flatMap fun b => circuitOctets (some b.circuit) ++ [octet b.balance]

/-- The alarm summary view value. -/
def State.alarmValue (s : State) (k : Fin 8) : List Octet := [(s.ports[k]).alarms.octet]

/-- The station view value: station state, CONFIG_CLAMPS. -/
def State.stationValue (s : State) : List Octet := octet s.stationState.code :: octets16 s.configClamps

/-- The place of a tap state in R175's table, counted from 0 (R198). -/
def TapState.code : TapState → Nat
  | .idle => 0 | .recording => 1 | .starved => 2 | .closing => 3

/-- The outcome octet of an answer (R197). -/
def Verdict.code : Verdict → Nat
  | .done => 0 | .busy => 1 | .noLine => 2 | .hookOn => 3 | .fullHandset => 4 | .heldFull => 5
  | .notBound => 6 | .listenOnly => 7 | .muted => 8 | .badValue => 9 | .badIndex => 10
  | .notActive => 11 | .notReady => 12 | .badRange => 13

/-- An answer message: the length of what follows, the kind, the outcome and the fields (R197). -/
def Answer.message (a : Answer) : List Octet :=
  octets16 (BitVec.ofNat 16 (2 + a.fields.length)) ++ [a.kind, octet a.verdict.code] ++ a.fields

end Sys2Proof.Machine
end

