-- ==== Sys2Proof/Machine/TxQueue.lean ====
section
/-! DEFINITION. The floor bus port's transmit queue and its access to the medium (01 sections 1.2, 1.3, 1.5). -/

namespace Sys2Proof.Machine

/-- The class of an entry (R1). -/
def TxEntry.cls (e : TxEntry) : Nat := e.body.kind.cls

/-- Whether an entry is a VOICE entry. -/
def TxEntry.isVoice (e : TxEntry) : Bool := e.body.kind == .voice

/-- The entries of the queue that are not in transmission. -/
def State.waiting (s : State) : List TxEntry := if s.transmitting then s.txQueue.tail else s.txQueue

/-- The entry in transmission, as a list of at most one. -/
def State.inTransmission (s : State) : List TxEntry := if s.transmitting then s.txQueue.take 1 else []

/-- The station with other entries behind the one in transmission. -/
def State.setWaiting (q : List TxEntry) (s : State) : State := { s with txQueue := s.inTransmission ++ q }

/-- An entry behind every entry of its own and every lower class, ahead of every higher class (R7). -/
def placeEntry (e : TxEntry) : List TxEntry → List TxEntry
  | [] => [e]
  | x :: t => if x.cls ≤ e.cls then x :: placeEntry e t else e :: x :: t

/-- An entry that has lost contention back in its place: ahead of the entries of its own class, which were
accepted after it (R4, R7). -/
def replaceLoser (e : TxEntry) : List TxEntry → List TxEntry
  | [] => [e]
  | x :: t => if x.cls < e.cls then x :: replaceLoser e t else e :: x :: t

/-- A list without its first VOICE entry, which is the one accepted earliest (R11); none where there is none. -/
def evictVoice : List TxEntry → Option (List TxEntry)
  | [] => none
  | x :: t => if x.isVoice then some t else (evictVoice t).map (x :: ·)

/-- Whether a queued body is the one a new body replaces in place: a STATE of the same line, or a BEACON
(R9, R14). -/
def Body.replaces (new old : Body) : Bool :=
  match new, old with
  | .state a, .state b => a.line == b.line
  | .beacon _, .beacon _ => true
  | _, _ => false

/-- A new STATE that keeps a recall flag the replaced STATE carries for a party it still lists as HELD (R9). -/
def LineStatus.keepRecall (new old : LineStatus) : LineStatus :=
  { new with members := new.members.map fun m =>
      if m.mode = .held ∧ old.members.any (fun o => o.party == m.party && o.recallFlag) then { m with recallFlag := true }
      else m }

/-- The body a replaced entry takes. -/
def Body.replacing (new old : Body) : Body :=
  match new, old with
  | .state a, .state b => .state (a.keepRecall b)
  | _, _ => new

/-- The queue with the latest entry that `b` replaces taking its body and a fresh lifetime (R9, R14); none where
there is no such entry. Two such entries stand only after a lost contention (log 12). -/
def replaceIn (b : Body) (life : Nat) : List TxEntry → Option (List TxEntry)
  | [] => none
  | x :: t =>
    match replaceIn b life t with
    | some t' => some (x :: t')
    | none =>
      if b.replaces x.body then some ({ x with body := b.replacing x.body, life := life, stale := false } :: t)
      else none

/-- Begin the frame at the front. -/
def State.beginFrame (s : State) : State := { s with transmitting := true, mediumIdle := false }

/-- The medium found busy with a frame that another station has begun: it is idle again at the next MEDIUM_IDLE
(R3). -/
def State.findBusy (s : State) : State := { s with mediumIdle := false }

/-- A frame offered to an empty queue while the medium is idle begins at once (R3). The medium is idle no longer where
another station has begun a frame in the meantime, which is a free value at each such offer (log 10). -/
def State.seizeMedium (s : State) : State :=
  let s' := { s with mediumLooks := s.mediumLooks + 1 }
  if Config.otherHasBegun s.mediumLooks then s'.findBusy else s'.beginFrame

/-- Place an accepted entry (R7); the one entry of a queue that was empty begins if the medium is idle (R3). -/
def State.acceptEntry (e : TxEntry) (s : State) : State :=
  let s' := s.setWaiting (placeEntry e s.waiting)
  if s.txQueue = [] ∧ s.mediumIdle then s'.seizeMedium else s'

/-- The entry a frame becomes when it is accepted now (R8). -/
def State.newEntry (s : State) (target : Station) (b : Body) : TxEntry :=
  ⟨target, b, s.stationTime, s.blocks b.kind.lifetime, false⟩

/-- Offer a frame that is allowed by the station state: replacement (R9, R14), placement (R7), a VOICE frame
dropped at a full queue (R10), eviction or refusal for a control frame (R11). The second part is the answer:
true for accepted. -/
def State.offerAllowed (target : Station) (b : Body) (s : State) : State × Bool :=
  match replaceIn b (s.blocks b.kind.lifetime) s.waiting with
  | some q => (s.setWaiting q, true)
  | none =>
    if s.txQueue.length < Config.queueCapacity then (s.acceptEntry (s.newEntry target b), true)
    else if b.kind = .voice then (s.count (fun c => { c with txOverruns := c.txOverruns.add 1 }), false)
    else
      match evictVoice s.waiting with
      | some q =>
        (((s.setWaiting q).count fun c => { c with evictions := c.evictions.add 1 }).acceptEntry
          (s.newEntry target b), true)
      | none => (s.count (fun c => { c with controlRefused := c.controlRefused.add 1 }), false)

/-- Offer a frame to the transmit queue: outside ACTIVE the answer is not sent (R6). -/
def State.offer (target : Station) (b : Body) (s : State) : State × Bool :=
  if s.isActive then s.offerAllowed target b else (s, false)

/-- Offer a frame whose answer changes nothing for the block that offers it. -/
def State.send (target : Station) (b : Body) (s : State) : State := (s.offer target b).1

/-- The station card (R13). -/
def State.card (s : State) (leaving : Bool) : Card :=
  let lines := allPorts.filterMap fun k =>
    if (s.portCfg k).line = 0#16 then none else some ((s.portCfg k).line, k)
  ⟨s.cfg.station, leaving, lines != [], s.cfg.panelPresent, s.cfg.supervisor, lines⟩

/-- Offer a BEACON with the card of this moment (R13). -/
def State.sendBeacon (s : State) : State := s.send Config.allStations (.beacon (s.card false))

/-- Flush the queue: every entry that is not in transmission is discarded (R12). -/
def State.flushQueue (s : State) : State := s.setWaiting []

/-- Accept the one LEAVING beacon of a LEAVE (R6, R12). -/
def State.sendLeaving (s : State) : State :=
  s.acceptEntry (s.newEntry Config.allStations (.beacon (s.card true)))

/-- Whether an entry's lifetime has ended: it is marked, or its last boundary has passed (R8). No frame is sent after
that. -/
def TxEntry.ended (e : TxEntry) : Bool := e.stale || e.life == 0

/-- Discard the stale entries at the head, counting each (R8). -/
def dropStale : List TxEntry → Nat × List TxEntry
  | [] => (0, [])
  | e :: t => if e.ended then ((dropStale t).1 + 1, (dropStale t).2) else (0, e :: t)

/-- The medium becomes idle: stale entries at the head are set aside and the head, if any, begins (R3, R8). While
a frame is in transmission the medium is not idle. An entry that was in transmission when the station left ACTIVE and then
lost contention is tried again, in LEFT, in CLASHED and after a JOIN: R12 has R3 to R5 act on what is left, R6 has those
states send the LEAVING beacon alone (log 50). -/
def State.takeMediumIdle (s : State) : State :=
  if s.transmitting then s
  else
    let (n, q) := dropStale s.txQueue
    let s' := { s with txQueue := q }.count fun c => { c with staleDrops := c.staleDrops.add n }
    if q = [] then { s' with mediumIdle := true } else s'.beginFrame

/-- Contention lost: the frame stops, keeps its place in the queue order, and is counted (R4). An entry whose
lifetime ended during the transmission is stale from now on, since no frame is sent after it (R8; log 12). -/
def State.loseContention (s : State) : State :=
  match s.transmitting, s.txQueue with
  | true, e :: t =>
    { s with txQueue := replaceLoser { e with stale := e.ended } t, transmitting := false }.count
      fun c => { c with contentionLosses := c.contentionLosses.add 1 }
  | _, _ => s

/-- The frame in transmission leaves the queue (R5). -/
def State.endTransmission (s : State) : State :=
  if s.transmitting then { s with txQueue := s.txQueue.tail, transmitting := false } else s

/-- An entry whose lifetime has ended is marked stale, unless it is in transmission (R8). -/
def State.expireEntry (i : Nat) (s : State) : State :=
  if s.transmitting && i == 0 then s
  else { s with txQueue := mapAt (fun e => if e.life = 0 then { e with stale := true } else e) s.txQueue i }

end Sys2Proof.Machine
end

