-- ==== Sys2Proof/Machine/Recording.lean ====
section
/-! DEFINITION. The recording engine: claims, segments and the life of a tap (10, R174 to R187). -/

namespace Sys2Proof.Machine

/-- The party set of a line: its ACTIVE and HELD entries in join order (R175). -/
def LineRecord.parties (r : LineRecord) : List (Party × Mode) := r.members.map fun m => (m.party, m.mode)

/-- The party set of a line port's record; empty where there is none. -/
def State.partySet (s : State) (k : Fin 8) : List (Party × Mode) :=
  match s.records[k] with
  | some r => r.parties
  | none => []

/-- Replace a tap. -/
def State.setTap (k : Fin 8) (t : Tap) (s : State) : State := { s with taps := s.taps.set k (some t) }

/-- A tap as the load makes it (R174). -/
def Tap.new : Tap := ⟨.idle, none, 0#16, none, 0#16, none⟩

/-- A claim: the descriptor at the claim index if it is FREE; the index then advances (R177). -/
def State.claim (s : State) : Option (Fin 64 × State) :=
  if (s.ring[s.claimIndex]).owner = .free then
    some (s.claimIndex, { s with claimIndex := s.claimIndex + 1 })
  else none

/-- The record of a segment that tap `k` opens now, with no pairs yet (R178). -/
def State.openedDescriptor (s : State) (k : Fin 8) (t : Tap) : Descriptor where
  owner := .filling
  recording := t.number.getD 0#16
  segment := t.nextSegment
  first := t.nextSegment == 0#16
  last := false
  line := (s.portCfg k).line
  port := k
  startTime := s.stationTime
  truncated := t.lostPairs != 0#16
  lostPairs := t.lostPairs
  alarm := (s.ports[k]).alarms.any
  gap := false
  parties := s.partySet k
  farLabel := (s.ports[k]).settled
  pairs := []

/-- Open a segment in a claimed descriptor: the tap enters RECORDING with it (R178, R179). -/
def State.openSegment (k : Fin 8) (t : Tap) (i : Fin 64) (s : State) : State :=
  ({ s with ring := s.ring.set i (s.openedDescriptor k t) }).setTap k
    { t with state := .recording, nextSegment := t.nextSegment + 1#16, filling := some i, lostPairs := 0#16 }

/-- Enter STARVED, with its notice (R184). -/
def State.starve (k : Fin 8) (t : Tap) (s : State) : State :=
  (s.setTap k { t with state := .starved, filling := none }).notify
    (.recordStarved (s.portCfg k).line k (t.number.getD 0#16))

/-- Claim a descriptor and open the tap's next segment in it, or starve (R179 to R181). -/
def State.claimOrStarve (k : Fin 8) (t : Tap) (s : State) : State :=
  match s.claim with
  | some (i, s') => s'.openSegment k t i
  | none => s.starve k t

/-- A descriptor closed at this moment: READY, with LAST for the end of a recording. A segment that closes with
no pairs starts at the moment it closes (R178, R183). -/
def Descriptor.close (d : Descriptor) (last : Bool) (now : Time) : Descriptor :=
  { d with owner := .ready, last := last, startTime := if d.pairs = [] then now else d.startTime }

/-- Close the segment a tap holds in FILLING (R180, R181, R183). -/
def State.closeSegment (t : Tap) (last : Bool) (s : State) : State :=
  match t.filling with
  | some i => { s with ring := modifyAt s.ring i (·.close last s.stationTime) }
  | none => s

/-- The tap of a recording that begins: the next recording number, segment 0 (R179, R186). -/
def State.beginRecording (s : State) (t : Tap) : Tap × State :=
  ({ t with number := some s.recordingCount, nextSegment := 0#16 },
   { s with recordingCount := s.recordingCount + 1#16 })

/-- A start: the party set becomes non-empty (R179); on a CLOSING tap it is an owed start (R186). -/
def State.tapStart (k : Fin 8) (t : Tap) (s : State) : State :=
  match t.state with
  | .idle =>
    let (t', s') := s.beginRecording { t with lostPairs := 0#16 }
    s'.claimOrStarve k t'
  | .closing => s.setTap k { t with owedStart := some (t.owedStart.getD 0#16) }
  | .recording | .starved => s

/-- A party change closes the segment of a RECORDING tap, which claims at once (R181). -/
def State.tapPartyChange (k : Fin 8) (t : Tap) (s : State) : State :=
  match t.state with
  | .recording => (s.closeSegment t false).claimOrStarve k { t with filling := none }
  | _ => s

/-- An end: RECORDING closes with LAST and goes IDLE (R183); STARVED goes CLOSING (R185). -/
def State.tapEnd (k : Fin 8) (t : Tap) (s : State) : State :=
  match t.state with
  | .recording =>
    (s.closeSegment t true).setTap k
      { t with state := .idle, number := none, nextSegment := 0#16, filling := none }
  | .starved => s.setTap k { t with state := .closing }
  | .idle | .closing => s

/-- What a line record hands its tap when the party set was `old` and now is what the record holds (R68, R175). -/
def State.tapEvent (k : Fin 8) (old : List (Party × Mode)) (s : State) : State :=
  match s.taps[k] with
  | none => s
  | some t =>
    if old = s.partySet k then s
    else if old = [] then s.tapStart k t
    else if s.partySet k = [] then s.tapEnd k t
    else s.tapPartyChange k t

/-- Mark the open segment when a defect is declared while it is FILLING (R182). -/
def State.markAlarm (k : Fin 8) (s : State) : State :=
  match s.taps[k] with
  | some ⟨_, _, _, some i, _, _⟩ => { s with ring := modifyAt s.ring i fun d => { d with alarm := true } }
  | _ => s

/-- The sixteen sample pairs of a boundary (R171). -/
def samplePairs (near far : Block) : List (Sample × Sample) := near.toList.zip far.toList

/-- Append a boundary's pairs to the segment a tap holds open; a segment that reaches 256 pairs closes and the tap
claims the next descriptor (R180). -/
def State.tapAppend (k : Fin 8) (near far : Block) (gap : Bool) (s : State) : State :=
  match s.taps[k] with
  | some t =>
    match t.filling with
    | some i =>
      let d := s.ring[i]
      let d' := { d with
        pairs := d.pairs ++ samplePairs near far
        startTime := if d.pairs = [] then s.stationTime else d.startTime
        gap := d.gap || gap }
      let s' := { s with ring := s.ring.set i d' }
      if d'.pairs.length < Config.segmentPairs then s'
      else (s'.closeSegment t false).claimOrStarve k { t with filling := none }
    | none => s
  | none => s

/-- Lose the boundary's 16 pairs (R184). -/
def State.loseBoundary (k : Fin 8) (t : Tap) (s : State) : State :=
  (s.setTap k { t with lostPairs := t.lostPairs.add 16 }).count (·.addLost k 16)

/-- The zero-pair LAST segment a CLOSING tap owes, in one step with its claim (R185). -/
def State.writeOwedLast (k : Fin 8) (t : Tap) (i : Fin 64) (s : State) : State :=
  let d := { s.openedDescriptor k t with parties := [] }
  ({ s with ring := s.ring.set i (d.close true s.stationTime) }).setTap k
    { t with nextSegment := t.nextSegment + 1#16, lostPairs := 0#16 }

/-- The pairs of a boundary counted against an owed start while the party set is not empty (R186). -/
def State.countOwed (k : Fin 8) (t : Tap) (s : State) : Tap × State :=
  match t.owedStart with
  | some c =>
    if s.partySet k = [] then (t, s) else ({ t with owedStart := some (c.add 16) }, s.count (·.addLost k 16))
  | none => (t, s)

/-- What a CLOSING tap does once its owed LAST is written: IDLE, or the beginning of the owed recording (R186). -/
def State.afterOwedLast (k : Fin 8) (t : Tap) (s : State) : State :=
  match t.owedStart with
  | none => s.setTap k { t with state := .idle, number := none, nextSegment := 0#16 }
  | some c =>
    let (t', s') := s.beginRecording { t with lostPairs := c, owedStart := none }
    if s'.partySet k = [] then s'.setTap k t' else s'.starve k t'

/-- A CLOSING tap at a block boundary (R185, R186). -/
def State.closingBoundary (k : Fin 8) (t : Tap) (s : State) : State :=
  match s.claim with
  | some (i, s1) =>
    let s2 := s1.writeOwedLast k t i
    let (t', s3) := s2.countOwed k { t with nextSegment := t.nextSegment + 1#16, lostPairs := 0#16 }
    s3.afterOwedLast k t'
  | none =>
    let (t', s1) := s.countOwed k t
    s1.setTap k t'

/-- A tap at a block boundary, given its tracks and whether the near track took a block that was not REAL from a
remote ACTIVE member (R177, R180, R182, R184, R185). -/
def State.tapBoundary (k : Fin 8) (near far : Block) (gap : Bool) (s : State) : State :=
  match s.taps[k] with
  | none => s
  | some t =>
    match t.state with
    | .idle => s
    | .recording => s.tapAppend k near far gap
    | .starved =>
      match s.claim with
      | some (i, s') => (s'.openSegment k t i).tapAppend k near far gap
      | none => s.loseBoundary k t
    | .closing => s.closingBoundary k t

/-! ### The recorder's view -/

/-- The READY descriptor met first going upward in ring order from the claim index (R188). -/
def State.firstReady (s : State) : Option (Fin 64) :=
  ((List.range 64).map fun n => s.claimIndex + ⟨n % 64, Nat.mod_lt _ (by decide)⟩).find?
    fun i => (s.ring[i]).owner == .ready

/-- How many descriptors have an owner state. -/
def State.countOwner (s : State) (o : Owner) : Nat := (s.ring.toList.filter (·.owner == o)).length

/-- The taps in STARVED or CLOSING with their state and lost pairs pending (R188), LINE_PORT0 first: R188 and R198 give
the list no order (log 49). -/
def State.strainedTaps (s : State) : List (Fin 8 × Tap) :=
  allPorts.filterMap fun k =>
    match s.taps[k] with
    | some t => if t.state = .starved ∨ t.state = .closing then some (k, t) else none
    | none => none

end Sys2Proof.Machine
end

