-- ==== Sys2Proof/Machine/FramerCore.lean ====
section
/-! DEFINITION. One line port's receive and transmit side (03): alignment, periods, defects, overhead, the
elastic store and the transmit frame. Everything here works on a port alone and gathers what the station has to
count and to notify; LineOps.lean hands the outcome on. -/

namespace Sys2Proof.Machine

/-- A port under way through one event, with what the event counts and notifies (R58, R63). -/
structure PortWork where
  port : LinePort
  notices : List (Defect × Bool)
  parityErrors : Nat
  ooaPeriods : Nat
  lineSlips : Nat
  deriving DecidableEq, Repr

/-- A port before an event. -/
def PortWork.start (p : LinePort) : PortWork := ⟨p, [], 0, 0, 0⟩

/-- Change the port. -/
def PortWork.onPort (f : LinePort → LinePort) (w : PortWork) : PortWork := { w with port := f w.port }

/-- Declare or clear a defect; the change is notified unless a higher defect holds at that moment (R58). -/
def PortWork.setDefect (d : Defect) (v : Bool) (w : PortWork) : PortWork :=
  if w.port.alarms.holds d = v then w
  else
    { w with
      port := { w.port with alarms := w.port.alarms.put d v }
      notices := if w.port.alarms.suppresses d then w.notices else w.notices ++ [(d, v)] }

/-- The elastic store emptied, STARTING, its last block zeros (R59). -/
def LinePort.emptyStore (p : LinePort) : LinePort :=
  { p with store := [], storeRunning := false, lastBlock := Block.silence }

/-- Label acquisition restarted with the settled label cleared (R44, R52). -/
def LinePort.restartLabel (p : LinePort) : LinePort :=
  { p with labelOctets := none, candidate := none, matchCount := 0, settled := none }

/-- The signalling and RD persistence runs emptied (R55, R56). -/
def LinePort.emptyRuns (p : LinePort) : LinePort :=
  { p with signallingCandidate := none, signallingRun := 0, rdValue := none, rdRun := 0 }

/-- An entry to HUNT (R44). The period under way goes on (R39). -/
def LinePort.enterHunt (p : LinePort) : LinePort :=
  { p.restartLabel.emptyRuns.emptyStore with framer := .hunt, frame := [], confirmCount := 0, missCount := 0 }

/-- Whether the framer is held in HUNT (R44). -/
def LinePort.isHeld (p : LinePort) : Bool := p.alarms.los || p.forceOoa || p.out

/-! ### Frame periods -/

/-- R48 at the end of a period: with LOS, a period that began and ended with carrier counts, and the tenth clears
LOS. -/
def PortWork.stepLos (whole : Bool) (w : PortWork) : PortWork :=
  if w.port.alarms.los ∧ whole then
    let w' := w.onPort fun p => { p with carrierCount := p.carrierCount + 1 }
    if w'.port.carrierCount ≥ 10 then w'.setDefect .los false else w'
  else w

/-- LOL declared: the accepted signalling goes to IDLE and the store is emptied (R49, R55, R59). -/
def PortWork.declareLol (w : PortWork) : PortWork :=
  (w.setDefect .lol true).onPort fun p => { p.emptyStore with accepted := .idle }

/-- R49 at the end of a judged period. -/
def PortWork.stepLol (c : PortSettings) (ooa : Bool) (w : PortWork) : PortWork :=
  let p := w.port
  if ooa then
    if p.alarms.lol then w
    else
      let w' := w.onPort fun p => { p with lolCount := p.lolCount + 1 }
      if p.lolCount + 1 ≥ c.lolSet then w'.declareLol else w'
  else if p.alarms.lol then
    if p.alignedRun ≥ c.lolClear then
      (w.setDefect .lol false).onPort fun p => { p with lolCount := 0 }
    else w
  else if p.alignedRun ≥ c.lolReset then w.onPort fun p => { p with lolCount := 0 }
  else w

/-- The end of a frame period, judged in the order R47, R48, R49 (R39; log 15). `whole` says that the period
began and ended with carrier-present high. While the OUT mark is set only LOS is followed (R42, R48). -/
def PortWork.endPeriod (c : PortSettings) (whole : Bool) (w : PortWork) : PortWork :=
  let w := w.onPort fun p => { p with periodOctets := 0 }
  if w.port.out then w.stepLos whole
  else
    let ooa := w.port.framer != .aligned
    let w :=
      if ooa then { w with ooaPeriods := w.ooaPeriods + 1, port := { w.port with alignedRun := 0 } }
      else w.onPort fun p => { p with alignedRun := min 63 (p.alignedRun + 1) }
    (w.stepLos whole).stepLol c ooa

/-! ### Overhead of an evaluated frame -/

/-- The octet at a place of the frame under way. -/
def LinePort.frameOctet (p : LinePort) (i : Nat) : Octet := p.frame.getD i 0#8

/-- The label of sixteen octets. -/
def labelOfList (l : List Octet) : Label := Vector.ofFn fun i => l.getD i.val 0#8

/-- A complete multiframe against the candidate; the third match in a row settles it and re-evaluates
LABEL_MISMATCH (R52). -/
def PortWork.completeLabel (c : PortSettings) (l : Label) (w : PortWork) : PortWork :=
  let p := w.port
  let n := if p.candidate = some l then min 3 (p.matchCount + 1) else 1
  let w' := w.onPort fun p => { p with candidate := some l, matchCount := n }
  if n = 3 then
    (w'.onPort fun p => { p with settled := some l }).setDefect .labelMismatch
      (match c.expectedLabel with
       | some e => e != l
       | none => false)
  else w'

/-- The label octet of an evaluated frame into the accumulator (R51). -/
def PortWork.takeLabel (c : PortSettings) (mf : Bool) (o : Octet) (w : PortWork) : PortWork :=
  match mf, w.port.labelOctets with
  | true, none => w.onPort fun p => { p with labelOctets := some [o] }
  | true, some l =>
    w.onPort fun p =>
      { p with labelOctets := some [o], matchCount := if l.length < 16 then 0 else p.matchCount }
  | false, none => w
  | false, some l =>
    if l.length < 16 then
      let l' := l ++ [o]
      let w' := w.onPort fun p => { p with labelOctets := some l' }
      if l'.length = 16 then w'.completeLabel c (labelOfList l') else w'
    else w.onPort fun p => { p with labelOctets := none, matchCount := 0 }

/-- How many bits two octets differ in. -/
def bitsDiffering (a b : Octet) : Nat :=
  ([0, 1, 2, 3, 4, 5, 6, 7].filter fun i => Bool.xor (a.getLsbD i) (b.getLsbD i)).length

/-- The parity of an evaluated frame against the reference (R53). -/
def PortWork.takeParity (c : PortSettings) (w : PortWork) : PortWork :=
  let n := bitsDiffering (w.port.frameOctet 3) w.port.parityReference
  { w with parityErrors := w.parityErrors + if c.parityFrame then min 1 n else n }

/-- Whether the evaluated frame under way is errored (R53). -/
def LinePort.errored (p : LinePort) : Bool := p.frameOctet 3 != p.parityReference

/-- The degrade window after an evaluated frame; at 500 frames it is judged and emptied (R54). -/
def PortWork.stepDegrade (c : PortSettings) (w : PortWork) : PortWork :=
  let p := w.port
  let errors := p.degradeErrors + if p.errored then 1 else 0
  if p.degradeFrames + 1 ≥ Config.degradeWindow then
    let w' := w.onPort fun p => { p with degradeFrames := 0, degradeErrors := 0 }
    if p.alarms.degraded then
      if errors < max 1 (c.degradeThreshold / 2) then w'.setDefect .degraded false else w'
    else if errors ≥ c.degradeThreshold then w'.setDefect .degraded true
    else w'
  else w.onPort fun p => { p with degradeFrames := p.degradeFrames + 1, degradeErrors := errors }

/-- The signalling of an evaluated frame; the third in a row is accepted (R55). -/
def PortWork.takeSignalling (sig : Signalling) (w : PortWork) : PortWork :=
  w.onPort fun p =>
    let n := if p.signallingCandidate = some sig then min 3 (p.signallingRun + 1) else 1
    { p with
      signallingCandidate := some sig
      signallingRun := n
      accepted := if n = 3 then sig else p.accepted }

/-- The RD of an evaluated frame; the third in a row decides FAR_DEFECT (R56). -/
def PortWork.takeRd (rd : Bool) (w : PortWork) : PortWork :=
  let n := if w.port.rdValue = some rd then min 3 (w.port.rdRun + 1) else 1
  let w' := w.onPort fun p => { p with rdValue := some rd, rdRun := n }
  if n = 3 then w'.setDefect .farDefect rd else w'

/-- The samples of the frame under way (R38). -/
def LinePort.frameSamples (p : LinePort) : Block :=
  Vector.ofFn fun i => (p.frameOctet (4 + 2 * i.val)) ++ (p.frameOctet (5 + 2 * i.val))

/-- A block written to the elastic store (R59). -/
def PortWork.writeStore (b : Block) (w : PortWork) : PortWork :=
  let p := w.port
  if p.storeRunning then
    if p.store.length < Config.storeCapacity then w.onPort fun p => { p with store := p.store ++ [b] }
    else { w.onPort (fun p => { p with store := p.store.tail ++ [b] }) with lineSlips := w.lineSlips + 1 }
  else w.onPort fun p =>
    { p with store := p.store ++ [b], storeRunning := decide (p.store.length + 1 ≥ 2) }

/-- The overhead and samples of an evaluated frame (R50 to R56, R59). -/
def PortWork.evaluate (c : PortSettings) (w : PortWork) : PortWork :=
  let overhead := w.port.frameOctet 1
  ((((((w.takeLabel c (overhead.getLsbD 4) (w.port.frameOctet 2)).takeParity c).stepDegrade c).takeSignalling
    (Signalling.ofCode (overhead.toNat / 64))).takeRd (overhead.getLsbD 5)).writeStore w.port.frameSamples)

/-- The end of a frame at its octet 35: evaluated or not, the parity reference and the period (R39, R50, R53). -/
def PortWork.endFrame (c : PortSettings) (w : PortWork) : PortWork :=
  let w1 :=
    if w.port.framer = .aligned then
      if !w.port.alarms.los && !w.port.alarms.lol && !w.port.out then w.evaluate c
      else w.onPort fun p => { p with labelOctets := none }
    else w
  (w1.onPort fun p => { p with parityReference := xorAll w.port.frame, frame := [] }).endPeriod c true

/-! ### One octet -/

/-- An octet in HUNT (R44): the alignment octet sets the phase, after the period under way has ended. -/
def PortWork.huntOctet (c : PortSettings) (o : Octet) (w : PortWork) : PortWork :=
  if !w.port.isHeld && o == 0x5C#8 then
    let w' := if w.port.periodOctets = 0 then w else w.endPeriod c true
    w'.onPort fun p => { p with framer := .confirm, confirmCount := 0, frame := [o], periodOctets := 1 }
  else
    let w' := w.onPort fun p => { p with periodOctets := p.periodOctets + 1 }
    if w'.port.periodOctets ≥ Config.lineFrameOctets then w'.endPeriod c true else w'

/-- An octet that does not stand at a frame's start (R39, R50). -/
def PortWork.innerOctet (c : PortSettings) (o : Octet) (w : PortWork) : PortWork :=
  let w' := w.onPort fun p => { p with frame := p.frame ++ [o], periodOctets := p.periodOctets + 1 }
  if w'.port.periodOctets ≥ Config.lineFrameOctets then w'.endFrame c else w'

/-- The first octet of a frame taken as such. -/
def LinePort.startFrame (o : Octet) (p : LinePort) : LinePort := { p with frame := [o], periodOctets := 1 }

/-- The alignment octet of a frame in CONFIRM (R45). -/
def PortWork.confirmOctet (c : PortSettings) (o : Octet) (w : PortWork) : PortWork :=
  w.onPort fun p =>
    if o = 0x5C#8 then
      let n := p.confirmCount + 1
      let p' := { p with confirmCount := n }.startFrame o
      if n ≥ c.alignEnter then { p' with framer := .aligned, missCount := 0 } else p'
    else { p.enterHunt with periodOctets := 1 }

/-- The alignment octet of a frame in ALIGNED (R46). -/
def PortWork.alignedOctet (c : PortSettings) (o : Octet) (w : PortWork) : PortWork :=
  w.onPort fun p =>
    if o = 0x5C#8 then { p with missCount := 0 }.startFrame o
    else if p.missCount + 1 ≥ c.alignExit then { p.enterHunt with periodOctets := 1 }
    else { p with missCount := p.missCount + 1 }.startFrame o

/-- One received octet (R44 to R46). -/
def PortWork.takeOctet (c : PortSettings) (o : Octet) (w : PortWork) : PortWork :=
  match w.port.framer with
  | .hunt => w.huntOctet c o
  | .confirm => if w.port.periodOctets = 0 then w.confirmOctet c o else w.innerOctet c o
  | .aligned => if w.port.periodOctets = 0 then w.alignedOctet c o else w.innerOctet c o

/-! ### Carrier, marks and starts -/

/-- Carrier-present goes low (R48): LOS declared if it is not, the framer held in HUNT, the period ended. -/
def PortWork.takeCarrierFall (c : PortSettings) (w : PortWork) : PortWork :=
  let w' :=
    if w.port.alarms.los then w
    else (w.setDefect .los true).onPort fun p => { p.enterHunt with accepted := .idle }
  (w'.onPort fun p => { p with carrierCount := 0 }).endPeriod c false

/-- Carrier-present goes high: the period under way ends (R39). -/
def PortWork.takeCarrierRise (c : PortSettings) (w : PortWork) : PortWork := w.endPeriod c false

/-- A port that starts takes LOS from carrier-present (R40). No period is judged with it, as none is under way; R40 names
R58 alone for this LOS (log 41). -/
def PortWork.startPort (carrier : Bool) (w : PortWork) : PortWork := w.setDefect .los !carrier

/-- The receive side at its reset values, apart from LOS, the marks, and the transmit side (R40, R41). -/
def LinePort.resetReceive (p : LinePort) : LinePort :=
  { LinePort.reset with
    alarms := { Alarms.clear with los := p.alarms.los }
    txIndex := p.txIndex, txParity := p.txParity, txFrame := p.txFrame
    out := p.out, forceOoa := p.forceOoa, forceRd := p.forceRd }

/-- The OUT mark set (R42); the carrier count goes on. -/
def LinePort.takeOut (p : LinePort) : LinePort :=
  { p.enterHunt with
    out := true, lolCount := 0, alignedRun := 0, parityReference := 0#8, degradeFrames := 0, degradeErrors := 0
    accepted := .idle
    alarms := { Alarms.clear with los := p.alarms.los } }

/-- The OOA forcing mark set: CONFIRM and ALIGNED go to HUNT (R43). -/
def LinePort.forceHunt (p : LinePort) : LinePort :=
  if p.framer = .hunt then { p with forceOoa := true } else { p.enterHunt with forceOoa := true }

/-! ### The elastic store at a boundary, and the transmit side -/

/-- Each sample halved by an arithmetic shift right (R60, R157). -/
def halveBlock (b : Block) : Block := mapTable b fun _ x => x.sshiftRight 1

/-- The RX block of a boundary becomes the last block yielded (R60). -/
def PortWork.readStore (w : PortWork) : PortWork :=
  let p := w.port
  if p.alarms.los || p.alarms.lol || p.framer != .aligned || p.out || !p.storeRunning then
    w.onPort fun p => { p with lastBlock := Block.silence }
  else
    match p.store with
    | b :: t => w.onPort fun p => { p with lastBlock := b, store := t }
    | [] =>
      { w.onPort (fun p => { p with lastBlock := halveBlock p.lastBlock }) with lineSlips := w.lineSlips + 1 }

/-- Whether the transmit side sets RD (R62). -/
def LinePort.sendsRd (p : LinePort) : Bool := p.alarms.los || p.alarms.lol || p.forceRd

/-- One broker line frame built, the label index and the transmit parity advanced (R61). -/
def LinePort.buildFrame (c : PortSettings) (sig : Signalling) (tx : Block) (p : LinePort) : LinePort :=
  let f := lineFrame (overheadOctet sig p.sendsRd (p.txIndex == 0)) c.transmitLabel[p.txIndex] p.txParity tx
  { p with txFrame := f, txIndex := p.txIndex + 1, txParity := xorAll f }

end Sys2Proof.Machine
end

