-- ==== Sys2Proof/Machine/StreamTable.lean ====
section
/-! DEFINITION. The listen interest and the receive stream table (08, R148 to R161), and the running level
(R172). -/

namespace Sys2Proof.Machine

/-! ### Listen interest -/

/-- Whether a record contributes its line with class LINE_MIX: ENGAGED with a remote ACTIVE member (R72). -/
def LineRecord.needsMix (own : Station) (r : LineRecord) : Bool :=
  r.state == .engaged && r.members.any fun m => m.mode == .active && m.party.station != own

/-- Whether the line controller contributes a circuit (R72). -/
def State.lineMixInterest (s : State) (c : Circuit) : Bool :=
  allPorts.any fun k =>
    match s.records[k] with
    | some r => c == lineCircuit (s.portCfg k).line && r.needsMix s.cfg.station
    | none => false

/-- Whether a handset is bound to a circuit (R103, R128). -/
def State.handsetInterest (s : State) (c : Circuit) : Bool :=
  bothHandsets.any fun h => (s.handsets[h]).bindings.any fun b => b.circuit == c

/-- Whether a speaker channel contributes a circuit (R140). -/
def State.speakerInterest (s : State) (c : Circuit) : Bool :=
  allPorts.any fun k => s.channelPlays k && (s.channels[k]).binding.circuit == some c

/-- The class of a circuit in the listen interest; none where it is not in it (R148). -/
def State.interest (s : State) (c : Circuit) : Option StreamClass :=
  if s.lineMixInterest c then some .lineMix
  else if s.handsetInterest c then some .handset
  else if s.speakerInterest c then some .speaker
  else none

/-- The rank of a class (R148). -/
def StreamClass.rank : StreamClass → Nat
  | .lineMix => 3 | .handset => 2 | .speaker => 1

/-! ### Ends of entries -/

/-- The end of stream entries announced to the speaker controller: their sources leave every talker set at once (R141,
R159). -/
def State.announceEnds (ended : List StreamEntry) (s : State) : State :=
  if ended = [] then s else s.mapTalkers fun _ c => c.talkers.filter fun t => !(ended.any fun e => e.party == t.party)

/-- Remove the entries that meet a condition, with their queues, and announce their ends (R159). -/
def State.removeStreams (p : StreamEntry → Bool) (s : State) : State :=
  ({ s with streams := mapTable s.streams fun _ e =>
      match e with
      | some x => if p x then none else some x
      | none => none }).announceEnds (s.streams.toList.filterMap (Option.filter p))

/-- Bring the table into line with the interest: a circuit's entries take its class, and entries of a circuit that
has left the interest are removed (R148, R159). -/
def State.syncStreams (s : State) : State :=
  let s' := s.removeStreams fun e => (s.interest e.circuit).isNone
  { s' with streams := mapTable s'.streams fun _ e => e.map fun x => { x with cls := (s.interest x.circuit).getD x.cls } }

/-! ### Arrival -/

/-- The index of the entry with a key (R149). -/
def State.streamIndex (s : State) (c : Circuit) (p : Party) : Option (Fin 32) :=
  (List.finRange 32).find? fun i =>
    match s.streams[i] with
    | some e => e.circuit == c && e.party == p
    | none => false

/-- A block at the tail of a queue; a full queue drops its head, counted by the caller (R155). -/
def joinQueue (q : List (Octet × Block)) (b : Octet × Block) : List (Octet × Block) :=
  if q.length < Config.playoutCapacity then q ++ [b] else q.tail ++ [b]

/-- The silence timer of an entry, restarted now (R158). -/
def State.silenceTime (s : State) : Nat := s.blocks 60

/-- A frame taken by an existing entry, judged by its distance from the expected sequence (R154, R155): the entry and
what the counters gain. -/
def StreamEntry.take (silence : Nat) (v : Voice) (e : StreamEntry) : StreamEntry × (Counters → Counters) :=
  let d := (v.sequence - e.expected).toNat
  let joined : StreamEntry := { e with
    queue := joinQueue e.queue (v.sequence, v.samples), expected := v.sequence + 1#8, silence := silence }
  let slip (c : Counters) : Counters :=
    if e.queue.length < Config.playoutCapacity then c else { c with slips := c.slips.add 1 }
  if d = 0 then (joined, slip)
  else if d ≤ 3 then (joined, fun c => slip { c with gaps := c.gaps.add d })
  else if d ≤ 127 then
    ({ e with
        queue := [(v.sequence, v.samples)], playing := false, concealed := 0
        expected := v.sequence + 1#8, silence := silence },
      fun c => { c with restarts := c.restarts.add 1 })
  else (e, fun c => { c with lateFrames := c.lateFrames.add 1 })

/-- A new entry from the frame that creates it (R149, R152). -/
def State.newStream (s : State) (cls : StreamClass) (p : Party) (v : Voice) : StreamEntry :=
  ⟨v.circuit, p, cls, false, [(v.sequence, v.samples)], v.sequence + 1#8, 0, 0, Block.silence, s.silenceTime⟩

/-- Put an entry at an index of the table. -/
def State.setStream (i : Fin 32) (e : StreamEntry) (s : State) : State := { s with streams := s.streams.set i (some e) }

/-- The lowest free index (R152). -/
def State.freeStream (s : State) : Option (Fin 32) := (List.finRange 32).find? fun i => (s.streams[i]).isNone

/-- Whether one entry is chosen for eviction before another: the lower class, then the lower level (R153). -/
def StreamEntry.evictedBefore (a b : StreamEntry) : Bool :=
  a.cls.rank < b.cls.rank || (a.cls.rank == b.cls.rank && a.level < b.level)

/-- The entry a frame of class `cls` evicts: of the entries that rank below it the one of lowest class, then lowest
level, then lowest index (R153). -/
def State.evictionChoice (s : State) (cls : StreamClass) : Option (Fin 32 × StreamEntry) :=
  (List.finRange 32).foldl (fun best i =>
    match s.streams[i] with
    | some e =>
      if e.cls.rank < cls.rank then
        match best with
        | some (_, b) => if e.evictedBefore b then some (i, e) else best
        | none => some (i, e)
      else best
    | none => best) none

/-- A VOICE frame handed on to the stream receiver (R151 to R155). -/
def State.takeVoice (source : Station) (v : Voice) (s : State) : State :=
  match s.interest v.circuit with
  | none => s
  | some cls =>
    let p : Party := ⟨source, v.port⟩
    match s.streamIndex v.circuit p with
    | some i =>
      match s.streams[i] with
      | some e =>
        let (e', f) := e.take s.silenceTime v
        (s.setStream i e').count f
      | none => s
    | none =>
      match s.freeStream with
      | some i => s.setStream i (s.newStream cls p v)
      | none =>
        match s.evictionChoice cls with
        | some (i, e) =>
          ((s.setStream i (s.newStream cls p v)).announceEnds [e]).count
            fun c => { c with evictedStreams := c.evictedStreams.add 1 }
        | none => s.count fun c => { c with streamsRefused := c.streamsRefused.add 1 }

/-! ### Running level -/

/-- The absolute value of a sample; that of -32768 is 32768 (R172). -/
def magnitude (x : Sample) : Nat := x.toInt.natAbs

/-- The energy of a block: the mean of the absolute values, rounded down (R172). -/
def energy (b : Block) : Nat := (b.toList.foldl (fun a x => a + magnitude x) 0) / 16

/-- The running level after a block (R172). -/
def levelAfter (l : Nat) (b : Block) : Nat :=
  let e := energy b
  if e ≥ l then l + (e - l + 3) / 4 else l - (l - e) / 8

/-! ### At the block boundary -/

/-- The kinds of yielded block (R156). -/
inductive BlockKind where
  | real | concealed | silent
  deriving DecidableEq, Repr

/-- What an entry yields at a boundary, its kind, and the entry after with its level updated from the block (R156,
R157, R158). -/
def StreamEntry.yield (e : StreamEntry) : BlockKind × StreamEntry :=
  let emit (k : BlockKind) (b : Block) (e' : StreamEntry) : BlockKind × StreamEntry :=
    (k, { e' with lastBlock := b, level := levelAfter e.level b })
  match e.playing, e.queue with
  | false, x :: y :: t => emit .real x.2 { e with playing := true, queue := y :: t, concealed := 0 }
  | false, _ => emit .silent Block.silence e
  | true, x :: t => emit .real x.2 { e with queue := t, concealed := 0 }
  | true, [] =>
    if e.concealed < 2 then emit .concealed (halveBlock e.lastBlock) { e with concealed := e.concealed + 1 }
    else emit .silent Block.silence { e with playing := false, concealed := 0 }

/-- A yielded block with the key of its entry (R158). -/
structure Yielded where
  circuit : Circuit
  party : Party
  kind : BlockKind
  block : Block
  level : Nat
  deriving DecidableEq, Repr

/-- What every entry yields for a boundary (R158). -/
def State.yields (s : State) : List Yielded :=
  s.streams.toList.filterMap fun e => e.map fun x =>
    let (k, x') := x.yield
    ⟨x.circuit, x.party, k, x'.lastBlock, x'.level⟩

/-- Every entry after its yield, and UNDERRUNS raised by the concealed blocks (R156). -/
def State.yieldStreams (s : State) : State :=
  let n := (s.yields.filter fun y => y.kind == .concealed).length
  { s with streams := mapTable s.streams fun _ e => e.map fun x => (StreamEntry.yield x).2 }.count
    fun c => { c with underruns := c.underruns.add n }

/-- The entries whose silence timer has expired retire (R158). -/
def State.retireStreams (s : State) : State := s.removeStreams fun e => e.silence == 0

end Sys2Proof.Machine
end

