-- ==== Sys2Proof/Machine/PositionCore.lean ====
section
/-! DEFINITION. The position and speaker controllers' own tables: bindings, held list, pending asks, channels, and
what both do with a STATE frame from a line's home (05, R97 to R115; 07, R138) and with a change of home (R95,
R139). What they send is given by the callers. -/

namespace Sys2Proof.Machine

/-! ### Bindings -/

/-- Whether a handset holds a binding of a circuit. -/
def State.isBound (s : State) (h : Fin 2) (c : Circuit) : Bool := (s.handsets[h]).bindings.any fun b => b.circuit == c

/-- Replace the bindings of a handset; the listen interest follows (R101, R103). -/
def State.setBindings (h : Fin 2) (bs : List Binding) (s : State) : State :=
  (s.setHandset h { s.handsets[h] with bindings := bs }).syncStreams

/-- Make a binding at the end of a handset's bindings, with balance code 72 (R103, R120). -/
def State.addBinding (h : Fin 2) (c : Circuit) (s : State) : State :=
  s.setBindings h ((s.handsets[h]).bindings ++ [⟨c, 72, 0⟩])

/-- Remove a handset's binding of a circuit; its voice sending stops and the sequence count is dropped (R103,
R104). -/
def State.removeBinding (h : Fin 2) (c : Circuit) (s : State) : State :=
  (s.dropSequence c (.handset h)).setBindings h ((s.handsets[h]).bindings.filter fun b => b.circuit != c)

/-- The binding at an index of a handset, if there is one. -/
def State.bindingAt (s : State) (h : Fin 2) (i : Nat) : Option Binding := (s.handsets[h]).bindings[i]?

/-- The line of a LINE binding. -/
def Binding.line (b : Binding) : Option LineNo :=
  match b.circuit with
  | .line n => some n
  | _ => none

/-- The line of the handset's first LINE binding, in bind order (R111). -/
def State.firstLine (s : State) (h : Fin 2) : Option LineNo := ((s.handsets[h]).bindings.filterMap Binding.line).head?

/-- Whether a pending ask for a line exists. -/
def State.askPending (s : State) (line : LineNo) : Bool := s.pendingAsks.any fun a => a.line == line

/-- The held list entry of a line, if there is one. -/
def State.heldEntry (s : State) (line : LineNo) : Option HeldLine := s.held.find? fun e => e.line == line

/-- Whether a pending ask takes a place of a handset: a TAKE or RESUME that names it (R103). -/
def PendingAsk.takesPlace (h : Fin 2) (a : PendingAsk) : Bool :=
  a.handset == h && (a.op == .take || a.op == .resume)

/-- Whether a slot takes a place of a handset: a CALLER slot in OFFERING or RINGBACK (R103, R118). -/
def Slot.takesPlace (h : Fin 2) (x : Slot) : Bool :=
  x.role == some .caller && (x.state == .offering || x.state == .ringback) && x.handset == some h

/-- How many of a handset's places are taken (R103). -/
def State.placesTaken (s : State) (h : Fin 2) : Nat :=
  (s.handsets[h]).bindings.length + (s.pendingAsks.filter (·.takesPlace h)).length +
  (s.slots.toList.filter (·.takesPlace h)).length

/-! ### STATE frames at the position controller -/

/-- Whether a line's content shows the station's own party on a handset HELD with its recall flag set (R100). -/
def LineStatus.showsRecall (b : LineStatus) (p : Party) : Bool :=
  b.members.any fun m => m.party == p && m.mode == .held && m.recallFlag

/-- Whether a mirror shows that: not while it is UNKNOWN or STALE (R100). -/
def Mirror.showsRecall (m : Mirror) (p : Party) : Bool :=
  match m.state, m.content with
  | .current, some b => b.showsRecall p
  | _, _ => false

/-- The HOLD_RECALL notices of a STATE taken from the home (R100). -/
def State.recallNotices (s : State) (old : Mirror) (b : LineStatus) : List Event :=
  (s.held.filter fun (e : HeldLine) =>
      e.line == b.line && b.showsRecall (s.own (.handset e.handset)) && !old.showsRecall (s.own (.handset e.handset))).map
    fun (e : HeldLine) => Event.holdRecall b.line (.handset e.handset)

/-- Step 1 of R97: the mirror of the line takes the frame's body and becomes CURRENT. -/
def State.mirrorTakes (b : LineStatus) (s : State) : State :=
  match s.mirrorOf b.line with
  | none => s
  | some m =>
    (s.setMirror m ⟨m.line, .current, some b, if s.isActive then some (s.blocks 1200) else none⟩).notifyAll
      (s.recallNotices m b)

/-- Whether a member entry of a STATE is one of the station's own that the position does not hold (R114). An own entry
whose port is no handset's is held by none and is an orphan too; R114 speaks of handsets alone (log 34). -/
def State.isOrphan (s : State) (line : LineNo) (m : MemberStatus) : Bool :=
  m.party.station == s.cfg.station &&
  match m.mode, m.party.port with
  | .active, .handset h => !s.isBound h (lineCircuit line)
  | .held, .handset h => !(s.held.any fun (e : HeldLine) => e.line == line && e.handset == h)
  | _, _ => true

/-- The ports of the orphans of a STATE, none while an ask for the line is pending (R114). A line without mirror, binding
or held entry is no exception: step 4 of R97 has such a STATE change nothing else here, R114 has the DROP sent each time
(log 37). The DROPs go out in the order of the frame's member list, which R114 leaves open (log 45). -/
def State.orphans (s : State) (b : LineStatus) : List Port :=
  if s.askPending b.line then [] else (b.members.filter (s.isOrphan b.line)).map (·.party.port)

/-- Whether a STATE lists the station's own handset in a mode (R115). -/
def State.listed (s : State) (b : LineStatus) (h : Fin 2) (mode : Mode) : Bool :=
  b.members.any fun m => m.party == s.own (.handset h) && m.mode == mode

/-- A miss count after a STATE: 0 for a present entry or while an ask is pending, else one more (R115). -/
def missAfter (keep : Bool) (n : Nat) : Nat := if keep then 0 else n + 1

/-- The Lost rule on the bindings of one handset (R115). -/
def State.lostBindings (b : LineStatus) (h : Fin 2) (s : State) : State :=
  let c := lineCircuit b.line
  let keep := s.askPending b.line || s.listed b h .active
  let judged := (s.handsets[h]).bindings.map fun x =>
    if x.circuit = c then { x with misses := missAfter keep x.misses } else x
  let s' := { s with handsets := s.handsets.set h { s.handsets[h] with bindings := judged } }
  if judged.any (fun x => x.circuit == c && x.misses ≥ 2) then
    (s'.removeBinding h c).notify (.lineLost b.line (.handset h))
  else s'

/-- The Lost rule on the held list (R115). -/
def State.lostHeld (b : LineStatus) (s : State) : State :=
  let judged := s.held.map fun e =>
    if e.line = b.line then
      { e with misses := missAfter (s.askPending b.line || s.listed b e.handset .held) e.misses }
    else e
  let lost := judged.filter fun (e : HeldLine) => e.line == b.line && e.misses ≥ 2
  ({ s with held := judged.filter fun (e : HeldLine) => !(e.line == b.line && e.misses ≥ 2) }).notifyAll
    (lost.map fun (e : HeldLine) => Event.lineLost e.line (.handset e.handset))

/-- A STATE frame at the position controller: ignored unless it is from the home; else the mirror, the Lost rule,
and the ports to which a DROP is owed (R97, R114, R115). The order of the notices within one rule is log 38's. -/
def State.positionTakes (source : Station) (b : LineStatus) (s : State) : State × List Port :=
  if s.homeOf b.line = some source then
    let s1 := s.mirrorTakes b
    (((s1.lostBindings b 0).lostBindings b 1).lostHeld b, s1.orphans b)
  else (s, [])

/-! ### STATE frames at the speaker controller -/

/-- Turn a channel OFF: binding none, no talkers, no wait, no miss count; its contribution goes (R133, R140). -/
def State.turnOff (k : Fin 8) (s : State) : State :=
  (s.setChannel k { s.channels[k] with binding := .unbound, talkers := [], wait := none, misses := 0 }).syncStreams

/-- Whether a channel is WAITING for a line. -/
def State.waitsFor (s : State) (line : LineNo) (k : Fin 8) : Bool :=
  (s.channels[k]).binding == .line line && (s.channels[k]).wait.isSome

/-- Whether a channel listens to a line: bound to it and not waiting (R138). -/
def State.listensTo (s : State) (line : LineNo) (k : Fin 8) : Bool :=
  (s.channels[k]).binding == .line line && (s.channels[k]).wait.isNone

/-- The Lost rule on one channel (R138). -/
def State.lostChannel (b : LineStatus) (s : State) (k : Fin 8) : State :=
  if s.listensTo b.line k then
    let n := missAfter (b.listeners.any fun p => p == s.own (.speakerCh k)) (s.channels[k]).misses
    if n ≥ 2 then (s.turnOff k).notify (.lineLost b.line (.speakerCh k))
    else s.setChannel k { s.channels[k] with misses := n }
  else s

/-- Whether a listener entry of a STATE is an orphan (R138). -/
def State.isOrphanListener (s : State) (line : LineNo) (p : Party) : Bool :=
  p.station == s.cfg.station &&
  match p.port with
  | .speakerCh k => !s.listensTo line k
  | _ => false

/-- A STATE frame at the speaker controller, and the ports to which a DROP is owed (R138). Channels that are lost with
one frame queue their LINE_LOST notices channel 0 first; R138 gives them no order (log 38). -/
def State.speakerTakes (source : Station) (b : LineStatus) (s : State) : State × List Port :=
  if s.homeOf b.line = some source then
    if allPorts.any (s.waitsFor b.line) then
      (allPorts.foldl (fun s k =>
        if s.listensTo b.line k then s.setChannel k { s.channels[k] with misses := 0 } else s) s, [])
    else (allPorts.foldl (State.lostChannel b) s, (b.listeners.filter (s.isOrphanListener b.line)).map (·.port))
  else (s, [])

/-! ### Changes of home -/

/-- The lines whose home the station keeps (R94): appearances, bindings, held lines, pending asks, channels. -/
def State.linesKept (s : State) : List LineNo :=
  distinct (s.mirrors.map (·.line) ++ (bothHandsets.flatMap fun h => (s.handsets[h]).bindings.filterMap Binding.line) ++
    s.held.map (·.line) ++ s.pendingAsks.map (·.line) ++
    (s.channels.toList.filterMap fun c => match c.binding with | .line n => some n | _ => none))

/-- The mirror of a line whose home has changed: CURRENT becomes STALE, content kept, timer stopped (R95). -/
def State.staleMirror (line : LineNo) (s : State) : State :=
  match s.mirrorOf line with
  | some m =>
    if m.state = .current then s.setMirror m { m with state := .stale, timer := none } else s
  | none => s

/-- The bindings, held entries and pending asks of a line whose old home is gone (R95). -/
def State.loseLine (line : LineNo) (s : State) : State :=
  let s1 := bothHandsets.foldl (fun s h =>
    if s.isBound h (lineCircuit line) then
      (s.removeBinding h (lineCircuit line)).notify (.lineLost line (.handset h))
    else s) s
  let s2 := ({ s1 with held := s1.held.filter fun (e : HeldLine) => e.line != line }).notifyAll
    ((s1.held.filter fun (e : HeldLine) => e.line == line).map fun (e : HeldLine) => Event.lineLost line (.handset e.handset))
  ({ s2 with pendingAsks := s2.pendingAsks.filter fun (a : PendingAsk) => a.line != line }).notifyAll
    ((s2.pendingAsks.filter fun (a : PendingAsk) => a.line == line).map fun (a : PendingAsk) => Event.askNoAnswer line a.op (.handset a.handset))

/-- The channels of a line whose old home is gone (R139). -/
def State.loseChannels (line : LineNo) (s : State) : State :=
  allPorts.foldl (fun s k =>
    if s.waitsFor line k then (s.turnOff k).notify (.askNoAnswer line .listen (.speakerCh k))
    else if s.listensTo line k then (s.turnOff k).notify (.lineLost line (.speakerCh k))
    else s) s

/-- The home of a line has changed from `old`, a station or none (R95, R139). -/
def State.homeChanged (old : Option Station) (line : LineNo) (s : State) : State :=
  let s1 := s.staleMirror line
  if old.isSome then (s1.loseLine line).loseChannels line else s1

/-- React to every change of home between an earlier state and this one (R94, R95). -/
def State.followHomes (s before : State) : State :=
  before.linesKept.foldl (fun t line =>
    if before.homeOf line = s.homeOf line then t else t.homeChanged (before.homeOf line) line) s

/-! ### Leaving -/

/-- The position controller at a LEAVE or CLASHED (R35, R96, R106, R107). -/
def State.positionLeaves (s : State) : State :=
  let s1 := s.mirrors.foldl (fun s m => s.setMirror m ⟨m.line, .unknown, none, none⟩) s
  let s2 := bothHandsets.foldl (fun s h =>
    (s.handsets[h]).bindings.foldl (fun s b => s.removeBinding h b.circuit) s) s1
  { s2 with held := [], pendingAsks := [] }

/-- The speaker controller at a LEAVE or CLASHED: every channel OFF, no talk, no notice (R35, R133). -/
def State.speakerLeaves (s : State) : State :=
  let s1 := s.setTalk none
  { allPorts.foldl (fun s k => s.turnOff k) s1 with
    sequences := s1.sequences.filter fun q => q.port != .mic }

end Sys2Proof.Machine
end

