-- ==== Sys2Proof/Machine/LineOps.lean ====
section
/-! DEFINITION. The line controller: the record's derivation and consequences, the eight operations, the
announcement of a line, and what events do to a record (04, R64 to R93). -/

namespace Sys2Proof.Machine

/-! ### Derivation and consequences -/

/-- The state a record has: the first row of R66 whose condition holds. -/
def LineRecord.derive (out : Bool) (alarms : Alarms) (r : LineRecord) : LineState :=
  if out then .outOfService
  else if alarms.failing then .failed
  else if r.members.any fun m => m.mode == .active then .engaged
  else if r.members.any fun m => m.mode == .held then .held
  else if r.farSignalling = .ring then .ringingIn
  else .idle

/-- The lists and timers a line gives up while an out-of-service cause holds (R67). -/
def LineRecord.emptied (r : LineRecord) : LineRecord :=
  { r with members := [], listeners := [], outRing := none, holdOver := none }

/-- A record whose inputs have changed, brought to its new state with the consequences of R68 and the hold-over of
R87 and R88. `before` is its state before the change, `tenSeconds` the hold-over from now. -/
def LineRecord.settle (before : LineState) (c : PortSettings) (out : Bool) (alarms : Alarms) (tenSeconds : Nat)
    (r : LineRecord) : LineRecord :=
  let r1 := if out then r.emptied else r
  let st := r1.derive out alarms
  { r1 with
    state := st
    outRing := if st = .engaged then r1.outRing else none
    privacy := if r1.members = [] then c.privacyDefault else r1.privacy
    holdOver :=
      if st = .failed ∧ ¬(r1.members = [] ∧ r1.listeners = []) then
        if before = .failed then r1.holdOver else some tenSeconds
      else none }

/-- Put a changed record in place: derived anew, its party set handed to the tap, the listen interest followed (R66,
R68, R72). -/
def State.commitRecord (k : Fin 8) (r : LineRecord) (s : State) : State :=
  let before := match s.records[k] with
    | some o => o.state
    | none => r.state
  let r' := r.settle before (s.portCfg k) (s.outCause k r) (s.ports[k]).alarms (s.blocks 10000)
  ((s.setRecord k r').tapEvent k (s.partySet k)).syncStreams

/-- Change a line's record, if it has one. -/
def State.changeRecord (k : Fin 8) (f : LineRecord → LineRecord) (s : State) : State :=
  match s.records[k] with
  | some r => s.commitRecord k (f r)
  | none => s

/-! ### The operations -/

/-- A request as the record takes it: from a REPLY-bearing ASK or handed over locally (R73, R74). -/
structure LineRequest where
  op : AskOp
  requester : Party
  secondPort : Port
  wanted : Bool
  supervisor : Bool
  deriving DecidableEq, Repr

/-- Whether a port is a handset port. -/
def Port.isHandset : Port → Bool
  | .handset _ => true
  | _ => false

/-- Whether a port is a speaker channel. -/
def Port.isSpeaker : Port → Bool
  | .speakerCh _ => true
  | _ => false

/-- Whether a request's ports suit its operation (R73). -/
def LineRequest.portSuits (q : LineRequest) : Bool :=
  match q.op with
  | .take | .hold | .ring | .privacy => q.requester.port.isHandset
  | .resume => q.requester.port.isHandset && q.secondPort.isHandset
  | .listen => q.requester.port.isSpeaker
  | .drop | .unlisten => true

/-- Whether a party has a member entry in a mode. -/
def LineRecord.hasMember (r : LineRecord) (p : Party) (mode : Mode) : Bool :=
  r.members.any fun m => m.party == p && m.mode == mode

/-- Whether a party has a member entry in either mode. -/
def LineRecord.hasAnyMember (r : LineRecord) (p : Party) : Bool := r.members.any fun m => m.party == p

/-- Whether a party has a listener entry. -/
def LineRecord.hasListener (r : LineRecord) (p : Party) : Bool := r.listeners.any fun l => l.party == p

/-- The record as an operation finds it, with what an operation needs of the station: the line's settings, the time,
and the timers from now. -/
structure LineContext where
  cfg : PortSettings
  now : Time
  ringManual : Nat
  ringAutomatic : Nat
  recallTime : Nat
  deriving DecidableEq, Repr

/-- Out-ring's full time for the line's type (R76, R82). -/
def LineContext.ringTime (x : LineContext) : Nat := if x.cfg.automatic then x.ringAutomatic else x.ringManual

/-- The first reason of a list whose condition holds. -/
def firstReason : List (Bool × AskReason) → Option AskReason
  | [] => none
  | (c, r) :: t => if c then some r else firstReason t

/-- Why a TAKE is refused (R75, R76). -/
def LineRecord.takeRefusal (x : LineContext) (q : LineRequest) (r : LineRecord) : Option AskReason :=
  if r.state = .outOfService then some .outOfService
  else if r.state = .failed then some .failed
  else if r.hasMember q.requester .active then none
  else firstReason [
    (r.hasMember q.requester .held, .inUse),
    ((r.state == .engaged || r.state == .held) && r.privacy && !q.supervisor, .isPrivate),
    ((r.state == .engaged || r.state == .held) && r.members.length ≥ x.cfg.shareLimit, .full)]

/-- A granted TAKE (R75, R76). -/
def LineRecord.takeGranted (x : LineContext) (q : LineRequest) (r : LineRecord) : LineRecord :=
  if r.hasMember q.requester .active then r
  else
    { r with
      members := r.members ++ [⟨q.requester, .active, x.now, none, false⟩]
      outRing := if r.state = .idle ∧ x.cfg.automatic then some x.ringAutomatic else r.outRing }

/-- A DROP: the requester leaves whichever list holds it (R77). -/
def LineRecord.dropped (p : Party) (r : LineRecord) : LineRecord :=
  { r with
    members := r.members.filter fun m => m.party != p
    listeners := r.listeners.filter fun l => l.party != p }

/-- Why a HOLD or a PRIVACY is refused (R78, R84). -/
def LineRecord.activeRefusal (q : LineRequest) (r : LineRecord) : Option AskReason :=
  firstReason [(r.state == .outOfService, .outOfService), (!r.hasMember q.requester .active, .notMember)]

/-- A granted HOLD (R78). -/
def LineRecord.holdGranted (x : LineContext) (q : LineRequest) (r : LineRecord) : LineRecord :=
  { r with members := r.members.map fun m =>
      if m.party = q.requester then
        { m with mode := .held, recallFlag := false, recallTimer := if x.cfg.holdRecall = 0 then none else some x.recallTime }
      else m }

/-- The party a RESUME's new port names. -/
def LineRequest.newParty (q : LineRequest) : Party := ⟨q.requester.station, q.secondPort⟩

/-- Why a RESUME is refused (R79). -/
def LineRecord.resumeRefusal (q : LineRequest) (r : LineRecord) : Option AskReason :=
  firstReason [
    (r.state == .outOfService, .outOfService),
    (r.state == .failed, .failed),
    (!r.hasMember q.requester .held, .notMember),
    (q.secondPort != q.requester.port && r.hasAnyMember q.newParty, .inUse)]

/-- A granted RESUME (R79). -/
def LineRecord.resumeGranted (q : LineRequest) (r : LineRecord) : LineRecord :=
  { r with members := r.members.map fun m =>
      if m.party = q.requester then
        { m with party := q.newParty, mode := .active, recallFlag := false, recallTimer := none }
      else m }

/-- Why a RING is refused (R82). -/
def LineRecord.ringRefusal (q : LineRequest) (r : LineRecord) : Option AskReason :=
  firstReason [
    (r.state == .outOfService, .outOfService),
    (r.state == .failed, .failed),
    (!r.hasMember q.requester .active, .notMember)]

/-- Why a LISTEN is refused (R85). -/
def LineRecord.listenRefusal (q : LineRequest) (r : LineRecord) : Option AskReason :=
  if r.state = .outOfService then some .outOfService
  else if r.state = .failed then some .failed
  else if r.hasListener q.requester then none
  else firstReason [
    ((r.state == .engaged || r.state == .held) && r.privacy && !q.supervisor, .isPrivate),
    (decide (r.listeners.length ≥ Config.listenerCapacity), .full)]

/-- A granted LISTEN (R85). -/
def LineRecord.listenGranted (x : LineContext) (q : LineRequest) (r : LineRecord) : LineRecord :=
  if r.hasListener q.requester then r
  else { r with listeners := r.listeners ++ [⟨q.requester, x.now⟩] }

/-- An UNLISTEN (R86). -/
def LineRecord.unlistened (p : Party) (r : LineRecord) : LineRecord :=
  { r with listeners := r.listeners.filter fun l => l.party != p }

/-- Why a request is refused; none is GRANTED (R73, R75 to R86). R73's check of the port comes first, and a DROP and an
UNLISTEN are granted, on a yielded line too: R92 has a yielded line refuse every ASK OUT_OF_SERVICE, where R77 and R86
grant these two in OUT_OF_SERVICE (log 33). -/
def LineRecord.refusal (x : LineContext) (q : LineRequest) (r : LineRecord) : Option AskReason :=
  if !q.portSuits then some .notMember
  else
    match q.op with
    | .take => r.takeRefusal x q
    | .drop | .unlisten => none
    | .hold | .privacy => r.activeRefusal q
    | .resume => r.resumeRefusal q
    | .ring => r.ringRefusal q
    | .listen => r.listenRefusal q

/-- The record a granted request leaves, before it is derived anew. -/
def LineRecord.granted (x : LineContext) (q : LineRequest) (r : LineRecord) : LineRecord :=
  match q.op with
  | .take => r.takeGranted x q
  | .drop => r.dropped q.requester
  | .hold => r.holdGranted x q
  | .resume => r.resumeGranted q
  | .ring => { r with outRing := some x.ringTime }
  | .privacy => { r with privacy := q.wanted }
  | .listen => r.listenGranted x q
  | .unlisten => r.unlistened q.requester

/-- What an operation on a line of port `k` needs now. -/
def State.lineContext (s : State) (k : Fin 8) : LineContext :=
  ⟨s.portCfg k, s.stationTime, s.blocks 2000, s.blocks 30000, s.blocks (1000 * (s.portCfg k).holdRecall)⟩

/-- The outcome of a request for a line number: OUT_OF_SERVICE where no record holds it (R73). -/
def State.requestRefusal (s : State) (line : LineNo) (q : LineRequest) : Option AskReason :=
  match s.recordFor line with
  | some k =>
    match s.records[k] with
    | some r => r.refusal (s.lineContext k) q
    | none => some .outOfService
  | none => some .outOfService

/-- The change a request makes to the record, if it is granted; nothing is announced here. -/
def State.takeRequest (line : LineNo) (q : LineRequest) (s : State) : State :=
  match s.requestRefusal line q, s.recordFor line with
  | none, some k => s.changeRecord k (·.granted (s.lineContext k) q)
  | _, _ => s

/-- A request of the station's own position or speaker controller (R74). -/
def State.ownRequest (s : State) (op : AskOp) (port second : Port) (wanted : Bool) : LineRequest :=
  ⟨op, s.own port, second, wanted, s.cfg.supervisor⟩

/-! ### Announcing a line -/

/-- Restart a line's refresh timer while the station is ACTIVE (R90). -/
def State.restartRefresh (k : Fin 8) (s : State) : State :=
  match s.records[k] with
  | some r => if s.isActive then s.setRecord k { r with refresh := some (s.blocks 500) } else s
  | none => s

/-- A DROP of one of the station's own entries of a home line, handed to the line controller directly; `announce`
forms the STATE frame where a field of it changed (R74, R107, R114). -/
def State.dropLocally (announce : Fin 8 → State → State) (line : LineNo) (s : State) (p : Port) : State :=
  match s.recordFor line with
  | some k =>
    let s1 := s.takeTag.takeRequest line (s.ownRequest .drop p p false)
    if s1.statusOf k = s.statusOf k then s1 else announce k s1
  | none => s.takeTag

/-- A STATE frame formed in LISTENING or ACTIVE handed to the station's own position and speaker controllers (R90),
with the DROPs that their Orphan rules lead to (R114, R138). Both controllers take the frame before the first of those
DROPs acts; R90 gives no order (log 35). -/
def State.handOver (announce : Fin 8 → State → State) (b : LineStatus) (s : State) : State :=
  if s.onFloor then
    let (s1, p1) := s.positionTakes s.cfg.station b
    let (s2, p2) := s1.speakerTakes s.cfg.station b
    (p1 ++ p2).foldl (State.dropLocally announce b.line) s2
  else s

/-- Form and offer a STATE frame for a line: to the floor, and to the station's own blocks (R89, R90). The depth
bounds how often the hand-over may lead to a further frame (log 20). -/
def State.announceWithin : Nat → Fin 8 → State → State
  | 0, _, s => s
  | n + 1, k, s =>
    match s.statusOf k with
    | some b =>
      ((s.send Config.allStations (.state b)).restartRefresh k).handOver (State.announceWithin n) b
    | none => s

/-- Form and offer a STATE frame for a line (R89, R90). -/
def State.announce (k : Fin 8) (s : State) : State := s.announceWithin Config.announceDepth k

/-- Announce a line if a field of its STATE body differs from an earlier state's (R89). -/
def State.announceChange (s before : State) (k : Fin 8) : State :=
  if s.statusOf k = before.statusOf k then s else s.announce k

/-- Announce every line of which a field changed since an earlier state, in port order. -/
def State.announceChanges (s before : State) : State :=
  allPorts.foldl (fun s k => s.announceChange before k) s

/-! ### Asks from the floor -/

/-- The REPLY to an ASK: REFUSED with a reason, or GRANTED (R73). -/
def State.reply (source : Station) (a : Ask) (reason : Option AskReason) (s : State) : State :=
  s.send source (.reply ⟨a.line, a.tag, reason.isSome, reason⟩)

/-- Answer an ASK that reached the line controller (R73): the record's change, the REPLY, and the STATE frame if a field
of it changed (R89). An operation R73 does not know is discarded, unless no record holds the line, which is found first
and refused. The REPLY is offered first (log 14). -/
def State.takeAsk (source : Station) (a : Ask) (s : State) : State :=
  match a.op with
  | none => if (s.recordFor a.line).isNone then s.reply source a (some .outOfService) else s
  | some op =>
    let q : LineRequest := ⟨op, ⟨source, a.port⟩, a.secondPort, a.wanted, s.peerIsSupervisor source⟩
    let reason := s.requestRefusal a.line q
    let s1 := s.takeRequest a.line q
    let s2 := s1.reply source a reason
    match s.recordFor a.line with
    | some k => s2.announceChange s k
    | none => s2

/-! ### Conflicts -/

/-- A conflict sighting of port `k`'s line by a lower-numbered PRESENT station (R92). -/
def State.sightConflict (k : Fin 8) (p : Station) (s : State) : State :=
  match s.records[k] with
  | none => s
  | some r =>
    match r.conflict with
    | some _ => s.setRecord k { r with conflict := some ⟨p, s.blocks 1000⟩ }
    | none =>
      ((s.commitRecord k { r with conflict := some ⟨p, s.blocks 1000⟩ }).notify
        (.lineConflict (s.portCfg k).line k p)).announce k

/-- Whether a station's presence on the floor makes the station yield lines it lists: PRESENT and lower-numbered
(R92). -/
def State.outranks (s : State) (p : Station) : Bool :=
  p.toNat < s.cfg.station.toNat && (s.peer p).state == .present

/-- The sightings of a card heard, or of the cards stored at the entry to ACTIVE (R92). The lines that one card lists
yield LINE_PORT0 first; R92 gives them no order (log 39). -/
def State.sightCard (p : Station) (s : State) : State :=
  if s.onFloor && s.outranks p then
    allPorts.foldl (fun s k =>
      if (s.records[k]).isSome && (s.peer p).lists (s.portCfg k).line then s.sightConflict k p else s) s
  else s

/-- A STATE frame of another station at the line controller (R90, R92). -/
def State.sightState (source : Station) (line : LineNo) (s : State) : State :=
  match s.recordFor line with
  | some k => if s.outranks source then s.sightConflict k source else s
  | none => s

/-- Whether some PRESENT lower-numbered station's stored card lists a line (R93). -/
def State.conflictStands (s : State) (line : LineNo) : Bool :=
  allStationNumbers.any fun p => s.outranks p && (s.peer p).lists line

/-- The framer's accepted far-end signalling into a record whose last out-of-service cause has ended (R67). -/
def State.returnToService (k : Fin 8) (s : State) : State :=
  match s.records[k] with
  | some r =>
    if s.outCause k r then s.commitRecord k r
    else s.commitRecord k { r with farSignalling := (s.ports[k]).accepted }
  | none => s

/-! ### Lost peers -/

/-- Peer lost at the line controller: the station's entries leave every record (R91), LINE_PORT0 first. The claims of
the taps whose segments this closes follow that order; R177 lets either be taken first (log 39). -/
def State.linesLosePeer (p : Station) (s : State) : State :=
  allPorts.foldl (fun s k =>
    match s.records[k] with
    | some r =>
      if r.members.any (fun m => m.party.station == p) || r.listeners.any (fun l => l.party.station == p) then
        (s.commitRecord k { r with
          members := r.members.filter fun m => m.party.station != p
          listeners := r.listeners.filter fun l => l.party.station != p }).announceChange s k
      else s
    | none => s) s

/-! ### What the framer hands over -/

/-- A record after its port's accepted signalling and alarms have changed (R81, R87). In OUT_OF_SERVICE the signalling
is not taken (R67). -/
def LineRecord.takePort (out : Bool) (before : Signalling) (p : LinePort) (r : LineRecord) : LineRecord :=
  if out || p.accepted = before then r
  else
    { r with
      farSignalling := p.accepted
      outRing := if p.accepted = .ring ∨ p.accepted = .offhook then none else r.outRing }

/-- Put a port's work in place: counters, notices, the view, the open segment's ALARM, and the line record with its
announcement (R57, R58, R63, R81, R87, R182). -/
def State.commitPort (k : Fin 8) (w : PortWork) (s : State) : State :=
  let old := s.ports[k]
  let line := (s.portCfg k).line
  let s1 := ((s.setPort k w.port).count (·.addLine k w.parityErrors w.ooaPeriods w.lineSlips)).notifyAll
    (w.notices.map fun (n : Defect × Bool) => Event.lineAlarm line k n.1 n.2)
  let s2 := if old.alarms.declaresMore w.port.alarms then s1.markAlarm k else s1
  match s2.records[k] with
  | some r =>
    if old.accepted = w.port.accepted ∧ old.alarms = w.port.alarms then s2
    else (s2.commitRecord k (r.takePort (s2.outCause k r) old.accepted w.port)).announceChange s k
  | none => s2

/-- Let a used port work on an event. -/
def State.workPort (k : Fin 8) (f : PortSettings → PortWork → PortWork) (s : State) : State :=
  if s.used k then s.commitPort k (f (s.portCfg k) (PortWork.start s.ports[k])) else s

/-! ### Leaving -/

/-- The line controller at a LEAVE or CLASHED, the station already in its new state: every line goes OUT_OF_SERVICE,
conflict marks are cleared, refresh stops; nothing is announced (R35, R67, R90). -/
def State.linesLeave (s : State) : State :=
  allPorts.foldl (fun s k => s.changeRecord k fun r => { r with conflict := none, refresh := none }) s

/-- The framers at a LEAVE or CLASHED (R41). -/
def State.portsLeave (s : State) : State :=
  allPorts.foldl (fun s k => if s.used k then s.setPort k (s.ports[k]).resetReceive else s) s

end Sys2Proof.Machine
end

