-- ==== Sys2Proof/Machine/AskOps.lean ====
section
/-! DEFINITION. Asks of the position and speaker controllers, their outcomes, channel bindings and talk (05, R107
to R113; 07, R135 to R137, R144 to R146). -/

namespace Sys2Proof.Machine

/-! ### The position's asks -/

/-- The ASK frame of an ask (R107, R197): the second port is carried for RESUME, the wanted setting for PRIVACY. -/
def askFrame (line : LineNo) (op : AskOp) (port second : Port) (wanted : Bool) (tag : Octet) : Body :=
  .ask ⟨line, some op, port, second, wanted, tag⟩

/-- The port field of a position's ask: the held-from port for RESUME, else the asking handset's (R108). -/
def PendingAsk.port (a : PendingAsk) : Port := if a.op = .resume then .handset a.oldPort else .handset a.handset

/-- The second port field: the asking handset's for RESUME, else code 0. -/
def PendingAsk.second (a : PendingAsk) : Port := if a.op = .resume then .handset a.handset else .handset 0

/-- The outcome of an ask of the position (R112, R113). -/
def State.takeOutcome (a : PendingAsk) (refused : Bool) (reason : Option AskReason) (s : State) : State :=
  if refused then s.notify (.askRefused a.line a.op (.handset a.handset) reason)
  else
    match a.op with
    | .take => s.addBinding a.handset (lineCircuit a.line)
    | .resume =>
      { s with held := s.held.filter fun (e : HeldLine) => e.line != a.line }.addBinding a.handset
        (lineCircuit a.line)
    | .hold =>
      let s' := s.removeBinding a.handset (lineCircuit a.line)
      { s' with held := s'.held ++ [⟨a.line, a.handset, 0⟩] }
    | _ => s

/-- A request to the station's own line controller (R74): its outcome is taken as part of the request, before the STATE
frame it leads to is handed over (R107). -/
def State.askLocally (a : PendingAsk) (s : State) : State :=
  let q := s.ownRequest a.op a.port a.second a.wanted
  let reason := s.requestRefusal a.line q
  let s1 := (s.takeTag.takeRequest a.line q).takeOutcome a reason.isSome reason
  match s.recordFor a.line with
  | some k => s1.announceChange s k
  | none => s1

/-- Send an ask of a handset to the home of its line (R107): locally, or as an ASK frame with a pending entry and its
100 ms timer. -/
def State.sendAsk (op : AskOp) (line : LineNo) (h old : Fin 2) (wanted : Bool) (s : State) : State :=
  match s.homeOf line with
  | none => s
  | some st =>
    let a : PendingAsk := ⟨s.nextTag, line, op, h, old, wanted, st, s.blocks 100⟩
    if st = s.cfg.station then s.askLocally a
    else
      { s.takeTag with pendingAsks := s.pendingAsks ++ [a] }.send st
        (askFrame line op a.port a.second wanted a.tag)

/-- Send an ask that takes no pending entry, DROP or UNLISTEN, to the home of a line (R107, R135). -/
def State.sendPlain (op : AskOp) (line : LineNo) (p : Port) (s : State) : State :=
  match s.homeOf line with
  | none => s
  | some st =>
    if st = s.cfg.station then
      let s1 := s.takeTag.takeRequest line (s.ownRequest op p p false)
      match s.recordFor line with
      | some k => s1.announceChange s k
      | none => s1
    else s.takeTag.send st (askFrame line op p (.handset 0) false s.nextTag)

/-- A STATE frame heard from the floor bus at the position controller, and at the speaker controller behind it (R97);
the homes of its DROPs are other stations. -/
def State.takeStateFrame (source : Station) (b : LineStatus) (s : State) : State :=
  let (s1, p1) := s.positionTakes source b
  let s2 := p1.foldl (fun s p => s.sendPlain .drop b.line p) s1
  let (s3, p2) := s2.speakerTakes source b
  p2.foldl (fun s p => s.sendPlain .drop b.line p) s3

/-! ### Channel bindings -/

/-- The outcome of a channel's LISTEN (R137). -/
def State.listenOutcome (k : Fin 8) (line : LineNo) (refused : Bool) (reason : Option AskReason) (s : State) : State :=
  if refused then (s.turnOff k).notify (.askRefused line .listen (.speakerCh k) reason)
  else (s.setChannel k { s.channels[k] with binding := .line line, wait := none, misses := 0 }).syncStreams

/-- Apply a new binding to a channel that has none (R136); a LINE whose home is none leaves the channel OFF with an
ASK_NO_ANSWER notice (R137). A LISTEN of the station's own line has its outcome at once: the channel is WAITING for no
time the panel can see, but a view that changes back keeps its mark (R143, R192). -/
def State.applyBinding (k : Fin 8) (b : ChannelBinding) (s : State) : State :=
  match b with
  | .unbound => s
  | .hoot _ =>
    (s.setChannel k { s.channels[k] with binding := b, talkers := [], wait := none, misses := 0 }).syncStreams
  | .line line =>
    match s.homeOf line with
    | none => s.notify (.askNoAnswer line .listen (.speakerCh k))
    | some st =>
      let waiting := s.takeTag.setChannel k { s.channels[k] with
        binding := b, talkers := [], misses := 0, wait := some ⟨s.nextTag, st, s.blocks 100⟩ }
      if st = s.cfg.station then
        let q := s.ownRequest .listen (.speakerCh k) (.speakerCh k) false
        let reason := s.requestRefusal line q
        let s1 := (waiting.takeRequest line q).listenOutcome k line reason.isSome reason
        match s.recordFor line with
        | some j => s1.announceChange s j
        | none => s1
      else waiting.send st (askFrame line .listen (.speakerCh k) (.handset 0) false s.nextTag)

/-! ### Talk -/

/-- The circuit of a channel, if it is bound. -/
def State.channelCircuit (s : State) (k : Fin 8) : Option Circuit := (s.channels[k]).binding.circuit

/-- Drop the microphone's sequence count on a channel's circuit (R145). -/
def State.dropMic (k : Fin 8) (s : State) : State :=
  match s.channelCircuit k with
  | some c => s.dropSequence c .mic
  | none => s

/-- End the talk, whichever channel is TALKING (R145). -/
def State.endTalk (s : State) : State :=
  match s.talk with
  | some k => (s.dropMic k).setTalk none
  | none => s

/-- Talk on a channel (R144): a talk on another channel ends, and the send is not interrupted when both are bound to
the same circuit. -/
def State.startTalk (k : Fin 8) (s : State) : State :=
  match s.talk with
  | some j =>
    if j = k then s
    else if s.channelCircuit j = s.channelCircuit k then s.setTalk (some k)
    else (s.dropMic j).setTalk (some k)
  | none => s.setTalk (some k)

/-- A channel gives up its present binding (R135). -/
def State.giveUp (k : Fin 8) (s : State) : State :=
  let s1 := if s.talk = some k then s.endTalk else s
  match (s.channels[k]).binding with
  | .line line => (s1.turnOff k).sendPlain .unlisten line (.speakerCh k)
  | _ => s1.turnOff k

/-- A remote-mute bit set at the speaker controller (R146). -/
def State.remoteMuted (k : Fin 8) (s : State) : State :=
  if s.talk = some k then s.endTalk.notify (.talkStopped k) else s

/-! ### Replies -/

/-- The channel whose wait a REPLY answers (R137). -/
def State.waitingChannel (s : State) (source : Station) (r : Reply) : Option (Fin 8) :=
  allPorts.find? fun k =>
    s.waitsFor r.line k &&
    match (s.channels[k]).wait with
    | some w => w.tag == r.tag && w.station == source
    | none => false

/-- Whether a REPLY answers a pending ask (R112). -/
def PendingAsk.answers (source : Station) (r : Reply) (a : PendingAsk) : Bool :=
  a.tag == r.tag && a.station == source && a.line == r.line

/-- A REPLY handed on from the floor bus (R112, R137). -/
def State.takeReply (source : Station) (r : Reply) (s : State) : State :=
  match s.pendingAsks.find? (·.answers source r) with
  | some a =>
    { s with pendingAsks := s.pendingAsks.filter fun (x : PendingAsk) => !x.answers source r }.takeOutcome a
      r.refused r.reason
  | none =>
    match s.waitingChannel source r with
    | some k => s.listenOutcome k r.line r.refused r.reason
    | none => s

end Sys2Proof.Machine
end

