-- ==== Sys2Proof/Machine/CallOps.lean ====
section
/-! DEFINITION. The call controller: slots, CALL frames, glare, and the signal word (06, R116 to R132). -/

namespace Sys2Proof.Machine

/-! ### Slots -/

/-- Replace a slot. -/
def State.setSlot (i : Fin 4) (x : Slot) (s : State) : State := { s with slots := s.slots.set i x }

/-- The lowest FREE slot (R116). -/
def State.freeSlot (s : State) : Option (Fin 4) := allSlots.find? fun i => (s.slots[i]).state == .free

/-- The CALLER slot a call id of this station names, if that slot is one (R116). -/
def State.callerSlot (s : State) (id : CallId) : Option (Fin 4) :=
  if id.station = s.cfg.station ∧ (s.slots[id.slot]).role = some .caller then some id.slot else none

/-- The CALLED slot that holds a call id (R116). -/
def State.calledSlot (s : State) (id : CallId) : Option (Fin 4) :=
  allSlots.find? fun i => (s.slots[i]).role == some .called && (s.slots[i]).id == some id

/-- The called field of a target (R117). -/
def CallTarget.called : CallTarget → Called
  | .party p => .port p.port
  | .group g => .group g

/-- Whether a slot's call is a hunt call at its caller (R125). -/
def Slot.isHunt (x : Slot) : Bool :=
  match x.target with
  | some (.group _) => true
  | _ => false

/-- The caller port a slot's frames carry (R117). -/
def Slot.callerPort (x : Slot) : Port :=
  match x.role, x.handset, x.peer with
  | some .caller, some h, _ => .handset h
  | _, _, some p => p.port
  | _, _, none => .handset 0

/-- The called field a slot's frames carry (R117): the OFFER's. In an END of a call that was answered on the other handset
R117 says `the called port or group` alone; it is the OFFER's there too (log 46). -/
def Slot.calledField (x : Slot) : Called :=
  match x.target, x.called with
  | some t, _ => t.called
  | none, some c => c
  | none, none => .port (.handset 0)

/-- The call id of a slot. -/
def Slot.callId (x : Slot) : CallId := x.id.getD ⟨0#6, 0⟩

/-- The station a slot's frames go to: its peer's, or all stations for a hunt call without a peer (R117). -/
def Slot.peerStation (x : Slot) : Station :=
  match x.peer with
  | some p => p.station
  | none => Config.allStations

/-- Offer a CALL frame with a slot's id, caller port and called field (R117). -/
def State.sendSlotFrame (target : Station) (kind : CallKind) (reason : CallReason) (x : Slot) (s : State) : State :=
  s.send target (.call ⟨kind, x.callId, x.callerPort, x.calledField, reason⟩)

/-- Free a slot: its binding is removed if it has one (R123, R128). -/
def State.freeCall (i : Fin 4) (s : State) : State :=
  let x := s.slots[i]
  let s' := s.setSlot i Slot.empty
  match x.state, x.handset with
  | .talking, some h => s'.removeBinding h (callCircuit x.callId)
  | _, _ => s'

/-- Free a slot with its CALL_ENDED notice (R119, R123). -/
def State.endCall (i : Fin 4) (reason : CallReason) (s : State) : State :=
  (s.freeCall i).notify (.callEnded i (s.slots[i]).callId reason)

/-- End a slot's call on request: END CLEARED to the peer, the slot freed, no notice (R123). -/
def State.hangUp (i : Fin 4) (s : State) : State :=
  (s.sendSlotFrame (s.slots[i]).peerStation .callEnd .cleared s.slots[i]).freeCall i

/-- The TALKING slot of a handset's CALL binding. -/
def State.slotOfBinding (s : State) (h : Fin 2) (c : Circuit) : Option (Fin 4) :=
  allSlots.find? fun i =>
    (s.slots[i]).state == .talking && (s.slots[i]).handset == some h && callCircuit (s.slots[i]).callId == c

/-- A CALL binding handed to the call controller by RELEASE or HOOK_ON (R102, R109, R123). -/
def State.releaseCall (h : Fin 2) (c : Circuit) (s : State) : State :=
  match s.slotOfBinding h c with
  | some i => s.hangUp i
  | none => s.removeBinding h c

/-- A slot that reaches TALKING on a handset, with its CALL binding (R120, R122, R126). -/
def State.connect (i : Fin 4) (x : Slot) (h : Fin 2) (s : State) : State :=
  (s.setSlot i { x with state := .talking, handset := some h, timer := none }).addBinding h (callCircuit x.callId)

/-! ### Frames at a CALLER slot -/

/-- Whether a CALLER slot takes a frame from a station (R119, R125): a point call from its peer, a hunt call from any
station until it has a peer. -/
def Slot.hears (source : Station) (x : Slot) : Bool :=
  match x.peer with
  | some p => p.station == source
  | none => x.isHunt

/-- A CALL ALERT (R119, R125). -/
def State.takeAlert (source : Station) (f : CallFrame) (s : State) : State :=
  match s.callerSlot f.id with
  | some i =>
    let x := s.slots[i]
    if x.state = .offering ∧ x.hears source then
      s.setSlot i { x with state := .ringback, timer := some (s.blocks 20000) }
    else s
  | none => s

/-- A CALL ACCEPT at a station that is its caller (R119, R120, R125). A slot that is not a CALLER slot has given the call
up: the END CLEARED of the FREE row answers it (log 21), with the ACCEPT's own caller port and called field, which R119 does not
give (log 47). -/
def State.takeAccept (source : Station) (f : CallFrame) (s : State) : State :=
  if f.id.station = s.cfg.station then
    match s.callerSlot f.id with
    | some i =>
      let x := s.slots[i]
      match x.state, f.called, x.handset with
      | .talking, _, _ =>
        if x.isHunt ∧ ¬x.hears source then s.sendSlotFrame source .callEnd .answeredElsewhere x else s
      | _, .port p, some h =>
        if x.hears source then
          let s' := s.connect i { x with peer := some ⟨source, p⟩ } h
          if x.isHunt then s'.sendSlotFrame Config.allStations .callEnd .answeredElsewhere x else s'
        else s
      | _, _, _ => s
    | none => s.send source (.call ⟨.callEnd, f.id, f.callerPort, f.called, .cleared⟩)
  else s

/-- A CALL DECLINE (R119, R125). -/
def State.takeDecline (source : Station) (f : CallFrame) (s : State) : State :=
  match s.callerSlot f.id with
  | some i =>
    let x := s.slots[i]
    if (x.state = .offering ∨ x.state = .ringback) ∧ !x.isHunt ∧ x.hears source then s.endCall i f.reason else s
  | none => s

/-- Whether a TALKING CALLED slot of a hunt call ignores the END: the broadcast ANSWERED_ELSEWHERE (R125). -/
def Slot.ignoresEnd (target : Station) (reason : CallReason) (x : Slot) : Bool :=
  x.state == .talking && target == Config.allStations && reason == .answeredElsewhere &&
  match x.called with
  | some (.group _) => true
  | _ => false

/-- A CALL END (R119, R123, R125). -/
def State.takeEnd (source target : Station) (f : CallFrame) (s : State) : State :=
  if f.id.station = s.cfg.station then
    match s.callerSlot f.id with
    | some i =>
      match (s.slots[i]).peer with
      | some p => if p.station = source then s.endCall i f.reason else s
      | none => s
    | none => s
  else
    match s.calledSlot f.id with
    | some i =>
      if source = f.id.station ∧ !(s.slots[i]).ignoresEnd target f.reason then s.endCall i f.reason else s
    | none => s

/-! ### Offers -/

/-- The slot whose call an offer crosses on the same handset pair, with its handset (R126). Of two such slots the lowest
is meant; R126 speaks of one (log 43). The station an offer comes from is its call id's (log 48). -/
def State.glareSlot (s : State) (f : CallFrame) : Option (Fin 4 × Fin 2) :=
  allSlots.findSome? fun i =>
    let x := s.slots[i]
    match x.handset with
    | some h =>
      if x.role = some .caller ∧ (x.state = .offering ∨ x.state = .ringback) ∧
          x.target = some (.party ⟨f.id.station, f.callerPort⟩) ∧ f.called = .port (.handset h) then some (i, h)
      else none
    | none => none

/-- A CALLED slot for an offer, not yet in a state of its own. -/
def CallFrame.calledSlot (f : CallFrame) : Slot :=
  { Slot.empty with
    role := some .called
    id := some f.id
    peer := some ⟨f.id.station, f.callerPort⟩
    called := some f.called }

/-- Answer an offer to its caller with the fields of the OFFER (R117). -/
def State.answerOffer (f : CallFrame) (kind : CallKind) (reason : CallReason) (s : State) : State :=
  s.send f.id.station (.call { f with kind := kind, reason := reason })

/-- Take an offer in the lowest FREE slot: ALERTING, ALERT sent, CALL_OFFER queued (R121 step 5). -/
def State.alertOn (i : Fin 4) (f : CallFrame) (s : State) : State :=
  ((s.setSlot i { f.calledSlot with state := .alerting, timer := some (s.blocks 20000) }).answerOffer f .alert
    .none).notify (.callOffer i f.id ⟨f.id.station, f.callerPort⟩ f.called)

/-- Step 1 of R121: a CALLED slot that already holds the offered id is freed. -/
def State.supersede (f : CallFrame) (s : State) : State :=
  match s.calledSlot f.id with
  | some i => s.endCall i .cleared
  | none => s

/-- Glare settled by station number (R126). -/
def State.settleGlare (i : Fin 4) (h : Fin 2) (f : CallFrame) (s : State) : State :=
  if s.cfg.station.toNat < f.id.station.toNat then s.answerOffer f .decline .glare
  else
    let s1 := (s.sendSlotFrame f.id.station .callEnd .glare s.slots[i]).endCall i .glare
    match s1.freeSlot with
    | some j =>
      (s1.send f.id.station (.call ⟨.accept, f.id, f.callerPort, .port (.handset h), .none⟩)).connect j
        f.calledSlot h
    | none => s1

/-- A point offer (R121). -/
def State.takePointOffer (f : CallFrame) (s : State) : State :=
  match f.called with
  | .port (.handset _) =>
    let s1 := s.supersede f
    match s1.glareSlot f with
    | some (i, h) => s1.settleGlare i h f
    | none =>
      if !s1.cfg.panelPresent then s1.answerOffer f .decline .noAnswer
      else
        match s1.freeSlot with
        | some i => s1.alertOn i f
        | none => s1.answerOffer f .decline .busy
  | _ => s

/-- Whether a hunt offer's group is one this station answers for (R124). -/
def State.answersGroup (s : State) (f : CallFrame) : Bool :=
  match f.called with
  | .group g => s.cfg.groups.any fun n => n == g.toNat
  | .port _ => false

/-- A hunt offer (R124). Step 1 of R121 applies first, at a station that then ignores the offer too, and to an OFFER that
names a port instead of a group, which is then ignored: R124 leaves both open (log 36). -/
def State.takeHuntOffer (f : CallFrame) (s : State) : State :=
  let s1 := s.supersede f
  if s1.answersGroup f && s1.cfg.panelPresent then
    match s1.freeSlot with
    | some i => s1.alertOn i f
    | none => s1
  else s1

/-- A CALL OFFER: an offer whose call id names this station is ignored (R116, R121, R124). The caller is the station of
the call id; the frame's source is not compared with it (log 48). -/
def State.takeOffer (target : Station) (f : CallFrame) (s : State) : State :=
  if f.id.station = s.cfg.station then s
  else if target = Config.allStations then s.takeHuntOffer f
  else s.takePointOffer f

/-- A CALL frame handed on from the floor bus, by kind. -/
def State.takeCall (source target : Station) (f : CallFrame) (s : State) : State :=
  match f.kind with
  | .offer => s.takeOffer target f
  | .alert => s.takeAlert source f
  | .accept => s.takeAccept source f
  | .decline => s.takeDecline source f
  | .callEnd => s.takeEnd source target f

/-! ### Peers -/

/-- Peer lost at the call controller (R127), slot 0 first: R127 gives the CALL_ENDED notices no order (log 44). -/
def State.callsLosePeer (p : Station) (s : State) : State :=
  allSlots.foldl (fun s i =>
    match (s.slots[i]).peer with
    | some q => if q.station = p then s.endCall i .peerLost else s
    | none => s) s

/-! ### The signal word -/

/-- The 16-bit word with bit `n` alone. -/
def bitWord (n : Nat) : BitVec 16 := 1#16 <<< n

/-- The station of the last SET honoured for a bit. -/
def State.setSetter (n : Fin 16) (st : Station) (s : State) : State :=
  { s with setters := s.setters.set n (some st) }

/-- A SET of a buzz bit (R129, R130). -/
def State.setBuzz (n : Fin 8) (source : Station) (s : State) : State :=
  let s1 := ({ s with signalWord := s.signalWord ||| bitWord n.val }).setSetter ⟨n.val, by omega⟩ source
  if !s.signalWord.getLsbD n.val && !s.buzzMasked.getLsbD n.val then s1.notify (.buzz n (some source)) else s1

/-- A SET of remote-mute bit 8 + k, honoured from a supervisor (R132). -/
def State.setRemoteMute (k : Fin 8) (source : Station) (s : State) : State :=
  if s.peerIsSupervisor source then
    let s1 := ({ s with signalWord := s.signalWord ||| bitWord (8 + k.val) }).setSetter ⟨8 + k.val, by omega⟩ source
    if s.signalWord.getLsbD (8 + k.val) then s1 else s1.remoteMuted k
  else s.count fun c => { c with signalIgnored := c.signalIgnored.add 1 }

/-- A CLEAR of a bit; its setter stays (R129, R132). -/
def State.clearSignal (n : Nat) (s : State) : State := { s with signalWord := s.signalWord &&& ~~~(bitWord n) }

/-- A SIGNAL frame handed on from the floor bus (R129): a bit number above 15 is discarded. -/
def State.takeSignal (source : Station) (g : Signal) (s : State) : State :=
  let n := g.bit.toNat
  if n ≥ 16 then s
  else if g.set then
    if h : n < 8 then s.setBuzz ⟨n, h⟩ source
    else if h : n - 8 < 8 then s.setRemoteMute ⟨n - 8, h⟩ source
    else s
  else s.clearSignal n

/-- The call controller at a LEAVE or CLASHED (R35, R116, R129). The bindings are emptied by the position controller. -/
def State.callsLeave (s : State) : State :=
  { s with
    slots := Vector.replicate 4 Slot.empty
    signalWord := 0#16
    setters := Vector.replicate 16 none }

end Sys2Proof.Machine
end

