-- ==== Sys2Proof/Machine/Mixing.lean ====
section
/-! DEFINITION. Gain codes, scaling and clamping, and every mix of the station (09, R162 to R173). -/

namespace Sys2Proof.Machine

/-! ### Arithmetic -/

/-- The factor of a gain code, 4096 at unity (R162). -/
def gainFactor (c : Nat) : Nat := if c = 0 then 0 else (8 + c % 8) * 2 ^ (c / 8)

/-- A sample value scaled by a gain code: the product plus 2048, divided by 4096, rounded down (R163). -/
def scale (x : Int) (c : Nat) : Int := (x * gainFactor c + 2048) / 4096

/-- A value held to the sample range (R164). -/
def clampInt (x : Int) : Int := max (-32768) (min 32767 x)

/-- Whether a clamp changes a value: a clip (R164). -/
def clips (x : Int) : Bool := x < -32768 || x > 32767

/-- The sixteen exact totals of one stage of a mix. -/
abbrev Totals := Vector Int 16

/-- The totals of a stage clamped to samples (R164). -/
def clampAll (t : Totals) : Block := mapTable t fun _ x => BitVec.ofInt 16 (clampInt x)

/-- Whether a stage clips at any sample (R173). -/
def anyClip (t : Totals) : Bool := t.toList.any clips

/-- The exact sum of blocks at unity (R164). -/
def sumBlocks (bs : List Block) : Totals :=
  Vector.ofFn fun i => bs.foldl (fun a b => a + (b[i]).toInt) 0

/-- The exact sum of blocks, each scaled by its code (R164). -/
def sumScaled (bs : List (Block × Nat)) : Totals :=
  Vector.ofFn fun i => bs.foldl (fun a b => a + scale (b.1[i]).toInt b.2) 0

/-! ### Sources -/

/-- A home line's far block: the RX block while the record is ENGAGED or HELD, else zeros (R165). -/
def State.farBlock (s : State) (k : Fin 8) : Block :=
  match s.records[k] with
  | some r => if r.state = .engaged ∨ r.state = .held then (s.ports[k]).lastBlock else Block.silence
  | none => Block.silence

/-- The block a remote party yields on a circuit; zeros where it has no entry (R165). -/
def blockOf (ys : List Yielded) (c : Circuit) (p : Party) : Block :=
  match ys.find? fun y => y.circuit == c && y.party == p with
  | some y => y.block
  | none => Block.silence

/-- A handset's mouthpiece block as the mixes take it: zeros while on hook or muted (R165). -/
def State.mouthpiece (s : State) (io : AudioIn) (h : Fin 2) : Block :=
  if (s.handsets[h]).onHook || (s.handsets[h]).muted then Block.silence else io.mouthpiece[h]

/-- The block of a party on a circuit, whether the station's own or another's (R165, R166, R169). -/
def State.sourceBlock (s : State) (io : AudioIn) (ys : List Yielded) (c : Circuit) (p : Party) : Block :=
  if p.station = s.cfg.station then
    match p.port with
    | .handset h => s.mouthpiece io h
    | .linePort k => s.farBlock k
    | _ => Block.silence
  else blockOf ys c p

/-! ### The mixes -/

/-- The ACTIVE members of a line at the boundary, empty unless it is ENGAGED (R70). -/
def State.activeSet (s : State) (k : Fin 8) : List Party :=
  match s.records[k] with
  | some r => if r.state = .engaged then (r.members.filter (·.mode == .active)).map (·.party) else []
  | none => []

/-- The exact sum of a line's transmit mix (R166). -/
def State.lineTotals (s : State) (io : AudioIn) (ys : List Yielded) (k : Fin 8) : Totals :=
  sumBlocks ((s.activeSet k).map (s.sourceBlock io ys (lineCircuit (s.portCfg k).line)))

/-- The sources' blocks of a binding (R167): for a LINE every entry of the circuit and, at the home, the far block; for a
CALL the peer's entry alone. -/
def State.bindingSources (s : State) (ys : List Yielded) (h : Fin 2) (c : Circuit) : List Block :=
  match c with
  | .line line =>
    (ys.filter fun y => y.circuit == c).map (·.block) ++
      match s.homeOf line, s.recordFor line with
      | some st, some k => if st = s.cfg.station then [s.farBlock k] else []
      | _, _ => []
  | .call _ =>
    match s.slotOfBinding h c with
    | some i =>
      match (s.slots[i]).peer with
      | some p => [blockOf ys c p]
      | none => []
    | none => []
  | .hoot _ => []

/-- The binding mix (R167). -/
def State.bindingMix (s : State) (ys : List Yielded) (h : Fin 2) (c : Circuit) : Block :=
  clampAll (sumBlocks (s.bindingSources ys h c))

/-- The totals of the volume stage of an earpiece whose handset is OFF hook (R168). -/
def State.earpieceTotals (s : State) (io : AudioIn) (ys : List Yielded) (h : Fin 2) : Totals :=
  let pre := clampAll (sumScaled (((s.handsets[h]).bindings.map fun b => (s.bindingMix ys h b.circuit, b.balance)) ++
    [(io.mouthpiece[h], s.cfg.sidetone)]))
  sumScaled [(pre, (s.handsets[h]).volume)]

/-- An earpiece output block and whether it clips (R168, R173). -/
def State.earpiece (s : State) (io : AudioIn) (ys : List Yielded) (h : Fin 2) : Block × Bool :=
  if (s.handsets[h]).onHook then (Block.silence, false)
  else (clampAll (s.earpieceTotals io ys h), anyClip (s.earpieceTotals io ys h))

/-- The sum of a channel's admitted talkers (R169). -/
def State.channelSum (s : State) (io : AudioIn) (ys : List Yielded) (k : Fin 8) : Block :=
  match s.channelCircuit k with
  | some c => clampAll (sumBlocks ((s.channels[k]).talkers.map fun t => s.sourceBlock io ys c t.party))
  | none => Block.silence

/-- The channels that go into an output: not OFF, not muted (R169). -/
def State.outputChannels (s : State) (o : Fin 2) : List (Fin 8) :=
  allPorts.filter fun k =>
    (s.channels[k]).output == o && !(s.channels[k]).muted && (s.channels[k]).binding != .unbound

/-- Whether an output is ducked: the TALKING channel's output (R144, R169). -/
def State.ducks (s : State) (o : Fin 2) : Bool :=
  match s.talk with
  | some k => (s.channels[k]).output == o
  | none => false

/-- A speaker output block and whether its final stage clips (R169, R173). -/
def State.speaker (s : State) (io : AudioIn) (ys : List Yielded) (o : Fin 2) : Block × Bool :=
  let pre := clampAll (sumScaled ((s.outputChannels o).map fun k => (s.channelSum io ys k, (s.channels[k]).volume)))
  let master := sumScaled [(pre, s.masters[o])]
  if s.ducks o then
    let duck := sumScaled [(clampAll master, s.cfg.duck)]
    (clampAll duck, anyClip master || anyClip duck)
  else (clampAll master, anyClip master)

/-- Every mix of a boundary, and the clip counters (R166 to R169, R173). -/
def State.mix (io : AudioIn) (ys : List Yielded) (s : State) : State :=
  { s with
    earpieceOut := mapTable s.earpieceOut fun h _ => (s.earpiece io ys h).1
    speakerOut := mapTable s.speakerOut fun o _ => (s.speaker io ys o).1
    lineOut := mapTable s.lineOut fun k b => if s.used k then clampAll (s.lineTotals io ys k) else b }.count
    fun c =>
      { c with
        clipsHandset := mapTable c.clipsHandset fun h n => n.add (if (s.earpiece io ys h).2 then 1 else 0)
        clipsSpeaker := mapTable c.clipsSpeaker fun o n => n.add (if (s.speaker io ys o).2 then 1 else 0)
        clipsLine := mapTable c.clipsLine fun k n =>
          n.add (if s.used k && anyClip (s.lineTotals io ys k) then 1 else 0) }

end Sys2Proof.Machine
end

