-- ==== Sys2Proof/Machine/Admission.lean ====
section
/-! DEFINITION. What each speaker channel hears and its talker admission at a block boundary (07, R140 to R143). -/

namespace Sys2Proof.Machine

/-- A source of a channel with its level for the boundary. -/
structure Source where
  party : Party
  level : Nat
  deriving DecidableEq, Repr

/-- Whether a handset is a local source of a line: bound to it, OFF hook, not muted (R140). -/
def State.handsetSource (s : State) (line : LineNo) (h : Fin 2) : Bool :=
  s.isBound h (lineCircuit line) && !(s.handsets[h]).onHook && !(s.handsets[h]).muted

/-- The port of a line whose far end is a source: the station is home to the line and its record is ENGAGED or HELD
(R140). -/
def State.farSource (s : State) (line : LineNo) : Option (Fin 8) :=
  if s.homeOf line = some s.cfg.station then
    match s.recordFor line with
    | some k =>
      match s.records[k] with
      | some r => if r.state = .engaged ∨ r.state = .held then some k else none
      | none => none
    | none => none
  else none

/-- The ports of the local sources of a line (R140). -/
def State.localSources (s : State) (line : LineNo) : List Port :=
  (bothHandsets.filter (s.handsetSource line)).map Port.handset ++
  match s.farSource line with
  | some k => [.linePort k]
  | none => []

/-- The lines the station's speaker channels listen to. -/
def State.channelLines (s : State) : List LineNo :=
  distinct (allPorts.filterMap fun k =>
    match (s.channels[k]).binding with
    | .line n => if s.channelPlays k then some n else none
    | _ => none)

/-- The local sources of all channels (R140). -/
def State.allLocalSources (s : State) : List Port := distinct (s.channelLines.flatMap s.localSources)

/-- The block a local source's level is taken from (R172). -/
def State.localBlock (s : State) (io : AudioIn) (p : Port) : Block :=
  match p with
  | .handset h => io.mouthpiece[h]
  | .linePort k => s.farBlock k
  | _ => Block.silence

/-- The level kept for a local source; 0 when it first becomes one (R140). -/
def State.localLevel (s : State) (p : Port) : Nat :=
  match s.localLevels.find? fun e => e.1 == p with
  | some e => e.2
  | none => 0

/-- The levels of the local sources at a boundary; those of former sources are discarded (R140, R172). -/
def State.updateLocalLevels (io : AudioIn) (s : State) : State :=
  { s with localLevels := s.allLocalSources.map fun p => (p, levelAfter (s.localLevel p) (s.localBlock io p)) }

/-- The sources of a channel at a boundary, levels updated (R140). -/
def State.sources (s : State) (ys : List Yielded) (k : Fin 8) : List Source :=
  match (s.channels[k]).binding with
  | .unbound => []
  | .hoot n => (ys.filter fun y => y.circuit == .hoot n).map fun y => ⟨y.party, y.level⟩
  | .line n =>
    ((ys.filter fun y => y.circuit == .line n).map fun y => ⟨y.party, y.level⟩) ++
    (s.localSources n).map fun p => ⟨s.own p, s.localLevel p⟩

/-- The level of a source among the sources of a channel, if it is one. -/
def levelIn (src : List Source) (p : Party) : Option Nat := (src.find? fun x => x.party == p).map (·.level)

/-- Step 1 of R141: admitted sources that are no longer sources leave; the others take their levels. -/
def departed (src : List Source) (set : List Talker) : List Talker :=
  set.filterMap fun t => (levelIn src t.party).map fun l => { t with level := l }

/-- Step 2 of R141: the hangover counts, and the sources whose count reaches HANGOVER. -/
def hangoverStep (gate hangover : Nat) (set : List Talker) : List Talker :=
  (set.map fun t => { t with hangover := if t.level ≥ gate then 0 else t.hangover + 1 }).filter
    fun t => t.level ≥ gate || t.hangover < hangover

/-- Whether one candidate is taken before another: the higher level, then the party that stands before (R141). -/
def Source.before (a b : Source) : Bool := a.level > b.level || (a.level == b.level && a.party.before b.party)

/-- A candidate put in its place. -/
def insertSource (a : Source) : List Source → List Source
  | [] => [a]
  | b :: t => if a.before b then a :: b :: t else b :: insertSource a t

/-- The candidates in the order R141 takes them. -/
def candidates (gate : Nat) (src : List Source) (set : List Talker) : List Source :=
  (src.filter fun x => x.level ≥ gate && !(set.any fun t => t.party == x.party)).foldr insertSource []

/-- The admitted source of lowest level, the most recently admitted among equals (R141). -/
def lowestTalker : List Talker → Option Talker
  | [] => none
  | t :: ts =>
    match lowestTalker ts with
    | none => some t
    | some u => if t.level < u.level then some t else some u

/-- A set without one talker. -/
def withoutTalker (p : Party) (set : List Talker) : List Talker := set.filter fun t => t.party != p

/-- One candidate meets the set (R141, step 3). -/
def meetCandidate (limit : Nat) (set : List Talker) (x : Source) : List Talker :=
  if set.length < limit then set ++ [⟨x.party, 0, x.level⟩]
  else
    match lowestTalker set with
    | some low =>
      if x.level > low.level + low.level / 2 then withoutTalker low.party set ++ [⟨x.party, 0, x.level⟩] else set
    | none => set

/-- The talker set of a channel after the three steps of R141. A source removed in step 2 has a level below GATE, so it
is no candidate of step 3. -/
def admitSources (limit gate hangover : Nat) (src : List Source) (set : List Talker) : List Talker :=
  let set2 := hangoverStep gate hangover (departed src set)
  (candidates gate src set2).foldl (meetCandidate limit) set2

/-- Every channel's admission at a boundary (R141). -/
def State.admitAll (ys : List Yielded) (s : State) : State :=
  s.mapTalkers fun k c =>
    if s.channelPlays k then admitSources s.talkerLimit s.cfg.gate s.cfg.hangover (s.sources ys k) c.talkers
    else c.talkers

/-- A set trimmed to a limit, the lowest level leaving first (R142); `n` bounds the removals. -/
def trimTalkers (limit : Nat) : Nat → List Talker → List Talker
  | 0, set => set
  | n + 1, set =>
    if set.length ≤ limit then set
    else
      match lowestTalker set with
      | some low => trimTalkers limit n (withoutTalker low.party set)
      | none => set

/-- The talker limit set by the panel (R142). -/
def State.setTalkerLimit (limit : Nat) (s : State) : State :=
  ({ s with talkerLimit := limit }).mapTalkers fun _ c => trimTalkers limit c.talkers.length c.talkers

/-- Peer lost at the speaker controller: the station's sources leave every talker set (R139). -/
def State.talkersLosePeer (p : Station) (s : State) : State :=
  s.mapTalkers fun _ c => c.talkers.filter fun t => t.party.station != p

end Sys2Proof.Machine
end

