-- ==== Sys2Proof/Machine/Leaving.lean ====
section
/-! DEFINITION. The station's way between its states once the load has completed: LISTENING, DUPLICATE, ACTIVE, LEFT
and CLASHED (02, R32 to R36), and the clash window (01, R18). -/

namespace Sys2Proof.Machine

/-! ### Leaving -/

/-- Every block at a LEAVE or CLASHED, the station already in its new state (R35, R36; log 18). The bindings go
without notices; the station's mirrors are UNKNOWN, so that no change of home is left to act on. -/
def State.leaveBlocks (s : State) : State :=
  s.linesLeave.portsLeave.callsLeave.positionLeaves.speakerLeaves.removeStreams fun _ => true

/-- The beacon interval and the listen period stopped (R13, R35). -/
def State.stopStationTimers (s : State) : State := { s with beaconTimer := none, listenTimer := none }

/-- A LEAVE taken in LISTENING, DUPLICATE or ACTIVE: the queue is flushed, and from ACTIVE alone the LEAVING beacon is
accepted (R12, R35). -/
def State.leaveFloor (s : State) : State :=
  let s1 := s.flushQueue.stopStationTimers.enter .left
  (if s.isActive then s1.sendLeaving else s1).leaveBlocks

/-- The entry to CLASHED (R18, R36). The CLASHED notice stands before the RING_STOP notices of the mirrors that become
UNKNOWN; the manual gives them no order (log 32). -/
def State.declareClashed (s : State) : State :=
  (({ s.flushQueue.stopStationTimers with clashWindow := [] }.enter .clashed).notify .clashed).leaveBlocks

/-- A clash event: counted, and taken by the clash window in ACTIVE (R5, R18). -/
def State.takeClash (s : State) : State :=
  let s1 := s.count fun c => { c with clashEvents := c.clashEvents.add 1 }
  if s1.isActive then
    if s1.clashWindow.length ≥ Config.clashWindowCapacity then s1.declareClashed
    else { s1 with clashWindow := s1.clashWindow ++ [s1.blocks 1000] }
  else s1

/-! ### Listening -/

/-- A home line after the station cause has ended: the far-end signalling is taken and the state derived (R35, R67). The lines return LINE_PORT0 first, an
order R35 leaves open (log 39). -/
def State.linesReturn (s : State) : State :=
  allPorts.foldl (fun t k => (t.returnToService k).announceChange t k) s

/-- The entry to LISTENING from DUPLICATE or LEFT (R32, R34): a fresh listen period, the clash window emptied, the
station a home candidate again, its lines back in service. -/
def State.enterListening (s : State) : State :=
  let s1 := { s.enter .listening with clashWindow := [], listenTimer := some (s.blocks 300) }
  (s1.followHomes s).linesReturn

/-- A duplicate sighting in LISTENING (R32): the listen period stops, the notice is queued, and the station is no longer
a home candidate (R94). The DUPLICATE notice stands before the RING_STOP notices that this change of home may lead to;
the manual gives them no order (log 32). -/
def State.enterDuplicate (s : State) : State :=
  (({ s with listenTimer := none }.enter .duplicate).notify .duplicate).followHomes s

/-! ### Entry to ACTIVE -/

/-- The staleness timer of every CURRENT mirror started (R98). -/
def State.startMirrorTimers (s : State) : State :=
  { s with mirrors := s.mirrors.map fun (m : Mirror) =>
      if m.state = .current then { m with timer := some (s.blocks 1200) } else m }

/-- One STATE offered for every home line, each refresh started (R33, R90), LINE_PORT0 first: R33 lets the offers be made in
any order (log 39). -/
def State.announceAll (s : State) : State := allPorts.foldl (fun s k => s.announce k) s

/-- The conflict sightings of the cards stored at the entry to ACTIVE, in station order (R92; log 25). -/
def State.sightStoredCards (s : State) : State := allStationNumbers.foldl (fun s p => s.sightCard p) s

/-- Each channel's configured default binding, channel 0 first; R137 gives the channels no order (log 25). -/
def State.applyDefaults (s : State) : State :=
  allPorts.foldl (fun s k => s.applyBinding k (s.cfg.channels[k]).binding) s

/-- Offer a BEACON and start the beacon interval (R13). -/
def State.startBeacon (s : State) : State := { s.sendBeacon with beaconTimer := some (s.blocks 100) }

/-- The entry to ACTIVE (R33). -/
def State.enterActive (s : State) : State :=
  ({ s with listenTimer := none }.enter .active).startMirrorTimers.announceAll.sightStoredCards.applyDefaults.startBeacon

end Sys2Proof.Machine
end

