-- ==== Sys2Proof/Machine/Loading.lean ====
section
/-! DEFINITION. The configuration image: its checksum, the checks and clamps of every setting, and what a completed
load brings into being (02, R28 to R31, section 2.6). A checked setting comes with 1 where it was replaced, else 0. -/

namespace Sys2Proof.Machine

/-! ### The checksum -/

/-- The sixteen-bit words of a memory's bytes from address 0 upward, high octet first; a byte the memory does not give
reads as all ones (R28). -/
def memoryWords : List Octet → List (BitVec 16)
  | [] => []
  | [high] => [word16 high 0xFF#8]
  | high :: low :: rest => word16 high low :: memoryWords rest

/-- The image: the first 2048 words of the memory (R28). -/
def imageOf (memory : List Octet) : List (BitVec 16) := (memoryWords memory).take Config.imageWords

/-- The sum of the 2048 words of the image modulo 65536; the words that the memory does not give read as all ones
(R28). -/
def imageSum (memory : List Octet) : BitVec 16 :=
  (imageOf memory).foldl (· + ·)
    (BitVec.ofNat 16 ((Config.imageWords - (imageOf memory).length) * Config.unsetWord.toNat))

/-! ### Single settings -/

/-- A setting's value, and 1 where it was replaced (R30). -/
abbrev Checked (α : Type) := α × Nat

/-- A numeric setting held to its range; the unset word takes the default and is no clamp (R30). -/
def clampWord (lo hi default : Nat) (w : BitVec 16) : Checked Nat :=
  if w = Config.unsetWord then (default, 0)
  else if w.toNat < lo then (lo, 1)
  else if w.toNat > hi then (hi, 1)
  else (w.toNat, 0)

/-- A choice of no and yes (R30). -/
def clampBool (default : Bool) (w : BitVec 16) : Checked Bool :=
  let c := clampWord 0 1 (if default then 1 else 0) w
  (c.1 == 1, c.2)

/-- HOLD_RECALL: 0, or 10 to 600 (R30). -/
def clampRecall (w : BitVec 16) : Checked Nat := if w = 0#16 then (0, 0) else clampWord 10 600 90 w

/-- A gain code setting. -/
def clampGain (default : Nat) (w : BitVec 16) : Checked Nat := clampWord 0 88 default w

/-- A line number setting, 0 for unused. -/
def clampLine (w : BitVec 16) : Checked LineNo :=
  let c := clampWord 0 1023 0 w
  (BitVec.ofNat 16 c.1, c.2)

/-! ### Line ports -/

/-- The settings of a port but for the clash of line numbers, and how many were replaced, LINE_NUMBER apart (R30). -/
def checkPort (w : PortWords) : Checked PortSettings :=
  let lineType := clampBool false w.lineType
  let shareLimit := clampWord 1 6 4 w.shareLimit
  let privacy := clampBool false w.privacyDefault
  let recorded := clampBool true w.recorded
  let parity := clampBool false w.parityMode
  let degrade := clampWord 1 500 50 w.degradeThreshold
  let recallTime := clampRecall w.holdRecall
  let enter := clampWord 1 15 3 w.alignEnter
  let exit := clampWord 1 15 4 w.alignExit
  let set := clampWord 1 63 24 w.lolSet
  let reset := clampWord 1 63 8 w.lolReset
  let clear := clampWord 1 63 50 w.lolClear
  ({ line := (clampLine w.lineNumber).1
     automatic := lineType.1
     transmitLabel := w.transmitLabel
     expectedLabel := w.expectedLabel
     shareLimit := shareLimit.1
     privacyDefault := privacy.1
     recorded := recorded.1
     parityFrame := parity.1
     degradeThreshold := degrade.1
     holdRecall := recallTime.1
     alignEnter := enter.1
     alignExit := exit.1
     lolSet := set.1
     lolReset := reset.1
     lolClear := clear.1 },
   lineType.2 + shareLimit.2 + privacy.2 + recorded.2 + parity.2 + degrade.2 + recallTime.2 + enter.2 + exit.2 + set.2 +
     reset.2 + clear.2)

/-- Whether a lower port carries the same non-zero LINE_NUMBER (R31). -/
def repeatsLine (ports : Vector PortWords 8) (k : Fin 8) : Bool :=
  let line := (clampLine ports[k].lineNumber).1
  line != 0#16 && allPorts.any fun j => j.val < k.val && (clampLine ports[j].lineNumber).1 == line

/-- A port's settings after R30 and R31; LINE_NUMBER counts once, clamped or repeated. -/
def checkPortAt (ports : Vector PortWords 8) (k : Fin 8) : Checked PortSettings :=
  let c := checkPort ports[k]
  if repeatsLine ports k then ({ c.1 with line := 0#16 }, c.2 + 1)
  else (c.1, c.2 + (clampLine ports[k].lineNumber).2)

/-! ### Channels, groups and buzz targets -/

/-- A channel's binding, one setting held as a kind and a number (02 section 2.6; log 6). -/
def checkBinding (kind number : BitVec 16) : Checked ChannelBinding :=
  if kind = Config.unsetWord ∨ number = Config.unsetWord then (.unbound, 0)
  else if kind = 0#16 then (.unbound, 0)
  else if kind = 1#16 then
    let n := clampWord 1 127 1 number
    (.hoot n.1, n.2)
  else
    let n := clampWord 1 1023 1 number
    (.line (BitVec.ofNat 16 n.1), if kind = 2#16 then n.2 else 1)

/-- A channel's settings (02 section 2.6). -/
def checkChannel (w : ChannelWords) : Checked ChannelSettings :=
  let binding := checkBinding w.bindingKind w.bindingNumber
  let volume := clampGain 72 w.volume
  let output := clampWord 0 1 0 w.output
  (⟨binding.1, volume.1, if output.1 = 0 then 0 else 1⟩, binding.2 + volume.2 + output.2)

/-- The hunt groups: the first GROUPS-count entries, an unset one giving none (02 section 2.6; log 6). -/
def checkGroups (count : BitVec 16) (entries : Vector (BitVec 16) 8) : Checked (List Nat) :=
  let n := clampWord 0 8 0 count
  let cs := ((entries.toList.take n.1).filter (· != Config.unsetWord)).map (clampWord 1 63 1)
  (cs.map (·.1), min 1 (n.2 + (cs.map (·.2)).sum))

/-- One entry of BUZZ_TARGET, which counts as one setting (02 section 2.6; log 6). -/
def checkBuzz (w : BuzzWords) : Checked (Station × Fin 8) :=
  let st := clampWord 0 63 0 w.station
  let bit := clampWord 0 7 0 w.bit
  ((BitVec.ofNat 6 st.1, (indexOf 8 (octet bit.1)).getD 0), min 1 (st.2 + bit.2))

/-! ### The image -/

/-- Whether STATION_NUMBER is a station's (R29). -/
def stationNumberGood (w : BitVec 16) : Bool := 1 ≤ w.toNat && w.toNat ≤ Config.lastStation

/-- How many entries of a checked table were replaced. -/
def replaced {α : Type} {n : Nat} (t : Vector (Checked α) n) : Nat := (t.toList.map (·.2)).sum

/-- The values of a checked table. -/
def values {α : Type} {n : Nat} (t : Vector (Checked α) n) : Vector α n := mapTable t fun _ c => c.1

/-- The settings of an image, and CONFIG_CLAMPS (R30, R31). -/
def checkSettings (w : SettingWords) : Checked Settings :=
  let supervisor := clampBool false w.supervisor
  let panel := clampBool true w.panelPresent
  let interval := clampWord 1 60 1 w.monitorInterval
  let ports := mapTable w.ports fun k _ => checkPortAt w.ports k
  let appearance := mapTable w.appearance fun _ x => clampLine x
  let volume := clampGain 72 w.handsetVolume
  let sidetone := clampGain 40 w.sidetone
  let duck := clampGain 48 w.duck
  let masters := mapTable w.speakerMaster fun _ x => clampGain 72 x
  let channels := mapTable w.channels fun _ x => checkChannel x
  let talkers := clampWord 1 4 3 w.talkers
  let gate := clampWord 0 32768 200 w.gate
  let hangover := clampWord 1 1000 100 w.hangover
  let groups := checkGroups w.groupCount w.groups
  let buzz := mapTable w.buzzTargets fun _ x => checkBuzz x
  ({ station := w.stationNumber.setWidth 6
     supervisor := supervisor.1
     panelPresent := panel.1
     monitorInterval := interval.1
     ports := values ports
     appearance := values appearance
     handsetVolume := volume.1
     sidetone := sidetone.1
     duck := duck.1
     speakerMaster := values masters
     channels := values channels
     talkers := talkers.1
     gate := gate.1
     hangover := hangover.1
     groups := groups.1
     buzzTargets := values buzz },
   supervisor.2 + panel.2 + interval.2 + replaced ports + replaced appearance + volume.2 + sidetone.2 + duck.2 +
     replaced masters + replaced channels + talkers.2 + gate.2 + hangover.2 + groups.2 + replaced buzz)

/-! ### What a completed load brings into being -/

/-- The settings taken into use by the blocks that keep values of their own (R101, R133, R142, R170). -/
def State.takeSettings (c : Settings) (clamps : Nat) (s : State) : State :=
  { s with
    cfg := c
    configClamps := BitVec.ofNat 16 (min 65535 clamps)
    handsets := mapTable s.handsets fun _ h => { h with volume := c.handsetVolume }
    channels := mapTable s.channels fun k x => { x with volume := (c.channels[k]).volume, output := (c.channels[k]).output }
    talkerLimit := c.talkers
    masters := c.speakerMaster
    mirrors := (distinct (c.appearance.toList.filter (· != 0#16))).map fun line => ⟨line, .unknown, none, none⟩ }

/-- Every used port started, LOS taken from carrier-present (R40), LINE_PORT0 first: the manual gives the LINE_ALARM
notices of several ports no order (log 39). -/
def State.startPorts (s : State) : State :=
  allPorts.foldl (fun s k => s.workPort k fun _ w => w.startPort s.carrier[k]) s

/-- A line record as it comes into being (R64). -/
def State.newRecord (s : State) (k : Fin 8) : LineRecord :=
  ({ state := .idle, members := [], listeners := [], privacy := (s.portCfg k).privacyDefault, outRing := none
     farSignalling := .idle, conflict := none, holdOver := none, refresh := none } : LineRecord).settle .idle
    (s.portCfg k) (s.ports[k]).out (s.ports[k]).alarms 0

/-- The line records and taps of the used ports (R64, R174). -/
def State.makeRecords (s : State) : State :=
  { s with
    records := Vector.ofFn fun k => if s.used k then some (s.newRecord k) else none
    taps := Vector.ofFn fun k => if s.used k && (s.portCfg k).recorded then some Tap.new else none }

/-- The load complete with a good image (R28): the station enters LISTENING (R32). With PANEL_PRESENT no the panel port
stops answering and offers no answer any more (R189). -/
def State.completeLoad (w : SettingWords) (s : State) : State :=
  let c := checkSettings w
  let s1 := (s.takeSettings c.1 c.2).enter .listening
  { s1 with
    clashWindow := []
    listenTimer := some (s.blocks 300)
    panelAnswer := if c.1.panelPresent then s.panelAnswer else none }.startPorts.makeRecords

/-- The loader has read the image (R28, R29): a failed checksum or a bad station number is CONFIG_FAULT. -/
def State.load (memory : List Octet) (w : SettingWords) (s : State) : State :=
  if imageSum memory = 0#16 ∧ stationNumberGood w.stationNumber then s.completeLoad w else s.enter .configFault

end Sys2Proof.Machine
end

