-- ==== Sys2Proof/Machine/Hearing.lean ====
section
/-! DEFINITION. Frames heard on the medium: the receive checks, frames of the station's own number, the peer table and
its events, and the hand-on (01, R15 to R25). -/

namespace Sys2Proof.Machine

/-! ### Frames as heard -/

/-- A good frame: its source, its target and its body (R16). -/
structure Frame where
  source : Station
  target : Station
  body : Body
  deriving DecidableEq, Repr

/-- Whether a body's own station number agrees with the frame's source (R16). -/
def Body.agrees (source : Station) : Body → Bool
  | .beacon c => c.station == source
  | _ => true

/-- The class priority that octets 0 and 1 of a frame hold (R197). -/
def classOf (head : BitVec 16) : Nat := (head.extractLsb' 13 3).toNat

/-- The source station that octets 0 and 1 of a frame hold. -/
def sourceOf (head : BitVec 16) : Station := head.extractLsb' 7 6

/-- The target station that octets 0 and 1 of a frame hold; bit 0 is named for no field and is ignored (R197). -/
def targetOf (head : BitVec 16) : Station := head.extractLsb' 1 6

/-- The checks on the header of a frame of a kind, with the body octets that were received (R16). -/
def headerGood (k : Kind) (head length : BitVec 16) (body : List Octet) : Bool :=
  classOf head == k.cls && 1 ≤ (sourceOf head).toNat && (sourceOf head).toNat ≤ Config.lastStation &&
  k.allows (targetOf head) && length.toNat == body.length

/-- A frame without its CRC, read; none where a receive check fails (R16). -/
def readUnit : List Octet → Option Frame
  | o0 :: o1 :: kind :: l1 :: l2 :: body =>
    match Kind.ofCode kind with
    | some k =>
      let head := word16 o0 o1
      if headerGood k head (word16 l1 l2) body then
        ((k.read body).filter (·.agrees (sourceOf head))).map (⟨sourceOf head, targetOf head, ·⟩)
      else none
    | none => none
  | _ => none

/-- The octets of a frame heard, read with its CRC in the last four (R16, R197); none where a receive check fails. A
frame too short for a header and a CRC fails them. -/
def readFrame (octets : List Octet) : Option Frame :=
  let n := octets.length - 4
  if octets.drop n = octets32 (crc32 (octets.take n)) then readUnit (octets.take n) else none

/-- Whether a body is an ASK of an operation; none is an operation that R73 does not know. -/
def Body.asks (op : Option AskOp) : Body → Bool
  | .ask a => a.op == op
  | _ => false

/-- Whether a body is a CALL of a kind. -/
def Body.calls (kind : CallKind) : Body → Bool
  | .call f => f.kind == kind
  | _ => false

/-- Whether a body is a SIGNAL that sets, or one that clears. -/
def Body.signals (set : Bool) : Body → Bool
  | .signal g => g.set == set
  | _ => false

/-! ### The peer table -/

/-- The peer table takes a good frame (R22, R23): a BEACON's card is stored first, a LEAVING beacon ends the presence. -/
def State.peerTakes (st : Station) (b : Body) (s : State) : State :=
  match b with
  | .beacon c =>
    if c.leaving then s.setPeer st ⟨.left, some c, none⟩
    else s.setPeer st ⟨.present, some c, some (s.blocks 400)⟩
  | _ => s.setPeer st { s.peer st with state := .present, silence := some (s.blocks 400) }

/-- Peer lost at every block, the table already showing the loss (R25; log 13). `before` is the state before it. -/
def State.peerLost (s before : State) (st : Station) : State :=
  ((((s.linesLosePeer st).followHomes before).callsLosePeer st).talkersLosePeer st).removeStreams fun e =>
    e.party.station == st

/-- Card heard: the line controller judges the card for conflicts, then the homes are followed (R25, R92, R94); R25 gives
the two no order (log 13). -/
def State.cardHeard (s before : State) (st : Station) : State := (s.sightCard st).followHomes before

/-- The events of a frame taken by the peer table: peer lost or peer found, then card heard for a BEACON (R22, R23). At
peer found the homes are worked out from the new card (R23, R94); the card heard behind it then finds no home changed and
judges the conflicts alone. A LEAVING beacon's card heard comes behind peer lost and finds a station that is not PRESENT,
which is no home and gives no sighting. -/
def State.peerEvents (s before : State) (st : Station) (b : Body) : State :=
  match (before.peer st).state, (s.peer st).state, b with
  | .present, .present, .beacon _ => s.cardHeard before st
  | _, .present, .beacon _ => (s.followHomes before).cardHeard s st
  | _, .present, _ => s.followHomes before
  | .present, _, _ => s.peerLost before st
  | _, _, _ => s

/-- The silence timer of a PRESENT entry expires (R24). -/
def State.silencePeer (st : Station) (s : State) : State :=
  (s.setPeer st { s.peer st with state := .silent, silence := none }).peerLost s st

/-! ### Hand-on -/

/-- A good frame handed on by kind, in ACTIVE (R19). A STATE is taken by the position and speaker controllers before it is
judged as a conflict sighting; R19 and R92 give these no order (log 13). -/
def State.handOn (source target : Station) (b : Body) (s : State) : State :=
  match b with
  | .voice v => s.takeVoice source v
  | .state l => (s.takeStateFrame source l).sightState source l.line
  | .ask a => s.takeAsk source a
  | .reply r => s.takeReply source r
  | .call f => s.takeCall source target f
  | .signal g => s.takeSignal source g
  | .beacon _ => s

/-- A good frame of another station: the peer table first, then the block it is for (R19, R20, R22). -/
def State.takeOther (source target : Station) (b : Body) (s : State) : State :=
  let s1 := (s.peerTakes source b).peerEvents s source b
  if s1.isActive ∧ (target = s.cfg.station ∨ target = Config.allStations) then s1.handOn source target b else s1

/-- A good frame of the station's own number: the echo of its own transmission, or the frame of another station of
that number (R15, R17; log 11). -/
def State.takeOwnNumber (b : Body) (s : State) : State :=
  if s.transmitting then s
  else
    match b, s.stationState with
    | .beacon _, .listening => s.enterDuplicate
    | .beacon _, .active => s.takeClash
    | _, _ => s

/-- A frame heard (R15 to R20). The medium is busy with it until the gap behind it ends (R3; log 10). -/
def State.hear (octets : List Octet) (s : State) : State :=
  let s1 := s.findBusy
  if s1.loaded then
    match readFrame octets with
    | none => s1.count fun c => { c with badFrames := c.badFrames.add 1 }
    | some f => if f.source = s1.cfg.station then s1.takeOwnNumber f.body else s1.takeOther f.source f.target f.body
  else s1

/-- A frame heard by the command of a row: a frame that fails the checks is what it is under any row; a good frame whose
body is not the row's is not this command's (log 8). -/
def State.hearAs (row : Body → Bool) (octets : List Octet) (s : State) : State :=
  match readFrame octets with
  | some f => if row f.body then s.hear octets else s
  | none => s.hear octets

end Sys2Proof.Machine
end

