-- ==== Sys2Proof/Machine/Boundary.lean ====
section
/-! DEFINITION. The block boundary: station time, the timers counted in boundaries, and every block's work in the order
of log 17. -/

namespace Sys2Proof.Machine

/-! ### Timers -/

/-- A record's timers, one boundary later. -/
def LineRecord.tick (r : LineRecord) : LineRecord :=
  { r with
    members := r.members.map fun m => { m with recallTimer := m.recallTimer.tick }
    outRing := r.outRing.tick
    conflict := r.conflict.map fun c => { c with timer := c.timer - 1 }
    holdOver := r.holdOver.tick
    refresh := r.refresh.tick }

/-- Every running timer of the station, one boundary later (00_scope "Timers"; log 1). -/
def State.tickTimers (s : State) : State :=
  { s with
    monitorTimer := s.monitorTimer - 1
    listenTimer := s.listenTimer.tick
    beaconTimer := s.beaconTimer.tick
    clashWindow := s.clashWindow.map (· - 1)
    txQueue := s.txQueue.map fun e => { e with life := e.life - 1 }
    peers := mapTable s.peers fun _ p => { p with silence := p.silence.tick }
    records := mapTable s.records fun _ r => r.map LineRecord.tick
    mirrors := s.mirrors.map fun m => { m with timer := m.timer.tick }
    pendingAsks := s.pendingAsks.map fun a => { a with timer := a.timer - 1 }
    slots := mapTable s.slots fun _ x => { x with timer := x.timer.tick }
    channels := mapTable s.channels fun _ c => { c with wait := c.wait.map fun w => { w with timer := w.timer - 1 } }
    streams := mapTable s.streams fun _ e => e.map fun x => { x with silence := x.silence - 1 } }

/-- Station time at the boundary that is now, with every timer one boundary on. -/
def State.reachBoundary (s : State) : State := { s.tickTimers with stationTime := nextBoundary s.stationTime }

/-! ### Line ports -/

/-- The frame period that a boundary ends on each used port without carrier (R39, R47 to R49). -/
def State.standInPeriods (s : State) : State :=
  allPorts.foldl (fun s k => if s.carrier[k] then s else s.workPort k fun c w => w.endPeriod c false) s

/-- The RX block of every used port (R60). -/
def State.readStores (s : State) : State := allPorts.foldl (fun s k => s.workPort k fun _ w => w.readStore) s

/-- The near-end signalling a line record gives (R69). -/
def State.nearSignalling (s : State) (k : Fin 8) : Signalling :=
  match s.records[k] with
  | some r =>
    if r.outRing.isSome then .ring else if r.state = .engaged ∨ r.state = .held then .offhook else .idle
  | none => .idle

/-- The frame every used port sends over the next 2 ms (R61, R62). -/
def State.buildFrames (s : State) : State :=
  allPorts.foldl (fun s k =>
    if s.used k then s.setPort k ((s.ports[k]).buildFrame (s.portCfg k) (s.nearSignalling k) s.lineOut[k]) else s) s

/-! ### Voice -/

/-- A block the station sends on a circuit at a boundary. -/
structure Sending where
  circuit : Circuit
  port : Port
  block : Block
  deriving DecidableEq, Repr

/-- Whether a record's far end goes to the floor: ENGAGED or HELD, with a party of another station (R71). -/
def LineRecord.sendsFar (own : Station) (r : LineRecord) : Bool :=
  (r.state == .engaged || r.state == .held) &&
  (r.members.any (fun m => m.party.station != own) || r.listeners.any fun l => l.party.station != own)

/-- The far-end streams of a boundary, in port order (R71). -/
def State.farSendings (s : State) : List Sending :=
  allPorts.filterMap fun k =>
    match s.records[k] with
    | some r =>
      if r.sendsFar s.cfg.station then
        some ⟨lineCircuit (s.portCfg k).line, .linePort k, (s.ports[k]).lastBlock⟩
      else none
    | none => none

/-- The mouthpiece blocks of a boundary: one for each binding of a handset OFF hook and not muted (R104). -/
def State.handsetSendings (s : State) (io : AudioIn) : List Sending :=
  bothHandsets.flatMap fun h =>
    if (s.handsets[h]).onHook || (s.handsets[h]).muted then []
    else (s.handsets[h]).bindings.map fun b => ⟨b.circuit, .handset h, io.mouthpiece[h]⟩

/-- The microphone's block of a boundary, while the talk state names a channel bound to a hoot (R144). -/
def State.micSendings (s : State) (io : AudioIn) : List Sending :=
  match s.talk with
  | some k =>
    match (s.channels[k]).binding with
    | .hoot n => [⟨.hoot n, .mic, io.microphone⟩]
    | _ => []
  | none => []

/-- Everything the station sends as VOICE at a boundary; nothing outside ACTIVE. -/
def State.sendings (s : State) (io : AudioIn) : List Sending :=
  if s.isActive then s.farSendings ++ s.handsetSendings io ++ s.micSendings io else []

/-- Offer one VOICE frame; the count advances whatever the queue answers (R2). -/
def State.sendVoice (s : State) (x : Sending) : State :=
  (s.advanceSequence x.circuit x.port).send Config.allStations
    (.voice ⟨x.circuit, x.port, s.sequenceOf x.circuit x.port, true, x.block⟩)

/-- The counts of the pairs that send nothing at this boundary are dropped (R2, R71, R104, R145). -/
def State.dropSilentCounts (xs : List Sending) (s : State) : State :=
  { s with sequences := s.sequences.filter fun q => xs.any fun x => x.circuit == q.circuit && x.port == q.port }

/-- The VOICE frames of a boundary. -/
def State.sendVoices (io : AudioIn) (s : State) : State :=
  let xs := s.sendings io
  xs.foldl State.sendVoice (s.dropSilentCounts xs)

/-! ### Recording -/

/-- Whether a remote ACTIVE member's block of the boundary was not REAL, or was missing (R182). -/
def State.gapAt (s : State) (ys : List Yielded) (k : Fin 8) : Bool :=
  (s.activeSet k).any fun p =>
    p.station != s.cfg.station &&
    !(ys.any fun y => y.circuit == lineCircuit (s.portCfg k).line && y.party == p && y.kind == .real)

/-- Every tap's work at a boundary, LINE_PORT0 first (R171, R177). -/
def State.recordTaps (ys : List Yielded) (s : State) : State :=
  allPorts.foldl (fun s k => s.tapBoundary k s.lineOut[k] (s.farBlock k) (s.gapAt ys k)) s

/-! ### The whole boundary -/

/-- The boundary up to the moment at which admission begins: ports, streams yielded, local levels. -/
def State.beforeAdmission (io : AudioIn) (s : State) : State :=
  (s.reachBoundary.standInPeriods.readStores.yieldStreams).updateLocalLevels io

/-- What the streams yield at this boundary. -/
def State.boundaryYields (s : State) : List Yielded := s.reachBoundary.standInPeriods.readStores.yields

/-- One block boundary (R60, R61, R71, R104, R141, R144, R156, R166 to R169, R177, R180; log 17). Talkers are admitted
before the entries that end retire, either of which R141 lets come first (log 19). In LOADING and CONFIG_FAULT nothing is
mixed, sent or framed (R28, R173). -/
def State.boundary (io : AudioIn) (s : State) : State :=
  if s.loaded then
    let ys := s.boundaryYields
    ((((s.beforeAdmission io).admitAll ys).mix io ys).buildFrames.sendVoices io |>.recordTaps ys).retireStreams
  else s.reachBoundary

end Sys2Proof.Machine
end

