-- ==== Sys2Proof/Machine/Requests.lean ====
section
/-! DEFINITION. How a panel request and a recorder request are taken and answered (11, R189; 10, R188), and the checks
that several requests share. -/

namespace Sys2Proof.Machine

/-- What every meaning answers. -/
abbrev Result := Host.Outcome State Fault Refusal

/-- The first refusal of a list whose condition holds, in the order R189 and the owning rule give. -/
def firstVerdict : List (Bool × Verdict) → Option Verdict
  | [] => none
  | (c, v) :: t => if c then some v else firstVerdict t

/-- A panel request: no effect and no answer while the port does not answer; a refused request changes nothing but the
answer; a request that passes has its effect and is answered DONE with its fields (R189). -/
def State.panelRequest (kind : Nat) (refusal : Option Verdict) (fields : List Octet) (effect : State → State)
    (s : State) : State :=
  if s.panelAnswers then
    match refusal with
    | some v => s.answerPanel (octet kind) v []
    | none => (effect s).answerPanel (octet kind) .done fields
  else s

/-- A recorder request (R188). -/
def State.recorderRequest (kind : Nat) (refusal : Option Verdict) (fields : List Octet) (effect : State → State)
    (s : State) : State :=
  match refusal with
  | some v => s.answerRecorder (octet kind) v []
  | none => (effect s).answerRecorder (octet kind) .done fields

/-- Act on the table entry an octet names; a request with another octet has been refused BAD_INDEX before. -/
def State.onIndex {n : Nat} (o : Octet) (f : Fin n → State → State) (s : State) : State :=
  match indexOf n o with
  | some i => f i s
  | none => s

/-- A condition on the table entry an octet names, false where it names none. -/
def atIndex {n : Nat} (o : Octet) (p : Fin n → Bool) : Bool :=
  match indexOf n o with
  | some i => p i
  | none => false

/-- Whether an octet names no entry of a table. -/
def outOf (n : Nat) (o : Octet) : Bool := o.toNat ≥ n

/-- The home of a line is another station and the pending ask list is full (R108, R110, R111). -/
def State.noRoomToAsk (s : State) (line : LineNo) : Bool :=
  s.homeOf line != some s.cfg.station && s.pendingAsks.length ≥ Config.pendingCapacity

end Sys2Proof.Machine
end

