-- ==== Sys2Proof/Machine/Floor.lean ====
section
/-! DEFINITION. The commands of joining and leaving the floor (02): FULL_RESET, LOAD_COMPLETE, LISTEN_PERIOD_EXPIRY,
JOIN, LEAVE. -/

namespace Sys2Proof.Machine

/-- FULL_RESET (R37): every block at its reset values. The carrier inputs are pins and the queue is the model's own;
both stay (log 4). -/
def execFullReset (s : State) : Result :=
  .next { State.reset with carrier := s.carrier, pending := s.pending }

/-- LOAD_COMPLETE (R28 to R32), in LOADING. -/
def execLoadComplete (memory : List Octet) (settings : SettingWords) (s : State) : Result :=
  .next (if s.stationState = .loading then s.load memory settings else s)

/-- LISTEN_PERIOD_EXPIRY (R33): the listen period is due in LISTENING (log 1). -/
def execListenPeriodExpiry (s : State) : Result :=
  .next (if s.stationState = .listening ∧ s.listenTimer.due then s.enterActive else s)

/-- The answer of a JOIN by station state (R34). -/
def State.joinRefusal (s : State) : Option Verdict :=
  match s.stationState with
  | .duplicate | .left => none
  | .listening | .active => some .busy
  | .loading | .configFault | .clashed => some .notActive

/-- JOIN (R34). -/
def execJoin (s : State) : Result := .next (s.panelRequest 1 s.joinRefusal [] State.enterListening)

/-- The answer of a LEAVE by station state (R35). -/
def State.leaveRefusal (s : State) : Option Verdict :=
  match s.stationState with
  | .listening | .duplicate | .active | .left => none
  | .loading | .configFault | .clashed => some .notActive

/-- LEAVE (R35); in LEFT it changes nothing. -/
def execLeave (s : State) : Result :=
  .next (s.panelRequest 2 s.leaveRefusal [] fun s => if s.stationState = .left then s else s.leaveFloor)

end Sys2Proof.Machine
end

