-- ==== Sys2Proof/Machine/Bus.lean ====
section
/-! DEFINITION. The commands of the floor bus port (01): access to the medium, the transmit queue's timers, frames heard
and the silence of a peer. -/

namespace Sys2Proof.Machine

/-! ### Access and the queue -/

/-- MEDIUM_IDLE (R3, R8). -/
def execMediumIdle (s : State) : Result := .next s.takeMediumIdle

/-- CONTENTION_LOSS (R4). -/
def execContentionLoss (s : State) : Result := .next s.loseContention

/-- FRAME_SENT (R5): the frame in transmission was heard back exactly as sent. -/
def execFrameSent (s : State) : Result := .next s.endTransmission

/-- CLASH_EVENT (R5, R18): the frame in transmission is abandoned and the clash window takes the event. -/
def execClashEvent (s : State) : Result := .next (if s.transmitting then s.endTransmission.takeClash else s)

/-- CLASH_WINDOW_EXPIRY (R18): the earliest entry whose second has passed is removed. -/
def execClashWindowExpiry (s : State) : Result := .next { s with clashWindow := s.clashWindow.erase 0 }

/-- LIFETIME_EXPIRY (R8): an entry whose lifetime has ended is marked stale. -/
def execLifetimeExpiry (entry : Nat) (s : State) : Result := .next (s.expireEntry entry)

/-- BEACON_INTERVAL_EXPIRY (R13): a fresh BEACON is offered and the interval restarts. -/
def execBeaconIntervalExpiry (s : State) : Result :=
  .next (if s.isActive ∧ s.beaconTimer.due then s.startBeacon else s)

/-! ### Frames heard -/

/-- VOICE_RECEIVED (R16, R19, R151). -/
def execVoiceReceived (unit crc : List Octet) (s : State) : Result := .next (s.hearAs (·.kind == .voice) (unit ++ crc))

/-- STATE_RECEIVED (R16, R19, R97, R92). -/
def execStateReceived (unit crc : List Octet) (s : State) : Result := .next (s.hearAs (·.kind == .state) (unit ++ crc))

/-- REPLY_RECEIVED (R16, R19, R112, R137). -/
def execReplyReceived (unit crc : List Octet) (s : State) : Result := .next (s.hearAs (·.kind == .reply) (unit ++ crc))

/-- BEACON_RECEIVED (R16, R17, R23). -/
def execBeaconReceived (unit crc : List Octet) (s : State) : Result :=
  .next (s.hearAs (·.kind == .beacon) (unit ++ crc))

/-- PEER_SILENCE_EXPIRY (R24, R25). -/
def execPeerSilenceExpiry (station : Station) (s : State) : Result :=
  .next (if (s.peer station).state = .present ∧ (s.peer station).silence.due then s.silencePeer station else s)

/-- OFFER (R121, R124, R126). -/
def execOffer (unit crc : List Octet) (s : State) : Result := .next (s.hearAs (·.calls .offer) (unit ++ crc))

/-- ALERT (R119, R125). -/
def execAlert (unit crc : List Octet) (s : State) : Result := .next (s.hearAs (·.calls .alert) (unit ++ crc))

/-- ACCEPT (R119, R120, R125). -/
def execAccept (unit crc : List Octet) (s : State) : Result := .next (s.hearAs (·.calls .accept) (unit ++ crc))

/-- DECLINE (R119, R125). -/
def execDecline (unit crc : List Octet) (s : State) : Result := .next (s.hearAs (·.calls .decline) (unit ++ crc))

/-- END (R119, R123, R125). -/
def execEndReceived (unit crc : List Octet) (s : State) : Result := .next (s.hearAs (·.calls .callEnd) (unit ++ crc))

/-- SIGNAL_SET (R129, R130, R132). -/
def execSignalSet (unit crc : List Octet) (s : State) : Result := .next (s.hearAs (·.signals true) (unit ++ crc))

/-- SIGNAL_CLEAR (R129, R132). -/
def execSignalClear (unit crc : List Octet) (s : State) : Result := .next (s.hearAs (·.signals false) (unit ++ crc))

end Sys2Proof.Machine
end

