-- ==== Sys2Proof/Machine/Asks.lean ====
section
/-! DEFINITION. The ASK frames heard at a line's home (04, R73 to R86), each by its operation. -/

namespace Sys2Proof.Machine

/-- ASK_TAKE (R75, R76). -/
def execAskTake (unit crc : List Octet) (s : State) : Result := .next (s.hearAs (·.asks (some .take)) (unit ++ crc))

/-- ASK_DROP (R77). -/
def execAskDrop (unit crc : List Octet) (s : State) : Result := .next (s.hearAs (·.asks (some .drop)) (unit ++ crc))

/-- ASK_HOLD (R78). -/
def execAskHold (unit crc : List Octet) (s : State) : Result := .next (s.hearAs (·.asks (some .hold)) (unit ++ crc))

/-- ASK_RESUME (R79). -/
def execAskResume (unit crc : List Octet) (s : State) : Result := .next (s.hearAs (·.asks (some .resume)) (unit ++ crc))

/-- ASK_RING (R82). -/
def execAskRing (unit crc : List Octet) (s : State) : Result := .next (s.hearAs (·.asks (some .ring)) (unit ++ crc))

/-- ASK_PRIVACY (R84). -/
def execAskPrivacy (unit crc : List Octet) (s : State) : Result :=
  .next (s.hearAs (·.asks (some .privacy)) (unit ++ crc))

/-- ASK_LISTEN (R85). -/
def execAskListen (unit crc : List Octet) (s : State) : Result := .next (s.hearAs (·.asks (some .listen)) (unit ++ crc))

/-- ASK_UNLISTEN (R86). -/
def execAskUnlisten (unit crc : List Octet) (s : State) : Result :=
  .next (s.hearAs (·.asks (some .unlisten)) (unit ++ crc))

/-- ASK_UNKNOWN_OPERATION (R73): checked like any ASK and taken by the peer table; refused OUT_OF_SERVICE for a line that no
record holds, else discarded without an answer. -/
def execAskUnknownOperation (header body crc : List Octet) (s : State) : Result :=
  .next (s.hearAs (·.asks none) (header ++ body ++ crc))

end Sys2Proof.Machine
end

