-- ==== Sys2Proof/Machine/LineTimers.lean ====
section
/-! DEFINITION. The timers of a line record (04): out-ring, recall, hold-over, refresh and conflict. -/

namespace Sys2Proof.Machine

/-- Act on the record of a line port, if it has one. -/
def State.onRecord (k : Fin 8) (f : LineRecord → State → State) (s : State) : State :=
  match s.records[k] with
  | some r => f r s
  | none => s

/-- OUT_RING_EXPIRY (R83): out-ring goes off and the line is announced. -/
def execOutRingExpiry (port : Fin 8) (s : State) : Result :=
  .next (s.onRecord port fun r s =>
    if r.outRing.due then (s.commitRecord port { r with outRing := none }).announceChange s port else s)

/-- A HELD entry whose recall timer has expired: the flag set, the timer restarted (R80). -/
def Member.recalled (time : Nat) (m : Member) : Member := { m with recallFlag := true, recallTimer := some time }

/-- Whether a member entry's recall timer has expired (R80). -/
def Member.recallDue (m : Member) : Bool := m.mode == .held && m.recallTimer.due

/-- RECALL_TIMER_EXPIRY of a member entry, named by its place (R80): a STATE is offered at each expiry. -/
def execRecallTimerExpiry (port : Fin 8) (entry : Nat) (s : State) : Result :=
  .next (s.onRecord port fun r s =>
    if (r.members[entry]?).any Member.recallDue then
      (s.setRecord port { r with
        members := mapAt (Member.recalled (s.blocks (1000 * (s.portCfg port).holdRecall))) r.members entry }).announce
        port
    else s)

/-- HOLD_OVER_EXPIRY (R88): both lists are emptied; privacy and the tap follow (R68). -/
def execHoldOverExpiry (port : Fin 8) (s : State) : Result :=
  .next (s.onRecord port fun r s =>
    if r.holdOver.due then
      (s.commitRecord port { r with members := [], listeners := [], holdOver := none }).announceChange s port
    else s)

/-- REFRESH_EXPIRY (R90): a STATE with the record's content is offered and the timer restarts. -/
def execRefreshExpiry (port : Fin 8) (s : State) : Result :=
  .next (s.onRecord port fun r s => if s.isActive ∧ r.refresh.due then s.announce port else s)

/-- A yielded line whose conflict timer has expired (R93). -/
def State.judgeConflict (k : Fin 8) (r : LineRecord) (c : Conflict) (s : State) : State :=
  if s.conflictStands (s.portCfg k).line then s.setRecord k { r with conflict := some { c with timer := s.blocks 1000 } }
  else ((s.setRecord k { r with conflict := none }).returnToService k).announce k

/-- CONFLICT_TIMER_EXPIRY (R93). -/
def execConflictTimerExpiry (port : Fin 8) (s : State) : Result :=
  .next (s.onRecord port fun r s =>
    match r.conflict with
    | some c => if c.timer = 0 then s.judgeConflict port r c else s
    | none => s)

end Sys2Proof.Machine
end

