-- ==== Sys2Proof/Machine/LinePorts.lean ====
section
/-! DEFINITION. The commands of the broker line ports (03): carrier changes, received octets, the steps in which a named
decision of the framer falls (log 2), and the panel's LINE_PORT and LINE_FORCE requests. -/

namespace Sys2Proof.Machine

/-! ### Carrier and octets -/

/-- Carrier-present of a port goes low (R39, R48); an input that is low already does not fall (log 27). -/
def State.fallCarrier (k : Fin 8) (s : State) : State :=
  if s.carrier[k] then { s with carrier := s.carrier.set k false }.workPort k PortWork.takeCarrierFall else s

/-- Carrier-present of a port goes high (R39). -/
def State.raiseCarrier (k : Fin 8) (s : State) : State :=
  if s.carrier[k] then s else { s with carrier := s.carrier.set k true }.workPort k PortWork.takeCarrierRise

/-- An octet from the line's transceiver (R44 to R59); without carrier the line brings none (R39). -/
def State.takeLineOctet (k : Fin 8) (o : Octet) (s : State) : State :=
  if s.carrier[k] then s.workPort k fun c w => w.takeOctet c o else s

/-- What can end a frame period, as the step it is. -/
def State.stimulate (k : Fin 8) (x : FramerStimulus) (s : State) : State :=
  match x with
  | .octet o => s.takeLineOctet k o
  | .carrierFall => s.fallCarrier k
  | .carrierRise => s.raiseCarrier k
  | .boundary io => s.boundary io

/-- A step taken when what it does to a port is the decision named, and not taken otherwise (log 2). -/
def State.ifDecided (k : Fin 8) (decided : LinePort → LinePort → Bool) (s next : State) : State :=
  if decided s.ports[k] next.ports[k] then next else s

/-- CARRIER_FALL (R48). -/
def execCarrierFall (port : Fin 8) (s : State) : Result := .next (s.fallCarrier port)

/-- CARRIER_RISE (R39). -/
def execCarrierRise (port : Fin 8) (s : State) : Result := .next (s.raiseCarrier port)

/-- LINE_OCTET_RECEIVED (R44 to R59). -/
def execLineOctetReceived (port : Fin 8) (octet : Octet) (s : State) : Result := .next (s.takeLineOctet port octet)

/-! ### Decisions -/

/-- LOS cleared between two states of a port (R48). -/
def losClears (p q : LinePort) : Bool := p.alarms.los && !q.alarms.los

/-- The framer entered ALIGNED from CONFIRM (R45). -/
def alignmentGained (p q : LinePort) : Bool := p.framer == .confirm && q.framer == .aligned

/-- The framer returned to HUNT from ALIGNED (R46). -/
def alignmentDropped (p q : LinePort) : Bool := p.framer == .aligned && q.framer == .hunt

/-- LOL was declared (R49). -/
def lolDeclares (p q : LinePort) : Bool := !p.alarms.lol && q.alarms.lol

/-- LOL cleared (R49). -/
def lolClears (p q : LinePort) : Bool := p.alarms.lol && !q.alarms.lol

/-- How many octets of the multiframe under way are stored. -/
def LinePort.labelPosition (p : LinePort) : Nat := (p.labelOctets.getD []).length

/-- A multiframe was completed and its match count stands at 3, so that the candidate settled (R52). -/
def labelSettles (p q : LinePort) : Bool := p.labelPosition == 15 && q.labelPosition == 16 && q.matchCount == 3

/-- The signalling run reached 3 with a new value, which was accepted (R55). -/
def signallingAccepts (p q : LinePort) : Bool := p.accepted != q.accepted && q.signallingRun == 3

/-- The RD run stands at 3 and FAR_DEFECT was declared or cleared (R56). -/
def farDefectDecides (p q : LinePort) : Bool := p.alarms.farDefect != q.alarms.farDefect && q.rdRun == 3

/-- The degrade window was judged and emptied (R54). -/
def degradeWindowEnds (p q : LinePort) : Bool := p.degradeFrames + 1 == Config.degradeWindow && q.degradeFrames == 0

/-- LOS_CLEARED (R48): the octet that ends the tenth period with carrier. -/
def execLosCleared (port : Fin 8) (octet : Octet) (s : State) : Result :=
  .next (s.ifDecided port losClears (s.takeLineOctet port octet))

/-- ALIGNMENT_CONFIRMED (R45): the octet that raises the confirm count to ALIGN_ENTER. -/
def execAlignmentConfirmed (port : Fin 8) (octet : Octet) (s : State) : Result :=
  .next (s.ifDecided port alignmentGained (s.takeLineOctet port octet))

/-- ALIGNMENT_LOST (R46): the octet that raises the miss count to ALIGN_EXIT. -/
def execAlignmentLost (port : Fin 8) (octet : Octet) (s : State) : Result :=
  .next (s.ifDecided port alignmentDropped (s.takeLineOctet port octet))

/-- LOL_DECLARED (R49): the stimulus whose period end raises the integrator to LOL_SET. -/
def execLolDeclared (port : Fin 8) (stimulus : FramerStimulus) (s : State) : Result :=
  .next (s.ifDecided port lolDeclares (s.stimulate port stimulus))

/-- LOL_CLEARED (R49): the octet whose period end raises the aligned run to LOL_CLEAR. -/
def execLolCleared (port : Fin 8) (octet : Octet) (s : State) : Result :=
  .next (s.ifDecided port lolClears (s.takeLineOctet port octet))

/-- LABEL_SETTLED (R52): the octet that ends the frame completing the third equal multiframe. -/
def execLabelSettled (port : Fin 8) (octet : Octet) (s : State) : Result :=
  .next (s.ifDecided port labelSettles (s.takeLineOctet port octet))

/-- SIGNALLING_ACCEPTED (R55, R81): the octet that ends the third frame of a new value. -/
def execSignallingAccepted (port : Fin 8) (octet : Octet) (s : State) : Result :=
  .next (s.ifDecided port signallingAccepts (s.takeLineOctet port octet))

/-- FAR_DEFECT_DECIDED (R56): the octet that ends the third frame of a new RD. -/
def execFarDefectDecided (port : Fin 8) (octet : Octet) (s : State) : Result :=
  .next (s.ifDecided port farDefectDecides (s.takeLineOctet port octet))

/-- DEGRADE_WINDOW_END (R54): the octet that ends the window's last frame. -/
def execDegradeWindowEnd (port : Fin 8) (octet : Octet) (s : State) : Result :=
  .next (s.ifDecided port degradeWindowEnds (s.takeLineOctet port octet))

/-! ### LINE_PORT and LINE_FORCE -/

/-- The checks of LINE_PORT and LINE_FORCE (R42, R43). -/
def State.portRefusal (port : Octet) (s : State) : Option Verdict :=
  firstVerdict [(!s.loaded, .notActive), (!atIndex port s.used, .badIndex)]

/-- OUT (R42): the framer stopped, the line out of service; an OUT on a port that is OUT changes nothing. -/
def State.takePortOut (k : Fin 8) (s : State) : State :=
  if (s.ports[k]).out then s
  else ((s.setPort k (s.ports[k]).takeOut).changeRecord k id).announceChange s k

/-- IN (R42): the mark cleared, the line back in service unless another cause holds (R67). -/
def State.takePortIn (k : Fin 8) (s : State) : State :=
  if (s.ports[k]).out then
    ((s.setPort k { s.ports[k] with out := false }).returnToService k).announceChange s k
  else s

/-- LINE_PORT_OUT (R42). -/
def execLinePortOut (port : Octet) (s : State) : Result :=
  .next (s.panelRequest 3 (s.portRefusal port) [] (State.onIndex port State.takePortOut))

/-- LINE_PORT_IN (R42). -/
def execLinePortIn (port : Octet) (s : State) : Result :=
  .next (s.panelRequest 3 (s.portRefusal port) [] (State.onIndex port State.takePortIn))

/-- FORCE_OOA (R43). -/
def execForceOoa (port : Octet) (s : State) : Result :=
  .next (s.panelRequest 4 (s.portRefusal port) [] (State.onIndex port fun k s => s.setPort k (s.ports[k]).forceHunt))

/-- FORCE_RD (R43). -/
def execForceRd (port : Octet) (s : State) : Result :=
  .next (s.panelRequest 4 (s.portRefusal port) []
    (State.onIndex port fun k s => s.setPort k { s.ports[k] with forceRd := true }))

/-- FORCE_NONE (R43). -/
def execForceNone (port : Octet) (s : State) : Result :=
  .next (s.panelRequest 4 (s.portRefusal port) []
    (State.onIndex port fun k s => s.setPort k { s.ports[k] with forceOoa := false, forceRd := false }))

end Sys2Proof.Machine
end

