-- ==== Sys2Proof/Machine/Blocks.lean ====
section
/-! DEFINITION. The block boundary and the boundaries in which a named decision falls (log 2): a hangover that ends, a
segment that fills, a stream that retires. -/

namespace Sys2Proof.Machine

/-- BLOCK_BOUNDARY (R156 and the rules of log 17). -/
def execBlockBoundary (io : AudioIn) (s : State) : Result := .next (s.boundary io)

/-- Whether an admitted source of a channel reaches HANGOVER at the boundary (R141, step 2). -/
def State.hangoverFalls (io : AudioIn) (k : Fin 8) (p : Party) (s : State) : Bool :=
  let m := s.beforeAdmission io
  s.loaded && m.channelPlays k &&
  (departed (m.sources s.boundaryYields k) (m.channels[k]).talkers).any fun t =>
    t.party == p && t.level < m.cfg.gate && t.hangover + 1 ≥ m.cfg.hangover

/-- HANGOVER_EXPIRY (R141): the boundary at which the source named leaves the channel's talker set. -/
def execHangoverExpiry (channel : Fin 8) (station : Station) (port : Octet) (io : AudioIn) (s : State) : Result :=
  .next (match Port.ofCode port with
    | some p => if s.hangoverFalls io channel ⟨station, p⟩ then s.boundary io else s
    | none => s)

/-- Whether the open segment of a tap reaches 256 pairs at the boundary (R180). -/
def State.segmentFills (k : Fin 8) (s : State) : Bool :=
  match s.taps[k] with
  | some t =>
    match t.filling with
    | some i => s.loaded && t.state == .recording && (s.ring[i]).pairs.length + 16 ≥ Config.segmentPairs
    | none => false
  | none => false

/-- SEGMENT_FULL (R180): the boundary at which the port's open segment is filled. -/
def execSegmentFull (port : Fin 8) (io : AudioIn) (s : State) : Result :=
  .next (if s.segmentFills port then s.boundary io else s)

/-- Whether a stream entry's silence timer expires at the boundary (R158). -/
def State.streamEnds (i : Fin 32) (s : State) : Bool :=
  match s.streams[i] with
  | some e => s.loaded && e.silence ≤ 1
  | none => false

/-- STREAM_SILENCE_EXPIRY (R158): the boundary at which the entry yields its last block and retires. -/
def execStreamSilenceExpiry (entry : Fin 32) (io : AudioIn) (s : State) : Result :=
  .next (if s.streamEnds entry then s.boundary io else s)

end Sys2Proof.Machine
end

