-- ==== Sys2Proof/Machine/PositionRequests.lean ====
section
/-! DEFINITION. The position controller's commands (05): hook, mute, volume, balance, the line requests, and the timers
of its mirrors and pending asks. -/

namespace Sys2Proof.Machine

/-! ### Timers -/

/-- STALENESS_TIMER_EXPIRY of an appearing line (R98): its CURRENT mirror becomes STALE with its content kept. -/
def execStalenessTimerExpiry (line : LineNo) (s : State) : Result :=
  .next (match s.mirrorOf line with
    | some m => if s.isActive ∧ m.state = .current ∧ m.timer.due then s.staleMirror line else s
    | none => s)

/-- PENDING_ASK_EXPIRY of the ask with a tag (R113). -/
def execPendingAskExpiry (tag : Octet) (s : State) : Result :=
  .next (match s.pendingAsks.find? fun (a : PendingAsk) => a.tag == tag && a.timer == 0 with
    | some a =>
      { s with pendingAsks := s.pendingAsks.filter fun (x : PendingAsk) => x != a }.notify
        (.askNoAnswer a.line a.op (.handset a.handset))
    | none => s)

/-! ### Hook, mute and gains -/

/-- The checks of a request that names a handset and is taken in every state after the load (R102, R104, R105). -/
def State.handsetRefusal (handset : Octet) (more : List (Bool × Verdict)) (s : State) : Option Verdict :=
  firstVerdict ([(!s.loaded, .notActive), (outOf 2 handset, .badIndex)] ++ more)

/-- HOOK_OFF (R102). -/
def execHookOff (handset : Octet) (s : State) : Result :=
  .next (s.panelRequest 5 (s.handsetRefusal handset []) []
    (State.onIndex handset fun h s => s.setHandset h { s.handsets[h] with onHook := false }))

/-- A LINE binding given up: removed, with a DROP to the home of its line (R102, R109). -/
def State.dropBinding (h : Fin 2) (line : LineNo) (s : State) : State :=
  (s.removeBinding h (lineCircuit line)).sendPlain .drop line (.handset h)

/-- The calls that a handset is placing, ended with END CLEARED (R123). -/
def State.hangUpPlaced (h : Fin 2) (s : State) : State :=
  allSlots.foldl (fun s i => if (s.slots[i]).takesPlace h then s.hangUp i else s) s

/-- A handset hung up: pending asks, LINE bindings, CALL bindings, then the calls it is placing (R102, R123). Bindings go
in bind order and placed calls slot 0 first; the manual orders the kinds alone (log 42). -/
def State.clearHandset (h : Fin 2) (s : State) : State :=
  let bs := (s.handsets[h]).bindings
  let s1 := { s with pendingAsks := s.pendingAsks.filter fun (a : PendingAsk) => a.handset != h }
  let s2 := (bs.filterMap Binding.line).foldl (fun s line => s.dropBinding h line) s1
  let s3 := (bs.filter fun b => b.line.isNone).foldl (fun s b => s.releaseCall h b.circuit) s2
  s3.hangUpPlaced h

/-- HOOK_ON (R102): nothing changes on a handset already ON. -/
def execHookOn (handset : Octet) (s : State) : Result :=
  .next (s.panelRequest 6 (s.handsetRefusal handset []) []
    (State.onIndex handset fun h s =>
      if (s.handsets[h]).onHook then s
      else (s.setHandset h { s.handsets[h] with onHook := true }).clearHandset h))

/-- A handset's mute set; its voice sending stops when it is on, and the sequence counts are dropped (R104). -/
def State.setMute (h : Fin 2) (on : Bool) (s : State) : State :=
  let s1 := s.setHandset h { s.handsets[h] with muted := on }
  if on then { s1 with sequences := s1.sequences.filter fun q => q.port != .handset h } else s1

/-- MUTE (R104). -/
def execMute (handset : Octet) (on : Bool) (s : State) : Result :=
  .next (s.panelRequest 12 (s.handsetRefusal handset []) [] (State.onIndex handset fun h => State.setMute h on))

/-- Whether a panel gain code is refused (R105, R147, R170). -/
def badGain (code : Octet) : Bool := (gainOfOctet code).isNone

/-- The gain a panel code sets. -/
def gainOf (code : Octet) : Nat := (gainOfOctet code).getD 0

/-- VOLUME (R105). -/
def execVolume (handset : Octet) (code : Octet) (s : State) : Result :=
  .next (s.panelRequest 13 (s.handsetRefusal handset [(badGain code, .badValue)]) []
    (State.onIndex handset fun h s => s.setHandset h { s.handsets[h] with volume := gainOf code }))

/-- Whether a handset holds no binding at an index. -/
def State.noBinding (handset binding : Octet) (s : State) : Bool :=
  !atIndex handset fun h => (s.bindingAt h binding.toNat).isSome

/-- BALANCE (R105). -/
def execBalance (handset : Octet) (binding : Octet) (code : Octet) (s : State) : Result :=
  .next (s.panelRequest 14
    (s.handsetRefusal handset [(outOf Config.handsetPlaces binding, .badIndex), (badGain code, .badValue),
      (s.noBinding handset binding, .notBound)]) []
    (State.onIndex handset fun h s => s.setHandset h { s.handsets[h] with
      bindings := mapAt (fun b => { b with balance := gainOf code }) (s.handsets[h]).bindings binding.toNat }))

/-! ### Requests on lines -/

/-- The checks of a request on lines: the common table, then the request's own (05 section 5.6). -/
def State.lineRefusal (badIndex : Bool) (more : List (Bool × Verdict)) (s : State) : Option Verdict :=
  firstVerdict ([(!s.isActive, .notActive), (badIndex, .badIndex)] ++ more)

/-- The line of a key, if its mirror is CURRENT (R108). -/
def State.keyLine (s : State) (key : Fin 128) : Option LineNo :=
  match s.mirrorOf s.cfg.appearance[key] with
  | some m => if s.cfg.appearance[key] != 0#16 && m.state == .current then some m.line else none
  | none => none

/-- The checks of a LINE_KEY on a line and a handset, behind the key's own (R108). -/
def State.keyRefusal (line : LineNo) (h : Fin 2) (s : State) : Option Verdict :=
  if (s.handsets[h]).onHook then some .hookOn
  else if s.isBound h (lineCircuit line) then none
  else firstVerdict [
    (s.isBound (1 - h) (lineCircuit line) || s.askPending line, .busy),
    (s.placesTaken h ≥ Config.handsetPlaces, .fullHandset),
    (s.noRoomToAsk line, .busy)]

/-- A LINE_KEY that passes: nothing for a line bound to the handset, RESUME for a held line, else TAKE (R108). -/
def State.pressKey (line : LineNo) (h : Fin 2) (s : State) : State :=
  if s.isBound h (lineCircuit line) then s
  else
    match s.heldEntry line with
    | some e => s.sendAsk .resume line h e.handset false
    | none => s.sendAsk .take line h h false

/-- The line of a LINE_KEY and its handset, where the request names them. -/
def State.keyTarget (key handset : Octet) (s : State) : Option (LineNo × Fin 2) :=
  match indexOf 128 key, indexOf 2 handset with
  | some k, some h => (s.keyLine k).map fun line => (line, h)
  | _, _ => none

/-- The answer of a LINE_KEY (R108). -/
def State.lineKeyRefusal (key handset : Octet) (s : State) : Option Verdict :=
  match s.lineRefusal (outOf 128 key || outOf 2 handset) [] with
  | some v => some v
  | none =>
    match s.keyTarget key handset with
    | some (line, h) => s.keyRefusal line h
    | none => some .noLine

/-- LINE_KEY (R108). -/
def execLineKey (key : Octet) (handset : Octet) (s : State) : Result :=
  .next (s.panelRequest 7 (s.lineKeyRefusal key handset) [] fun s =>
    match s.keyTarget key handset with
    | some (line, h) => s.pressKey line h
    | none => s)

/-- A LINE binding released: removed, the line's pending asks removed without notice, a DROP sent (R109). -/
def State.releaseLine (h : Fin 2) (line : LineNo) (s : State) : State :=
  let s1 := s.removeBinding h (lineCircuit line)
  { s1 with pendingAsks := s1.pendingAsks.filter fun (a : PendingAsk) => a.line != line }.sendPlain .drop line
    (.handset h)

/-- A binding released (R109): a LINE by its home, any other handed to the call controller. -/
def State.releaseBinding (h : Fin 2) (b : Binding) (s : State) : State :=
  match b.line with
  | some line => s.releaseLine h line
  | none => s.releaseCall h b.circuit

/-- RELEASE (R109). -/
def execRelease (handset : Octet) (binding : Octet) (s : State) : Result :=
  .next (s.panelRequest 8
    (s.lineRefusal (outOf 2 handset || outOf Config.handsetPlaces binding) [(s.noBinding handset binding, .notBound)]) []
    (State.onIndex handset fun h s =>
      match s.bindingAt h binding.toNat with
      | some b => s.releaseBinding h b
      | none => s))

/-- The line of a LINE binding at an index of a handset (R110). -/
def State.boundLine (handset binding : Octet) (s : State) : Option (Fin 2 × LineNo) :=
  match indexOf 2 handset with
  | some h => ((s.bindingAt h binding.toNat).bind Binding.line).map fun line => (h, line)
  | none => none

/-- How many places of the held list are taken, pending HOLDs among them (R110). -/
def State.heldPlaces (s : State) : Nat :=
  s.held.length + (s.pendingAsks.filter fun (a : PendingAsk) => a.op == .hold).length

/-- HOLD (R110). -/
def execHold (handset : Octet) (binding : Octet) (s : State) : Result :=
  .next (s.panelRequest 9
    (s.lineRefusal (outOf 2 handset || outOf Config.handsetPlaces binding) (match s.boundLine handset binding with
      | some (_, line) => [(s.askPending line, .busy), (s.heldPlaces ≥ Config.heldCapacity, .heldFull),
          (s.noRoomToAsk line, .busy)]
      | none => [(true, .notBound)])) [] fun s =>
    match s.boundLine handset binding with
    | some (h, line) => s.sendAsk .hold line h h false
    | none => s)

/-- The first LINE binding's line of the handset an octet names (R111). -/
def State.firstLineOf (handset : Octet) (s : State) : Option (Fin 2 × LineNo) :=
  match indexOf 2 handset with
  | some h => (s.firstLine h).map fun line => (h, line)
  | none => none

/-- The checks of RING and PRIVACY (R111). -/
def State.firstLineRefusal (handset : Octet) (s : State) : Option Verdict :=
  s.lineRefusal (outOf 2 handset) (match s.firstLineOf handset with
    | some (_, line) => [(s.askPending line || s.noRoomToAsk line, .busy)]
    | none => [(true, .notBound)])

/-- A RING or PRIVACY that passes (R111). -/
def State.askFirstLine (op : AskOp) (handset : Octet) (wanted : Bool) (s : State) : State :=
  match s.firstLineOf handset with
  | some (h, line) => s.sendAsk op line h h wanted
  | none => s

/-- RING (R111). -/
def execRing (handset : Octet) (s : State) : Result :=
  .next (s.panelRequest 10 (s.firstLineRefusal handset) [] (State.askFirstLine .ring handset false))

/-- PRIVACY (R111). -/
def execPrivacy (handset : Octet) (on : Bool) (s : State) : Result :=
  .next (s.panelRequest 11 (s.firstLineRefusal handset) [] (State.askFirstLine .privacy handset on))

end Sys2Proof.Machine
end

