-- ==== Sys2Proof/Machine/CallRequests.lean ====
section
/-! DEFINITION. The call controller's commands (06): placing, answering and ending calls, the waits of its slots, the
buzz bits and the signals to other stations. -/

namespace Sys2Proof.Machine

/-! ### Placing a call -/

/-- The target of a CALL request: a station and a handset port, or station 0 and a hunt group (R118, R198). -/
def State.callTarget (targetStation called : Octet) (s : State) : Option CallTarget :=
  match Called.ofOctet called with
  | some (.port (.handset h)) =>
    if 1 ≤ targetStation.toNat ∧ targetStation.toNat ≤ Config.lastStation ∧
        targetStation ≠ stationOctet s.cfg.station then
      some (.party ⟨targetStation.setWidth 6, .handset h⟩)
    else none
  | some (.group g) => if targetStation = 0#8 then some (.group g) else none
  | _ => none

/-- The checks of a CALL (R118). -/
def State.callRefusal (handset targetStation called : Octet) (s : State) : Option Verdict :=
  firstVerdict [
    (!s.isActive, .notActive),
    (outOf 2 handset, .badIndex),
    ((s.callTarget targetStation called).isNone, .badValue),
    (atIndex handset fun (h : Fin 2) => (s.handsets[h]).onHook, .hookOn),
    (atIndex handset fun (h : Fin 2) => s.placesTaken h ≥ Config.handsetPlaces, .fullHandset),
    (s.freeSlot.isNone, .busy)]

/-- A CALLER slot in OFFERING (R118). -/
def State.offeringSlot (i : Fin 4) (h : Fin 2) (t : CallTarget) (s : State) : Slot where
  state := .offering
  role := some .caller
  id := some ⟨s.cfg.station, i⟩
  target := some t
  peer := match t with
    | .party p => some p
    | .group _ => none
  called := none
  handset := some h
  timer := some (s.blocks 100)

/-- A call placed in the lowest FREE slot (R117, R118). -/
def State.placeCall (h : Fin 2) (t : CallTarget) (s : State) : State :=
  match s.freeSlot with
  | some i =>
    let x := s.offeringSlot i h t
    (s.setSlot i x).sendSlotFrame x.peerStation .offer .none x
  | none => s

/-- CALL (R118). -/
def execCall (handset : Octet) (targetStation : Octet) (called : Octet) (s : State) : Result :=
  .next (s.panelRequest 15 (s.callRefusal handset targetStation called) []
    (State.onIndex handset fun h s =>
      match s.callTarget targetStation called with
      | some t => s.placeCall h t
      | none => s))

/-! ### Waits -/

/-- ALERT_WAIT_EXPIRY (R119): no frame is sent. -/
def execAlertWaitExpiry (slot : Fin 4) (s : State) : Result :=
  .next (if (s.slots[slot]).state = .offering ∧ (s.slots[slot]).timer.due then s.endCall slot .noAnswer else s)

/-- CALLER_ANSWER_WAIT_EXPIRY (R119). -/
def execCallerAnswerWaitExpiry (slot : Fin 4) (s : State) : Result :=
  .next (if (s.slots[slot]).state = .ringback ∧ (s.slots[slot]).timer.due then
      (s.sendSlotFrame (s.slots[slot]).peerStation .callEnd .noAnswer s.slots[slot]).endCall slot .noAnswer
    else s)

/-- CALLED_ANSWER_WAIT_EXPIRY (R122). -/
def execCalledAnswerWaitExpiry (slot : Fin 4) (s : State) : Result :=
  .next (if (s.slots[slot]).state = .alerting ∧ (s.slots[slot]).timer.due then
      (s.sendSlotFrame (s.slots[slot]).callId.station .decline .noAnswer s.slots[slot]).endCall slot .noAnswer
    else s)

/-! ### Answering and ending -/

/-- Whether a slot is a CALLED slot in ALERTING (R122). -/
def Slot.alerts (x : Slot) : Bool := x.role == some .called && x.state == .alerting

/-- An ALERTING slot answered on a handset: ACCEPT with the handset's port, then TALKING with its binding (R122). -/
def State.answerSlot (i : Fin 4) (h : Fin 2) (s : State) : State :=
  let x := s.slots[i]
  (s.send x.callId.station (.call ⟨.accept, x.callId, x.callerPort, .port (.handset h), .none⟩)).connect i x h

/-- The checks of an ANSWER (R122). -/
def State.answerRefusal (slot handset : Octet) (s : State) : Option Verdict :=
  firstVerdict [
    (!s.isActive, .notActive),
    (outOf 4 slot || outOf 2 handset, .badIndex),
    (!atIndex slot fun (i : Fin 4) => (s.slots[i]).alerts, .notBound),
    (atIndex handset fun (h : Fin 2) => (s.handsets[h]).onHook, .hookOn),
    (atIndex handset fun (h : Fin 2) => s.placesTaken h ≥ Config.handsetPlaces, .fullHandset)]

/-- ANSWER (R122). -/
def execAnswer (slot : Octet) (handset : Octet) (s : State) : Result :=
  .next (s.panelRequest 16 (s.answerRefusal slot handset) []
    (State.onIndex slot fun i => State.onIndex handset fun h s => s.answerSlot i h))

/-- An ALERTING slot rejected: DECLINE CLEARED, freed without a notice (R122). -/
def State.rejectSlot (i : Fin 4) (s : State) : State :=
  (s.sendSlotFrame (s.slots[i]).callId.station .decline .cleared s.slots[i]).freeCall i

/-- REJECT (R122). -/
def execReject (slot : Octet) (s : State) : Result :=
  .next (s.panelRequest 17
    (firstVerdict [(!s.isActive, .notActive), (outOf 4 slot, .badIndex),
      (!atIndex slot fun (i : Fin 4) => (s.slots[i]).alerts, .notBound)]) []
    (State.onIndex slot State.rejectSlot))

/-- CALL_END (R123): as REJECT on an ALERTING slot, else END CLEARED. -/
def execCallEnd (slot : Octet) (s : State) : Result :=
  .next (s.panelRequest 18
    (firstVerdict [(!s.isActive, .notActive), (outOf 4 slot, .badIndex),
      (atIndex slot fun (i : Fin 4) => (s.slots[i]).state == .free, .notBound)]) []
    (State.onIndex slot fun i s => if (s.slots[i]).state = .alerting then s.rejectSlot i else s.hangUp i))

/-! ### Signals -/

/-- The check of the three buzz mask requests; their set is one octet, so it names no bit above 7 (R130, R198). -/
def State.afterLoad (s : State) : Option Verdict := firstVerdict [(!s.loaded, .notActive)]

/-- BUZZ_MASK (R130). -/
def execBuzzMask (bits : Octet) (s : State) : Result :=
  .next (s.panelRequest 19 s.afterLoad [] fun s => { s with buzzMasked := s.buzzMasked ||| bits })

/-- The BUZZ notices of an unmasking: named bits that were masked and are set, in ascending order (R130). -/
def State.unmaskedBuzzes (bits : Octet) (s : State) : List Event :=
  (allPorts.filter fun n => bits.getLsbD n.val && s.buzzMasked.getLsbD n.val && s.signalWord.getLsbD n.val).map
    fun n => Event.buzz n s.setters[n.val]

/-- BUZZ_UNMASK (R130). -/
def execBuzzUnmask (bits : Octet) (s : State) : Result :=
  .next (s.panelRequest 20 s.afterLoad [] fun s =>
    { s with buzzMasked := s.buzzMasked &&& ~~~bits }.notifyAll (s.unmaskedBuzzes bits))

/-- BUZZ_CLEAR (R130): cleared at this station alone, setters kept. -/
def execBuzzClear (bits : Octet) (s : State) : Result :=
  .next (s.panelRequest 21 s.afterLoad [] fun s => { s with signalWord := s.signalWord &&& ~~~(bits.setWidth 16) })

/-- The checks of BUZZ and BUZZ_OFF (R131). -/
def State.buzzRefusal (index : Octet) (s : State) : Option Verdict :=
  firstVerdict [
    (!s.isActive, .notActive),
    (outOf 8 index, .badIndex),
    (atIndex index fun (n : Fin 8) => (s.cfg.buzzTargets[n]).1 == 0#6 || (s.cfg.buzzTargets[n]).1 == s.cfg.station,
      .badValue)]

/-- A SIGNAL of a buzz target's bit (R131). -/
def State.sendBuzz (set : Bool) (n : Fin 8) (s : State) : State :=
  s.send (s.cfg.buzzTargets[n]).1 (.signal ⟨set, octet (s.cfg.buzzTargets[n]).2.val⟩)

/-- BUZZ (R131). -/
def execBuzz (index : Octet) (s : State) : Result :=
  .next (s.panelRequest 22 (s.buzzRefusal index) [] (State.onIndex index (State.sendBuzz true)))

/-- BUZZ_OFF (R131). -/
def execBuzzOff (index : Octet) (s : State) : Result :=
  .next (s.panelRequest 23 (s.buzzRefusal index) [] (State.onIndex index (State.sendBuzz false)))

/-- REMOTE_MUTE (R132). -/
def execRemoteMute (station : Octet) (channel : Octet) (on : Bool) (s : State) : Result :=
  .next (s.panelRequest 24
    (firstVerdict [
      (!s.isActive, .notActive),
      (outOf 8 channel, .badIndex),
      (station == 0#8 || station.toNat ≥ 64 || station == stationOctet s.cfg.station, .badValue)]) []
    fun s => s.send (station.setWidth 6) (.signal ⟨on, octet (8 + channel.toNat)⟩))

end Sys2Proof.Machine
end

