-- ==== Sys2Proof/Machine/SpeakerRequests.lean ====
section
/-! DEFINITION. The speaker controller's and the mixer's commands (07, 09): binding, talk, talkers, and the gains of the
speaker outputs. -/

namespace Sys2Proof.Machine

/-- The checks of a request that names a channel in ACTIVE (R135, R144, R145). -/
def State.channelActiveRefusal (channel : Octet) (more : List (Bool × Verdict)) (s : State) : Option Verdict :=
  firstVerdict ([(!s.isActive, .notActive), (outOf 8 channel, .badIndex)] ++ more)

/-- The checks of a request that names a channel in every state after the load (R147). -/
def State.channelRefusal (channel : Octet) (more : List (Bool × Verdict)) (s : State) : Option Verdict :=
  firstVerdict ([(!s.loaded, .notActive), (outOf 8 channel, .badIndex)] ++ more)

/-! ### Binding -/

/-- The binding a BIND names: LINE 1 to 1023 or HOOT 1 to 127, by the circuit kinds of the VOICE body (R135, R198;
log 22). -/
def bindingOf (kind : Octet) (number : BitVec 16) : Option ChannelBinding :=
  if kind = 1#8 ∧ 1 ≤ number.toNat ∧ number.toNat ≤ 1023 then some (.line number)
  else if kind = 2#8 ∧ 1 ≤ number.toNat ∧ number.toNat ≤ 127 then some (.hoot number.toNat)
  else none

/-- Whether a binding is to a line without a home (R135). -/
def State.noHome (b : Option ChannelBinding) (s : State) : Bool :=
  match b with
  | some (.line line) => (s.homeOf line).isNone
  | _ => false

/-- A channel bound anew: nothing for its present binding, else the present one is given up first (R135, R136). -/
def State.bindChannel (k : Fin 8) (b : ChannelBinding) (s : State) : State :=
  if (s.channels[k]).binding = b then s else (s.giveUp k).applyBinding k b

/-- BIND (R135 to R137). -/
def execBind (channel : Octet) (kind : Octet) (number : BitVec 16) (s : State) : Result :=
  .next (s.panelRequest 25
    (s.channelActiveRefusal channel
      [((bindingOf kind number).isNone, .badValue), (s.noHome (bindingOf kind number), .noLine)]) []
    (State.onIndex channel fun k s =>
      match bindingOf kind number with
      | some b => s.bindChannel k b
      | none => s))

/-- UNBIND (R135): nothing for a channel that is OFF. -/
def execUnbind (channel : Octet) (s : State) : Result :=
  .next (s.panelRequest 26 (s.channelActiveRefusal channel []) []
    (State.onIndex channel fun k s => if (s.channels[k]).binding = .unbound then s else s.giveUp k))

/-- LISTEN_WAIT_EXPIRY (R137): the channel goes OFF. -/
def execListenWaitExpiry (channel : Fin 8) (s : State) : Result :=
  .next (match (s.channels[channel]).wait, (s.channels[channel]).binding with
    | some w, .line line =>
      if w.timer = 0 then (s.turnOff channel).notify (.askNoAnswer line .listen (.speakerCh channel)) else s
    | _, _ => s)

/-! ### Talkers and talk -/

/-- TALKERS (R142). -/
def execTalkers (limit : Octet) (s : State) : Result :=
  .next (s.panelRequest 27
    (firstVerdict [(!s.loaded, .notActive), (limit.toNat < 1 || limit.toNat > 4, .badValue)]) []
    (State.setTalkerLimit limit.toNat))

/-- Whether a channel's binding is a line, waiting or not (R144). -/
def ChannelBinding.isLine : ChannelBinding → Bool
  | .line _ => true
  | _ => false

/-- TALK (R144). -/
def execTalk (channel : Octet) (s : State) : Result :=
  .next (s.panelRequest 28
    (s.channelActiveRefusal channel [
      (atIndex channel fun (k : Fin 8) => (s.channels[k]).binding == .unbound, .notBound),
      (atIndex channel fun (k : Fin 8) => (s.channels[k]).binding.isLine, .listenOnly),
      (atIndex channel fun (k : Fin 8) => s.signalWord.getLsbD (8 + k.val), .muted)]) []
    (State.onIndex channel State.startTalk))

/-- TALK_UP (R145): nothing where the talk state names another channel. -/
def execTalkUp (channel : Octet) (s : State) : Result :=
  .next (s.panelRequest 29 (s.channelActiveRefusal channel []) []
    (State.onIndex channel fun k s => if s.talk = some k then s.endTalk else s))

/-! ### Gains and outputs -/

/-- CHANNEL_VOLUME (R147). -/
def execChannelVolume (channel : Octet) (code : Octet) (s : State) : Result :=
  .next (s.panelRequest 30 (s.channelRefusal channel [(badGain code, .badValue)]) []
    (State.onIndex channel fun k s => s.setChannel k { s.channels[k] with volume := gainOf code }))

/-- CHANNEL_OUTPUT (R147). -/
def execChannelOutput (channel : Octet) (output : Octet) (s : State) : Result :=
  .next (s.panelRequest 31 (s.channelRefusal channel [(outOf 2 output, .badValue)]) []
    (State.onIndex channel fun k => State.onIndex output fun o s =>
      s.setChannel k { s.channels[k] with output := o }))

/-- CHANNEL_MUTE (R147). -/
def execChannelMute (channel : Octet) (on : Bool) (s : State) : Result :=
  .next (s.panelRequest 32 (s.channelRefusal channel []) []
    (State.onIndex channel fun k s => s.setChannel k { s.channels[k] with muted := on }))

/-- MASTER (R170). -/
def execMaster (output : Octet) (code : Octet) (s : State) : Result :=
  .next (s.panelRequest 33
    (firstVerdict [(!s.loaded, .notActive), (outOf 2 output, .badIndex), (badGain code, .badValue)]) []
    (State.onIndex output fun (o : Fin 2) s => { s with masters := s.masters.set o (gainOf code) }))

end Sys2Proof.Machine
end

