-- ==== Sys2Proof/Machine/RecorderPort.lean ====
section
/-! DEFINITION. The recorder port's four requests (10, R188). -/

namespace Sys2Proof.Machine

/-- The fields of a STATUS answer (R188, R198): READY count, first READY or 255, FILLING count, strained taps. -/
def State.statusFields (s : State) : List Octet :=
  [octet (s.countOwner .ready), match s.firstReady with | some i => octet i.val | none => 255#8,
    octet (s.countOwner .filling), octet s.strainedTaps.length] ++
  s.strainedTaps.flatMap fun e => [octet e.1.val, octet e.2.state.code] ++ octets16 e.2.lostPairs

/-- STATUS (R188). -/
def execStatus (s : State) : Result := .next (s.recorderRequest 1 none s.statusFields id)

/-- Whether a descriptor that an index names is READY. -/
def State.readyAt (index : Octet) (s : State) : Bool := atIndex index fun (i : Fin 64) => (s.ring[i]).owner == .ready

/-- The checks of a request that names a descriptor (R188). -/
def State.descriptorRefusal (index : Octet) (more : List (Bool × Verdict)) (s : State) : Option Verdict :=
  firstVerdict ([(outOf 64 index, .badRange), (!s.readyAt index, .notReady)] ++ more)

/-- The descriptor an index names. -/
def State.descriptorAt (index : Octet) (s : State) : Descriptor :=
  match indexOf 64 index with
  | some i => s.ring[i]
  | none => Descriptor.empty

/-- READ_DESCRIPTOR (R188, R197). -/
def execReadDescriptor (index : Octet) (s : State) : Result :=
  .next (s.recorderRequest 2 (s.descriptorRefusal index []) (s.descriptorAt index).octets id)

/-- Whether a range of pairs is none of a descriptor's (R188). -/
def Descriptor.badRange (offset count : BitVec 16) (d : Descriptor) : Bool :=
  count == 0#16 || offset.toNat + count.toNat > d.pairs.length

/-- READ_AUDIO (R188, R197). -/
def execReadAudio (index : Octet) (offset : BitVec 16) (count : BitVec 16) (s : State) : Result :=
  .next (s.recorderRequest 3
    (s.descriptorRefusal index [((s.descriptorAt index).badRange offset count, .badRange)])
    (pairOctets (((s.descriptorAt index).pairs.drop offset.toNat).take count.toNat)) id)

/-- RETURN (R176, R188): the descriptor becomes FREE, its record and buffer empty. -/
def execReturnDescriptor (index : Octet) (s : State) : Result :=
  .next (s.recorderRequest 4 (s.descriptorRefusal index []) []
    (State.onIndex index fun (i : Fin 64) s => { s with ring := s.ring.set i Descriptor.empty }))

end Sys2Proof.Machine
end

