-- ==== Sys2Proof/Machine/Messages.lean ====
section
/-! DEFINITION. The request messages of the panel port and the recorder port as octets (11, R189, R197, R198): which
request a message is, the message of a request, and the messages that name no value R198 codes. -/

namespace Sys2Proof.Machine

/-! ### Fields -/

/-- A field that is on or off, OUT or IN, masked or unmasked (R198); another value has no coding (log 22). -/
def markOfOctet (o : Octet) : Option Bool :=
  match o.toNat with
  | 0 => some false
  | 1 => some true
  | _ => none

/-- A request of a kind without fields. -/
def noFields (c : Instr) : List Octet → Option Instr
  | [] => some c
  | _ => none

/-- A request of a kind with one octet of fields. -/
def oneField (f : Octet → Instr) : List Octet → Option Instr
  | [a] => some (f a)
  | _ => none

/-- A request of a kind with two octets of fields. -/
def twoFields (f : Octet → Octet → Instr) : List Octet → Option Instr
  | [a, b] => some (f a b)
  | _ => none

/-- A request of a kind with three octets of fields. -/
def threeFields (f : Octet → Octet → Octet → Instr) : List Octet → Option Instr
  | [a, b, c] => some (f a b c)
  | _ => none

/-- A request of a kind whose last field is a mark behind one octet. -/
def fieldAndMark (f : Octet → Bool → Instr) : List Octet → Option Instr
  | [a, m] => (markOfOctet m).map (f a)
  | _ => none

/-- A LINE_PORT request: OUT is 1, IN is 0 (R42, R198). -/
def readLinePort : List Octet → Option Instr :=
  fieldAndMark fun port out => if out then .linePortOut port else .linePortIn port

/-- A LINE_FORCE request: the place of the form in the list of R198. -/
def readLineForce : List Octet → Option Instr
  | [port, form] =>
    match form.toNat with
    | 0 => some (.forceOoa port)
    | 1 => some (.forceRd port)
    | 2 => some (.forceNone port)
    | _ => none
  | _ => none

/-- A REMOTE_MUTE request (R132). -/
def readRemoteMute : List Octet → Option Instr
  | [station, channel, m] => (markOfOctet m).map (.remoteMute station channel)
  | _ => none

/-- A BIND request: the channel, and the circuit in three octets (R135, R198). -/
def readBind : List Octet → Option Instr
  | [channel, kind, high, low] => some (.bind channel kind (word16 high low))
  | _ => none

/-- An EVENT_MASK request: the set of kinds in two octets (R191, R198). -/
def readEventMask : List Octet → Option Instr
  | [high, low, m] => (markOfOctet m).map (.eventMask (word16 high low))
  | _ => none

/-- A READ_AUDIO request: offset and count in two octets each (R188, R198). -/
def readReadAudio : List Octet → Option Instr
  | [index, o1, o2, n1, n2] => some (.readAudio index (word16 o1 o2) (word16 n1 n2))
  | _ => none

/-! ### Messages read -/

/-- The request of a panel message's kind and fields, the kinds as R189 numbers them; none for another kind, and for
fields of another length or without a coding. -/
def readPanelRequest (kind : Nat) (fields : List Octet) : Option Instr :=
  match kind with
  | 1 => noFields .join fields | 2 => noFields .leave fields
  | 3 => readLinePort fields | 4 => readLineForce fields
  | 5 => oneField .hookOff fields | 6 => oneField .hookOn fields
  | 7 => twoFields .lineKey fields | 8 => twoFields .release fields
  | 9 => twoFields .hold fields | 10 => oneField .ring fields
  | 11 => fieldAndMark .privacy fields | 12 => fieldAndMark .mute fields
  | 13 => twoFields .volume fields | 14 => threeFields .balance fields
  | 15 => threeFields .call fields | 16 => twoFields .answer fields
  | 17 => oneField .reject fields | 18 => oneField .callEnd fields
  | 19 => oneField .buzzMask fields | 20 => oneField .buzzUnmask fields
  | 21 => oneField .buzzClear fields | 22 => oneField .buzz fields
  | 23 => oneField .buzzOff fields | 24 => readRemoteMute fields
  | 25 => readBind fields | 26 => oneField .unbind fields
  | 27 => oneField .talkers fields | 28 => oneField .talk fields
  | 29 => oneField .talkUp fields | 30 => twoFields .channelVolume fields
  | 31 => twoFields .channelOutput fields | 32 => fieldAndMark .channelMute fields
  | 33 => twoFields .master fields | 34 => noFields .readEvent fields
  | 35 => readEventMask fields | 36 => noFields .readChanges fields
  | 37 => fieldAndMark .conditionMask fields | 38 => noFields .snapshot fields
  | 39 => twoFields .readCounters fields | _ => none

/-- The request of a recorder message's kind and fields (R188, R197). -/
def readRecorderRequest (kind : Nat) (fields : List Octet) : Option Instr :=
  match kind with
  | 1 => noFields .status fields
  | 2 => oneField .readDescriptor fields
  | 3 => readReadAudio fields
  | 4 => oneField .returnDescriptor fields
  | _ => none

/-- The request that a message to the recorder port or to the panel port is: the length of what follows in two octets,
the kind, the fields (R197). None for a malformed message (cut short, of another length, or of no request: R189), and for
one whose mark or form has no coding (R198; log 22). -/
def readRequest (recorder : Bool) : List Octet → Option Instr
  | l1 :: l2 :: kind :: fields =>
    if (word16 l1 l2).toNat = fields.length + 1 then
      if recorder then readRecorderRequest kind.toNat fields else readPanelRequest kind.toNat fields
    else none
  | _ => none

/-- The request that a panel message would be if its last octet, a mark or a form that R198 codes no value for, were 0;
none for a message that is a request as it stands, and for a malformed one. Every mark and form is the last field of its
kind. -/
def readUncoded (octets : List Octet) : Option Instr :=
  if (readRequest false octets).isSome then none else readRequest false (octets.dropLast ++ [0#8])

/-! ### Messages written -/

/-- The kind and the fields of a panel request, as R189 numbers and R197 and R198 code them; none for the other
commands. -/
def panelFields : Instr → Option (Nat × List Octet)
  | .join => some (1, []) | .leave => some (2, [])
  | .linePortOut p => some (3, [p, 1#8]) | .linePortIn p => some (3, [p, 0#8])
  | .forceOoa p => some (4, [p, 0#8]) | .forceRd p => some (4, [p, 1#8]) | .forceNone p => some (4, [p, 2#8])
  | .hookOff h => some (5, [h]) | .hookOn h => some (6, [h])
  | .lineKey k h => some (7, [k, h]) | .release h b => some (8, [h, b])
  | .hold h b => some (9, [h, b]) | .ring h => some (10, [h])
  | .privacy h on => some (11, [h, octetOfBool on]) | .mute h on => some (12, [h, octetOfBool on])
  | .volume h c => some (13, [h, c]) | .balance h b c => some (14, [h, b, c])
  | .call h st c => some (15, [h, st, c]) | .answer i h => some (16, [i, h])
  | .reject i => some (17, [i]) | .callEnd i => some (18, [i])
  | .buzzMask bits => some (19, [bits]) | .buzzUnmask bits => some (20, [bits])
  | .buzzClear bits => some (21, [bits]) | .buzz n => some (22, [n])
  | .buzzOff n => some (23, [n]) | .remoteMute st k on => some (24, [st, k, octetOfBool on])
  | .bind k kind n => some (25, [k, kind] ++ octets16 n) | .unbind k => some (26, [k])
  | .talkers n => some (27, [n]) | .talk k => some (28, [k])
  | .talkUp k => some (29, [k]) | .channelVolume k c => some (30, [k, c])
  | .channelOutput k o => some (31, [k, o]) | .channelMute k on => some (32, [k, octetOfBool on])
  | .master o c => some (33, [o, c]) | .readEvent => some (34, [])
  | .eventMask ks m => some (35, octets16 ks ++ [octetOfBool m]) | .readChanges => some (36, [])
  | .conditionMask vs m => some (37, [vs, octetOfBool m]) | .snapshot => some (38, [])
  | .readCounters g p => some (39, [g, p])
  | _ => none

/-- The kind and the fields of a recorder request (R188, R197, R198). -/
def recorderFields : Instr → Option (Nat × List Octet)
  | .status => some (1, []) | .readDescriptor i => some (2, [i])
  | .readAudio i o n => some (3, i :: octets16 o ++ octets16 n) | .returnDescriptor i => some (4, [i])
  | _ => none

/-- The message of a request to the recorder port or to the panel port (R197); none for a command that is no request of
that port. -/
def requestMessage (recorder : Bool) (c : Instr) : Option (List Octet) :=
  (if recorder then recorderFields c else panelFields c).map fun m =>
    octets16 (BitVec.ofNat 16 (m.2.length + 1)) ++ octet m.1 :: m.2

end Sys2Proof.Machine
end

