-- ==== Sys2Proof/Machine/PanelPort.lean ====
section
/-! DEFINITION. The panel port's own requests (11, R189 to R196): malformed messages, event notices, condition views,
masks, snapshots and counters. -/

namespace Sys2Proof.Machine

/-- The kind that the answer to a malformed message names; 0 where the message was cut short before its kind (log 22). -/
def malformedKind (octets : List Octet) : Octet := octets.getD 2 0#8

/-- The refusal of a request whose mark or form has no coding. It is not malformed, so that NOT_ACTIVE and BAD_INDEX come
first where the owning rule gives them (R42, R43, R104, R111, R132, R147, R189, R193); the value itself is then refused
BAD_VALUE (log 22), before the owning rule's other refusals. -/
def State.uncodedVerdict (s : State) (request : Instr) : Verdict :=
  (match request with
    | .linePortIn port | .forceOoa port => s.portRefusal port
    | .privacy handset _ => s.lineRefusal (outOf 2 handset) []
    | .mute handset _ => s.handsetRefusal handset []
    | .remoteMute _ channel _ => firstVerdict [(!s.isActive, .notActive), (outOf 8 channel, .badIndex)]
    | .channelMute channel _ => s.channelRefusal channel []
    | .conditionMask views _ => firstVerdict [(outOf 32 views, .badIndex)]
    | _ => none).getD .badValue

/-- The refusal of a panel message that no request reads: BAD_VALUE for a malformed one (R189). -/
def State.unreadVerdict (s : State) (octets : List Octet) : Verdict :=
  match readUncoded octets with
  | some request => s.uncodedVerdict request
  | none => .badValue

/-- MALFORMED_MESSAGE (R188, R189): a message that no request of the port reads is refused with no effect. A message that a
request reads is not this command's (log 27). -/
def execMalformedMessage (recorder : Bool) (octets : List Octet) (s : State) : Result :=
  .next (if (readRequest recorder octets).isSome then s
    else if recorder then s.answerRecorder (malformedKind octets) .badValue []
    else if s.panelAnswers then s.answerPanel (malformedKind octets) (s.unreadVerdict octets) []
    else s)

/-! ### Event notices -/

/-- A notice as READ_EVENT returns it, behind its presence octet (R197, R198). -/
def Notice.octets (n : Notice) : List Octet := [octet n.event.code] ++ octets32 n.time ++ n.event.fields

/-- The fields of a READ_EVENT answer (R190, R197). -/
def State.eventFields (s : State) : List Octet :=
  s.overflow :: match s.notices with
    | n :: _ => 1#8 :: n.octets
    | [] => [0#8]

/-- READ_EVENT (R190): the oldest notice goes, the overflow count returns to 0. -/
def execReadEvent (s : State) : Result :=
  .next (s.panelRequest 34 none s.eventFields fun s => { s with notices := s.notices.tail, overflow := 0#8 })

/-- A set of marks set or cleared. -/
def applyMask {n : Nat} (marks set : BitVec n) (masked : Bool) : BitVec n :=
  if masked then marks ||| set else marks &&& ~~~set

/-- EVENT_MASK (R191): bit 0 of the set names a kind outside the 15 (R198). -/
def execEventMask (kinds : BitVec 16) (masked : Bool) (s : State) : Result :=
  .next (s.panelRequest 35 (firstVerdict [(kinds.getLsbD 0, .badValue)]) [] fun s =>
    { s with eventMasked := applyMask s.eventMasked kinds masked })

/-! ### Condition views -/

/-- An entry of a condition view (R192). -/
inductive ViewEntry where
  | lamp (k : Fin 128)
  | talker (k : Fin 8)
  | handset (h : Fin 2)
  | alarm (k : Fin 8)
  | station
  deriving DecidableEq, Repr

/-- Whether an entry holds a change mark. -/
def Marks.has (m : Marks) : ViewEntry → Bool
  | .lamp k => m.lamp[k] | .talker k => m.talker[k] | .handset h => m.handset[h] | .alarm k => m.alarm[k]
  | .station => m.station

/-- An entry's mark cleared. -/
def Marks.clear (m : Marks) : ViewEntry → Marks
  | .lamp k => { m with lamp := m.lamp.set k false }
  | .talker k => { m with talker := m.talker.set k false }
  | .handset h => { m with handset := m.handset.set h false }
  | .alarm k => { m with alarm := m.alarm.set k false }
  | .station => { m with station := false }

/-- Every entry in the order of view number and index (R193). -/
def allEntries : List ViewEntry :=
  (List.finRange 128).map .lamp ++ allPorts.map .talker ++ bothHandsets.map .handset ++ allPorts.map .alarm ++ [.station]

/-- An entry with its view number, its index and its value (R192, R197). -/
def State.entryOctets (s : State) : ViewEntry → List Octet
  | .lamp k => [0#8, octet k.val] ++ s.lampValue k
  | .talker k => [1#8, octet k.val] ++ s.talkerValue k
  | .handset h => [2#8, octet h.val] ++ s.handsetValue h
  | .alarm k => [3#8, octet k.val] ++ s.alarmValue k
  | .station => [4#8, 0#8] ++ s.stationValue

/-- The marked entries one READ_CHANGES takes: at most 16 (R193). -/
def State.changedEntries (s : State) : List ViewEntry := (allEntries.filter s.marks.has).take 16

/-- READ_CHANGES (R193). -/
def execReadChanges (s : State) : Result :=
  .next (s.panelRequest 36 none (octet s.changedEntries.length :: s.changedEntries.flatMap s.entryOctets) fun s =>
    { s with marks := s.changedEntries.foldl Marks.clear s.marks })

/-- CONDITION_MASK (R193). -/
def execConditionMask (views : Octet) (masked : Bool) (s : State) : Result :=
  .next (s.panelRequest 37 (firstVerdict [(outOf 32 views, .badIndex)]) [] fun s =>
    { s with viewMasked := applyMask s.viewMasked views masked })

/-! ### Counters -/

/-- Every live counter copied to its snapshot and zeroed, and the monitoring interval restarted (R195). -/
def State.takeSnapshot (s : State) : State :=
  { s with
    snapshots := s.live
    live := Counters.zero
    snapshotTime := s.stationTime
    monitorTimer := s.blocks (1000 * s.cfg.monitorInterval) }

/-- SNAPSHOT (R195). -/
def execSnapshot (s : State) : Result := .next (s.panelRequest 38 none [] State.takeSnapshot)

/-- MONITOR_INTERVAL_EXPIRY (R195). -/
def execMonitorIntervalExpiry (s : State) : Result := .next (if s.monitorTimer = 0 then s.takeSnapshot else s)

/-- The snapshots of the counters of a line port (R196). -/
def LineCounters.list (c : LineCounters) : List Count := [c.parityErrors, c.ooaPeriods, c.lineSlips]

/-- The counters of a group by its place in R196's table, counted from 0 (R198). -/
def Counters.group (c : Counters) (group port : Octet) : List Count :=
  match group.toNat with
  | 0 => [c.badFrames, c.staleDrops, c.txOverruns, c.evictions, c.controlRefused, c.contentionLosses, c.clashEvents]
  | 1 =>
    match indexOf 8 port with
    | some k => (c.lines[k]).list
    | none => []
  | 2 => [c.underruns, c.slips, c.lateFrames, c.gaps, c.restarts, c.streamsRefused, c.evictedStreams]
  | 3 => c.clipsHandset.toList ++ c.clipsSpeaker.toList ++ c.clipsLine.toList
  | 4 => c.lostPairs.toList
  | 5 => [c.signalIgnored]
  | _ => []

/-- READ_COUNTERS (R196): the port is read for the LINE group alone. -/
def execReadCounters (group : Octet) (port : Octet) (s : State) : Result :=
  .next (s.panelRequest 39
    (firstVerdict [(group == 1#8 && outOf 8 port, .badIndex), (outOf 6 group, .badValue)])
    (octets32 s.snapshotTime ++ (s.snapshots.group group port).flatMap octets16) id)

end Sys2Proof.Machine
end

