-- ==== Sys2Proof/Machine/Dispatch.lean ====
section
/-! DEFINITION. One arm per command, each one call of its meaning. -/

namespace Sys2Proof.Machine

def exec (i : Instr) (s : State) : Host.Outcome State Fault Refusal :=
  match i with
  | .fullReset => Sys2Proof.Machine.execFullReset s
  | .loadComplete memory settings => Sys2Proof.Machine.execLoadComplete memory settings s
  | .listenPeriodExpiry => Sys2Proof.Machine.execListenPeriodExpiry s
  | .join => Sys2Proof.Machine.execJoin s
  | .leave => Sys2Proof.Machine.execLeave s
  | .mediumIdle => Sys2Proof.Machine.execMediumIdle s
  | .contentionLoss => Sys2Proof.Machine.execContentionLoss s
  | .frameSent => Sys2Proof.Machine.execFrameSent s
  | .clashEvent => Sys2Proof.Machine.execClashEvent s
  | .clashWindowExpiry => Sys2Proof.Machine.execClashWindowExpiry s
  | .lifetimeExpiry entry => Sys2Proof.Machine.execLifetimeExpiry entry s
  | .beaconIntervalExpiry => Sys2Proof.Machine.execBeaconIntervalExpiry s
  | .voiceReceived unit crc => Sys2Proof.Machine.execVoiceReceived unit crc s
  | .stateReceived unit crc => Sys2Proof.Machine.execStateReceived unit crc s
  | .replyReceived unit crc => Sys2Proof.Machine.execReplyReceived unit crc s
  | .beaconReceived unit crc => Sys2Proof.Machine.execBeaconReceived unit crc s
  | .peerSilenceExpiry station => Sys2Proof.Machine.execPeerSilenceExpiry station s
  | .askTake unit crc => Sys2Proof.Machine.execAskTake unit crc s
  | .askDrop unit crc => Sys2Proof.Machine.execAskDrop unit crc s
  | .askHold unit crc => Sys2Proof.Machine.execAskHold unit crc s
  | .askResume unit crc => Sys2Proof.Machine.execAskResume unit crc s
  | .askRing unit crc => Sys2Proof.Machine.execAskRing unit crc s
  | .askPrivacy unit crc => Sys2Proof.Machine.execAskPrivacy unit crc s
  | .askListen unit crc => Sys2Proof.Machine.execAskListen unit crc s
  | .askUnlisten unit crc => Sys2Proof.Machine.execAskUnlisten unit crc s
  | .outRingExpiry port => Sys2Proof.Machine.execOutRingExpiry port s
  | .recallTimerExpiry port entry => Sys2Proof.Machine.execRecallTimerExpiry port entry s
  | .holdOverExpiry port => Sys2Proof.Machine.execHoldOverExpiry port s
  | .refreshExpiry port => Sys2Proof.Machine.execRefreshExpiry port s
  | .conflictTimerExpiry port => Sys2Proof.Machine.execConflictTimerExpiry port s
  | .carrierFall port => Sys2Proof.Machine.execCarrierFall port s
  | .carrierRise port => Sys2Proof.Machine.execCarrierRise port s
  | .losCleared port octet => Sys2Proof.Machine.execLosCleared port octet s
  | .lineOctetReceived port octet => Sys2Proof.Machine.execLineOctetReceived port octet s
  | .alignmentConfirmed port octet => Sys2Proof.Machine.execAlignmentConfirmed port octet s
  | .alignmentLost port octet => Sys2Proof.Machine.execAlignmentLost port octet s
  | .lolDeclared port stimulus => Sys2Proof.Machine.execLolDeclared port stimulus s
  | .lolCleared port octet => Sys2Proof.Machine.execLolCleared port octet s
  | .labelSettled port octet => Sys2Proof.Machine.execLabelSettled port octet s
  | .signallingAccepted port octet => Sys2Proof.Machine.execSignallingAccepted port octet s
  | .farDefectDecided port octet => Sys2Proof.Machine.execFarDefectDecided port octet s
  | .degradeWindowEnd port octet => Sys2Proof.Machine.execDegradeWindowEnd port octet s
  | .linePortOut port => Sys2Proof.Machine.execLinePortOut port s
  | .linePortIn port => Sys2Proof.Machine.execLinePortIn port s
  | .forceOoa port => Sys2Proof.Machine.execForceOoa port s
  | .forceRd port => Sys2Proof.Machine.execForceRd port s
  | .forceNone port => Sys2Proof.Machine.execForceNone port s
  | .blockBoundary io => Sys2Proof.Machine.execBlockBoundary io s
  | .hangoverExpiry channel station port io => Sys2Proof.Machine.execHangoverExpiry channel station port io s
  | .segmentFull port io => Sys2Proof.Machine.execSegmentFull port io s
  | .stalenessTimerExpiry line => Sys2Proof.Machine.execStalenessTimerExpiry line s
  | .pendingAskExpiry tag => Sys2Proof.Machine.execPendingAskExpiry tag s
  | .hookOff handset => Sys2Proof.Machine.execHookOff handset s
  | .hookOn handset => Sys2Proof.Machine.execHookOn handset s
  | .mute handset on => Sys2Proof.Machine.execMute handset on s
  | .volume handset code => Sys2Proof.Machine.execVolume handset code s
  | .balance handset binding code => Sys2Proof.Machine.execBalance handset binding code s
  | .lineKey key handset => Sys2Proof.Machine.execLineKey key handset s
  | .release handset binding => Sys2Proof.Machine.execRelease handset binding s
  | .hold handset binding => Sys2Proof.Machine.execHold handset binding s
  | .ring handset => Sys2Proof.Machine.execRing handset s
  | .privacy handset on => Sys2Proof.Machine.execPrivacy handset on s
  | .call handset targetStation called => Sys2Proof.Machine.execCall handset targetStation called s
  | .offer unit crc => Sys2Proof.Machine.execOffer unit crc s
  | .alert unit crc => Sys2Proof.Machine.execAlert unit crc s
  | .accept unit crc => Sys2Proof.Machine.execAccept unit crc s
  | .decline unit crc => Sys2Proof.Machine.execDecline unit crc s
  | .endReceived unit crc => Sys2Proof.Machine.execEndReceived unit crc s
  | .alertWaitExpiry slot => Sys2Proof.Machine.execAlertWaitExpiry slot s
  | .callerAnswerWaitExpiry slot => Sys2Proof.Machine.execCallerAnswerWaitExpiry slot s
  | .calledAnswerWaitExpiry slot => Sys2Proof.Machine.execCalledAnswerWaitExpiry slot s
  | .answer slot handset => Sys2Proof.Machine.execAnswer slot handset s
  | .reject slot => Sys2Proof.Machine.execReject slot s
  | .callEnd slot => Sys2Proof.Machine.execCallEnd slot s
  | .signalSet unit crc => Sys2Proof.Machine.execSignalSet unit crc s
  | .signalClear unit crc => Sys2Proof.Machine.execSignalClear unit crc s
  | .buzzMask bits => Sys2Proof.Machine.execBuzzMask bits s
  | .buzzUnmask bits => Sys2Proof.Machine.execBuzzUnmask bits s
  | .buzzClear bits => Sys2Proof.Machine.execBuzzClear bits s
  | .buzz index => Sys2Proof.Machine.execBuzz index s
  | .buzzOff index => Sys2Proof.Machine.execBuzzOff index s
  | .remoteMute station channel on => Sys2Proof.Machine.execRemoteMute station channel on s
  | .bind channel kind number => Sys2Proof.Machine.execBind channel kind number s
  | .unbind channel => Sys2Proof.Machine.execUnbind channel s
  | .listenWaitExpiry channel => Sys2Proof.Machine.execListenWaitExpiry channel s
  | .talkers limit => Sys2Proof.Machine.execTalkers limit s
  | .talk channel => Sys2Proof.Machine.execTalk channel s
  | .talkUp channel => Sys2Proof.Machine.execTalkUp channel s
  | .channelVolume channel code => Sys2Proof.Machine.execChannelVolume channel code s
  | .channelOutput channel output => Sys2Proof.Machine.execChannelOutput channel output s
  | .channelMute channel on => Sys2Proof.Machine.execChannelMute channel on s
  | .master output code => Sys2Proof.Machine.execMaster output code s
  | .streamSilenceExpiry entry io => Sys2Proof.Machine.execStreamSilenceExpiry entry io s
  | .status => Sys2Proof.Machine.execStatus s
  | .readDescriptor index => Sys2Proof.Machine.execReadDescriptor index s
  | .readAudio index offset count => Sys2Proof.Machine.execReadAudio index offset count s
  | .returnDescriptor index => Sys2Proof.Machine.execReturnDescriptor index s
  | .malformedMessage recorder octets => Sys2Proof.Machine.execMalformedMessage recorder octets s
  | .readEvent => Sys2Proof.Machine.execReadEvent s
  | .eventMask kinds masked => Sys2Proof.Machine.execEventMask kinds masked s
  | .readChanges => Sys2Proof.Machine.execReadChanges s
  | .conditionMask views masked => Sys2Proof.Machine.execConditionMask views masked s
  | .snapshot => Sys2Proof.Machine.execSnapshot s
  | .monitorIntervalExpiry => Sys2Proof.Machine.execMonitorIntervalExpiry s
  | .readCounters group port => Sys2Proof.Machine.execReadCounters group port s
  | .askUnknownOperation header body crc => Sys2Proof.Machine.execAskUnknownOperation header body crc s

end Sys2Proof.Machine
end

