-- ==== Sys2Proof/Safety.lean ====
section
/-! DEFINITION. What a safe run of a station is: every command completes, every bounded table stays within its bound, and
every line record stands in the state its inputs give. The terms that the statements share stand here too. -/

namespace Sys2Proof.Machine

/-! ### Completion and bounds -/

/-- A step that completes: it answers a next state. -/
def Completes (r : Result) : Prop := ∃ t, r = .next t

/-- The bounds the spec gives the queues a command can lengthen, the transmit queue (R7), the event notice queue (R190)
and the clash window (R18), and the class order of the entries that are not in transmission (R7). -/
structure State.TablesSound (s : State) : Prop where
  queue_bound : s.txQueue.length ≤ Config.queueCapacity
  queue_order : s.waiting.Pairwise fun a b => a.cls ≤ b.cls
  notice_bound : s.notices.length ≤ Config.noticeCapacity
  window_bound : s.clashWindow.length ≤ Config.clashWindowCapacity

/-! ### Line records -/

/-- A record in the state and with the consequences its inputs give (R66 to R68, R87, R88): the state is the derived
one, an out-of-service record has given up what R67 says, out-ring is on in ENGAGED alone, privacy stands at its default
without members, and a hold-over runs exactly while a FAILED line has parties. -/
structure LineRecord.Settled (c : PortSettings) (out : Bool) (alarms : Alarms) (r : LineRecord) : Prop where
  state_derived : r.state = r.derive out alarms
  out_empty : out = true → r.members = [] ∧ r.listeners = []
  ring_engaged : r.state ≠ .engaged → r.outRing = none
  privacy_default : r.members = [] → r.privacy = c.privacyDefault
  holdOver_failed : r.holdOver.isSome ↔ r.state = .failed ∧ ¬(r.members = [] ∧ r.listeners = [])

/-- Every line record is settled by its port's settings, its out-of-service causes and its port's alarms. -/
def State.LinesSettled (s : State) : Prop :=
  ∀ (k : Fin 8) (r : LineRecord), s.records[k] = some r → r.Settled (s.portCfg k) (s.outCause k r) (s.ports[k]).alarms

/-- No entry of a record belongs to the station itself, so that its STATE frames ask nothing of its own position and
speaker controllers (R114, R138). -/
def LineRecord.foreign (own : Station) (r : LineRecord) : Prop :=
  (∀ m ∈ r.members, m.party.station ≠ own) ∧ ∀ l ∈ r.listeners, l.party.station ≠ own

/-- No entry of a record names a station. -/
def LineRecord.without (p : Station) (r : LineRecord) : Prop :=
  (∀ m ∈ r.members, m.party.station ≠ p) ∧ ∀ l ∈ r.listeners, l.party.station ≠ p

/-! ### What a command leaves alone -/

/-- The fields of a station that the work on lines, mirrors, bindings, streams and frames offered leaves alone. -/
structure Base where
  stationTime : Time
  stationState : StationState
  cfg : Settings
  configClamps : Count
  listenTimer : Timer
  carrier : Vector Bool 8
  clashWindow : List Nat
  beaconTimer : Timer
  peers : Vector Peer 64
  ports : Vector LinePort 8
  slots : Vector Slot 4
  signalWord : BitVec 16
  setters : Vector (Option Station) 16
  buzzMasked : BitVec 8
  talk : Option (Fin 8)
  talkerLimit : Nat
  localLevels : List (Port × Nat)
  masters : Vector Nat 2
  earpieceOut : Vector Block 2
  speakerOut : Vector Block 2
  lineOut : Vector Block 8
  eventMasked : BitVec 16
  viewMasked : BitVec 8
  snapshots : Counters
  snapshotTime : Time
  monitorTimer : Nat
  panelAnswer : Option Answer
  recorderAnswer : Option Answer
  pending : List Instr
  deriving DecidableEq, Repr

/-- Those fields of a station. -/
def State.base (s : State) : Base where
  stationTime := s.stationTime
  stationState := s.stationState
  cfg := s.cfg
  configClamps := s.configClamps
  listenTimer := s.listenTimer
  carrier := s.carrier
  clashWindow := s.clashWindow
  beaconTimer := s.beaconTimer
  peers := s.peers
  ports := s.ports
  slots := s.slots
  signalWord := s.signalWord
  setters := s.setters
  buzzMasked := s.buzzMasked
  talk := s.talk
  talkerLimit := s.talkerLimit
  localLevels := s.localLevels
  masters := s.masters
  earpieceOut := s.earpieceOut
  speakerOut := s.speakerOut
  lineOut := s.lineOut
  eventMasked := s.eventMasked
  viewMasked := s.viewMasked
  snapshots := s.snapshots
  snapshotTime := s.snapshotTime
  monitorTimer := s.monitorTimer
  panelAnswer := s.panelAnswer
  recorderAnswer := s.recorderAnswer
  pending := s.pending

/-- Two states alike but for what an offer to the transmit queue changes: the queue itself, the medium's marks and the
live counters (R3, R6 to R11). -/
def State.alikeButQueue (s t : State) : Prop :=
  t = { s with
    txQueue := t.txQueue, transmitting := t.transmitting, mediumIdle := t.mediumIdle, mediumLooks := t.mediumLooks
    live := t.live }

/-- The queue holds a fresh entry for a frame. -/
def State.carries (s : State) (target : Station) (b : Body) : Prop :=
  ∃ e ∈ s.txQueue, e.target = target ∧ e.body = b ∧ e.stale = false

/-! ### A peer that is gone -/

/-- A line of other stations whose home was a station and is that station no longer (R94). -/
structure State.LosesHome (s : State) (p : Station) (t : State) (line : LineNo) : Prop where
  foreign : s.recordFor line = none
  before : s.homeOf line = some p
  after : t.homeOf line ≠ some p

/-- What the loss of a peer leaves of its entries (R25, R91, R95, R127, R139, R159): no stream, no talker, no line entry
and no call with it; every other call stays as it was; of a line of another station whose home it was a CURRENT mirror
is STALE with its content kept, and no binding, held line, pending ask or channel of the line is left. -/
structure State.GaveUpPeer (p : Station) (s t : State) : Prop where
  streams : ∀ (i : Fin 32) (e : StreamEntry), t.streams[i] = some e → e.party.station ≠ p
  talkers : ∀ (k : Fin 8), ∀ x ∈ (t.channels[k]).talkers, x.party.station ≠ p
  records : ∀ (k : Fin 8) (r : LineRecord), t.records[k] = some r → r.without p
  calls : ∀ (i : Fin 4) (q : Party), (t.slots[i]).peer = some q → q.station ≠ p
  calls_kept : ∀ i : Fin 4, (∀ q : Party, (s.slots[i]).peer = some q → q.station ≠ p) → t.slots[i] = s.slots[i]
  mirrors : ∀ (line : LineNo) (m : Mirror), s.LosesHome p t line → s.mirrorOf line = some m → m.state = .current →
    t.mirrorOf line = some { m with state := .stale, timer := none }
  position : ∀ line : LineNo, s.LosesHome p t line →
    (∀ h : Fin 2, ∀ b ∈ (t.handsets[h]).bindings, b.circuit ≠ .line line) ∧ (∀ e ∈ t.held, e.line ≠ line) ∧
    ∀ a ∈ t.pendingAsks, a.line ≠ line
  channels : ∀ line : LineNo, s.LosesHome p t line → ∀ k : Fin 8, (t.channels[k]).binding ≠ .line line

/-! ### Leaving -/

/-- What a tap is after a LEAVE or CLASHED: of a line with parties, RECORDING has ended and STARVED is CLOSING; every
other tap stays as it was (R35, R183, R185). -/
def Tap.left (parties : List (Party × Mode)) (t : Tap) : Tap :=
  if parties = [] then t
  else
    match t.state with
    | .recording => { t with state := .idle, number := none, nextSegment := 0#16, filling := none }
    | .starved => { t with state := .closing }
    | .idle | .closing => t

/-- What a LEAVE or CLASHED leaves of the blocks above the floor bus port (R35, R36): every line out of service with
empty lists, every used port's receive side at its reset values but for LOS (R41), the tap of every line with parties
ended, its open descriptor READY with LAST (R183), every call slot free, the signal word zero with no setters (R129),
every mirror UNKNOWN, no bindings, held lines, pending asks, channel bindings, talkers or streams; hook, mute, volumes,
buzz mask and peer table are kept. -/
structure State.HasLeft (s t : State) : Prop where
  lines : ∀ (k : Fin 8) (r : LineRecord), s.records[k] = some r → ∃ r' : LineRecord, t.records[k] = some r' ∧
    r'.state = .outOfService ∧ r'.members = [] ∧ r'.listeners = [] ∧ r'.outRing = none ∧ r'.holdOver = none ∧
    r'.conflict = none ∧ r'.refresh = none ∧ r'.farSignalling = r.farSignalling
  slots : ∀ i : Fin 4, t.slots[i] = Slot.empty
  ports : ∀ k : Fin 8, t.ports[k] =
    if s.used k then
      { LinePort.reset with
        alarms := ⟨(s.ports[k]).alarms.los, false, false, false, false⟩
        txIndex := (s.ports[k]).txIndex, txParity := (s.ports[k]).txParity, txFrame := (s.ports[k]).txFrame
        out := (s.ports[k]).out, forceOoa := (s.ports[k]).forceOoa, forceRd := (s.ports[k]).forceRd }
    else s.ports[k]
  taps : ∀ (k : Fin 8) (r : LineRecord) (x : Tap), s.records[k] = some r → s.taps[k] = some x →
    t.taps[k] = some (x.left r.parties) ∧
    ∀ i : Fin 64, r.members ≠ [] → x.state = .recording → x.filling = some i →
      (t.ring[i]).owner = .ready ∧ (t.ring[i]).last = true ∧ (t.ring[i]).pairs = (s.ring[i]).pairs
  signals : t.signalWord = 0#16 ∧ t.buzzMasked = s.buzzMasked ∧ ∀ n : Fin 16, t.setters[n] = none
  mirrors : t.mirrors.map (·.line) = s.mirrors.map (·.line) ∧ ∀ m ∈ t.mirrors, m.state = .unknown ∧ m.timer = none
  handsets : ∀ h : Fin 2, t.handsets[h] = { s.handsets[h] with bindings := [] }
  asks : t.held = [] ∧ t.pendingAsks = []
  channels : ∀ k : Fin 8, t.channels[k] =
    { s.channels[k] with binding := .unbound, talkers := [], wait := none, misses := 0 }
  talk : t.talk = none
  streams : ∀ i : Fin 32, t.streams[i] = none
  kept : t.peers = s.peers ∧ t.cfg = s.cfg ∧ t.stationTime = s.stationTime ∧ t.carrier = s.carrier

/-! ### Frames heard -/

/-- A station that has heard a good frame, other than a BEACON, of a PRESENT station: the medium busy with it, the
silence timer restarted (R3, R22). -/
def State.havingHeard (s : State) (st : Station) : State :=
  { s with
    mediumIdle := false
    peers := s.peers.set (stationIndex st) { s.peer st with state := .present, silence := some (s.blocks 400) } }

/-- A frame that an ACTIVE station hands on: good, from a PRESENT station that is not itself, for it or for all (R16,
R19). -/
structure State.HandsOn (s : State) (octets : List Octet) (source target : Station) (b : Body) : Prop where
  active : s.stationState = .active
  good : readFrame octets = some ⟨source, target, b⟩
  other : source ≠ s.cfg.station
  present : (s.peer source).state = .present
  addressed : target = s.cfg.station ∨ target = Config.allStations

/-- The commands that hear a frame, each with the bodies that its row is for. -/
def heardRows (header body crc : List Octet) : List (Instr × (Body → Bool)) :=
  let unit := header ++ body
  [(.voiceReceived unit crc, (·.kind == .voice)), (.stateReceived unit crc, (·.kind == .state)),
    (.replyReceived unit crc, (·.kind == .reply)), (.beaconReceived unit crc, (·.kind == .beacon)),
    (.askTake unit crc, (·.asks (some .take))), (.askDrop unit crc, (·.asks (some .drop))),
    (.askHold unit crc, (·.asks (some .hold))), (.askResume unit crc, (·.asks (some .resume))),
    (.askRing unit crc, (·.asks (some .ring))), (.askPrivacy unit crc, (·.asks (some .privacy))),
    (.askListen unit crc, (·.asks (some .listen))), (.askUnlisten unit crc, (·.asks (some .unlisten))),
    (.askUnknownOperation header body crc, (·.asks none)), (.offer unit crc, (·.calls .offer)),
    (.alert unit crc, (·.calls .alert)), (.accept unit crc, (·.calls .accept)),
    (.decline unit crc, (·.calls .decline)), (.endReceived unit crc, (·.calls .callEnd)),
    (.signalSet unit crc, (·.signals true)), (.signalClear unit crc, (·.signals false))]

/-- A circuit that the ten bits of a VOICE body hold (R197). -/
def Circuit.fits : Circuit → Prop
  | .line n => n.toNat < 1024
  | .hoot n => n < 1024
  | .call n => n < 1024

/-- A body that the layouts can carry (R197): counts within the lists' bounds, a known operation, a group that is one, a
reason that frames carry. -/
def Body.carriable : Body → Prop
  | .state b => b.members.length ≤ 6 ∧ b.listeners.length ≤ Config.listenerCapacity
  | .ask b => b.op.isSome
  | .call b => b.called ≠ .group 0#6 ∧ b.reason ≠ .peerLost
  | .voice b => b.circuit.fits
  | .beacon c => c.homeLines.length ≤ 8
  | .reply _ | .signal _ => True

/-! ### Asks at a line's home -/

/-- The command that hears an ASK of an operation. -/
def askCommand (unit crc : List Octet) : AskOp → Instr
  | .take => .askTake unit crc | .drop => .askDrop unit crc | .hold => .askHold unit crc
  | .resume => .askResume unit crc | .ring => .askRing unit crc | .privacy => .askPrivacy unit crc
  | .listen => .askListen unit crc | .unlisten => .askUnlisten unit crc

/-- An ASK handed on for a line whose record stands on port `k` and is settled, with no entry of the station's own. -/
structure State.AsksHome (s : State) (octets : List Octet) (source : Station) (op : AskOp) (a : Ask) (k : Fin 8)
    (r : LineRecord) : Prop where
  handed : s.HandsOn octets source s.cfg.station (.ask a)
  asks : a.op = some op
  found : s.recordFor a.line = some k
  stands : s.records[k] = some r
  settled : r.Settled (s.portCfg k) (s.outCause k r) (s.ports[k]).alarms
  foreign : r.foreign s.cfg.station

/-- A STATE frame of a record waits: its line, state, privacy, out-ring flag, far-end signalling, parties with modes, and
listeners (R89; recall flags apart, which R9 may keep). -/
def State.announcing (t : State) (k : Fin 8) (r : LineRecord) : Prop :=
  ∃ b : LineStatus, t.carries Config.allStations (.state b) ∧ b.line = (t.portCfg k).line ∧ b.state = r.state ∧
    b.privacy = r.privacy ∧ b.outRing = r.outRing.isSome ∧ b.farSignalling = r.farSignalling ∧
    b.alarms = (t.ports[k]).alarms ∧ b.members.map (fun m => (m.party, m.mode)) = r.parties ∧
    b.listeners = r.listeners.map (·.party)

/-- A granted ASK that leaves record `r'` on port `k`: nothing below the lines changes but what hearing the frame does,
no other record changes, the REPLY waits where there was room, and so does a STATE where the record's content
changed. -/
structure State.GrantsAsk (s t : State) (source : Station) (a : Ask) (k : Fin 8) (r' : LineRecord) : Prop where
  base : t.base = (s.havingHeard source).base
  record : t.records[k] = some r'
  others : ∀ j : Fin 8, j ≠ k → t.records[j] = s.records[j]
  settled : r'.Settled (s.portCfg k) (s.outCause k r') (s.ports[k]).alarms
  reply : s.txQueue.length < 24 → t.carries source (.reply ⟨a.line, a.tag, false, none⟩)
  state : s.txQueue.length + 1 < 24 → s.statusOf k ≠ t.statusOf k → t.announcing k r'

/-- A refused ASK: only the transmit queue changes, where the REPLY waits if there was room. -/
structure State.RefusesAsk (s t : State) (source : Station) (a : Ask) (reason : AskReason) : Prop where
  frame : (s.havingHeard source).alikeButQueue t
  reply : s.txQueue.length < 24 → t.carries source (.reply ⟨a.line, a.tag, true, some reason⟩)

/-! ### Conflict sightings and segments -/

/-- A conflict sighting by station `p` of the line whose record on port `k` was `r` (R92): the mark takes `p` and 1 s; a
line whose mark was clear yields, out of service with both lists empty and its tap told, and of one that had yielded
nothing else changes. -/
structure State.SightsConflict (s t : State) (p : Station) (k : Fin 8) (r r' : LineRecord) : Prop where
  record : t.records[k] = some r'
  mark : r'.conflict = some ⟨p, s.blocks 1000⟩
  yields : r.conflict = none → r'.state = .outOfService ∧ r'.members = [] ∧ r'.listeners = [] ∧ r'.outRing = none ∧
    r'.holdOver = none ∧ r'.privacy = (s.portCfg k).privacyDefault ∧ r'.farSignalling = r.farSignalling ∧
    ∀ x : Tap, s.taps[k] = some x → t.taps[k] = some (x.left r.parties)
  renews : r.conflict ≠ none → r' = { r with conflict := some ⟨p, s.blocks 1000⟩ } ∧ t.taps[k] = s.taps[k] ∧
    ∀ n ∈ t.notices, n ∈ s.notices ∨ ∀ (line : LineNo) (q : Station), n.event ≠ .lineConflict line k q

/-- Whether the near track of port `k` takes at the next boundary, from an ACTIVE member of another station, a block that
is not REAL: no stream entry of that member has a block to play (R156, R182). -/
def State.TakesUnreal (s : State) (k : Fin 8) : Prop :=
  ∃ (r : LineRecord) (m : Member), s.records[k] = some r ∧ r.state = .engaged ∧ m ∈ r.members ∧ m.mode = .active ∧
    m.party.station ≠ s.cfg.station ∧
    ∀ (i : Fin 32) (e : StreamEntry), s.streams[i] = some e → e.circuit = .line (s.portCfg k).line →
      e.party = m.party → e.queue.length < if e.playing then 1 else 2

/-! ### Lines of the station's own home -/

/-- A line that the station is home to itself, in ACTIVE with its panel: the record on port `k` is settled, no ask for
the line is pending, and the station's own entries are those that its handsets, held list and channels hold, so that no
STATE frame of the line finds an orphan or a lost entry there (R114, R115, R138). -/
structure State.OwnLine (s : State) (line : LineNo) (k : Fin 8) (r : LineRecord) : Prop where
  active : s.stationState = .active
  answers : s.panelAnswers = true
  home : s.homeOf line = some s.cfg.station
  found : s.recordFor line = some k
  stands : s.records[k] = some r
  settled : r.Settled (s.portCfg k) (s.outCause k r) (s.ports[k]).alarms
  asks : ∀ a ∈ s.pendingAsks, a.line ≠ line
  once : (r.members.map (·.party)).Nodup ∧ (r.listeners.map (·.party)).Nodup
  members : ∀ m ∈ r.members, m.party.station = s.cfg.station → ∃ h : Fin 2, m.party.port = .handset h ∧
    (m.mode = .active → ∃ b ∈ (s.handsets[h]).bindings, b.circuit = .line line) ∧
    (m.mode = .held → ∃ e ∈ s.held, e.line = line ∧ e.handset = h)
  bindings : ∀ h : Fin 2, ∀ b ∈ (s.handsets[h]).bindings, b.circuit = .line line →
    ∃ m ∈ r.members, m.party = s.own (.handset h) ∧ m.mode = .active
  held : ∀ e ∈ s.held, e.line = line → ∃ m ∈ r.members, m.party = s.own (.handset e.handset) ∧ m.mode = .held
  listeners : ∀ l ∈ r.listeners, l.party.station = s.cfg.station → ∃ c : Fin 8, l.party.port = .speakerCh c ∧
    (s.channels[c]).binding = .line line
  channels : ∀ c : Fin 8, (s.channels[c]).binding = .line line →
    (s.channels[c]).wait = none ∧ ∃ l ∈ r.listeners, l.party = s.own (.speakerCh c)

/-- A granted request of the station itself that leaves record `r'` on port `k` (R74): a tag is used and nothing waits
for an answer, no frame but a STATE joins the queue, no other record changes, and the STATE of a changed line waits
where there was room. -/
structure State.ActsLocally (s t : State) (kind : Octet) (k : Fin 8) (r' : LineRecord) : Prop where
  base : t.base = { s.base with panelAnswer := some ⟨kind, .done, []⟩ }
  record : t.records[k] = some r'
  others : ∀ j : Fin 8, j ≠ k → t.records[j] = s.records[j]
  settled : r'.Settled (s.portCfg k) (s.outCause k r') (s.ports[k]).alarms
  asks : t.pendingAsks = s.pendingAsks ∧ t.tagCount = s.nextTag + 1#8
  frames : ∀ e ∈ t.txQueue, e ∈ s.txQueue ∨ e.body.kind = .state
  state : s.txQueue.length < 24 → s.statusOf k ≠ t.statusOf k → t.announcing k r'

/-- The circuits and balances of a handset's bindings, in bind order; the miss counts of R115 apart. -/
def State.boundCircuits (s : State) (h : Fin 2) : List (Circuit × Nat) :=
  (s.handsets[h]).bindings.map fun b => (b.circuit, b.balance)

/-- The lines of the held list with their handsets, in order. -/
def State.heldLines (s : State) : List (LineNo × Fin 2) := s.held.map fun e => (e.line, e.handset)

/-! ### Line ports -/

/-- A port one octet before the end of a frame that will be evaluated (R50). -/
structure LinePort.EndsEvaluated (p : LinePort) : Prop where
  aligned : p.framer = .aligned
  last : p.periodOctets = 35
  trusted : p.alarms.los = false ∧ p.alarms.lol = false ∧ p.out = false

/-- A command of the line octet's kind at a used port with carrier. -/
def State.hearsLine (s : State) (k : Fin 8) : Prop := s.used k = true ∧ s.carrier[k] = true

end Sys2Proof.Machine
end

