-- ==== Sys2Proof/Certificates/Slice0/Obligations.lean ====
section
/-! DEFINITION. The statements for the provers: what the FS24 does, command by command, by the rules of the manual. -/

open Sys2Proof Sys2Proof.Machine

/-! ### Recorder port -/

/-- STATUS (R188) changes nothing but the answer, whose fields are the READY count, the first READY descriptor in ring
order from the claim index or 255, the FILLING count, and each tap in STARVED or CLOSING with its port, its state and
its lost pairs, in port order (the order is log 49); the ready output is asserted while some descriptor is READY (R176). READ_DESCRIPTOR,
READ_AUDIO and RETURN of a READY descriptor (R188): reading changes nothing but the answer, RETURN frees the descriptor
and nothing else. The recorder's requests on an index above 63 or on a descriptor that is not READY are refused and
change nothing but the answer (R188). -/
def Obligations.RecorderRequestsAreAnswered : Prop :=
  (∀ s : State, (s.readyOutput = true ↔ ∃ i : Fin 64, (s.ring[i]).owner = .ready) ∧ ∃ fields : List Octet,
     exec .status s = .next { s with recorderAnswer := some ⟨1#8, .done, fields⟩ } ∧
     fields[0]? = some (BitVec.ofNat 8 (s.ring.toList.countP fun d => d.owner == .ready)) ∧
     fields[2]? = some (BitVec.ofNat 8 (s.ring.toList.countP fun d => d.owner == .filling)) ∧
     ((∀ i : Fin 64, (s.ring[i]).owner ≠ .ready) → fields[1]? = some 255#8) ∧
     (∀ i : Fin 64, (s.ring[s.claimIndex + i]).owner = .ready →
       (∀ j : Fin 64, j < i → (s.ring[s.claimIndex + j]).owner ≠ .ready) →
       fields[1]? = some (BitVec.ofNat 8 (s.claimIndex + i).val)) ∧
     ∃ strained : List (Fin 8), strained.Pairwise (· < ·) ∧
       (∀ k : Fin 8, k ∈ strained ↔ ∃ x : Tap, s.taps[k] = some x ∧ (x.state = .starved ∨ x.state = .closing)) ∧
       fields.drop 3 = BitVec.ofNat 8 strained.length :: strained.flatMap fun k =>
         match s.taps[k] with
         | some x => [BitVec.ofNat 8 k.val, if x.state = .starved then 2#8 else 3#8] ++ octets16 x.lostPairs
         | none => []) ∧
  ((∀ (s : State) (index : Octet) (i : Fin 64), index.toNat = i.val → (s.ring[i]).owner = .ready →
      exec (.readDescriptor index) s = .next { s with recorderAnswer := some ⟨2#8, .done, (s.ring[i]).octets⟩ } ∧
      (∀ offset count : BitVec 16, 0 < count.toNat → offset.toNat + count.toNat ≤ (s.ring[i]).pairs.length →
        exec (.readAudio index offset count) s = .next { s with recorderAnswer := some ⟨3#8, .done,
          (((s.ring[i]).pairs.drop offset.toNat).take count.toNat).flatMap fun p => octets16 p.1 ++ octets16 p.2⟩ }) ∧
      (∀ offset count : BitVec 16, count.toNat = 0 ∨ offset.toNat + count.toNat > (s.ring[i]).pairs.length →
        exec (.readAudio index offset count) s = .next { s with recorderAnswer := some ⟨3#8, .badRange, []⟩ }) ∧
      exec (.returnDescriptor index) s =
        .next { s with ring := s.ring.set i Descriptor.empty, recorderAnswer := some ⟨4#8, .done, []⟩ }) ∧
   (∀ (s : State) (index : Octet) (offset count : BitVec 16),
      (index.toNat > 63 →
        exec (.readDescriptor index) s = .next { s with recorderAnswer := some ⟨2#8, .badRange, []⟩ } ∧
        exec (.readAudio index offset count) s = .next { s with recorderAnswer := some ⟨3#8, .badRange, []⟩ } ∧
        exec (.returnDescriptor index) s = .next { s with recorderAnswer := some ⟨4#8, .badRange, []⟩ }) ∧
      (∀ i : Fin 64, index.toNat = i.val → (s.ring[i]).owner ≠ .ready →
        exec (.readDescriptor index) s = .next { s with recorderAnswer := some ⟨2#8, .notReady, []⟩ } ∧
        exec (.readAudio index offset count) s = .next { s with recorderAnswer := some ⟨3#8, .notReady, []⟩ } ∧
        exec (.returnDescriptor index) s = .next { s with recorderAnswer := some ⟨4#8, .notReady, []⟩ })))

/-! ### Panel port -/

/-- A malformed message is answered BAD_VALUE on the port it came to and has no effect; a loaded station without a panel
offers no answer (R188, R189; a kind that was cut off is answered as 0, log 22; a message that a request reads changes
nothing under this row, log 27). A mark or form without a coding is no malformed message: NOT_ACTIVE and BAD_INDEX come
first by the owning rule, and BAD_VALUE then refuses the value (R189, R198; the model's choice, log 22). READ_EVENT returns the oldest notice and the overflow count, removes the notice and
zeroes the count; an empty queue gives no notice (R190). EVENT_MASK sets or clears the marks of the named kinds and no
others; a set that names kind 0 is refused BAD_VALUE (R191). READ_CHANGES takes the first 16 marked entries in the order
of view number and index: they are returned with their values, their marks are cleared, and no other mark changes;
CONDITION_MASK sets or clears the marks of the named views; a set that names a view above 4 is refused BAD_INDEX (R193).
A notice joins a queue of fewer than 32, else the overflow count rises by 1, up to 255 (R190). The interrupt line is
asserted exactly while the port answers and a notice of an unmasked kind is queued or an entry of an unmasked view is
marked (R189, R194). -/
def Obligations.PanelPortNoticesAndViews : Prop :=
  ((∀ (s : State) (octets : List Octet),
      (readRequest true octets = none → exec (.malformedMessage true octets) s =
        .next { s with recorderAnswer := some ⟨octets.getD 2 0#8, .badValue, []⟩ }) ∧
      (readRequest false octets = none → readUncoded octets = none → s.panelAnswers = true →
        exec (.malformedMessage false octets) s =
          .next { s with panelAnswer := some ⟨octets.getD 2 0#8, .badValue, []⟩ }) ∧
      (s.panelAnswers = false → exec (.malformedMessage false octets) s = .next s) ∧
      (∀ recorder : Bool, readRequest recorder octets ≠ none → exec (.malformedMessage recorder octets) s = .next s) ∧
      ∀ (kind v : Octet) (fields : List Octet) (taken inTable : Bool), s.panelAnswers = true → 1 < v.toNat →
        octets = [0#8, BitVec.ofNat 8 (fields.length + 2), kind] ++ fields ++ [v] →
        (∃ h : Octet, fields = [h] ∧ inTable = decide (h.toNat ≤ 1) ∧
            (kind = 11#8 ∧ taken = decide (s.stationState = .active) ∨ kind = 12#8 ∧ taken = s.loaded)) ∨
          (∃ c : Octet, fields = [c] ∧ inTable = decide (c.toNat ≤ 7) ∧ kind = 32#8 ∧ taken = s.loaded) ∨
          (∃ st c : Octet, fields = [st, c] ∧ inTable = decide (c.toNat ≤ 7) ∧ kind = 24#8 ∧
            taken = decide (s.stationState = .active)) ∨
          (∃ views : Octet, fields = [views] ∧ inTable = decide (views.toNat ≤ 31) ∧ kind = 37#8 ∧ taken = true) ∨
          (∃ high low : Octet, fields = [high, low] ∧ inTable = true ∧ kind = 35#8 ∧ taken = true) ∨
          (∃ port : Octet, fields = [port] ∧ inTable = decide (∃ k : Fin 8, port.toNat = k.val ∧ s.used k = true) ∧
            (kind = 3#8 ∨ kind = 4#8 ∧ 2 < v.toNat) ∧ taken = s.loaded) →
        exec (.malformedMessage false octets) s = .next { s with
          panelAnswer := some ⟨kind,
            if taken = false then .notActive else if inTable = false then .badIndex else .badValue, []⟩ }) ∧
   (∀ s : State, s.panelAnswers = true →
      (∀ (n : Notice) (rest : List Notice), s.notices = n :: rest →
        exec .readEvent s = .next { s with
          notices := rest, overflow := 0#8
          panelAnswer := some ⟨34#8, .done,
            [s.overflow, 1#8, BitVec.ofNat 8 n.event.code] ++ octets32 n.time ++ n.event.fields⟩ }) ∧
      (s.notices = [] →
        exec .readEvent s =
          .next { s with overflow := 0#8, panelAnswer := some ⟨34#8, .done, [s.overflow, 0#8]⟩ })) ∧
   (∀ (s : State) (kinds : BitVec 16) (masked : Bool), s.panelAnswers = true →
      (kinds.getLsbD 0 = true →
        exec (.eventMask kinds masked) s = .next { s with panelAnswer := some ⟨35#8, .badValue, []⟩ }) ∧
      (kinds.getLsbD 0 = false → ∃ marks : BitVec 16,
        exec (.eventMask kinds masked) s =
          .next { s with eventMasked := marks, panelAnswer := some ⟨35#8, .done, []⟩ } ∧
        ∀ c : Fin 16, marks.getLsbD c.val = if kinds.getLsbD c.val then masked else s.eventMasked.getLsbD c.val))) ∧
  ((∀ s : State, s.panelAnswers = true → ∃ (taken : List ViewEntry) (marks : Marks),
      exec .readChanges s = .next { s with
        marks := marks
        panelAnswer := some ⟨36#8, .done, BitVec.ofNat 8 taken.length :: taken.flatMap s.entryOctets⟩ } ∧
      taken.length ≤ 16 ∧
      taken <+: allEntries.filter s.marks.has ∧
      (taken.length < 16 → ∀ e : ViewEntry, marks.has e = false) ∧
      ∀ e : ViewEntry, marks.has e = (s.marks.has e && !taken.contains e)) ∧
   (∀ (s : State) (views : Octet) (masked : Bool), s.panelAnswers = true →
      ((∃ v : Fin 8, v.val > 4 ∧ views.getLsbD v.val = true) →
        exec (.conditionMask views masked) s = .next { s with panelAnswer := some ⟨37#8, .badIndex, []⟩ }) ∧
      ((∀ v : Fin 8, v.val > 4 → views.getLsbD v.val = false) → ∃ marks : BitVec 8,
        exec (.conditionMask views masked) s =
          .next { s with viewMasked := marks, panelAnswer := some ⟨37#8, .done, []⟩ } ∧
        ∀ v : Fin 8, marks.getLsbD v.val = if views.getLsbD v.val then masked else s.viewMasked.getLsbD v.val))) ∧
  (∀ s : State,
     (∀ e : Event, (s.notices.length < 32 → s.notify e = { s with notices := s.notices ++ [⟨e, s.stationTime⟩] }) ∧
       (32 ≤ s.notices.length →
         s.notify e = { s with overflow := BitVec.ofNat 8 (min 255 (s.overflow.toNat + 1)) })) ∧
     (s.interrupt = true ↔ s.panelAnswers = true ∧
       ((∃ n ∈ s.notices, s.eventMasked.getLsbD n.event.code = false) ∨
         ∃ e : ViewEntry, s.marks.has e = true ∧ s.viewMasked.getLsbD (match e with
           | .lamp _ => 0 | .talker _ => 1 | .handset _ => 2 | .alarm _ => 3 | .station => 4) = false)))

/-- The 39 panel requests and the four recorder requests as messages: the length in two octets, the kind of R189's and R197's
numbering, the fields in the order and with the codes of R197 and R198. The message of a request is read as that request
and any other message is no request of the port (log 22 where the codings are the model's). -/
def Obligations.RequestMessagesAreReadAsWritten : Prop :=
  ∀ (recorder : Bool) (c : Instr) (octets : List Octet),
    requestMessage recorder c = some octets ↔ readRequest recorder octets = some c

/-- SNAPSHOT and the end of the monitoring interval copy every live counter to its snapshot, zero it, record the time
and restart the interval; before its end the interval's row changes nothing (R195; log 1). READ_COUNTERS changes nothing
but the answer: the snapshot time and the snapshots of the group in the order of the manual's table, or the refusal
(R196). -/
def Obligations.CountersAreCopiedAndRead : Prop :=
  (∀ s : State,
     (s.panelAnswers = true →
       exec .snapshot s = .next { s with
         snapshots := s.live, live := Counters.zero, snapshotTime := s.stationTime
         monitorTimer := s.blocks (1000 * s.cfg.monitorInterval), panelAnswer := some ⟨38#8, .done, []⟩ }) ∧
     (s.monitorTimer = 0 →
       exec .monitorIntervalExpiry s = .next { s with
         snapshots := s.live, live := Counters.zero, snapshotTime := s.stationTime
         monitorTimer := s.blocks (1000 * s.cfg.monitorInterval) }) ∧
     (s.monitorTimer ≠ 0 → exec .monitorIntervalExpiry s = .next s)) ∧
  (∀ (s : State) (port : Octet), s.panelAnswers = true →
     (∀ (group : Octet), group.toNat ≤ 5 → group.toNat ≠ 1 → ∃ counts : List Count,
       exec (.readCounters group port) s = .next { s with
         panelAnswer := some ⟨39#8, .done, octets32 s.snapshotTime ++ counts.flatMap octets16⟩ } ∧
       (group.toNat = 0 → counts =
         [s.snapshots.badFrames, s.snapshots.staleDrops, s.snapshots.txOverruns, s.snapshots.evictions,
           s.snapshots.controlRefused, s.snapshots.contentionLosses, s.snapshots.clashEvents]) ∧
       (group.toNat = 2 → counts =
         [s.snapshots.underruns, s.snapshots.slips, s.snapshots.lateFrames, s.snapshots.gaps, s.snapshots.restarts,
           s.snapshots.streamsRefused, s.snapshots.evictedStreams]) ∧
       (group.toNat = 3 → counts =
         s.snapshots.clipsHandset.toList ++ s.snapshots.clipsSpeaker.toList ++ s.snapshots.clipsLine.toList) ∧
       (group.toNat = 4 → counts = s.snapshots.lostPairs.toList) ∧
       (group.toNat = 5 → counts = [s.snapshots.signalIgnored])) ∧
     (∀ k : Fin 8, port.toNat = k.val →
       exec (.readCounters 1#8 port) s = .next { s with
         panelAnswer := some ⟨39#8, .done, octets32 s.snapshotTime ++ octets16 (s.snapshots.lines[k]).parityErrors ++
           octets16 (s.snapshots.lines[k]).ooaPeriods ++ octets16 (s.snapshots.lines[k]).lineSlips⟩ }) ∧
     (port.toNat > 7 →
       exec (.readCounters 1#8 port) s = .next { s with panelAnswer := some ⟨39#8, .badIndex, []⟩ }) ∧
     (∀ group : Octet, group.toNat > 5 →
       exec (.readCounters group port) s = .next { s with panelAnswer := some ⟨39#8, .badValue, []⟩ }))

/-! ### The queue of commands -/

/-- One step takes the command at the front of the queue and runs it with the queue's rest in place. -/
def Obligations.StepTakesTheFrontCommand : Prop :=
  ∀ (s : State) (c : Instr) (rest : List Instr), s.pending = c :: rest → step s = exec c { s with pending := rest }

/-- Every command completes and no command changes the queue behind it; on an empty queue one sample of station time
passes, never past a block boundary (the model's choice, log 3). -/
def Obligations.QueueIsTakenInOrder : Prop :=
  (∀ s : State, ∃ t, step s = .next t ∧ t.pending = s.pending.tail) ∧
  ∀ s : State, s.pending = [] →
    step s = .next (if s.stationTime.toNat % 16 = 15 then s else { s with stationTime := s.stationTime + 1#32 })

/-! ### Invariants -/

/-- After a full reset the tables are sound and every line record, of which there are none, is settled. -/
def Obligations.ResetMeetsTheInvariants : Prop := State.reset.TablesSound ∧ State.reset.LinesSettled

/-- Every step keeps the transmit queue within 24 entries and in class order, the notice queue within 32 and the clash
window within 2 (R7, R18, R190). -/
def Obligations.TablesStaySound : Prop := ∀ s t : State, s.TablesSound → step s = .next t → t.TablesSound

/-- Every step keeps every line record in the state and with the consequences its inputs give (R66 to R68, R87, R88). -/
def Obligations.LinesStaySettled : Prop := ∀ s t : State, s.LinesSettled → step s = .next t → t.LinesSettled

/-- The lists of a settled record are as its line state says: none in OUT_OF_SERVICE, IDLE and RINGING_IN without
members, an ACTIVE entry in ENGAGED, HELD entries alone in HELD, none in FAILED once the hold-over has ended (R66). -/
def Obligations.LineStateSaysWhoIsOnTheLine : Prop :=
  ∀ (c : PortSettings) (out : Bool) (a : Alarms) (r : LineRecord), r.Settled c out a →
    (r.state = .outOfService → r.members = [] ∧ r.listeners = []) ∧
    (r.state = .idle ∨ r.state = .ringingIn → r.members = []) ∧
    (r.state = .engaged → ∃ m ∈ r.members, m.mode = .active) ∧
    (r.state = .held → (∃ m ∈ r.members, m.mode = .held) ∧ ∀ m ∈ r.members, m.mode = .held) ∧
    (r.state = .failed → r.holdOver = none → r.members = [] ∧ r.listeners = []) ∧
    (r.state = .ringingIn ↔
      out = false ∧ a.los = false ∧ a.lol = false ∧ a.labelMismatch = false ∧ r.members = [] ∧ r.farSignalling = .ring)

/-! ### Layouts and arithmetic -/

/-- A frame that a station sends with a carriable body passes the receive checks of another and carries the same body
there; bit 0 of octet 1, which the layout names for no field, is ignored (R1, R16, R197). -/
def Obligations.SentFramesAreHeardAsSent : Prop :=
  (∀ (source target : Station) (b : Body), 1 ≤ source.toNat → source.toNat ≤ Config.lastStation →
     b.kind.allows target = true → b.carriable → b.agrees source = true →
     readFrame (sentFrame source target b) = some ⟨source, target, b⟩) ∧
  ∀ (o0 o1 : Octet) (rest : List Octet), readUnit (o0 :: (o1 ^^^ 1#8) :: rest) = readUnit (o0 :: o1 :: rest)

/-- G(0) is 0 and G(c) is (8 + c mod 8) times 2 to the power c div 8, rising from 9 to 16384 (R162). A sample scaled by a
code is the exact product divided by 4096 and rounded to the nearest integer, halves upward; at code 72 it is unchanged,
at code 0 it is 0, and product and result lie in R163's ranges (R163). -/
def Obligations.ScalingRoundsToTheNearest : Prop :=
  (gainFactor 0 = 0 ∧ (∀ c : Nat, 1 ≤ c → gainFactor c = (8 + c % 8) * 2 ^ (c / 8)) ∧
    gainFactor 1 = 9 ∧ gainFactor 72 = 4096 ∧ gainFactor 88 = 16384 ∧
    ∀ c d : Nat, c < d → gainFactor c < gainFactor d) ∧
  (∀ (x : Int) (c : Nat), 4096 * scale x c ≤ x * gainFactor c + 2048 ∧
    x * gainFactor c + 2048 < 4096 * (scale x c + 1)) ∧
  (∀ (n x : Int) (c : Nat), 2 * (x * gainFactor c) = (2 * n + 1) * 4096 → scale x c = n + 1) ∧
  (∀ x : Int, scale x 72 = x ∧ scale x 0 = 0) ∧
  ∀ (x : Int) (c : Nat), -32768 ≤ x → x ≤ 32768 → c ≤ 88 →
    -(2 ^ 29) ≤ x * gainFactor c ∧ x * gainFactor c ≤ 2 ^ 29 ∧ -131072 ≤ scale x c ∧ scale x c ≤ 131072

/-- The energy is the mean of the sixteen absolute values, rounded down. The running level moves toward the block's
energy without passing it: it rises by at least 1 and falls by an eighth, stays from 0 to 32768, and a silent source
settles at 7 or below. It is 0 for a new stream entry and a new local source. A block boundary updates each level once,
an entry's from the block it yields and a local source's from the mouthpiece block or the far block of its port, once
the line ports have taken the boundary (R172; the order within a boundary is the model's choice, log 17, and that a
local source's level is held by its port its reading, log 24). -/
def Obligations.LevelsFollowTheEnergy : Prop :=
  (∀ b : Block, energy b = (b.toList.map fun x => x.toInt.natAbs).sum / 16 ∧ energy b ≤ 32768) ∧
  (∀ (l : Nat) (b : Block),
    (l ≤ energy b → levelAfter l b = l + (energy b - l + 3) / 4) ∧
    (energy b < l → levelAfter l b = l - (l - energy b) / 8) ∧
    (l < energy b → l < levelAfter l b) ∧ (l ≤ energy b → levelAfter l b ≤ energy b) ∧
    (energy b < l → energy b ≤ levelAfter l b) ∧ (energy b ≤ l → l < energy b + 8 → levelAfter l b = l) ∧
    (l ≤ 32768 → levelAfter l b ≤ 32768)) ∧
  (∀ l : Nat, 8 ≤ l → levelAfter l Block.silence < l) ∧
  (∀ (s : State) (c : StreamClass) (p : Party) (v : Voice), (s.newStream c p v).level = 0) ∧
  (∀ (s : State) (p : Port), (∀ e ∈ s.localLevels, e.1 ≠ p) → s.localLevel p = 0) ∧
  (∀ e : StreamEntry, e.yield.2.level = levelAfter e.level e.yield.2.lastBlock) ∧
  (∀ (s : State) (io : AudioIn) (h : Fin 2) (k : Fin 8),
    s.localBlock io (.handset h) = io.mouthpiece[h] ∧ ∀ r : LineRecord, s.records[k] = some r →
      r.state = .engaged ∨ r.state = .held → s.localBlock io (.linePort k) = (s.ports[k]).lastBlock) ∧
  ∀ (s m : State) (io : AudioIn), s.loaded = true → m = s.reachBoundary.standInPeriods.readStores →
    ∃ t, exec (.blockBoundary io) s = .next t ∧
      (∀ x ∈ t.localLevels, x.2 = levelAfter (s.localLevel x.1) (m.localBlock io x.1)) ∧
      ∀ (i : Fin 32) (e : StreamEntry), m.streams[i] = some e →
        t.streams[i] = if e.silence = 0 then none else some e.yield.2

/-! ### Joining and leaving the floor -/

/-- FULL_RESET puts every block at its reset values whatever it did before; the carrier inputs and the waiting commands
are not the part's own and stay (R37; log 4). -/
def Obligations.FullResetLeavesTheResetValues : Prop :=
  ∀ s : State, ∃ t, exec .fullReset s = .next t ∧ t.carrier = s.carrier ∧ t.pending = s.pending ∧
    t.stationTime = 0#32 ∧ t.stationState = .loading ∧ t.configClamps = 0#16 ∧ t.listenTimer = none ∧
    (t.txQueue = [] ∧ t.transmitting = false ∧ t.clashWindow = [] ∧ t.beaconTimer = none ∧ t.sequences = []) ∧
    (∀ p : Fin 64, t.peers[p] = ⟨.absent, none, none⟩) ∧
    (∀ k : Fin 8, t.ports[k] = LinePort.reset ∧ t.records[k] = none ∧ t.taps[k] = none) ∧
    (t.mirrors = [] ∧ t.held = [] ∧ t.pendingAsks = [] ∧ t.tagCount = 0#8) ∧
    (∀ h : Fin 2, (t.handsets[h]).onHook = true ∧ (t.handsets[h]).bindings = [] ∧ (t.handsets[h]).muted = false) ∧
    (∀ i : Fin 4, t.slots[i] = Slot.empty) ∧
    (t.signalWord = 0#16 ∧ t.buzzMasked = 0xF0#8 ∧ ∀ i : Fin 16, t.setters[i] = none) ∧
    (∀ k : Fin 8, t.channelState k = .off ∧ (t.channels[k]).talkers = [] ∧ (t.channels[k]).muted = false) ∧
    t.talk = none ∧ (∀ i : Fin 32, t.streams[i] = none) ∧
    (∀ i : Fin 64, (t.ring[i]).owner = .free) ∧ t.claimIndex = 0 ∧ t.recordingCount = 0#16 ∧
    (t.notices = [] ∧ t.overflow = 0#8 ∧ t.eventMasked = 0#16 ∧ t.viewMasked = 0#8) ∧
    (∀ e : ViewEntry, t.marks.has e = false) ∧
    ((∀ h : Fin 2, t.earpieceOut[h] = Block.silence ∧ t.speakerOut[h] = Block.silence) ∧
      ∀ k : Fin 8, t.lineOut[k] = Block.silence) ∧
    t.monitorTimer = 500 ∧ t.live = Counters.zero ∧ t.snapshots = Counters.zero ∧ t.snapshotTime = 0#32

/-- The image is the first 4096 bytes of the memory as 2048 words, high octet first, a byte that is missing read as
0xFF (log 5), and its sum is taken modulo 65536 (R28). The settings that the image places come as an operand of their own,
since the manual leaves their places to the tool (R28; log 5). LOAD_COMPLETE in LOADING with a sum other than 0 or a station number
outside 1 to 62 enters CONFIG_FAULT, marks the station view and changes nothing else (R27 to R29); in any other state it
changes nothing (log 27). LOAD_COMPLETE with a good image takes the checked settings into use and enters LISTENING; each
used port starts with LOS as carrier-present gives it, with its LINE_ALARM notice, and gets a line record and, if
recorded, an idle tap (R28, R32, R40, R58, R64, R174); that this LOS judges no frame period is the model's choice (log
41); with PANEL_PRESENT no it leaves no answer on offer (R189). The premise says what holds in LOADING: no
record and no tap stands yet. -/
def Obligations.LoadCompleteJudgesTheImage : Prop :=
  (∀ memory : List Octet, (imageSum memory).toNat = ((List.range 2048).map fun i =>
     256 * (memory.getD (2 * i) 0xFF#8).toNat + (memory.getD (2 * i + 1) 0xFF#8).toNat).sum % 65536) ∧
  (∀ (s : State) (memory : List Octet) (w : SettingWords),
     (s.stationState = .loading →
       (imageSum memory ≠ 0#16 ∨ w.stationNumber.toNat = 0 ∨ 62 < w.stationNumber.toNat) →
       exec (.loadComplete memory w) s =
         .next { s with stationState := .configFault, marks := { s.marks with station := true } }) ∧
     (s.stationState ≠ .loading → exec (.loadComplete memory w) s = .next s)) ∧
  (∀ (s : State) (memory : List Octet) (w : SettingWords),
     s.stationState = .loading → imageSum memory = 0#16 → 1 ≤ w.stationNumber.toNat → w.stationNumber.toNat ≤ 62 →
     (∀ k : Fin 8, s.records[k] = none ∧ s.taps[k] = none) →
     ∃ t, exec (.loadComplete memory w) s = .next t ∧
       t = { s with
         stationState := .listening, cfg := (checkSettings w).1
         configClamps := BitVec.ofNat 16 (min 65535 (checkSettings w).2)
         listenTimer := some (s.blocks 300), clashWindow := [], masters := (checkSettings w).1.speakerMaster
         talkerLimit := (checkSettings w).1.talkers, handsets := t.handsets, channels := t.channels
         mirrors := t.mirrors, ports := t.ports, records := t.records, taps := t.taps, marks := t.marks
         notices := t.notices, overflow := t.overflow
         panelAnswer := if (checkSettings w).1.panelPresent then s.panelAnswer else none } ∧
       t.cfg.station.toNat = w.stationNumber.toNat ∧ t.marks.station = true ∧
       (∀ h : Fin 2, t.handsets[h] = { s.handsets[h] with volume := t.cfg.handsetVolume }) ∧
       (∀ k : Fin 8, t.channels[k] =
         { s.channels[k] with volume := (t.cfg.channels[k]).volume, output := (t.cfg.channels[k]).output }) ∧
       (∀ line : LineNo, (∃ i : Fin 128, line = t.cfg.appearance[i] ∧ line ≠ 0#16) ↔ ∃ m ∈ t.mirrors, m.line = line) ∧
       (∀ m ∈ t.mirrors, m.state = .unknown) ∧
       ∀ k : Fin 8,
         ((t.cfg.ports[k]).line = 0#16 → t.records[k] = none ∧ t.taps[k] = none ∧ t.ports[k] = s.ports[k]) ∧
         ((t.cfg.ports[k]).line ≠ 0#16 →
           t.ports[k] = { s.ports[k] with alarms := { (s.ports[k]).alarms with los := !s.carrier[k] } } ∧
           (s.carrier[k] = false → (s.ports[k]).alarms.los = false → s.notices.length < 25 →
             ⟨.lineAlarm (t.cfg.ports[k]).line k .los true, s.stationTime⟩ ∈ t.notices) ∧
           t.taps[k] = (if (t.cfg.ports[k]).recorded then some ⟨.idle, none, 0#16, none, 0#16, none⟩ else none) ∧
           ∃ r : LineRecord, t.records[k] = some r ∧ r.members = [] ∧ r.listeners = [] ∧ r.outRing = none ∧
             r.farSignalling = .idle ∧ r.conflict = none ∧ r.privacy = (t.cfg.ports[k]).privacyDefault ∧
             r.Settled (t.cfg.ports[k]) (s.ports[k]).out (t.ports[k]).alarms))

/-- Every setting that a load takes into use lies in the range of section 2.6, and a line number stands on one port
alone (R30, R31). -/
def Obligations.LoadedSettingsAreInRange : Prop :=
  ∀ (w : SettingWords) (c : Settings), c = (checkSettings w).1 →
    (1 ≤ c.monitorInterval ∧ c.monitorInterval ≤ 60 ∧ 1 ≤ c.talkers ∧ c.talkers ≤ 4 ∧ c.gate ≤ 32768 ∧
      1 ≤ c.hangover ∧ c.hangover ≤ 1000 ∧ c.handsetVolume ≤ 88 ∧ c.sidetone ≤ 88 ∧ c.duck ≤ 88 ∧
      (∀ o : Fin 2, c.speakerMaster[o] ≤ 88) ∧ c.groups.length ≤ 8 ∧ ∀ g ∈ c.groups, 1 ≤ g ∧ g ≤ 63) ∧
    (∀ k : Fin 8, (c.ports[k]).line.toNat ≤ 1023 ∧
      1 ≤ (c.ports[k]).shareLimit ∧ (c.ports[k]).shareLimit ≤ 6 ∧
      1 ≤ (c.ports[k]).degradeThreshold ∧ (c.ports[k]).degradeThreshold ≤ 500 ∧
      ((c.ports[k]).holdRecall = 0 ∨ 10 ≤ (c.ports[k]).holdRecall ∧ (c.ports[k]).holdRecall ≤ 600) ∧
      1 ≤ (c.ports[k]).alignEnter ∧ (c.ports[k]).alignEnter ≤ 15 ∧
      1 ≤ (c.ports[k]).alignExit ∧ (c.ports[k]).alignExit ≤ 15 ∧
      1 ≤ (c.ports[k]).lolSet ∧ (c.ports[k]).lolSet ≤ 63 ∧ 1 ≤ (c.ports[k]).lolReset ∧ (c.ports[k]).lolReset ≤ 63 ∧
      1 ≤ (c.ports[k]).lolClear ∧ (c.ports[k]).lolClear ≤ 63) ∧
    (∀ j k : Fin 8, j ≠ k → (c.ports[j]).line ≠ 0#16 → (c.ports[j]).line ≠ (c.ports[k]).line) ∧
    (∀ i : Fin 128, (c.appearance[i]).toNat ≤ 1023) ∧
    (∀ k : Fin 8, (c.channels[k]).volume ≤ 88 ∧
      (∀ n, (c.channels[k]).binding = .hoot n → 1 ≤ n ∧ n ≤ 127) ∧
      ∀ n, (c.channels[k]).binding = .line n → 1 ≤ n.toNat ∧ n.toNat ≤ 1023) ∧
    (w.gate.toNat ≤ 32768 → c.gate = w.gate.toNat) ∧
    (w.gate ≠ 0xFFFF#16 → 32768 < w.gate.toNat → c.gate = 32768) ∧ (w.gate = 0xFFFF#16 → c.gate = 200)

/-- LISTEN_PERIOD_EXPIRY, due in LISTENING, enters ACTIVE and starts the beacon interval; with an empty queue, no peer
present and no channel default, one STATE for every home line and one BEACON wait (R33); otherwise it changes nothing
(log 1). -/
def Obligations.ListenPeriodExpiryEntersActive : Prop :=
  ∀ s : State,
    (s.stationState = .listening → s.listenTimer = some 0 → ∃ t, exec .listenPeriodExpiry s = .next t ∧
      t.base = { s.base with
        stationState := .active, listenTimer := none, beaconTimer := some (s.blocks 100) } ∧
      (s.txQueue = [] → s.transmitting = false → (∀ p : Fin 64, (s.peers[p]).state ≠ .present) →
        (∀ k : Fin 8, (s.cfg.channels[k]).binding = .unbound) →
        (∀ j k : Fin 8, j ≠ k → (s.cfg.ports[j]).line ≠ (s.cfg.ports[k]).line ∨ (s.cfg.ports[j]).line = 0#16) →
        (∀ (k : Fin 8) (r : LineRecord), s.records[k] = some r →
          (s.cfg.ports[k]).line ≠ 0#16 ∧ r.members = [] ∧ r.listeners = []) →
        t.carries Config.allStations (.beacon (s.card false)) ∧
        ∀ (k : Fin 8) (r : LineRecord), s.records[k] = some r →
          t.carries Config.allStations (.state (s.lineStatus k r)) ∧
          t.records[k] = some { r with refresh := some (s.blocks 500) })) ∧
    (s.stationState ≠ .listening ∨ s.listenTimer ≠ some 0 → exec .listenPeriodExpiry s = .next s)

/-- JOIN by station state: from DUPLICATE and LEFT it enters LISTENING with a fresh listen period, sends nothing, and
each home line takes the state its port gives; in LISTENING and ACTIVE it is refused BUSY, else NOT_ACTIVE (R34, R35,
R67). -/
def Obligations.JoinEntersListening : Prop :=
  ∀ s : State, s.panelAnswers = true →
    (s.stationState = .duplicate ∨ s.stationState = .left → ∃ t, exec .join s = .next t ∧
      t.base = { s.base with
        stationState := .listening, clashWindow := [], listenTimer := some (s.blocks 300)
        panelAnswer := some ⟨1#8, .done, []⟩ } ∧
      t.txQueue = s.txQueue ∧ t.transmitting = s.transmitting ∧ t.live = s.live ∧
      ∀ (k : Fin 8) (r : LineRecord), s.records[k] = some r → r.members = [] → r.listeners = [] →
        r.conflict = none → (s.ports[k]).out = false →
        ∃ r' : LineRecord, t.records[k] = some r' ∧ r'.members = [] ∧ r'.listeners = [] ∧
          r'.farSignalling = (s.ports[k]).accepted ∧
          r'.state = if (s.ports[k]).alarms.los ∨ (s.ports[k]).alarms.lol ∨ (s.ports[k]).alarms.labelMismatch then
              .failed
            else if (s.ports[k]).accepted = .ring then .ringingIn else .idle) ∧
    (s.stationState = .listening ∨ s.stationState = .active →
      exec .join s = .next { s with panelAnswer := some ⟨1#8, .busy, []⟩ }) ∧
    (s.stationState = .loading ∨ s.stationState = .configFault ∨ s.stationState = .clashed →
      exec .join s = .next { s with panelAnswer := some ⟨1#8, .notActive, []⟩ })

/-- LEAVE by station state: from ACTIVE, LISTENING and DUPLICATE it enters LEFT, every block leaves (lines, ports'
receive sides, taps, calls and signals, position, channels, streams), and the queue is flushed; from ACTIVE alone it
then holds the one LEAVING beacon, behind any frame in transmission; in LEFT it changes nothing, else it is refused
NOT_ACTIVE (R12, R35, R41, R129, R183, R185). -/
def Obligations.LeaveTakesTheStationOff : Prop :=
  ∀ s : State, s.panelAnswers = true →
    (s.stationState = .active ∨ s.stationState = .listening ∨ s.stationState = .duplicate →
      ∃ t, exec .leave s = .next t ∧ t.stationState = .left ∧ t.listenTimer = none ∧ t.beaconTimer = none ∧
        t.panelAnswer = some ⟨2#8, .done, []⟩ ∧ t.live = s.live ∧ s.HasLeft t ∧
        (s.stationState = .active → t.txQueue = (if s.transmitting then s.txQueue.take 1 else []) ++
          [⟨Config.allStations, .beacon (s.card true), s.stationTime, s.blocks 100, false⟩]) ∧
        (s.stationState ≠ .active → t.txQueue = (if s.transmitting then s.txQueue.take 1 else []) ∧
          t.transmitting = s.transmitting ∧ t.mediumIdle = s.mediumIdle)) ∧
    (s.stationState = .left → exec .leave s = .next { s with panelAnswer := some ⟨2#8, .done, []⟩ }) ∧
    (s.stationState = .loading ∨ s.stationState = .configFault ∨ s.stationState = .clashed →
      exec .leave s = .next { s with panelAnswer := some ⟨2#8, .notActive, []⟩ })

/-! ### Floor bus -/

/-- MEDIUM_IDLE sets aside the stale entries at the head, counting each, and begins the first entry that is not stale;
with none the medium is idle. CONTENTION_LOSS keeps the frame ahead of its own class, counted, and stale if its lifetime
ended meanwhile (log 12); FRAME_SENT takes it out of the queue (R3 to R5, R7, R8). LIFETIME_EXPIRY marks an entry stale
whose lifetime has ended and that is not in transmission; BEACON_INTERVAL_EXPIRY, due in ACTIVE, offers a fresh BEACON
and restarts the interval (R8, R13). CLASH_EVENT abandons the frame and counts it; in ACTIVE the clash window takes it
for 1 s, and with two entries there the station enters CLASHED and every block leaves, the CLASHED notice standing before
the RING_STOP notices of the leave (log 32); CLASH_WINDOW_EXPIRY removes an entry whose second has passed (R5, R12, R18,
R36). The model's own choices: a timer row that is not due changes nothing (log 1), MEDIUM_IDLE begins the head in every
station state, so that a frame which lost contention after the station left ACTIVE is tried again (R6 and R12 leave this
open, log 50), and MEDIUM_IDLE during a transmission, and CONTENTION_LOSS, FRAME_SENT and CLASH_EVENT without one, change
nothing (log 27). -/
def Obligations.MediumQueueTimersAndClashes : Prop :=
  ((∀ s : State,
      (s.transmitting = false →
        exec .mediumIdle s = .next { s with
          txQueue := s.txQueue.dropWhile TxEntry.ended
          transmitting := !(s.txQueue.dropWhile TxEntry.ended).isEmpty
          mediumIdle := (s.txQueue.dropWhile TxEntry.ended).isEmpty
          live := { s.live with staleDrops := s.live.staleDrops.add (s.txQueue.takeWhile TxEntry.ended).length } } ∧
        exec .contentionLoss s = .next s ∧ exec .frameSent s = .next s) ∧
      (s.transmitting = true → exec .mediumIdle s = .next s ∧
        ∀ (e : TxEntry) (rest : List TxEntry), s.txQueue = e :: rest →
          exec .frameSent s = .next { s with txQueue := rest, transmitting := false } ∧
          exec .contentionLoss s = .next { s with
            txQueue := rest.takeWhile (fun x => decide (x.cls < e.cls)) ++ { e with stale := e.ended } ::
              rest.dropWhile fun x => decide (x.cls < e.cls)
            transmitting := false
            live := { s.live with contentionLosses := s.live.contentionLosses.add 1 } })) ∧
   (∀ s : State,
      (∀ (i : Nat) (e : TxEntry), s.txQueue[i]? = some e →
        (e.life = 0 → ¬(s.transmitting = true ∧ i = 0) →
          exec (.lifetimeExpiry i) s = .next { s with txQueue := s.txQueue.set i { e with stale := true } }) ∧
        (e.life ≠ 0 ∨ s.transmitting = true ∧ i = 0 → exec (.lifetimeExpiry i) s = .next s)) ∧
      (s.stationState = .active → s.beaconTimer = some 0 → ∃ t, exec .beaconIntervalExpiry s = .next t ∧
        State.alikeButQueue { s with beaconTimer := some (s.blocks 100) } t ∧
        (s.txQueue.length < 24 → t.carries Config.allStations (.beacon (s.card false)))) ∧
      (s.stationState ≠ .active ∨ s.beaconTimer ≠ some 0 → exec .beaconIntervalExpiry s = .next s))) ∧
  (∀ s : State,
     (s.transmitting = true → s.stationState ≠ .active → exec .clashEvent s = .next { s with
       txQueue := s.txQueue.tail, transmitting := false
       live := { s.live with clashEvents := s.live.clashEvents.add 1 } }) ∧
     (s.transmitting = true → s.stationState = .active → s.clashWindow.length < 2 →
       exec .clashEvent s = .next { s with
         txQueue := s.txQueue.tail, transmitting := false, clashWindow := s.clashWindow ++ [s.blocks 1000]
         live := { s.live with clashEvents := s.live.clashEvents.add 1 } }) ∧
     (s.transmitting = true → s.stationState = .active → 2 ≤ s.clashWindow.length →
       ∃ t, exec .clashEvent s = .next t ∧ t.stationState = .clashed ∧ t.txQueue = [] ∧ t.transmitting = false ∧
         t.clashWindow = [] ∧ t.beaconTimer = none ∧ s.HasLeft t ∧
         t.live = { s.live with clashEvents := s.live.clashEvents.add 1 } ∧
         (s.notices.length < 32 → ⟨.clashed, s.stationTime⟩ ∈ t.notices)) ∧
     (s.transmitting = false → exec .clashEvent s = .next s) ∧
     (∀ pre post : List Nat, (∀ n ∈ pre, n ≠ 0) → s.clashWindow = pre ++ 0 :: post →
       exec .clashWindowExpiry s = .next { s with clashWindow := pre ++ post }) ∧
     ((∀ n ∈ s.clashWindow, n ≠ 0) → exec .clashWindowExpiry s = .next s))

/-- What an offer of a frame does in ACTIVE. Where nothing waits that it replaces: a place in class order behind its own
class, no other entry moved; a frame that is offered to an empty queue while the medium is idle begins at once, unless
another station has begun one by then, which the spec leaves open to the medium (R3, R7; the free value of log 10). At a
full queue a VOICE frame is dropped, a control frame takes the place in class order that the removal of the earliest
VOICE entry leaves, or is refused; each is counted (R10, R11). Where an entry waits that it replaces, a STATE of the
same line or a BEACON, the body is replaced in place with a fresh lifetime, a STATE keeping a recall flag of a party it
still lists as HELD (R9, R14); the latest of several such entries is the one (log 12). -/
def Obligations.OffersArePlacedByClass : Prop :=
  ∀ (s : State) (target : Station) (b : Body) (sending : List TxEntry) (new : TxEntry), s.TablesSound →
    s.stationState = .active → sending = (if s.transmitting then s.txQueue.take 1 else []) →
    new = ⟨target, b, s.stationTime, s.blocks b.kind.lifetime, false⟩ →
    ((∀ e ∈ s.waiting, b.replaces e.body = false) →
      (s.txQueue.length < 24 → ∃ pre post : List TxEntry, s.waiting = pre ++ post ∧
        (∀ e ∈ pre, e.cls ≤ b.kind.cls) ∧ (∀ e ∈ post, b.kind.cls < e.cls) ∧
        (s.txQueue ≠ [] ∨ s.mediumIdle = false →
          s.offer target b = ({ s with txQueue := sending ++ pre ++ new :: post }, true)) ∧
        (s.txQueue = [] → s.mediumIdle = true →
          s.offer target b = ({ s with
            txQueue := [new], mediumIdle := false, mediumLooks := s.mediumLooks + 1
            transmitting := s.transmitting || !Config.otherHasBegun s.mediumLooks }, true))) ∧
      (s.txQueue.length = 24 → b.kind = .voice →
        s.offer target b = ({ s with live := { s.live with txOverruns := s.live.txOverruns.add 1 } }, false)) ∧
      (s.txQueue.length = 24 → b.kind ≠ .voice → (∀ e ∈ s.waiting, e.body.kind ≠ .voice) →
        s.offer target b =
          ({ s with live := { s.live with controlRefused := s.live.controlRefused.add 1 } }, false)) ∧
      (s.txQueue.length = 24 → b.kind ≠ .voice → ∀ (before behind : List TxEntry) (v : TxEntry),
        s.waiting = before ++ v :: behind → v.body.kind = .voice → (∀ e ∈ before, e.body.kind ≠ .voice) →
        ∃ pre post : List TxEntry, before ++ behind = pre ++ post ∧
          (∀ e ∈ pre, e.cls ≤ b.kind.cls) ∧ (∀ e ∈ post, b.kind.cls < e.cls) ∧
          s.offer target b = ({ s with
            txQueue := sending ++ pre ++ new :: post
            live := { s.live with evictions := s.live.evictions.add 1 } }, true))) ∧
    ∀ (pre post : List TxEntry) (e : TxEntry), s.waiting = pre ++ e :: post →
      (∀ x ∈ post, b.replaces x.body = false) →
      (∀ c old : Card, b = .beacon c → e.body = .beacon old →
        s.offer target b = ({ s with
          txQueue := sending ++ pre ++ { e with body := b, life := s.blocks 100, stale := false } :: post }, true)) ∧
      ∀ l old : LineStatus, b = .state l → e.body = .state old → l.line = old.line →
        s.offer target b = ({ s with
          txQueue := sending ++ pre ++ { e with
            body := .state { l with members := l.members.map fun m => { m with
              recallFlag := m.recallFlag || decide (m.mode = .held ∧
                ∃ o ∈ old.members, o.party = m.party ∧ o.recallFlag = true) } }
            life := s.blocks 50
            stale := false } :: post }, true)

/-- In every command that hears a frame, one that fails a receive check is counted in BAD_FRAMES once the load has
completed and has no other effect; before that no frame has any (R15, R16). A good frame has a right CRC, the class of
its kind, a source from 1 to 62, a target its kind allows and a right length (R16). The model's own choices: the medium
is busy with a frame heard (log 10), and a good frame that is not of the row's kind is not that row's (log 8). -/
def Obligations.BadFramesAreCounted : Prop :=
  (∀ (s : State) (header body crc : List Octet) (c : Instr) (row : Body → Bool), (c, row) ∈ heardRows header body crc →
     (readFrame (header ++ body ++ crc) = none →
       (s.loaded = true → exec c s = .next { s with
         mediumIdle := false, live := { s.live with badFrames := s.live.badFrames.add 1 } }) ∧
       (s.loaded = false → exec c s = .next { s with mediumIdle := false })) ∧
     ∀ f : Frame, readFrame (header ++ body ++ crc) = some f →
       (row f.body = false → exec c s = .next s) ∧
       (row f.body = true → s.loaded = false → exec c s = .next { s with mediumIdle := false })) ∧
  ∀ (octets : List Octet) (f : Frame), readFrame octets = some f →
    9 ≤ octets.length ∧ octets.drop (octets.length - 4) = octets32 (crc32 (octets.take (octets.length - 4))) ∧
    (octets.getD 0 0#8).toNat / 32 = f.body.kind.cls ∧ (octets.getD 2 0#8).toNat = f.body.kind.code ∧
    1 ≤ f.source.toNat ∧ f.source.toNat ≤ 62 ∧
    f.source.toNat = (octets.getD 0 0#8).toNat % 32 * 2 + (octets.getD 1 0#8).toNat / 128 ∧
    f.target.toNat = (octets.getD 1 0#8).toNat / 2 % 64 ∧ f.body.kind.allows f.target = true ∧
    256 * (octets.getD 3 0#8).toNat + (octets.getD 4 0#8).toNat = octets.length - 9 ∧
    ∀ c : Card, f.body = .beacon c → c.station = f.source

/-- A good BEACON of another station stores its card: LEAVING clear it makes the station PRESENT and restarts its
silence timer, LEAVING set it ends the presence, with peer lost if there was one (R22, R23). A good BEACON of the
station's own number that is not the echo of its own frame (log 11): DUPLICATE in LISTENING, its notice before the
RING_STOP notices of that moment (log 32), a clash event in ACTIVE, nothing elsewhere (R17, R18, R32). PEER_SILENCE_EXPIRY, due for a PRESENT station, makes it SILENT with its card kept,
and every block gives up what it holds of it: its streams, talkers, line entries and calls, and for a line of other
stations whose home it was the mirror, the bindings, held lines, pending asks and channels (R24, R25, R91, R95, R127,
R139, R159); otherwise it changes nothing (log 1). -/
def Obligations.BeaconsAndSilenceMoveThePeer : Prop :=
  ((∀ (s : State) (unit crc : List Octet) (source target : Station) (c : Card), s.loaded = true →
      source ≠ s.cfg.station →
      readFrame (unit ++ crc) = some ⟨source, target, .beacon c⟩ →
      (c.leaving = false → ∃ t, exec (.beaconReceived unit crc) s = .next t ∧
        t.base = { s.base with
          peers := s.peers.set (stationIndex source) ⟨.present, some c, some (s.blocks 400)⟩ }) ∧
      (c.leaving = true → (s.peer source).state ≠ .present → ∃ t, exec (.beaconReceived unit crc) s = .next t ∧
        t.base = { s.base with peers := s.peers.set (stationIndex source) ⟨.left, some c, none⟩ }) ∧
      (c.leaving = true → (s.peer source).state = .present → ∃ t, exec (.beaconReceived unit crc) s = .next t ∧
        t.base = { s.base with
          peers := s.peers.set (stationIndex source) ⟨.left, some c, none⟩, slots := t.slots } ∧
        s.GaveUpPeer source t)) ∧
   (∀ (s : State) (unit crc : List Octet) (source target : Station) (c : Card), source = s.cfg.station →
      readFrame (unit ++ crc) = some ⟨source, target, .beacon c⟩ →
      (s.transmitting = true → s.loaded = true →
         exec (.beaconReceived unit crc) s = .next { s with mediumIdle := false }) ∧
      (s.transmitting = false → s.stationState = .listening → ∃ t, exec (.beaconReceived unit crc) s = .next t ∧
        t.base = { s.base with stationState := .duplicate, listenTimer := none } ∧
        (s.notices.length < 32 → ⟨.duplicate, s.stationTime⟩ ∈ t.notices)) ∧
      (s.transmitting = false → s.stationState = .active → s.clashWindow.length < 2 →
        exec (.beaconReceived unit crc) s = .next { s with
          mediumIdle := false, clashWindow := s.clashWindow ++ [s.blocks 1000]
          live := { s.live with clashEvents := s.live.clashEvents.add 1 } }) ∧
      (s.transmitting = false →
        s.stationState = .duplicate ∨ s.stationState = .left ∨ s.stationState = .clashed →
        exec (.beaconReceived unit crc) s = .next { s with mediumIdle := false }))) ∧
  (∀ (s : State) (p : Station),
     ((s.peer p).state = .present → (s.peer p).silence = some 0 → ∃ t, exec (.peerSilenceExpiry p) s = .next t ∧
       t.base = { s.base with
         peers := s.peers.set (stationIndex p) ⟨.silent, (s.peer p).card, none⟩, slots := t.slots } ∧
       s.GaveUpPeer p t ∧
       ∀ (k : Fin 8) (r : LineRecord), s.records[k] = some r → s.outCause k r = false → r.foreign s.cfg.station →
         ∃ r' : LineRecord, t.records[k] = some r' ∧
           r'.members = r.members.filter (fun m => m.party.station != p) ∧
           r'.listeners = r.listeners.filter (fun l => l.party.station != p)) ∧
     ((s.peer p).state ≠ .present ∨ (s.peer p).silence ≠ some 0 → exec (.peerSilenceExpiry p) s = .next s))

/-- A VOICE frame handed on for a circuit of the listen interest: it makes an entry for a new source at the lowest free
index; in a full table it takes the place of the entry of lowest class, then level, then index among those that rank
below it, whose source leaves every talker set, or is refused, each counted; it joins an entry of its key by its
distance from the expected sequence, in order, over a gap, as a restart or late; for any other circuit it has no effect
(R149, R151 to R155, R159). -/
def Obligations.VoiceIsJudgedByItsSequence : Prop :=
  ∀ (s : State) (unit crc : List Octet) (source target : Station) (v : Voice),
    s.HandsOn (unit ++ crc) source target (.voice v) →
    (s.interest v.circuit = none → exec (.voiceReceived unit crc) s = .next (s.havingHeard source)) ∧
    ∀ cls : StreamClass, s.interest v.circuit = some cls →
      (∀ i : Fin 32, (∀ (j : Fin 32) (e : StreamEntry), s.streams[j] = some e →
          ¬(e.circuit = v.circuit ∧ e.party = ⟨source, v.port⟩)) →
        s.streams[i] = none → (∀ j : Fin 32, j < i → s.streams[j] ≠ none) →
        exec (.voiceReceived unit crc) s = .next { s.havingHeard source with
          streams := s.streams.set i (some ⟨v.circuit, ⟨source, v.port⟩, cls, false, [(v.sequence, v.samples)],
            v.sequence + 1#8, 0, 0, Block.silence, s.blocks 60⟩) }) ∧
      ((∀ j : Fin 32, s.streams[j] ≠ none) → (∀ (j : Fin 32) (e : StreamEntry), s.streams[j] = some e →
          ¬(e.circuit = v.circuit ∧ e.party = ⟨source, v.port⟩)) →
        ((∀ (j : Fin 32) (e : StreamEntry), s.streams[j] = some e → cls.rank ≤ e.cls.rank) →
          exec (.voiceReceived unit crc) s = .next { s.havingHeard source with
            live := { s.live with streamsRefused := s.live.streamsRefused.add 1 } }) ∧
        ∀ (i : Fin 32) (e : StreamEntry), s.streams[i] = some e → e.cls.rank < cls.rank →
          (∀ (j : Fin 32) (x : StreamEntry), s.streams[j] = some x → x.cls.rank < cls.rank →
            e.cls.rank < x.cls.rank ∨ e.cls.rank = x.cls.rank ∧ (e.level < x.level ∨ e.level = x.level ∧ i ≤ j)) →
          ∃ t, exec (.voiceReceived unit crc) s = .next t ∧
            t = { s.havingHeard source with
              streams := s.streams.set i (some ⟨v.circuit, ⟨source, v.port⟩, cls, false, [(v.sequence, v.samples)],
                v.sequence + 1#8, 0, 0, Block.silence, s.blocks 60⟩)
              live := { s.live with evictedStreams := s.live.evictedStreams.add 1 }
              channels := t.channels, marks := t.marks } ∧
            ∀ k : Fin 8, t.channels[k] = { s.channels[k] with
              talkers := (s.channels[k]).talkers.filter fun y => y.party != e.party }) ∧
      ∀ (i : Fin 32) (e : StreamEntry), s.streams[i] = some e → e.circuit = v.circuit →
        e.party = ⟨source, v.port⟩ →
        (∀ (j : Fin 32) (x : StreamEntry), j < i → s.streams[j] = some x →
          ¬(x.circuit = v.circuit ∧ x.party = ⟨source, v.port⟩)) →
        (v.sequence = e.expected → e.queue.length < 4 →
          exec (.voiceReceived unit crc) s = .next { s.havingHeard source with
            streams := s.streams.set i (some { e with
              queue := e.queue ++ [(v.sequence, v.samples)], expected := v.sequence + 1#8, silence := s.blocks 60 }) }) ∧
        (v.sequence = e.expected → e.queue.length = 4 →
          exec (.voiceReceived unit crc) s = .next { s.havingHeard source with
            live := { s.live with slips := s.live.slips.add 1 }
            streams := s.streams.set i (some { e with
              queue := e.queue.tail ++ [(v.sequence, v.samples)], expected := v.sequence + 1#8
              silence := s.blocks 60 }) }) ∧
        (∀ d : Nat, d = (v.sequence - e.expected).toNat → 1 ≤ d → d ≤ 3 → e.queue.length < 4 →
          exec (.voiceReceived unit crc) s = .next { s.havingHeard source with
            live := { s.live with gaps := s.live.gaps.add d }
            streams := s.streams.set i (some { e with
              queue := e.queue ++ [(v.sequence, v.samples)], expected := v.sequence + 1#8, silence := s.blocks 60 }) }) ∧
        (∀ d : Nat, d = (v.sequence - e.expected).toNat → 4 ≤ d → d ≤ 127 →
          exec (.voiceReceived unit crc) s = .next { s.havingHeard source with
            live := { s.live with restarts := s.live.restarts.add 1 }
            streams := s.streams.set i (some { e with
              queue := [(v.sequence, v.samples)], playing := false, concealed := 0, expected := v.sequence + 1#8
              silence := s.blocks 60 }) }) ∧
        (128 ≤ (v.sequence - e.expected).toNat →
          exec (.voiceReceived unit crc) s = .next { s.havingHeard source with
            live := { s.live with lateFrames := s.live.lateFrames.add 1 } })

/-- A STATE frame from the home of an appearing line makes its mirror CURRENT with that content and restarts the
staleness timer; a frame from any other station changes no mirror; a lone entry of the station's own that no handset is
bound to is answered with a DROP (R97, R98, R114), for a line without mirror, binding or held entry too, where step 4 of
R97 and R114 differ (the model's choice, log 37). -/
def Obligations.StateFromTheHomeIsMirrored : Prop :=
  ∀ (s : State) (unit crc : List Octet) (source target : Station) (l : LineStatus),
    s.HandsOn (unit ++ crc) source target (.state l) →
    s.recordFor l.line = none → ∃ t, exec (.stateReceived unit crc) s = .next t ∧
      t.base = (s.havingHeard source).base ∧ t.records = s.records ∧
      (s.homeOf l.line ≠ some source → t = s.havingHeard source) ∧
      (s.homeOf l.line = some source →
        (∀ m : Mirror, s.mirrorOf l.line = some m →
          t.mirrorOf l.line = some ⟨l.line, .current, some l, some (s.blocks 1200)⟩) ∧
        (∀ line : LineNo, line ≠ l.line → t.mirrorOf line = s.mirrorOf line) ∧
        ∀ x : Fin 2, l.members = [⟨s.own (.handset x), .active, false⟩] → l.listeners = [] →
          s.askPending l.line = false → s.isBound x (lineCircuit l.line) = false → s.txQueue.length < 24 →
          t.carries source (askFrame l.line .drop (.handset x) (.handset 0) false s.nextTag))

/-- A key's lamp follows the mirror of its line by the table of R99: dark unless the mirror is CURRENT, then by the
line's state, and in ENGAGED and HELD by the station's own entries and privacy. A STATE taken from the home makes the
mirror CURRENT with it, marks the lamps that change, and queues RING_START or RING_STOP where the line starts or stops
being mirrored ringing, and HOLD_RECALL for each held entry whose recall flag is newly seen (R97, R99, R100); the ring notice stands first and the
recalls follow in the order of the held list (the model's choice, log 38). A STATE frame of a line of which the station holds and is nothing does just that. -/
def Obligations.MirrorsDriveLampsAndNotices : Prop :=
  (∀ (s : State) (key : Fin 128) (m : Mirror) (b : LineStatus),
     (s.mirrorOf s.cfg.appearance[key] = none → s.lamp key = .dark) ∧
     (s.mirrorOf s.cfg.appearance[key] = some m →
       (m.state ≠ .current → s.lamp key = .dark) ∧
       (m.state = .current → m.content = some b →
         (b.state = .outOfService ∨ b.state = .failed → s.lamp key = .alarmWink) ∧
         (b.state = .idle → s.lamp key = .off) ∧ (b.state = .ringingIn → s.lamp key = .fastFlash) ∧
         (b.state = .engaged ∨ b.state = .held →
           ((∃ x ∈ b.members, x.party.station = s.cfg.station ∧ x.mode = .active) → s.lamp key = .steadyGreen) ∧
           ((∀ x ∈ b.members, x.party.station = s.cfg.station → x.mode = .held) →
             ((∃ x ∈ b.members, x.party.station = s.cfg.station ∧ x.recallFlag = true) →
               s.lamp key = .holdRecallFlash) ∧
             ((∃ x ∈ b.members, x.party.station = s.cfg.station) →
               (∀ x ∈ b.members, x.party.station = s.cfg.station → x.recallFlag = false) →
               s.lamp key = .slowFlash) ∧
             ((∀ x ∈ b.members, x.party.station ≠ s.cfg.station) →
               s.lamp key = if b.privacy then .redWithPrivacy else .steadyRed)))))) ∧
  (∀ (s t : State) (m : Mirror) (b : LineStatus) (shown : HeldLine → Bool), s.mirrorOf b.line = some m →
     t = s.mirrorTakes b → (∀ e : HeldLine, shown e = decide (m.state = .current ∧ ∃ old : LineStatus,
       m.content = some old ∧ ∃ x ∈ old.members, x.party = s.own (.handset e.handset) ∧ x.mode = .held ∧
         x.recallFlag = true)) →
     t = { s with mirrors := t.mirrors, marks := t.marks, notices := t.notices, overflow := t.overflow } ∧
     t.mirrorOf b.line = some ⟨b.line, .current, some b, if s.stationState = .active then some (s.blocks 1200) else none⟩ ∧
     (∀ line : LineNo, line ≠ b.line → t.mirrorOf line = s.mirrorOf line) ∧
     t.marks = { s.marks with lamp := t.marks.lamp } ∧
     (∀ key : Fin 128, t.marks.lamp[key] = (s.marks.lamp[key] || decide (t.lamp key ≠ s.lamp key))) ∧
     (s.notices.length + s.held.length + 1 ≤ 32 → ∀ was : Bool,
       was = decide (m.state = .current ∧ ∃ old : LineStatus, m.content = some old ∧ old.state = .ringingIn) →
       t.notices = s.notices ++
         ((if b.state = .ringingIn ∧ was = false then [Event.ringStart b.line]
           else if b.state ≠ .ringingIn ∧ was = true then [Event.ringStop b.line] else []) ++
         (s.held.filter fun e => e.line == b.line && !shown e && b.members.any fun x =>
           x.party == s.own (.handset e.handset) && x.mode == .held && x.recallFlag).map
           fun e => Event.holdRecall b.line (.handset e.handset)).map fun e => ⟨e, s.stationTime⟩)) ∧
  ∀ (s : State) (unit crc : List Octet) (source target : Station) (b : LineStatus),
    s.HandsOn (unit ++ crc) source target (.state b) → s.recordFor b.line = none → s.homeOf b.line = some source →
    (∀ x ∈ b.members, x.party.station ≠ s.cfg.station) → (∀ p ∈ b.listeners, p.station ≠ s.cfg.station) →
    (∀ h : Fin 2, ∀ x ∈ (s.handsets[h]).bindings, x.circuit ≠ .line b.line) → (∀ e ∈ s.held, e.line ≠ b.line) →
    (∀ c : Fin 8, (s.channels[c]).binding ≠ .line b.line) →
    exec (.stateReceived unit crc) s = .next ((s.havingHeard source).mirrorTakes b)

/-- The Lost rules on a STATE taken from the home of another station's line. A binding whose handset the frame lists
ACTIVE, a held entry it lists HELD and a channel it lists as a listener is present and its miss count 0; with a pending
ask for the line every binding's and held entry's count is 0, and while a channel waits for the line every listening
channel's; else the count rises by one, and at 2 the entry is removed, a channel goes OFF, with LINE_LOST (R115, R138).
-/
def Obligations.UnlistedEntriesAreLost : Prop :=
  ∀ (s : State) (unit crc : List Octet) (source target : Station) (l : LineStatus),
    s.HandsOn (unit ++ crc) source target (.state l) → s.recordFor l.line = none → s.homeOf l.line = some source →
    ∃ t, exec (.stateReceived unit crc) s = .next t ∧
      (∀ (h : Fin 2) (pre post : List Binding) (b : Binding) (present : Bool),
        (s.handsets[h]).bindings = pre ++ b :: post → b.circuit = .line l.line →
        (∀ y ∈ pre ++ post, y.circuit ≠ .line l.line) →
        (present = true ↔ (∃ a ∈ s.pendingAsks, a.line = l.line) ∨
          ∃ m ∈ l.members, m.party = s.own (.handset h) ∧ m.mode = .active) →
        (present = true → (t.handsets[h]).bindings = pre ++ { b with misses := 0 } :: post) ∧
        (present = false → b.misses = 0 → (t.handsets[h]).bindings = pre ++ { b with misses := 1 } :: post) ∧
        (present = false → b.misses ≠ 0 → (t.handsets[h]).bindings = pre ++ post ∧
          (t.notices.length < 32 → ⟨.lineLost l.line (.handset h), s.stationTime⟩ ∈ t.notices))) ∧
      (∀ (pre post : List HeldLine) (e : HeldLine) (present : Bool), s.held = pre ++ e :: post → e.line = l.line →
        (∀ y ∈ pre ++ post, y.line ≠ l.line) →
        (present = true ↔ (∃ a ∈ s.pendingAsks, a.line = l.line) ∨
          ∃ m ∈ l.members, m.party = s.own (.handset e.handset) ∧ m.mode = .held) →
        (present = true → t.held = pre ++ { e with misses := 0 } :: post) ∧
        (present = false → e.misses = 0 → t.held = pre ++ { e with misses := 1 } :: post) ∧
        (present = false → e.misses ≠ 0 → t.held = pre ++ post ∧
          (t.notices.length < 32 → ⟨.lineLost l.line (.handset e.handset), s.stationTime⟩ ∈ t.notices))) ∧
      ∀ k : Fin 8, (s.channels[k]).binding = .line l.line → (s.channels[k]).wait = none →
        ((∃ j : Fin 8, (s.channels[j]).binding = .line l.line ∧ (s.channels[j]).wait ≠ none) ∨
            s.own (.speakerCh k) ∈ l.listeners →
          (t.channels[k]).binding = .line l.line ∧ (t.channels[k]).wait = none ∧ (t.channels[k]).misses = 0) ∧
        ((∀ j : Fin 8, (s.channels[j]).binding = .line l.line → (s.channels[j]).wait = none) →
          s.own (.speakerCh k) ∉ l.listeners →
          ((s.channels[k]).misses = 0 → (t.channels[k]).binding = .line l.line ∧ (t.channels[k]).misses = 1) ∧
          ((s.channels[k]).misses ≠ 0 → t.channels[k] = { s.channels[k] with
              binding := .unbound, talkers := [], misses := 0 } ∧
            (t.notices.length < 32 → ⟨.lineLost l.line (.speakerCh k), s.stationTime⟩ ∈ t.notices)))

/-- When the home of a kept line changes, a CURRENT mirror is STALE with its content kept; if the old home was a station
the line's bindings, held entries, pending asks and channels go, with LINE_LOST for the first two and for a listening
channel, ASK_NO_ANSWER for an ask and a waiting channel, and no DROP is sent; otherwise they stay (R94, R95, R139; the
order of the notices is the model's choice, log 23). Lines whose home stays are left alone. A BEACON of a lower station
that lists a line of another station takes its home over in this way. -/
def Obligations.HomeChangesLoseTheLine : Prop :=
  (∀ (s t : State) (old : Option Station) (line : LineNo), t = s.homeChanged old line →
     t.base = s.base ∧ t.records = s.records ∧ t.txQueue = s.txQueue ∧
     (∀ m : Mirror, s.mirrorOf line = some m → t.mirrorOf line =
       some (if m.state = .current then { m with state := .stale, timer := none } else m)) ∧
     (∀ other : LineNo, other ≠ line → t.mirrorOf other = s.mirrorOf other) ∧
     (old = none → t.handsets = s.handsets ∧ t.held = s.held ∧ t.pendingAsks = s.pendingAsks ∧
       t.channels = s.channels) ∧
     (old ≠ none →
       (∀ h : Fin 2, t.handsets[h] = { s.handsets[h] with
         bindings := (s.handsets[h]).bindings.filter fun b => b.circuit != .line line }) ∧
       t.held = s.held.filter (fun e => e.line != line) ∧
       t.pendingAsks = s.pendingAsks.filter (fun a => a.line != line) ∧
       (∀ k : Fin 8,
         ((s.channels[k]).binding = .line line → t.channels[k] = { s.channels[k] with
           binding := .unbound, talkers := [], wait := none, misses := 0 }) ∧
         ((s.channels[k]).binding ≠ .line line → t.channels[k] = { s.channels[k] with
           talkers := (t.channels[k]).talkers })) ∧
       ∀ events : List Event, s.notices.length + events.length ≤ 32 → (∀ m : Mirror, s.mirrorOf line = some m →
           m.state ≠ .current ∨ ∀ b : LineStatus, m.content = some b → b.state ≠ .ringingIn) →
         events = (([0, 1] : List (Fin 2)).filter fun h =>
             (s.handsets[h]).bindings.any fun b => b.circuit == .line line).map
             (fun h => Event.lineLost line (.handset h)) ++
           (s.held.filter fun e => e.line == line).map (fun e => Event.lineLost line (.handset e.handset)) ++
           (s.pendingAsks.filter fun a => a.line == line).map
             (fun a => Event.askNoAnswer line a.op (.handset a.handset)) ++
           (allPorts.filter fun k => decide ((s.channels[k]).binding = .line line)).map (fun k =>
             if (s.channels[k]).wait = none then Event.lineLost line (.speakerCh k)
             else Event.askNoAnswer line .listen (.speakerCh k)) →
         t.notices = s.notices ++ events.map fun e => ⟨e, s.stationTime⟩)) ∧
  (∀ s before : State,
     ((∀ line : LineNo, before.homeOf line = s.homeOf line) → s.followHomes before = s) ∧
     ∀ line : LineNo, before.homeOf line ≠ s.homeOf line →
       (∀ other : LineNo, other ≠ line → before.homeOf other = s.homeOf other) →
       ((∃ m ∈ before.mirrors, m.line = line) ∨ (∃ h : Fin 2, ∃ b ∈ (before.handsets[h]).bindings,
           b.circuit = .line line) ∨ (∃ e ∈ before.held, e.line = line) ∨ (∃ a ∈ before.pendingAsks, a.line = line) ∨
         ∃ k : Fin 8, (before.channels[k]).binding = .line line) →
       s.followHomes before = s.homeChanged (before.homeOf line) line) ∧
  ∀ (s : State) (unit crc : List Octet) (source target p : Station) (c : Card) (line : LineNo) (m : Mirror),
    s.loaded = true → source ≠ s.cfg.station → readFrame (unit ++ crc) = some ⟨source, target, .beacon c⟩ →
    c.leaving = false → (∃ e ∈ c.homeLines, e.1 = line) → s.recordFor line = none → s.homeOf line = some p →
    source.toNat < p.toNat → s.mirrorOf line = some m → m.state = .current →
    ∃ t, exec (.beaconReceived unit crc) s = .next t ∧ t.homeOf line = some source ∧
      t.mirrorOf line = some { m with state := .stale, timer := none } ∧
      (∀ h : Fin 2, ∀ b ∈ (t.handsets[h]).bindings, b.circuit ≠ .line line) ∧ (∀ e ∈ t.held, e.line ≠ line) ∧
      (∀ a ∈ t.pendingAsks, a.line ≠ line) ∧ ∀ k : Fin 8, (t.channels[k]).binding ≠ .line line

/-- A REPLY that answers a pending ask ends it: a granted TAKE binds the handset, a granted HOLD moves the binding to the
held list, a granted RESUME moves the held line to the handset, a refusal queues ASK_REFUSED; one that answers nothing
has no effect (R112, R137). -/
def Obligations.ReplyEndsThePendingAsk : Prop :=
  ∀ (s : State) (unit crc : List Octet) (source target : Station) (r : Reply),
    s.HandsOn (unit ++ crc) source target (.reply r) →
    ((∀ a ∈ s.pendingAsks, ¬(a.tag = r.tag ∧ a.station = source ∧ a.line = r.line)) →
      (∀ (k : Fin 8) (w : ListenWait), (s.channels[k]).wait = some w → ¬(w.tag = r.tag ∧ w.station = source)) →
      exec (.replyReceived unit crc) s = .next (s.havingHeard source)) ∧
    ∀ (pre post : List PendingAsk) (a : PendingAsk), s.pendingAsks = pre ++ a :: post →
      (a.tag = r.tag ∧ a.station = source ∧ a.line = r.line) →
      (∀ x ∈ pre ++ post, ¬(x.tag = r.tag ∧ x.station = source ∧ x.line = r.line)) →
      ∃ t, exec (.replyReceived unit crc) s = .next t ∧ t.base = (s.havingHeard source).base ∧
        t.pendingAsks = pre ++ post ∧ t.records = s.records ∧ t.txQueue = s.txQueue ∧ t.mirrors = s.mirrors ∧
        (r.refused = true → t.handsets = s.handsets ∧ t.held = s.held ∧ (s.notices.length < 32 →
          t.notices = s.notices ++ [⟨.askRefused a.line a.op (.handset a.handset) r.reason, s.stationTime⟩])) ∧
        (r.refused = false → a.op = .take → t.held = s.held ∧ t.notices = s.notices ∧
          (t.handsets[a.handset]).bindings = (s.handsets[a.handset]).bindings ++ [⟨.line a.line, 72, 0⟩] ∧
          ∀ x : Fin 2, x ≠ a.handset → t.handsets[x] = s.handsets[x]) ∧
        (r.refused = false → a.op = .resume → t.held = s.held.filter (fun e => e.line != a.line) ∧
          (t.handsets[a.handset]).bindings = (s.handsets[a.handset]).bindings ++ [⟨.line a.line, 72, 0⟩]) ∧
        (r.refused = false → a.op = .hold → t.held = s.held ++ [⟨a.line, a.handset, 0⟩] ∧
          (t.handsets[a.handset]).bindings =
            (s.handsets[a.handset]).bindings.filter (fun x => x.circuit != .line a.line)) ∧
        (r.refused = false → a.op = .ring ∨ a.op = .privacy → t.handsets = s.handsets ∧ t.held = s.held)

/-! ### Asks at a line's home -/

/-- An ASK TAKE at its home: granted on an idle or ringing line, and on an engaged or held one that privacy and
SHARE_LIMIT leave open; the requester joins at the end as ACTIVE and the line is ENGAGED, out-ring going on for an
AUTOMATIC line taken from IDLE; a party already ACTIVE is granted without change (R75, R76). An ASK DROP removes the
requester from either list, an ASK UNLISTEN from the listener list, in every state and whether it was there or not (R77,
R86; on a yielded line too, log 33); privacy returns to its default when no member is left (R68). The REPLY is offered
before the STATE, so that of the two it takes the last free place of the queue (DEDUCED, log 14). -/
def Obligations.GrantedTakesAndDropsChangeTheRecord : Prop :=
  (∀ (s : State) (unit crc : List Octet) (source : Station) (a : Ask) (k : Fin 8) (r : LineRecord),
     s.AsksHome (unit ++ crc) source .take a k r →
     a.port.isHandset = true →
     ((r.state = .idle ∨ r.state = .ringingIn ∨
         ((r.state = .engaged ∨ r.state = .held) ∧ (r.privacy = false ∨ s.peerIsSupervisor source = true) ∧
           r.members.length < (s.portCfg k).shareLimit ∧ ∀ m ∈ r.members, m.party ≠ ⟨source, a.port⟩)) →
       ∃ (t : State) (r' : LineRecord), exec (.askTake unit crc) s = .next t ∧ s.GrantsAsk t source a k r' ∧
         r'.members = r.members ++ [⟨⟨source, a.port⟩, .active, s.stationTime, none, false⟩] ∧
         r'.state = .engaged ∧ r'.listeners = r.listeners ∧ r'.privacy = r.privacy ∧
         r'.farSignalling = r.farSignalling ∧ r'.conflict = r.conflict ∧
         r'.outRing = (if r.state = .idle ∧ (s.portCfg k).automatic = true then some (s.blocks 30000)
           else r.outRing)) ∧
     ((r.state = .engaged ∨ r.state = .held) → (∃ m ∈ r.members, m.party = ⟨source, a.port⟩ ∧ m.mode = .active) →
       ∃ t : State, exec (.askTake unit crc) s = .next t ∧ s.GrantsAsk t source a k r)) ∧
  (∀ (s : State) (unit crc : List Octet) (source : Station) (a : Ask) (k : Fin 8) (r : LineRecord),
     (s.AsksHome (unit ++ crc) source .drop a k r → ∃ (t : State) (r' : LineRecord),
        exec (.askDrop unit crc) s = .next t ∧
       s.GrantsAsk t source a k r' ∧
       r'.members = r.members.filter (fun m => m.party != ⟨source, a.port⟩) ∧
       r'.listeners = r.listeners.filter (fun l => l.party != ⟨source, a.port⟩) ∧
       r'.privacy = (if r'.members = [] then (s.portCfg k).privacyDefault else r.privacy) ∧
       r'.outRing = (if r'.state = .engaged then r.outRing else none) ∧
       r'.farSignalling = r.farSignalling ∧ r'.conflict = r.conflict) ∧
     (s.AsksHome (unit ++ crc) source .unlisten a k r → ∃ (t : State) (r' : LineRecord),
        exec (.askUnlisten unit crc) s = .next t ∧
       s.GrantsAsk t source a k r' ∧ r'.members = r.members ∧
       r'.listeners = r.listeners.filter (fun l => l.party != ⟨source, a.port⟩) ∧
       r'.state = r.state ∧ r'.privacy = r.privacy ∧ r'.outRing = r.outRing ∧
       r'.farSignalling = r.farSignalling ∧ r'.conflict = r.conflict))

/-- An ASK HOLD of an ACTIVE member makes its entry HELD in place and starts its recall timer; an ASK RESUME makes the
HELD entry ACTIVE in place on the new port, its recall stopped, and the line is ENGAGED (R78, R79). An ASK RING of an
ACTIVE member puts out-ring on with the full time of the line's type; an ASK PRIVACY of one sets the line's privacy as
wanted, in hold-over too (R82, R84, R88). An ASK LISTEN at its home: the requester's speaker channel joins the end of
the listener list with the station time, unless privacy or 16 listeners stand against it; one that listens already is
granted without change (R85). The REPLY is offered before the STATE, so that of the two it takes the last free place of
the queue (DEDUCED, log 14). -/
def Obligations.GrantedHoldsRingsAndListensChangeTheRecord : Prop :=
  (∀ (s : State) (unit crc : List Octet) (source : Station) (a : Ask) (k : Fin 8) (r : LineRecord),
     a.port.isHandset = true →
     (s.AsksHome (unit ++ crc) source .hold a k r → (∃ m ∈ r.members, m.party = ⟨source, a.port⟩ ∧ m.mode = .active) →
       ∃ (t : State) (r' : LineRecord), exec (.askHold unit crc) s = .next t ∧ s.GrantsAsk t source a k r' ∧
         r'.members = r.members.map (fun m =>
           if m.party = ⟨source, a.port⟩ then
             { m with
               mode := .held, recallFlag := false
               recallTimer := if (s.portCfg k).holdRecall = 0 then none
                 else some (s.blocks (1000 * (s.portCfg k).holdRecall)) }
           else m) ∧
         r'.listeners = r.listeners ∧ r'.privacy = r.privacy ∧ r'.holdOver = r.holdOver ∧
         r'.farSignalling = r.farSignalling ∧ r'.conflict = r.conflict) ∧
     (s.AsksHome (unit ++ crc) source .resume a k r → a.secondPort.isHandset = true →
        r.state = .engaged ∨ r.state = .held →
       (∃ m ∈ r.members, m.party = ⟨source, a.port⟩ ∧ m.mode = .held) →
       (a.secondPort = a.port ∨ ∀ m ∈ r.members, m.party ≠ ⟨source, a.secondPort⟩) →
       ∃ (t : State) (r' : LineRecord), exec (.askResume unit crc) s = .next t ∧ s.GrantsAsk t source a k r' ∧
         r'.members = r.members.map (fun m =>
           if m.party = ⟨source, a.port⟩ then
             { m with party := ⟨source, a.secondPort⟩, mode := .active, recallFlag := false, recallTimer := none }
           else m) ∧
         r'.state = .engaged ∧ r'.listeners = r.listeners ∧ r'.privacy = r.privacy ∧ r'.outRing = r.outRing ∧
         r'.farSignalling = r.farSignalling ∧ r'.conflict = r.conflict)) ∧
  ((∀ (s : State) (unit crc : List Octet) (source : Station) (a : Ask) (k : Fin 8) (r : LineRecord),
      a.port.isHandset = true →
      (∃ m ∈ r.members, m.party = ⟨source, a.port⟩ ∧ m.mode = .active) →
      (s.AsksHome (unit ++ crc) source .ring a k r → r.state ≠ .failed →
        ∃ (t : State) (r' : LineRecord), exec (.askRing unit crc) s = .next t ∧ s.GrantsAsk t source a k r' ∧
          r'.outRing = some (s.blocks (if (s.portCfg k).automatic = true then 30000 else 2000)) ∧
          r'.state = .engaged ∧ r'.members = r.members ∧ r'.listeners = r.listeners ∧ r'.privacy = r.privacy ∧
          r'.farSignalling = r.farSignalling ∧ r'.conflict = r.conflict) ∧
      (s.AsksHome (unit ++ crc) source .privacy a k r →
        ∃ (t : State) (r' : LineRecord), exec (.askPrivacy unit crc) s = .next t ∧ s.GrantsAsk t source a k r' ∧
          r'.privacy = a.wanted ∧ r'.state = r.state ∧ r'.members = r.members ∧ r'.listeners = r.listeners ∧
          r'.outRing = r.outRing ∧ r'.holdOver = r.holdOver ∧ r'.farSignalling = r.farSignalling ∧
          r'.conflict = r.conflict)) ∧
   (∀ (s : State) (unit crc : List Octet) (source : Station) (a : Ask) (k : Fin 8) (r : LineRecord),
      s.AsksHome (unit ++ crc) source .listen a k r →
      a.port.isSpeaker = true → r.state ≠ .outOfService → r.state ≠ .failed →
      ((∀ l ∈ r.listeners, l.party ≠ ⟨source, a.port⟩) → r.listeners.length < 16 →
        (r.state = .idle ∨ r.state = .ringingIn ∨ r.privacy = false ∨ s.peerIsSupervisor source = true) →
        ∃ (t : State) (r' : LineRecord), exec (.askListen unit crc) s = .next t ∧ s.GrantsAsk t source a k r' ∧
          r'.listeners = r.listeners ++ [⟨⟨source, a.port⟩, s.stationTime⟩] ∧ r'.members = r.members ∧
          r'.state = r.state ∧ r'.privacy = r.privacy ∧ r'.outRing = r.outRing ∧
          r'.farSignalling = r.farSignalling ∧ r'.conflict = r.conflict) ∧
      ((∃ l ∈ r.listeners, l.party = ⟨source, a.port⟩) → ∃ t : State, exec (.askListen unit crc) s = .next t ∧
        s.GrantsAsk t source a k r)))

/-- The refusals of the eight operations, in the order of their tables: each changes nothing but the transmit queue,
where the REPLY with the reason waits; an ASK for a line that no record holds is refused OUT_OF_SERVICE whatever its
operation, and an operation that R73 does not know is otherwise discarded without an answer (R73, R75, R76, R78, R79,
R82, R84, R85). On a yielded line, where R92 has every ASK refused OUT_OF_SERVICE, R73's NOT_MEMBER and its discard come
first too (the model's choice, log 33). -/
def Obligations.RefusedAsksChangeNothing : Prop :=
  ∀ (s : State) (header body crc : List Octet) (source : Station) (a : Ask),
    (∀ op : AskOp, s.HandsOn (header ++ body ++ crc) source s.cfg.station (.ask a) → a.op = some op →
       s.recordFor a.line = none →
      ∃ t, exec (askCommand (header ++ body) crc op) s = .next t ∧ s.RefusesAsk t source a .outOfService) ∧
    (s.HandsOn (header ++ body ++ crc) source s.cfg.station (.ask a) → a.op = none →
      (s.recordFor a.line ≠ none → exec (.askUnknownOperation header body crc) s = .next (s.havingHeard source)) ∧
      (s.recordFor a.line = none →
        ∃ t, exec (.askUnknownOperation header body crc) s = .next t ∧ s.RefusesAsk t source a .outOfService)) ∧
    ∀ (op : AskOp) (k : Fin 8) (r : LineRecord) (reason : AskReason),
      s.AsksHome (header ++ body ++ crc) source op a k r →
      (let suits : Bool := match op with
         | .take | .hold | .ring | .privacy => a.port.isHandset
         | .resume => a.port.isHandset && a.secondPort.isHandset
         | .listen => a.port.isSpeaker
         | .drop | .unlisten => true
       let has (p : Port) (m : Mode) : Prop := ∃ e ∈ r.members, e.party = ⟨source, p⟩ ∧ e.mode = m
       let closed : Prop := (r.state = .engaged ∨ r.state = .held) ∧ r.privacy = true ∧
         s.peerIsSupervisor source = false
       (suits = false ∧ reason = .notMember) ∨
       (suits = true ∧ op ≠ .drop ∧ op ≠ .unlisten ∧ r.state = .outOfService ∧ reason = .outOfService) ∨
       (suits = true ∧ (op = .take ∨ op = .resume ∨ op = .ring ∨ op = .listen) ∧ r.state = .failed ∧
         reason = .failed) ∨
       (suits = true ∧ (op = .hold ∨ op = .privacy ∨ op = .ring) ∧ r.state ≠ .outOfService ∧
         (op = .ring → r.state ≠ .failed) ∧ ¬has a.port .active ∧ reason = .notMember) ∨
       (suits = true ∧ op = .resume ∧ r.state ≠ .outOfService ∧ r.state ≠ .failed ∧
         (¬has a.port .held ∧ reason = .notMember ∨
           has a.port .held ∧ a.secondPort ≠ a.port ∧ (has a.secondPort .active ∨ has a.secondPort .held) ∧
             reason = .inUse)) ∨
       (suits = true ∧ op = .take ∧ r.state ≠ .outOfService ∧ r.state ≠ .failed ∧ ¬has a.port .active ∧
         (has a.port .held ∧ reason = .inUse ∨
           ¬has a.port .held ∧ closed ∧ reason = .isPrivate ∨
           ¬has a.port .held ∧ ¬closed ∧ (r.state = .engaged ∨ r.state = .held) ∧
             (s.portCfg k).shareLimit ≤ r.members.length ∧ reason = .full)) ∨
       (suits = true ∧ op = .listen ∧ r.state ≠ .outOfService ∧ r.state ≠ .failed ∧
         (∀ l ∈ r.listeners, l.party ≠ ⟨source, a.port⟩) ∧
         (closed ∧ reason = .isPrivate ∨ ¬closed ∧ 16 ≤ r.listeners.length ∧ reason = .full))) →
      ∃ t, exec (askCommand (header ++ body) crc op) s = .next t ∧ s.RefusesAsk t source a reason

/-! ### Timers of a line -/

/-- A conflict sighting of a home line, by a card heard in LISTENING or ACTIVE or a STATE in ACTIVE of a PRESENT
lower-numbered station, or by a card stored at the entry to ACTIVE, sets the mark with that station and a 1 s timer. A
line whose mark was clear yields: OUT_OF_SERVICE with empty lists, its tap told, LINE_CONFLICT queued, a STATE offered; of
one that had yielded nothing else changes. A card of a station that was PRESENT has its conflicts judged before the homes
are followed (the model's choice, log 13); at one newly found the homes have changed before (R23). The frames of a higher-numbered station change no record (R33, R92).
OUT_RING_EXPIRY, due, puts out-ring off and leaves the line ENGAGED; HOLD_OVER_EXPIRY, due, empties both lists and
leaves the line FAILED; each offers a STATE; not due, or with no record, they change nothing (R83, R88; log 1).
RECALL_TIMER_EXPIRY, due for a HELD entry, sets its recall flag, restarts its timer and offers a STATE; REFRESH_EXPIRY,
due in ACTIVE, offers a STATE and restarts the refresh; neither changes the record otherwise, and not due they change
nothing (R80, R90; log 1). CONFLICT_TIMER_EXPIRY, due: while a PRESENT lower-numbered station's card lists the line the
timer restarts and nothing else changes; else the mark is cleared and the line, unless another cause holds, returns with
empty lists and the framer's signalling (R67, R93); not due, it changes nothing (log 1). -/
def Obligations.ConflictsAndLineTimersAct : Prop :=
  ((∀ (s : State) (unit crc : List Octet) (source target : Station) (c : Card),
      readFrame (unit ++ crc) = some ⟨source, target, .beacon c⟩ → c.leaving = false →
      s.stationState = .listening ∨ s.stationState = .active →
      (s.cfg.station.toNat < source.toNat →
        ∃ t, exec (.beaconReceived unit crc) s = .next t ∧ t.records = s.records) ∧
      (source.toNat < s.cfg.station.toNat → ∃ t, exec (.beaconReceived unit crc) s = .next t ∧
        (∀ j : Fin 8, (s.portCfg j).line ∉ c.homeLines.map (·.1) → t.records[j] = s.records[j]) ∧
        ∀ (k : Fin 8) (r : LineRecord), s.records[k] = some r → (s.portCfg k).line ∈ c.homeLines.map (·.1) →
          (∀ j : Fin 8, j ≠ k → s.records[j] ≠ none → (s.portCfg j).line ≠ (s.portCfg k).line) →
          ∃ r' : LineRecord, s.SightsConflict t source k r r' ∧ (r.conflict = none →
            ((s.peer source).state = .present ∧ s.notices.length < 25 ∨
                ((s.findBusy.peerTakes source (.beacon c)).followHomes s.findBusy).notices.length < 25 →
              ⟨.lineConflict (s.portCfg k).line k source, s.stationTime⟩ ∈ t.notices) ∧
            (s.stationState = .active → s.txQueue.length < 17 → t.announcing k r')))) ∧
   (∀ (s : State) (unit crc : List Octet) (source target : Station) (b : LineStatus),
      s.HandsOn (unit ++ crc) source target (.state b) →
      (s.cfg.station.toNat < source.toNat →
        ∃ t, exec (.stateReceived unit crc) s = .next t ∧ t.records = s.records) ∧
      ∀ (k : Fin 8) (r : LineRecord), source.toNat < s.cfg.station.toNat → s.recordFor b.line = some k →
        s.records[k] = some r → ∃ (t : State) (r' : LineRecord), exec (.stateReceived unit crc) s = .next t ∧
          s.SightsConflict t source k r r' ∧ (∀ j : Fin 8, j ≠ k → t.records[j] = s.records[j]) ∧
          (r.conflict = none →
            (s.notices.length + 2 * s.held.length + 11 < 32 →
              ⟨.lineConflict b.line k source, s.stationTime⟩ ∈ t.notices) ∧
            (s.txQueue.length + b.members.length + b.listeners.length < 24 → t.announcing k r'))) ∧
   ∀ (s : State) (k : Fin 8) (r : LineRecord) (p : Station), s.stationState = .listening → s.listenTimer = some 0 →
     s.records[k] = some r → r.conflict = none → 1 ≤ p.toNat → p.toNat < s.cfg.station.toNat → p.toNat ≤ 62 →
     (s.peer p).state = .present → (s.peer p).lists (s.portCfg k).line = true →
     ∃ (t : State) (r' : LineRecord) (q : Station), exec .listenPeriodExpiry s = .next t ∧ t.records[k] = some r' ∧
       r'.conflict = some ⟨q, s.blocks 1000⟩ ∧ q.toNat < s.cfg.station.toNat ∧
       (s.peer q).lists (s.portCfg k).line = true ∧ r'.state = .outOfService ∧ r'.members = [] ∧ r'.listeners = []) ∧
  ((∀ (s : State) (k : Fin 8),
      (s.records[k] = none → exec (.outRingExpiry k) s = .next s ∧ exec (.holdOverExpiry k) s = .next s) ∧
      ∀ r : LineRecord, s.records[k] = some r →
        (r.outRing ≠ some 0 → exec (.outRingExpiry k) s = .next s) ∧
        (r.holdOver ≠ some 0 → exec (.holdOverExpiry k) s = .next s) ∧
        (r.Settled (s.portCfg k) (s.outCause k r) (s.ports[k]).alarms →
          (r.outRing = some 0 → r.foreign s.cfg.station → ∃ (t : State) (r' : LineRecord),
            exec (.outRingExpiry k) s = .next t ∧ t.base = s.base ∧ t.records[k] = some r' ∧
            (∀ j : Fin 8, j ≠ k → t.records[j] = s.records[j]) ∧ r'.outRing = none ∧ r'.state = .engaged ∧
            r'.members = r.members ∧ r'.listeners = r.listeners ∧ r'.privacy = r.privacy ∧
            r'.farSignalling = r.farSignalling ∧ r'.conflict = r.conflict ∧
            (s.stationState = .active → s.txQueue.length < 24 → t.announcing k r')) ∧
          (r.holdOver = some 0 → ∃ (t : State) (r' : LineRecord),
            exec (.holdOverExpiry k) s = .next t ∧ t.base = s.base ∧ t.records[k] = some r' ∧
            (∀ j : Fin 8, j ≠ k → t.records[j] = s.records[j]) ∧ r'.members = [] ∧ r'.listeners = [] ∧
            r'.state = .failed ∧ r'.holdOver = none ∧ r'.privacy = (s.portCfg k).privacyDefault ∧
            r'.farSignalling = r.farSignalling ∧ r'.conflict = r.conflict ∧
            (s.stationState = .active → s.txQueue.length < 24 → t.announcing k r')))) ∧
   (∀ (s : State) (k : Fin 8) (r : LineRecord), s.records[k] = some r →
      (∀ i : Nat, (∀ m : Member, r.members[i]? = some m → m.mode = .active ∨ m.recallTimer ≠ some 0) →
        exec (.recallTimerExpiry k i) s = .next s) ∧
      (s.stationState ≠ .active ∨ r.refresh ≠ some 0 → exec (.refreshExpiry k) s = .next s) ∧
      (r.foreign s.cfg.station →
        (∀ (i : Nat) (m : Member), r.members[i]? = some m → m.mode = .held → m.recallTimer = some 0 →
          ∃ (t : State) (r' : LineRecord), exec (.recallTimerExpiry k i) s = .next t ∧ t.base = s.base ∧
            t.records[k] = some r' ∧ (∀ j : Fin 8, j ≠ k → t.records[j] = s.records[j]) ∧
            r' = { r with
              members := r.members.set i
                { m with recallFlag := true, recallTimer := some (s.blocks (1000 * (s.portCfg k).holdRecall)) }
              refresh := r'.refresh } ∧
            (s.stationState = .active → s.txQueue.length < 24 → t.announcing k r')) ∧
        (s.stationState = .active → r.refresh = some 0 →
          ∃ t : State, exec (.refreshExpiry k) s = .next t ∧ t.base = s.base ∧
            t.records = s.records.set k (some { r with refresh := some (s.blocks 500) }) ∧
            (s.txQueue.length < 24 → t.announcing k r))))) ∧
  (∀ (s : State) (k : Fin 8) (r : LineRecord) (c : Conflict), s.records[k] = some r → r.conflict = some c →
     r.Settled (s.portCfg k) (s.outCause k r) (s.ports[k]).alarms →
     (c.timer ≠ 0 → exec (.conflictTimerExpiry k) s = .next s) ∧
     (c.timer = 0 → (∃ p : Station, 1 ≤ p.toNat ∧ p.toNat < s.cfg.station.toNat ∧ p.toNat ≤ 62 ∧
         (s.peer p).state = .present ∧ (s.peer p).lists (s.portCfg k).line = true) →
       exec (.conflictTimerExpiry k) s =
         .next { s with records := s.records.set k (some { r with conflict := some ⟨c.station, s.blocks 1000⟩ }) }) ∧
     (c.timer = 0 → (∀ p : Station, 1 ≤ p.toNat → p.toNat < s.cfg.station.toNat → p.toNat ≤ 62 →
         (s.peer p).state = .present → (s.peer p).lists (s.portCfg k).line = false) →
       ∃ (t : State) (r' : LineRecord), exec (.conflictTimerExpiry k) s = .next t ∧ t.base = s.base ∧
         t.records[k] = some r' ∧ (∀ j : Fin 8, j ≠ k → t.records[j] = s.records[j]) ∧ r'.conflict = none ∧
         r'.members = [] ∧ r'.listeners = [] ∧
         r'.Settled (s.portCfg k) (s.outCause k r') (s.ports[k]).alarms ∧
         ((s.ports[k]).out = false → s.stationState ≠ .left → s.stationState ≠ .clashed →
           r'.farSignalling = (s.ports[k]).accepted ∧ r'.state ≠ .outOfService)))

/-! ### Line ports -/

/-- CARRIER_FALL on a used port: LOS is declared, the framer is held in HUNT, the carrier count and the period restart
and, if LOS was clear, far-end signalling reads IDLE and the store is empty; CARRIER_RISE ends the period under way and
leaves LOS; an input that has the level already, or an unused port, changes nothing but the pin (R39, R48; log 27).
LINE_OCTET_RECEIVED at a port with carrier: in HUNT an alignment octet ends the period under way, an OOA period, and sets
the phase, and any other is counted; in a frame an octet is stored; a missed alignment below ALIGN_EXIT is counted and
the frame goes on; in CONFIRM an alignment octet below ALIGN_ENTER is counted and the first miss returns to HUNT (R39,
R44 to R46); without carrier no octet has an effect (R39). The end of a period out of alignment, with an octet, a carrier
change or a boundary, counts in OOA_PERIODS and sets the aligned run to 0, that of an aligned one raises the run up to
63; with OUT neither is done (R39, R47). ALIGNMENT_CONFIRMED:
the alignment octet that raises the confirm count to ALIGN_ENTER enters ALIGNED; ALIGNMENT_LOST: the octet whose miss
raises the miss count to ALIGN_EXIT returns to HUNT, the phase, label, runs and store dropped and the defects kept (R44
to R46); an octet that decides neither is not these rows' (log 2). -/
def Obligations.CarrierAndOctetsMoveTheFramer : Prop :=
  (∀ (s : State) (k : Fin 8),
     (s.carrier[k] = false → exec (.carrierFall k) s = .next s) ∧
     (s.carrier[k] = true → exec (.carrierRise k) s = .next s) ∧
     (s.used k = false → exec (.carrierFall k) s = .next { s with carrier := s.carrier.set k false } ∧
       exec (.carrierRise k) s = .next { s with carrier := s.carrier.set k true }) ∧
     (s.used k = true → s.carrier[k] = true → ∃ t, exec (.carrierFall k) s = .next t ∧
       t.base = { s.base with carrier := s.carrier.set k false, ports := t.ports } ∧
       (∀ j : Fin 8, j ≠ k → t.ports[j] = s.ports[j]) ∧
       (t.ports[k]).alarms.los = true ∧ (t.ports[k]).carrierCount = 0 ∧ (t.ports[k]).periodOctets = 0 ∧
       ((s.ports[k]).alarms.los = false → (t.ports[k]).framer = .hunt ∧ (t.ports[k]).accepted = .idle ∧
         (t.ports[k]).store = [] ∧ (t.ports[k]).settled = none ∧ (t.ports[k]).frame = []) ∧
       ((s.ports[k]).out = false → (s.ports[k]).alarms.los = false → (s.ports[k]).alarms.lol = false →
         (t.ports[k]).lolCount = (s.ports[k]).lolCount + 1 ∧
         (t.ports[k]).alarms.lol = decide ((s.portCfg k).lolSet ≤ (s.ports[k]).lolCount + 1))) ∧
     (s.used k = true → s.carrier[k] = false → ∃ t, exec (.carrierRise k) s = .next t ∧
       t.base = { s.base with carrier := s.carrier.set k true, ports := t.ports } ∧
       (∀ j : Fin 8, j ≠ k → t.ports[j] = s.ports[j]) ∧
       (t.ports[k]).alarms.los = (s.ports[k]).alarms.los ∧ (t.ports[k]).carrierCount = (s.ports[k]).carrierCount ∧
       (t.ports[k]).framer = (s.ports[k]).framer ∧ (t.ports[k]).periodOctets = 0)) ∧
  (∀ (s : State) (k : Fin 8) (p : LinePort) (c : Instr) (ooa : Bool), p = s.ports[k] → s.used k = true →
     s.loaded = true →
     s.carrier[k] = true ∧ ooa = decide (p.framer ≠ .aligned) ∧
         (∃ o : Octet, c = .lineOctetReceived k o ∧ p.periodOctets = 35 ∧
           (p.framer = .hunt → o ≠ 0x5C#8 ∨ p.alarms.los = true ∨ p.forceOoa = true ∨ p.out = true)) ∨
       s.carrier[k] = true ∧ ooa = decide (p.framer ≠ .aligned ∨ p.alarms.los = false) ∧ c = .carrierFall k ∨
       s.carrier[k] = false ∧ ooa = decide (p.framer ≠ .aligned) ∧
         (c = .carrierRise k ∨ ∃ io : AudioIn, c = .blockBoundary io) →
     ∃ t, exec c s = .next t ∧ (t.ports[k]).out = p.out ∧
       (p.out = true → (t.live.lines[k]).ooaPeriods = (s.live.lines[k]).ooaPeriods ∧
         (t.ports[k]).alignedRun = p.alignedRun) ∧
       (p.out = false →
         (t.live.lines[k]).ooaPeriods =
           (if ooa = true then (s.live.lines[k]).ooaPeriods.add 1 else (s.live.lines[k]).ooaPeriods) ∧
         (t.ports[k]).alignedRun = if ooa = true then 0 else min 63 (p.alignedRun + 1))) ∧
  ((∀ (s : State) (k : Fin 8) (o : Octet) (p : LinePort), p = s.ports[k] →
      (s.used k = false ∨ s.carrier[k] = false → exec (.lineOctetReceived k o) s = .next s) ∧
      (s.hearsLine k →
        (p.framer = .hunt → p.alarms.los = false → p.forceOoa = false → p.out = false → o = 0x5C#8 →
          p.periodOctets = 0 → exec (.lineOctetReceived k o) s = .next { s with
            ports := s.ports.set k { p with framer := .confirm, confirmCount := 0, frame := [o], periodOctets := 1 } }) ∧
        (p.framer = .hunt → p.alarms.los = false → p.forceOoa = false → p.out = false → o = 0x5C#8 →
          1 ≤ p.periodOctets → ∃ t, exec (.lineOctetReceived k o) s = .next t ∧
            (p.alarms.lol = true ∨ p.lolCount + 1 < (s.portCfg k).lolSet → t = { s with
              ports := s.ports.set k { p with
                framer := .confirm, confirmCount := 0, frame := [o], periodOctets := 1, alignedRun := 0
                lolCount := if p.alarms.lol then p.lolCount else p.lolCount + 1 }
              live := s.live.addLine k 0 1 0 }) ∧
            (p.alarms.lol = false → (s.portCfg k).lolSet ≤ p.lolCount + 1 →
              (t.ports[k]).framer = .confirm ∧ (t.ports[k]).frame = [o] ∧ (t.ports[k]).periodOctets = 1 ∧
              (t.ports[k]).alarms.lol = true)) ∧
        (p.framer = .hunt → o ≠ 0x5C#8 ∨ p.alarms.los = true ∨ p.forceOoa = true ∨ p.out = true → p.periodOctets < 35 →
          exec (.lineOctetReceived k o) s = .next { s with
            ports := s.ports.set k { p with periodOctets := p.periodOctets + 1 } }) ∧
        (p.framer ≠ .hunt → 1 ≤ p.periodOctets → p.periodOctets < 35 →
          exec (.lineOctetReceived k o) s = .next { s with
            ports := s.ports.set k { p with frame := p.frame ++ [o], periodOctets := p.periodOctets + 1 } }) ∧
        (p.framer = .confirm → p.periodOctets = 0 → o = 0x5C#8 → p.confirmCount + 1 < (s.portCfg k).alignEnter →
          exec (.lineOctetReceived k o) s = .next { s with
            ports := s.ports.set k { p with confirmCount := p.confirmCount + 1, frame := [o], periodOctets := 1 } }) ∧
        (p.framer = .confirm → p.periodOctets = 0 → o ≠ 0x5C#8 →
          exec (.lineOctetReceived k o) s = .next { s with
            ports := s.ports.set k { p with
              framer := .hunt, frame := [], periodOctets := 1, confirmCount := 0, missCount := 0, labelOctets := none
              candidate := none, matchCount := 0, settled := none, signallingCandidate := none, signallingRun := 0
              rdValue := none, rdRun := 0, store := [], storeRunning := false, lastBlock := Block.silence } }) ∧
        (p.framer = .aligned → p.periodOctets = 0 → o = 0x5C#8 →
          exec (.lineOctetReceived k o) s = .next { s with
            ports := s.ports.set k { p with missCount := 0, frame := [o], periodOctets := 1 } }) ∧
        (p.framer = .aligned → p.periodOctets = 0 → o ≠ 0x5C#8 → p.missCount + 1 < (s.portCfg k).alignExit →
          exec (.lineOctetReceived k o) s = .next { s with
            ports := s.ports.set k { p with missCount := p.missCount + 1, frame := [o], periodOctets := 1 } }))) ∧
   (∀ (s : State) (k : Fin 8) (o : Octet) (p : LinePort), p = s.ports[k] → s.hearsLine k → p.periodOctets = 0 →
      (p.framer = .confirm → o = 0x5C#8 → (s.portCfg k).alignEnter ≤ p.confirmCount + 1 →
        exec (.alignmentConfirmed k o) s = .next { s with
          ports := s.ports.set k { p with
            framer := .aligned, confirmCount := p.confirmCount + 1, missCount := 0, frame := [o], periodOctets := 1 } }) ∧
      (p.framer = .aligned → o ≠ 0x5C#8 → (s.portCfg k).alignExit ≤ p.missCount + 1 →
        exec (.alignmentLost k o) s = .next { s with
          ports := s.ports.set k { p with
            framer := .hunt, frame := [], periodOctets := 1, confirmCount := 0, missCount := 0, labelOctets := none
            candidate := none, matchCount := 0, settled := none, signallingCandidate := none, signallingRun := 0
            rdValue := none, rdRun := 0, store := [], storeRunning := false, lastBlock := Block.silence } }) ∧
      (p.framer ≠ .confirm ∨ o ≠ 0x5C#8 → exec (.alignmentConfirmed k o) s = .next s) ∧
      (p.framer ≠ .aligned ∨ o = 0x5C#8 → exec (.alignmentLost k o) s = .next s)))

/-- LOS_CLEARED: the octet that ends the tenth whole period with carrier clears LOS, the framer still in HUNT.
LOL_CLEARED: the octet that ends the LOL_CLEARth aligned period in a row clears LOL and sets the integrator to 0 (R47 to
R49). LOL_DECLARED: the end of a period out of alignment that raises the integrator to LOL_SET declares LOL, with far-end
signalling IDLE and the store empty; the period may end with an octet, a carrier change or a block boundary, and the row
is then that stimulus (R39, R49, R55, R59; log 2). The LINE_ALARM notice of each stands before the notices to which the
record's change leads (the model's choice, log 16). -/
def Obligations.LossesAreDeclaredAndClear : Prop :=
  (∀ (s : State) (k : Fin 8) (o : Octet) (p : LinePort), p = s.ports[k] → s.hearsLine k → p.periodOctets = 35 →
     (p.framer = .hunt → p.alarms.los = true → p.carrierCount = 9 → ∃ t, exec (.losCleared k o) s = .next t ∧
       t.base = { s.base with ports := t.ports } ∧ (∀ j : Fin 8, j ≠ k → t.ports[j] = s.ports[j]) ∧
       (t.ports[k]).alarms.los = false ∧ (t.ports[k]).framer = .hunt ∧ (t.ports[k]).periodOctets = 0 ∧
       (s.notices.length < 32 →
         ⟨.lineAlarm (s.portCfg k).line k .los false, s.stationTime⟩ ∈ t.notices)) ∧
     (p.framer = .aligned → p.out = false → p.alarms.los = false → p.alarms.lol = true → (s.portCfg k).lolClear ≤ 63 →
       (s.portCfg k).lolClear ≤ p.alignedRun + 1 → ∃ t, exec (.lolCleared k o) s = .next t ∧
         t.base = { s.base with ports := t.ports } ∧ (∀ j : Fin 8, j ≠ k → t.ports[j] = s.ports[j]) ∧
         (t.ports[k]).alarms = { p.alarms with lol := false } ∧ (t.ports[k]).lolCount = 0 ∧
         (t.ports[k]).framer = .aligned ∧ (t.ports[k]).frame = [] ∧ (t.ports[k]).periodOctets = 0 ∧
         (s.notices.length < 32 →
           ⟨.lineAlarm (s.portCfg k).line k .lol false, s.stationTime⟩ ∈ t.notices))) ∧
  (∀ (s : State) (k : Fin 8) (p : LinePort), p = s.ports[k] → s.used k = true → p.out = false →
     p.alarms.lol = false → (s.portCfg k).lolSet ≤ p.lolCount + 1 →
     (∀ o : Octet, s.carrier[k] = true → p.framer = .hunt → p.periodOctets = 35 → p.alarms.los = false →
       o ≠ 0x5C#8 → ∃ t, exec (.lolDeclared k (.octet o)) s = .next t ∧
         t.base = { s.base with ports := t.ports } ∧ (∀ j : Fin 8, j ≠ k → t.ports[j] = s.ports[j]) ∧
         (t.ports[k]).alarms = { p.alarms with lol := true } ∧ (t.ports[k]).lolCount = p.lolCount + 1 ∧
         (t.ports[k]).accepted = .idle ∧ (t.ports[k]).store = [] ∧
         (s.notices.length < 32 →
           ⟨.lineAlarm (s.portCfg k).line k .lol true, s.stationTime⟩ ∈ t.notices)) ∧
     (s.carrier[k] = true → (p.alarms.los = true → p.framer = .hunt) →
       exec (.lolDeclared k .carrierFall) s = exec (.carrierFall k) s ∧
       ∀ t, exec (.lolDeclared k .carrierFall) s = .next t →
         (t.ports[k]).alarms.los = true ∧ (t.ports[k]).alarms.lol = true) ∧
     (s.carrier[k] = false → p.framer = .hunt → p.alarms.los = true →
       exec (.lolDeclared k .carrierRise) s = exec (.carrierRise k) s) ∧
     (∀ io : AudioIn, s.carrier[k] = false → p.framer = .hunt → p.alarms.los = true →
       exec (.lolDeclared k (.boundary io)) s = exec (.blockBoundary io) s ∧
       ∀ t, exec (.lolDeclared k (.boundary io)) s = .next t → (t.ports[k]).alarms.lol = true))

/-- The overhead of an evaluated frame at its last octet. LABEL_SETTLED: the third equal multiframe in a row settles the
label and judges LABEL_MISMATCH against EXPECTED_LABEL. SIGNALLING_ACCEPTED: the third frame in a row with a new value
gives the far-end signalling, which a line in service takes. FAR_DEFECT_DECIDED: the third frame in a row with a new RD
decides FAR_DEFECT (R51, R52, R55, R56, R81). DEGRADE_WINDOW_END: the last octet of the 500th evaluated frame of the
window empties it and judges DEGRADED, which is declared at DEGRADE_THRESHOLD errored frames and cleared below half of
it; a frame is errored when its parity octet differs from the exclusive-or of the frame before (R53, R54). -/
def Obligations.EvaluatedFramesDecide : Prop :=
  (∀ (s : State) (k : Fin 8) (o : Octet) (p : LinePort) (overhead : Octet), p = s.ports[k] → s.hearsLine k →
     p.EndsEvaluated → overhead = (p.frame ++ [o]).getD 1 0#8 →
     (∀ (l : List Octet) (label : Label), overhead.getLsbD 4 = false → p.labelOctets = some l → l.length = 15 →
       label = labelOfList (l ++ [(p.frame ++ [o]).getD 2 0#8]) → p.candidate = some label → 2 ≤ p.matchCount →
       ∃ t, exec (.labelSettled k o) s = .next t ∧ t.base = { s.base with ports := t.ports } ∧
         (∀ j : Fin 8, j ≠ k → t.ports[j] = s.ports[j]) ∧ (t.ports[k]).settled = some label ∧
         (t.ports[k]).matchCount = 3 ∧
         (t.ports[k]).alarms.labelMismatch = decide (∃ e, (s.portCfg k).expectedLabel = some e ∧ e ≠ label)) ∧
     (∀ sig : Signalling, sig = Signalling.ofCode (overhead.toNat / 64) → p.signallingCandidate = some sig →
       2 ≤ p.signallingRun → p.accepted ≠ sig →
       ∃ t, exec (.signallingAccepted k o) s = .next t ∧ t.base = { s.base with ports := t.ports } ∧
         (∀ j : Fin 8, j ≠ k → t.ports[j] = s.ports[j]) ∧ (t.ports[k]).accepted = sig ∧
         ∀ r : LineRecord, s.records[k] = some r → s.outCause k r = false → r.foreign s.cfg.station →
           ∃ r' : LineRecord, t.records[k] = some r' ∧ r'.farSignalling = sig ∧ r'.members = r.members ∧
             r'.listeners = r.listeners ∧ (sig = .ring ∨ sig = .offhook → r'.outRing = none)) ∧
     (∀ rd : Bool, rd = overhead.getLsbD 5 → p.rdValue = some rd → 2 ≤ p.rdRun → p.alarms.farDefect ≠ rd →
       ∃ t, exec (.farDefectDecided k o) s = .next t ∧ t.base = { s.base with ports := t.ports } ∧
         (∀ j : Fin 8, j ≠ k → t.ports[j] = s.ports[j]) ∧ (t.ports[k]).alarms.farDefect = rd)) ∧
  (∀ (s : State) (k : Fin 8) (o : Octet) (p : LinePort) (errors : Nat), p = s.ports[k] → s.hearsLine k →
     p.EndsEvaluated → p.degradeFrames = 499 →
     errors = p.degradeErrors + (if (p.frame ++ [o]).getD 3 0#8 = p.parityReference then 0 else 1) →
     ∃ t, exec (.degradeWindowEnd k o) s = .next t ∧ t.base = { s.base with ports := t.ports } ∧
       (∀ j : Fin 8, j ≠ k → t.ports[j] = s.ports[j]) ∧ (t.ports[k]).degradeFrames = 0 ∧
       (t.ports[k]).degradeErrors = 0 ∧
       (p.alarms.degraded = false →
         (t.ports[k]).alarms.degraded = decide ((s.portCfg k).degradeThreshold ≤ errors)) ∧
       (p.alarms.degraded = true →
         (t.ports[k]).alarms.degraded = !decide (errors < max 1 ((s.portCfg k).degradeThreshold / 2))))

/-- The octet that ends an evaluated frame compares its parity octet with the exclusive-or of the frame before, counts
the bits that differ or, by PARITY_MODE, the errored frame, and writes its sixteen samples to the elastic store:
STARTING runs at two blocks, and a full store drops its oldest block with a slip (R53, R59). Every frame that ends is
the next parity reference, evaluated or not (R53). A block boundary reads the store of every used port: the oldest
block; an empty running store the last block halved and rounded down, with a slip; zeros while the port is not in order
or the store is starting (R60). The premise of carrier leaves no period that the boundary ends. -/
def Obligations.ElasticStoreAndParity : Prop :=
  (∀ (s : State) (k : Fin 8) (o : Octet) (p : LinePort) (f : List Octet), p = s.ports[k] → s.hearsLine k →
     p.framer ≠ .hunt → p.periodOctets = 35 → f = p.frame ++ [o] →
     ∃ t, exec (.lineOctetReceived k o) s = .next t ∧ (∀ j : Fin 8, j ≠ k → t.ports[j] = s.ports[j]) ∧
       (t.ports[k]).parityReference = f.foldl (· ^^^ ·) 0#8 ∧ (t.ports[k]).frame = [] ∧
       (p.framer = .confirm ∨ p.alarms.los = true ∨ p.alarms.lol = true ∨ p.out = true →
         (t.live.lines[k]).parityErrors = (s.live.lines[k]).parityErrors ∧
         (t.live.lines[k]).lineSlips = (s.live.lines[k]).lineSlips) ∧
       (p.EndsEvaluated → (t.ports[k]).lastBlock = p.lastBlock ∧
         (t.live.lines[k]).parityErrors = (s.live.lines[k]).parityErrors.add
           (if (s.portCfg k).parityFrame = true then if f.getD 3 0#8 = p.parityReference then 0 else 1
           else (List.finRange 8).countP fun i =>
             (f.getD 3 0#8).getLsbD i.val != p.parityReference.getLsbD i.val) ∧
         ∃ b : Block, (∀ i : Fin 16, b[i] = f.getD (4 + 2 * i.val) 0#8 ++ f.getD (5 + 2 * i.val) 0#8) ∧
           (p.storeRunning = false → (t.ports[k]).store = p.store ++ [b] ∧
             (t.ports[k]).storeRunning = decide (1 ≤ p.store.length) ∧
             (t.live.lines[k]).lineSlips = (s.live.lines[k]).lineSlips) ∧
           (p.storeRunning = true → (t.ports[k]).storeRunning = true ∧
             (p.store.length < 3 → (t.ports[k]).store = p.store ++ [b] ∧
               (t.live.lines[k]).lineSlips = (s.live.lines[k]).lineSlips) ∧
             (3 ≤ p.store.length → (t.ports[k]).store = p.store.tail ++ [b] ∧
               (t.live.lines[k]).lineSlips = (s.live.lines[k]).lineSlips.add 1)))) ∧
  ∀ (s : State) (io : AudioIn), s.loaded = true → (∀ j : Fin 8, s.carrier[j] = true) →
    ∃ t, exec (.blockBoundary io) s = .next t ∧ ∀ (k : Fin 8) (p : LinePort), p = s.ports[k] → s.used k = true →
      (p.alarms.los = true ∨ p.alarms.lol = true ∨ p.framer ≠ .aligned ∨ p.out = true ∨ p.storeRunning = false →
        (t.ports[k]).lastBlock = Block.silence ∧ (t.ports[k]).store = p.store ∧
        (t.live.lines[k]).lineSlips = (s.live.lines[k]).lineSlips) ∧
      (p.alarms.los = false → p.alarms.lol = false → p.framer = .aligned → p.out = false → p.storeRunning = true →
        (∀ (b : Block) (rest : List Block), p.store = b :: rest → (t.ports[k]).lastBlock = b ∧
          (t.ports[k]).store = rest ∧ (t.live.lines[k]).lineSlips = (s.live.lines[k]).lineSlips) ∧
        (p.store = [] → (∀ i : Fin 16, ((t.ports[k]).lastBlock[i]).toInt = (p.lastBlock[i]).toInt / 2) ∧
          (t.ports[k]).store = [] ∧ (t.ports[k]).storeRunning = true ∧
          (t.live.lines[k]).lineSlips = (s.live.lines[k]).lineSlips.add 1))

/-- LINE_PORT OUT stops the framer, clears every defect but LOS and takes the line out of service with empty lists; IN
clears the mark, and the line returns unless another cause holds; a mark that stands already changes nothing (R42, R67).
LINE_FORCE: FORCE_OOA sets its mark and sends a framer in CONFIRM or ALIGNED to HUNT, FORCE_RD sets its mark, FORCE_NONE
clears both; LINE_PORT and LINE_FORCE are refused NOT_ACTIVE before the load has completed and BAD_INDEX for a port
above 7 or unused (R42, R43). -/
def Obligations.LinePortAndForceRequests : Prop :=
  (∀ (s : State) (o : Octet) (k : Fin 8), s.panelAnswers = true → s.used k = true → o.toNat = k.val →
     ((s.ports[k]).out = true →
       exec (.linePortOut o) s = .next { s with panelAnswer := some ⟨3#8, .done, []⟩ }) ∧
     ((s.ports[k]).out = false →
       exec (.linePortIn o) s = .next { s with panelAnswer := some ⟨3#8, .done, []⟩ }) ∧
     ((s.ports[k]).out = false → ∃ t, exec (.linePortOut o) s = .next t ∧
       t.base = { s.base with ports := t.ports, panelAnswer := some ⟨3#8, .done, []⟩ } ∧
       (∀ j : Fin 8, j ≠ k → t.ports[j] = s.ports[j]) ∧ (t.ports[k]).out = true ∧ (t.ports[k]).framer = .hunt ∧
       (t.ports[k]).alarms = ⟨(s.ports[k]).alarms.los, false, false, false, false⟩ ∧
       (t.ports[k]).accepted = .idle ∧ (t.ports[k]).settled = none ∧ (t.ports[k]).store = [] ∧
       (t.ports[k]).lolCount = 0 ∧ (t.ports[k]).alignedRun = 0 ∧ (t.ports[k]).degradeFrames = 0 ∧
       (t.ports[k]).txIndex = (s.ports[k]).txIndex ∧ (t.ports[k]).forceRd = (s.ports[k]).forceRd ∧
       ∀ r : LineRecord, s.records[k] = some r → ∃ r' : LineRecord, t.records[k] = some r' ∧
         r'.state = .outOfService ∧ r'.members = [] ∧ r'.listeners = [] ∧ r'.outRing = none ∧
         r'.farSignalling = r.farSignalling) ∧
     ((s.ports[k]).out = true → ∃ t, exec (.linePortIn o) s = .next t ∧
       t.base = { s.base with
         ports := s.ports.set k { s.ports[k] with out := false }, panelAnswer := some ⟨3#8, .done, []⟩ } ∧
       ∀ r : LineRecord, s.records[k] = some r → r.members = [] → r.listeners = [] → r.conflict = none →
         s.awayFromFloor = false → ∃ r' : LineRecord, t.records[k] = some r' ∧ r'.members = [] ∧
           r'.listeners = [] ∧ r'.state ≠ .outOfService ∧ r'.farSignalling = (s.ports[k]).accepted)) ∧
  (∀ (s : State) (o : Octet), s.panelAnswers = true →
     (∀ k : Fin 8, s.used k = true → o.toNat = k.val →
       ((s.ports[k]).framer = .hunt → exec (.forceOoa o) s = .next { s with
         ports := s.ports.set k { s.ports[k] with forceOoa := true }, panelAnswer := some ⟨4#8, .done, []⟩ }) ∧
       ((s.ports[k]).framer ≠ .hunt → exec (.forceOoa o) s = .next { s with
         ports := s.ports.set k { s.ports[k] with
           forceOoa := true, framer := .hunt, frame := [], confirmCount := 0, missCount := 0, labelOctets := none
           candidate := none, matchCount := 0, settled := none, signallingCandidate := none, signallingRun := 0
           rdValue := none, rdRun := 0, store := [], storeRunning := false, lastBlock := Block.silence }
         panelAnswer := some ⟨4#8, .done, []⟩ }) ∧
       exec (.forceRd o) s = .next { s with
         ports := s.ports.set k { s.ports[k] with forceRd := true }, panelAnswer := some ⟨4#8, .done, []⟩ } ∧
       exec (.forceNone o) s = .next { s with
         ports := s.ports.set k { s.ports[k] with forceOoa := false, forceRd := false }
         panelAnswer := some ⟨4#8, .done, []⟩ }) ∧
     (∀ (c : Instr) (kind : Octet) (v : Verdict),
       (kind = 3#8 ∧ (c = .linePortOut o ∨ c = .linePortIn o) ∨
         kind = 4#8 ∧ (c = .forceOoa o ∨ c = .forceRd o ∨ c = .forceNone o)) →
       (s.loaded = false ∧ v = .notActive ∨
         s.loaded = true ∧ (7 < o.toNat ∨ ∃ k : Fin 8, o.toNat = k.val ∧ s.used k = false) ∧ v = .badIndex) →
       exec c s = .next { s with panelAnswer := some ⟨kind, v, []⟩ }))

/-! ### Block boundary -/

/-- BLOCK_BOUNDARY moves station time to the next boundary, whatever samples are still to come (log 3), and every timer
one boundary on: monitoring, listen period, beacon, clash window, peers, call slots, queue lifetimes, and, where no port
is without carrier, so that no line changes, the timers of line records, mirrors, pending asks, channel waits and
streams, of which one whose timer ends is gone (00_scope "Timers", R158). Before the load has completed it changes
nothing else (R28). -/
def Obligations.BoundaryMovesTimeAndTimers : Prop :=
  ∀ (s : State) (io : AudioIn), ∃ t, exec (.blockBoundary io) s = .next t ∧
    t.base = { s.base with
      stationTime := s.stationTime - BitVec.ofNat 32 (s.stationTime.toNat % 16) + 16#32
      monitorTimer := s.monitorTimer - 1, listenTimer := s.listenTimer.map (· - 1)
      beaconTimer := s.beaconTimer.map (· - 1), clashWindow := s.clashWindow.map (· - 1)
      peers := t.peers, slots := t.slots, ports := t.ports, localLevels := t.localLevels
      earpieceOut := t.earpieceOut, speakerOut := t.speakerOut, lineOut := t.lineOut } ∧
    t.stationTime.toNat % 16 = 0 ∧
    (∀ p : Fin 64, t.peers[p] = { s.peers[p] with silence := (s.peers[p]).silence.map (· - 1) }) ∧
    (∀ i : Fin 4, t.slots[i] = { s.slots[i] with timer := (s.slots[i]).timer.map (· - 1) }) ∧
    (s.loaded = false → t.ports = s.ports ∧ t.localLevels = s.localLevels ∧ t.earpieceOut = s.earpieceOut ∧
      t.speakerOut = s.speakerOut ∧ t.lineOut = s.lineOut ∧ t.live = s.live ∧ t.handsets = s.handsets ∧
      t.notices = s.notices ∧ t.marks = s.marks ∧ t.ring = s.ring ∧ t.taps = s.taps ∧
      t.txQueue = s.txQueue.map fun e => { e with life := e.life - 1 }) ∧
    (s.loaded = true → (∀ k : Fin 8, s.carrier[k] = true) →
      (∀ (k : Fin 8) (r : LineRecord), s.records[k] = some r → t.records[k] = some { r with
        members := r.members.map fun m => { m with recallTimer := m.recallTimer.map (· - 1) }
        outRing := r.outRing.map (· - 1), holdOver := r.holdOver.map (· - 1), refresh := r.refresh.map (· - 1)
        conflict := r.conflict.map fun c => { c with timer := c.timer - 1 } }) ∧
      t.mirrors = (s.mirrors.map fun m => { m with timer := m.timer.map (· - 1) }) ∧
      t.pendingAsks = (s.pendingAsks.map fun a => { a with timer := a.timer - 1 }) ∧
      (∀ k : Fin 8,
        (t.channels[k]).wait = (s.channels[k]).wait.map fun w => { w with timer := w.timer - 1 }) ∧
      (∀ (i : Fin 32) (e : StreamEntry), s.streams[i] = some e →
        (e.silence ≤ 1 → t.streams[i] = none) ∧
        (1 < e.silence → ∃ e' : StreamEntry, t.streams[i] = some e' ∧ e'.silence = e.silence - 1 ∧
          e'.circuit = e.circuit ∧ e'.party = e.party ∧ e'.cls = e.cls)) ∧
      (s.txQueue.map fun e => { e with life := e.life - 1 }).Sublist t.txQueue)

/-- At a block boundary every used port builds one frame of 36 octets: alignment octet, overhead with the near-end
signalling the line's record gives, RD and MF, the label octet of its index, the exclusive-or of the frame before, and
the 16 samples of the line's transmit block, high octet first (R38, R61, R62, R69, R197). The mixes of a boundary: an
earpiece on hook carries zeros, and one off hook without bindings the mouthpiece at SIDETONE and the volume; a speaker
output without a bound channel carries zeros; a line that is not ENGAGED sends zeros, and one whose one ACTIVE member is
the station's own open handset sends its mouthpiece block (R70, R166, R168, R169). -/
def Obligations.BoundaryFramesAndMixes : Prop :=
  (∀ (s : State) (io : AudioIn) (k : Fin 8), s.used k = true → ∃ t, exec (.blockBoundary io) s = .next t ∧
     (t.ports[k]).txFrame =
       [0x5C#8,
         BitVec.ofNat 8 (64 * (match t.records[k] with
             | some r => if r.outRing.isSome then 1 else if r.state = .engaged ∨ r.state = .held then 2 else 0
             | none => 0) +
           (if (t.ports[k]).alarms.los ∨ (t.ports[k]).alarms.lol ∨ (s.ports[k]).forceRd then 32 else 0) +
           (if (s.ports[k]).txIndex = 0 then 16 else 0)),
         (s.portCfg k).transmitLabel[(s.ports[k]).txIndex], (s.ports[k]).txParity] ++
       (t.lineOut[k]).toList.flatMap (fun x : Sample => [(x >>> 8).setWidth 8, x.setWidth 8]) ∧
     (t.ports[k]).txFrame.length = 36 ∧ (t.ports[k]).txIndex = (s.ports[k]).txIndex + 1 ∧
     (t.ports[k]).txParity = (t.ports[k]).txFrame.foldl (· ^^^ ·) 0#8) ∧
  (∀ (s : State) (io : AudioIn), s.loaded = true → ∃ t, exec (.blockBoundary io) s = .next t ∧
     (∀ h : Fin 2,
       ((s.handsets[h]).onHook = true → t.earpieceOut[h] = Block.silence) ∧
       ((s.handsets[h]).onHook = false → (s.handsets[h]).bindings = [] → ∀ i : Fin 16,
         (t.earpieceOut[h])[i] = BitVec.ofInt 16 (clampInt (scale
           (clampInt (scale (io.mouthpiece[h])[i].toInt s.cfg.sidetone)) (s.handsets[h]).volume)))) ∧
     (∀ o : Fin 2, (∀ k : Fin 8, (s.channels[k]).binding = .unbound ∨ (s.channels[k]).output ≠ o) →
       t.speakerOut[o] = Block.silence) ∧
     ∀ k : Fin 8, s.used k = true →
       ((∀ r : LineRecord, t.records[k] = some r → r.state ≠ .engaged) → t.lineOut[k] = Block.silence) ∧
       ∀ (r : LineRecord) (h : Fin 2), t.records[k] = some r → r.state = .engaged →
         (r.members.filter fun m => m.mode == .active).map (·.party) = [s.own (.handset h)] →
         (t.handsets[h]).onHook = false → (t.handsets[h]).muted = false → t.lineOut[k] = io.mouthpiece[h])

/-- At a block boundary in ACTIVE a handset that is off hook and not muted offers its mouthpiece on the circuit it is
bound to, the desk microphone its block on the hoot of the TALKING channel, and a home line that is ENGAGED or HELD with
a party of another station its RX block as its far-end stream, each with the next sequence of its pair; a line without
such a party sends nothing and its count is dropped (R2, R71, R104, R144). The premises leave no other sender and room
in the queue. -/
def Obligations.BoundarySendsOwnVoices : Prop :=
  (∀ (s : State) (io : AudioIn), s.stationState = .active → s.txQueue.length < 24 →
    (∀ k : Fin 8, s.records[k] = none) → ∃ t, exec (.blockBoundary io) s = .next t ∧
    (∀ (h : Fin 2) (b : Binding), (s.handsets[h]).onHook = false → (s.handsets[h]).muted = false →
      (s.handsets[h]).bindings = [b] → (s.handsets[1 - h]).onHook = true → s.talk = none →
      t.carries Config.allStations
        (.voice ⟨b.circuit, .handset h, s.sequenceOf b.circuit (.handset h), true, io.mouthpiece[h]⟩) ∧
      t.sequenceOf b.circuit (.handset h) = s.sequenceOf b.circuit (.handset h) + 1#8) ∧
    (∀ (k : Fin 8) (n : Nat), (∀ h : Fin 2, (s.handsets[h]).onHook = true) → s.talk = some k →
      (s.channels[k]).binding = .hoot n →
      t.carries Config.allStations
        (.voice ⟨.hoot n, .mic, s.sequenceOf (.hoot n) .mic, true, io.microphone⟩) ∧
      t.sequenceOf (.hoot n) .mic = s.sequenceOf (.hoot n) .mic + 1#8)) ∧
  ∀ (s : State) (io : AudioIn) (k : Fin 8) (r : LineRecord), s.stationState = .active → s.txQueue.length < 24 →
    (∀ j : Fin 8, s.carrier[j] = true) → s.records[k] = some r → (∀ j : Fin 8, j ≠ k → s.records[j] = none) →
    (∀ h : Fin 2, (s.handsets[h]).onHook = true) → s.talk = none →
    ∃ t, exec (.blockBoundary io) s = .next t ∧
      ((r.state = .engaged ∨ r.state = .held) →
        ((∃ m ∈ r.members, m.party.station ≠ s.cfg.station) ∨ ∃ l ∈ r.listeners, l.party.station ≠ s.cfg.station) →
        t.carries Config.allStations (.voice ⟨.line (s.portCfg k).line, .linePort k,
          s.sequenceOf (.line (s.portCfg k).line) (.linePort k), true, (t.ports[k]).lastBlock⟩) ∧
        t.sequences = [⟨.line (s.portCfg k).line, .linePort k,
          s.sequenceOf (.line (s.portCfg k).line) (.linePort k) + 1#8⟩]) ∧
      (r.state ≠ .engaged ∧ r.state ≠ .held ∨
          (∀ m ∈ r.members, m.party.station = s.cfg.station) ∧ (∀ l ∈ r.listeners, l.party.station = s.cfg.station) →
        t.txQueue = (s.txQueue.map fun e => { e with life := e.life - 1 }) ∧ t.sequences = [])

/-- The mixes of a boundary. A mix takes a handset's mouthpiece unless it is on hook or muted, a home line's far block
in ENGAGED and HELD, and the block that a remote party's stream entry yields, else zeros (R165). A line sends the
clamped sum of its ACTIVE members in ENGAGED (R166). A binding mix is the clamped sum of a line's stream entries, with
the far block at its home, or the peer's block of a call (R167). An earpiece off hook is the sum of the binding mixes by
their balance and the mouthpiece by SIDETONE, clamped, then scaled by the volume and clamped (R168). A speaker output is
the sum of its bound unmuted channels by volume, each the clamped sum of its talkers, then the master, then the duck
where the TALKING channel is on it, each clamped (R169). A final stage that clamps counts one clip per block (R164,
R173). A block boundary makes these mixes: after talker admission, and before an entry that ends at it retires, which
R141 leaves open (the model's choices, logs 17 and 19). -/
def Obligations.MixesAreClampedSums : Prop :=
  (∀ x : Int, clampInt x = if x < -32768 then -32768 else if 32767 < x then 32767 else x) ∧
  (∀ (s : State) (io : AudioIn) (ys : List Yielded) (c : Circuit),
     (∀ h : Fin 2, s.sourceBlock io ys c (s.own (.handset h)) =
       if (s.handsets[h]).onHook = true ∨ (s.handsets[h]).muted = true then Block.silence else io.mouthpiece[h]) ∧
     (∀ k : Fin 8, s.sourceBlock io ys c (s.own (.linePort k)) = s.farBlock k ∧
       (∀ r : LineRecord, s.records[k] = some r → s.farBlock k =
         if r.state = .engaged ∨ r.state = .held then (s.ports[k]).lastBlock else Block.silence)) ∧
     ∀ p : Party, p.station ≠ s.cfg.station →
       ((∀ y ∈ ys, y.circuit = c → y.party ≠ p) → s.sourceBlock io ys c p = Block.silence) ∧
       ∀ (pre post : List Yielded) (y : Yielded), ys = pre ++ y :: post → y.circuit = c → y.party = p →
         (∀ z ∈ pre, z.circuit = c → z.party ≠ p) → s.sourceBlock io ys c p = y.block) ∧
  (∀ (s t : State) (io : AudioIn) (ys : List Yielded), t = s.mix io ys →
     (∀ k : Fin 8,
       (s.used k = false → t.lineOut[k] = s.lineOut[k] ∧ t.live.clipsLine[k] = s.live.clipsLine[k]) ∧
       (s.used k = true → ∀ r : LineRecord, s.records[k] = some r →
         (r.state ≠ .engaged → t.lineOut[k] = Block.silence ∧ t.live.clipsLine[k] = s.live.clipsLine[k]) ∧
         (r.state = .engaged → ∀ total : Fin 16 → Int,
           (∀ i : Fin 16, total i = ((r.members.filter fun m => m.mode == .active).map fun m =>
             ((s.sourceBlock io ys (.line (s.portCfg k).line) m.party)[i]).toInt).sum) →
           (∀ i : Fin 16, ((t.lineOut[k])[i]).toInt = clampInt (total i)) ∧
           t.live.clipsLine[k] =
             (s.live.clipsLine[k]).add (if ∃ i : Fin 16, clampInt (total i) ≠ total i then 1 else 0)))) ∧
     (∀ (h : Fin 2) (n : LineNo) (i : Fin 16), ((s.bindingMix ys h (.line n))[i]).toInt = clampInt
       (((ys.filter fun y => y.circuit == .line n).map fun y => (y.block[i]).toInt).sum +
         match s.recordFor n with
         | some k => if s.homeOf n = some s.cfg.station then ((s.farBlock k)[i]).toInt else 0
         | none => 0)) ∧
     (∀ (h : Fin 2) (n : Nat) (j : Fin 4) (p : Party), s.slotOfBinding h (.call n) = some j →
       (s.slots[j]).peer = some p → s.bindingMix ys h (.call n) = blockOf ys (.call n) p) ∧
     (∀ h : Fin 2,
       ((s.handsets[h]).onHook = true → t.earpieceOut[h] = Block.silence ∧
         t.live.clipsHandset[h] = s.live.clipsHandset[h]) ∧
       ((s.handsets[h]).onHook = false → ∀ out : Fin 16 → Int,
         (∀ i : Fin 16, out i = scale (clampInt (((s.handsets[h]).bindings.map fun b =>
           scale ((s.bindingMix ys h b.circuit)[i]).toInt b.balance).sum +
           scale ((io.mouthpiece[h])[i]).toInt s.cfg.sidetone)) (s.handsets[h]).volume) →
         (∀ i : Fin 16, ((t.earpieceOut[h])[i]).toInt = clampInt (out i)) ∧
         t.live.clipsHandset[h] =
           (s.live.clipsHandset[h]).add (if ∃ i : Fin 16, clampInt (out i) ≠ out i then 1 else 0))) ∧
     ∀ (o : Fin 2) (master duck : Fin 16 → Int) (ducked : Bool),
       (∀ i : Fin 16, master i = scale (clampInt ((allPorts.filter fun k => decide ((s.channels[k]).output = o) &&
           !(s.channels[k]).muted && decide ((s.channels[k]).binding ≠ .unbound)).map fun k =>
         scale ((s.channelSum io ys k)[i]).toInt (s.channels[k]).volume).sum) s.masters[o]) →
       (∀ i : Fin 16, duck i = scale (clampInt (master i)) s.cfg.duck) →
       (ducked = true ↔ ∃ k : Fin 8, s.talk = some k ∧ (s.channels[k]).output = o) →
       (∀ (k : Fin 8) (c : Circuit), (s.channels[k]).binding.circuit = some c → ∀ i : Fin 16,
         ((s.channelSum io ys k)[i]).toInt = clampInt ((s.channels[k]).talkers.map fun x =>
           ((s.sourceBlock io ys c x.party)[i]).toInt).sum) ∧
       (∀ i : Fin 16, ((t.speakerOut[o])[i]).toInt = clampInt (if ducked then duck i else master i)) ∧
       t.live.clipsSpeaker[o] = (s.live.clipsSpeaker[o]).add
         (if (∃ i : Fin 16, clampInt (master i) ≠ master i) ∨
           ducked = true ∧ ∃ i : Fin 16, clampInt (duck i) ≠ duck i then 1 else 0)) ∧
  ∀ (s m : State) (io : AudioIn), s.loaded = true →
    m = ((s.beforeAdmission io).admitAll s.boundaryYields).mix io s.boundaryYields →
    ∃ t, exec (.blockBoundary io) s = .next t ∧ t.earpieceOut = m.earpieceOut ∧ t.speakerOut = m.speakerOut ∧
      t.lineOut = m.lineOut ∧ t.live.clipsHandset = m.live.clipsHandset ∧
      t.live.clipsSpeaker = m.live.clipsSpeaker ∧ t.live.clipsLine = m.live.clipsLine

/-- HANGOVER_EXPIRY is the boundary at which a source in the channel's talker set has a level below GATE and its
hangover count, one more, reaches HANGOVER; after it the source is in that set no more. STREAM_SILENCE_EXPIRY is the
boundary at which an entry's silence timer ends, after which the entry is gone. Where the decision does not fall the
rows change nothing (R141, R158; log 2). The talkers are judged before an entry that ends retires (log 19). The premises
say that a channel's talkers and sources are distinct parties. -/
def Obligations.TalkersAndStreamsExpireAtABoundary : Prop :=
  ∀ (s : State) (io : AudioIn),
    (∀ (k : Fin 8) (p : Party) (m : State), m = s.beforeAdmission io →
      ((m.channels[k]).talkers.map (·.party)).Nodup → ((m.sources s.boundaryYields k).map (·.party)).Nodup →
      ((s.loaded = true ∧ m.channelPlays k = true ∧ ∃ x ∈ (m.channels[k]).talkers, x.party = p ∧
          ∃ y ∈ m.sources s.boundaryYields k, y.party = p ∧ y.level < s.cfg.gate ∧
            s.cfg.hangover ≤ x.hangover + 1) →
        exec (.hangoverExpiry k p.station p.port.octet io) s = exec (.blockBoundary io) s ∧
        ∃ t, exec (.hangoverExpiry k p.station p.port.octet io) s = .next t ∧
          ∀ x ∈ (t.channels[k]).talkers, x.party ≠ p) ∧
      (s.loaded = false ∨ m.channelPlays k = false ∨ (∀ x ∈ (m.channels[k]).talkers, x.party = p →
          ∀ y ∈ m.sources s.boundaryYields k, y.party = p →
            s.cfg.gate ≤ y.level ∨ x.hangover + 1 < s.cfg.hangover) →
        exec (.hangoverExpiry k p.station p.port.octet io) s = .next s)) ∧
    (∀ (i : Fin 32) (e : StreamEntry), s.streams[i] = some e →
      (s.loaded = true → e.silence ≤ 1 →
        exec (.streamSilenceExpiry i io) s = exec (.blockBoundary io) s ∧
        ∃ t, exec (.streamSilenceExpiry i io) s = .next t ∧ t.streams[i] = none) ∧
      (s.loaded = false ∨ 1 < e.silence → exec (.streamSilenceExpiry i io) s = .next s))

/-- The sources of a channel are the stream entries of its circuit and, for a line, the open handsets bound to it and
the far end of a line that the station is home to while it is ENGAGED or HELD (R140). Talker admission at a block
boundary: a source that is one no more leaves; the hangover count restarts at GATE and above, rises below it, and at
HANGOVER the source leaves; the candidates, which are the sources at GATE or above that are not admitted, come in
descending order of level, then of party, and each takes a free place, or the place of the admitted source of lowest
level, the latest among equals, where it exceeds that level by more than half (R141). -/
def Obligations.AdmissionTakesTheLoudest : Prop :=
  (∀ (limit gate hangover : Nat) (src : List Source) (set kept : List Talker),
     kept = set.filterMap (fun x => match src.find? fun y => y.party == x.party with
       | none => none
       | some y =>
         if gate ≤ y.level then some ⟨x.party, 0, y.level⟩
         else if x.hangover + 1 < hangover then some ⟨x.party, x.hangover + 1, y.level⟩ else none) →
     (candidates gate src kept).Perm
       (src.filter fun y => decide (gate ≤ y.level) && kept.all fun x => x.party != y.party) ∧
     (candidates gate src kept).Pairwise
       (fun y z => z.level < y.level ∨ y.level = z.level ∧ z.party.before y.party = false) ∧
     admitSources limit gate hangover src set = (candidates gate src kept).foldl (meetCandidate limit) kept) ∧
  (∀ (limit : Nat) (set : List Talker) (y : Source),
     (set.length < limit → meetCandidate limit set y = set ++ [⟨y.party, 0, y.level⟩]) ∧
     (limit ≤ set.length → (set.map (·.party)).Nodup → ∀ (n : Nat) (low : Talker), set[n]? = some low →
       (∀ (m : Nat) (x : Talker), set[m]? = some x → low.level < x.level ∨ low.level = x.level ∧ m ≤ n) →
       meetCandidate limit set y =
         if low.level + low.level / 2 < y.level then set.eraseIdx n ++ [⟨y.party, 0, y.level⟩] else set)) ∧
  ∀ (s m : State) (io : AudioIn) (k : Fin 8), s.loaded = true → m = s.beforeAdmission io →
    (∀ (i : Fin 32) (e : StreamEntry), s.streams[i] = some e → 1 < e.silence) →
    (∃ t, exec (.blockBoundary io) s = .next t ∧ (t.channels[k]).talkers =
      if m.channelPlays k = true then
        admitSources s.talkerLimit s.cfg.gate s.cfg.hangover (m.sources s.boundaryYields k) (m.channels[k]).talkers
      else (m.channels[k]).talkers) ∧
    (∀ n : Nat, (m.channels[k]).binding = .hoot n → ∀ x : Source, x ∈ m.sources s.boundaryYields k ↔
      ∃ y ∈ s.boundaryYields, y.circuit = .hoot n ∧ x = ⟨y.party, y.level⟩) ∧
    ∀ n : LineNo, (m.channels[k]).binding = .line n → ∀ x : Source, x ∈ m.sources s.boundaryYields k ↔
      (∃ y ∈ s.boundaryYields, y.circuit = .line n ∧ x = ⟨y.party, y.level⟩) ∨
      (∃ h : Fin 2, (∃ b ∈ (m.handsets[h]).bindings, b.circuit = .line n) ∧ (m.handsets[h]).onHook = false ∧
        (m.handsets[h]).muted = false ∧ x = ⟨s.own (.handset h), m.localLevel (.handset h)⟩) ∨
      ∃ (j : Fin 8) (r : LineRecord), m.homeOf n = some s.cfg.station ∧ m.recordFor n = some j ∧
        m.records[j] = some r ∧ (r.state = .engaged ∨ r.state = .held) ∧
        x = ⟨s.own (.linePort j), m.localLevel (.linePort j)⟩

/-- At a block boundary every stream entry yields one block: a FILLING one with two blocks its head, REAL, and it is
PLAYING; with fewer, silence; a PLAYING one its head, REAL; without a block, up to twice, the last block with each
sample halved and rounded down, CONCEALED and counted in UNDERRUNS; then silence, and it is FILLING again. The yielded
block is its last block and moves its level (R156, R157, R158). The premise that no port is without carrier leaves the
table as it is. -/
def Obligations.StreamsYieldAtABoundary : Prop :=
  (∀ (e : StreamEntry) (next : StreamEntry → Block → StreamEntry),
     next = (fun x b => { x with lastBlock := b, level := levelAfter e.level b }) →
     (e.playing = false → e.queue.length ≤ 1 → e.yield = (.silent, next e Block.silence)) ∧
     (∀ (x : Octet × Block) (rest : List (Octet × Block)), e.queue = x :: rest → e.playing = true ∨ rest ≠ [] →
       e.yield = (.real, next { e with playing := true, queue := rest, concealed := 0 } x.2)) ∧
     (e.playing = true → e.queue = [] → e.concealed ≤ 1 → ∃ b : Block,
       (∀ i : Fin 16, (b[i]).toInt = (e.lastBlock[i]).toInt / 2) ∧
       e.yield = (.concealed, next { e with concealed := e.concealed + 1 } b)) ∧
     (e.playing = true → e.queue = [] → 2 ≤ e.concealed →
       e.yield = (.silent, next { e with playing := false, concealed := 0 } Block.silence))) ∧
  ∀ (s : State) (io : AudioIn), s.loaded = true → (∀ k : Fin 8, s.carrier[k] = true) →
    ∃ t, exec (.blockBoundary io) s = .next t ∧
      t.live.underruns = s.live.underruns.add (s.streams.toList.countP fun e => match e with
        | some e => e.playing && e.queue.isEmpty && decide (e.concealed ≤ 1)
        | none => false) ∧
      ∀ i : Fin 32,
        (s.streams[i] = none → t.streams[i] = none) ∧
        ∀ e : StreamEntry, s.streams[i] = some e →
          ⟨e.circuit, e.party, e.yield.1, e.yield.2.lastBlock, e.yield.2.level⟩ ∈ s.boundaryYields ∧
          (1 < e.silence → t.streams[i] = some { e.yield.2 with silence := e.silence - 1 })

/-- SEGMENT_FULL: the boundary that brings a RECORDING tap's segment to 256 pairs closes it READY and claims the next
descriptor if it is FREE, else the tap starves; below 256 a boundary appends 16 pairs and the row changes nothing (R177,
R180, R184; that the row is the whole boundary, and nothing short of 256 pairs, is the model's choice, log 2). GAP is set
with pairs whose near track took a block that was not REAL, or none, from an ACTIVE member of another station, and then
stays; ALARM is set when a defect is declared while the segment is FILLING, and stays when one clears (R182). The premises
of the boundary leave no other tap and no line event. -/
def Obligations.SegmentsFillMarkAndClose : Prop :=
  (∀ (s : State) (io : AudioIn) (k : Fin 8) (tap : Tap) (i : Fin 64) (gap : Bool), s.loaded = true →
    (gap = true ↔ s.TakesUnreal k) →
    s.taps[k] = some tap → tap.state = .recording → tap.filling = some i → (s.ring[i]).owner = .filling →
    (∀ j : Fin 8, s.carrier[j] = true ∧ (j ≠ k → s.taps[j] = none)) →
    ((s.ring[i]).pairs.length + 16 < 256 → exec (.segmentFull k io) s = .next s ∧
      ∃ t, exec (.blockBoundary io) s = .next t ∧ t.taps[k] = some tap ∧
        t.ring[i] = { s.ring[i] with
          pairs := (s.ring[i]).pairs ++ (t.lineOut[k]).toList.zip (t.farBlock k).toList
          startTime := if (s.ring[i]).pairs = [] then nextBoundary s.stationTime else (s.ring[i]).startTime
          gap := (s.ring[i]).gap || gap }) ∧
    (256 ≤ (s.ring[i]).pairs.length + 16 → exec (.segmentFull k io) s = exec (.blockBoundary io) s ∧
      ∃ t, exec (.segmentFull k io) s = .next t ∧ t.ring[i] = { s.ring[i] with
          owner := .ready, last := false
          pairs := (s.ring[i]).pairs ++ (t.lineOut[k]).toList.zip (t.farBlock k).toList
          startTime := if (s.ring[i]).pairs = [] then nextBoundary s.stationTime else (s.ring[i]).startTime
          gap := (s.ring[i]).gap || gap } ∧
        ((s.ring[s.claimIndex]).owner = .free → t.claimIndex = s.claimIndex + 1 ∧
          t.taps[k] = some { tap with filling := some s.claimIndex, nextSegment := tap.nextSegment + 1#16
                                      lostPairs := 0#16 } ∧
          (t.ring[s.claimIndex]).owner = .filling ∧ (t.ring[s.claimIndex]).segment = tap.nextSegment) ∧
        ((s.ring[s.claimIndex]).owner ≠ .free → t.claimIndex = s.claimIndex ∧
          t.taps[k] = some { tap with state := .starved, filling := none }))) ∧
  ∀ (s : State) (k : Fin 8) (tap : Tap) (i : Fin 64) (r : LineRecord) (c : Instr), s.taps[k] = some tap →
    tap.filling = some i → s.records[k] = some r → r.Settled (s.portCfg k) (s.outCause k r) (s.ports[k]).alarms →
    r.foreign s.cfg.station → (c = .carrierFall k ∨ c = .carrierRise k ∨ ∃ o : Octet, c = .lineOctetReceived k o) →
    ∃ t, exec c s = .next t ∧ t.taps = s.taps ∧
      ((∃ d : Defect, (s.ports[k]).alarms.holds d = false ∧ (t.ports[k]).alarms.holds d = true) →
        t.ring = s.ring.set i { s.ring[i] with alarm := true }) ∧
      ((∀ d : Defect, (s.ports[k]).alarms.holds d = true ∨ (t.ports[k]).alarms.holds d = false) → t.ring = s.ring)

/-- The life of a tap outside a full segment. A first party starts a recording on an IDLE tap: the next number, segment
0, in the descriptor at the claim index if it is FREE, else STARVED with RECORD_STARVED; on a CLOSING tap it is an owed
start. A party change closes the open segment READY and claims the next or starves; the last party's leaving closes it
with LAST and the tap is IDLE, from STARVED it is CLOSING (R177 to R179, R181, R183 to R186). At a boundary a STARVED
tap claims and takes the boundary's pairs, TRUNCATED with those lost before, or loses 16; a CLOSING tap claims and
writes its empty LAST, then is IDLE or begins its owed recording, against which 16 pairs are lost at every boundary with
parties (R184 to R186). The end of a hold-over ends the recording, and a block boundary does this work with the line's
transmit block and far block (R88, R183, R171). -/
def Obligations.TapsFollowTheParties : Prop :=
  (∀ (s : State) (k : Fin 8) (x : Tap) (number : BitVec 16) (now old : List (Party × Mode))
     (opened : BitVec 16 → BitVec 16 → Count → Descriptor), s.taps[k] = some x → now = s.partySet k →
     (x.state ≠ .idle → x.number = some number) →
     opened = (fun n segment lost => ⟨.filling, n, segment, decide (segment = 0#16), false, (s.portCfg k).line, k,
       s.stationTime, decide (lost ≠ 0#16), lost, (s.ports[k]).alarms.any, false, now, (s.ports[k]).settled, []⟩) →
     (old = now → s.tapEvent k old = s) ∧
     (old = [] → now ≠ [] → x.state = .idle →
       ((s.ring[s.claimIndex]).owner = .free → s.tapEvent k old = { s with
         recordingCount := s.recordingCount + 1#16, claimIndex := s.claimIndex + 1
         ring := s.ring.set s.claimIndex (opened s.recordingCount 0#16 0#16)
         taps := s.taps.set k
           (some ⟨.recording, some s.recordingCount, 1#16, some s.claimIndex, 0#16, x.owedStart⟩) }) ∧
       ((s.ring[s.claimIndex]).owner ≠ .free → s.tapEvent k old = State.notify
         (.recordStarved (s.portCfg k).line k s.recordingCount) { s with
           recordingCount := s.recordingCount + 1#16
           taps := s.taps.set k (some ⟨.starved, some s.recordingCount, 0#16, none, 0#16, x.owedStart⟩) })) ∧
     (old = [] → now ≠ [] → x.state = .closing → s.tapEvent k old =
       { s with taps := s.taps.set k (some { x with owedStart := some (x.owedStart.getD 0#16) }) }) ∧
     (old ≠ [] → now ≠ [] → x.state = .starved ∨ x.state = .closing → s.tapEvent k old = s) ∧
     (∀ (i : Fin 64) (closed : Bool → Descriptor), x.state = .recording → x.filling = some i →
       (s.ring[i]).owner = .filling → closed = (fun last => { s.ring[i] with
         owner := .ready, last := last
         startTime := if (s.ring[i]).pairs = [] then s.stationTime else (s.ring[i]).startTime }) →
       (old ≠ [] → now = [] → s.tapEvent k old = { s with
         ring := s.ring.set i (closed true)
         taps := s.taps.set k (some { x with state := .idle, number := none, nextSegment := 0#16, filling := none }) }) ∧
       (old ≠ [] → now ≠ [] → old ≠ now →
         ((s.ring[s.claimIndex]).owner = .free → s.tapEvent k old = { s with
           claimIndex := s.claimIndex + 1
           ring := (s.ring.set i (closed false)).set s.claimIndex (opened number x.nextSegment x.lostPairs)
           taps := s.taps.set k (some { x with
             nextSegment := x.nextSegment + 1#16, filling := some s.claimIndex, lostPairs := 0#16 }) }) ∧
         ((s.ring[s.claimIndex]).owner ≠ .free → s.tapEvent k old = State.notify
           (.recordStarved (s.portCfg k).line k number) { s with
             ring := s.ring.set i (closed false)
             taps := s.taps.set k (some { x with state := .starved, filling := none }) }))) ∧
     (old ≠ [] → now = [] → x.state = .starved → s.tapEvent k old =
       { s with taps := s.taps.set k (some { x with state := .closing }) }) ∧
     ∀ (near far : Block) (gap : Bool), x.state = .starved →
       ((s.ring[s.claimIndex]).owner = .free → s.tapBoundary k near far gap = { s with
         claimIndex := s.claimIndex + 1
         ring := s.ring.set s.claimIndex { opened number x.nextSegment x.lostPairs with
           gap := gap, pairs := near.toList.zip far.toList }
         taps := s.taps.set k (some { x with
           state := .recording, nextSegment := x.nextSegment + 1#16, filling := some s.claimIndex
           lostPairs := 0#16 }) }) ∧
       ((s.ring[s.claimIndex]).owner ≠ .free → s.tapBoundary k near far gap = { s with
         taps := s.taps.set k (some { x with lostPairs := x.lostPairs.add 16 })
         live := { s.live with lostPairs := s.live.lostPairs.set k ((s.live.lostPairs[k]).add 16) } })) ∧
  (∀ (s : State) (k : Fin 8) (x : Tap) (number : BitVec 16) (near far : Block) (gap : Bool) (last : Descriptor),
     s.taps[k] = some x → x.state = .closing → x.number = some number →
     last = ⟨.ready, number, x.nextSegment, decide (x.nextSegment = 0#16), true, (s.portCfg k).line, k,
       s.stationTime, decide (x.lostPairs ≠ 0#16), x.lostPairs, (s.ports[k]).alarms.any, false, [],
       (s.ports[k]).settled, []⟩ →
     (x.owedStart = none →
       ((s.ring[s.claimIndex]).owner ≠ .free → s.tapBoundary k near far gap = s) ∧
       ((s.ring[s.claimIndex]).owner = .free → s.tapBoundary k near far gap = { s with
         claimIndex := s.claimIndex + 1, ring := s.ring.set s.claimIndex last
         taps := s.taps.set k
           (some { x with state := .idle, number := none, nextSegment := 0#16, lostPairs := 0#16 }) })) ∧
     ∀ (c owed : Count) (live : Counters), x.owedStart = some c →
       owed = (if s.partySet k = [] then c else c.add 16) →
       live = (if s.partySet k = [] then s.live
         else { s.live with lostPairs := s.live.lostPairs.set k ((s.live.lostPairs[k]).add 16) }) →
       ((s.ring[s.claimIndex]).owner ≠ .free → s.tapBoundary k near far gap =
         { s with live := live, taps := s.taps.set k (some { x with owedStart := some owed }) }) ∧
       ((s.ring[s.claimIndex]).owner = .free → s.partySet k = [] → s.tapBoundary k near far gap = { s with
         claimIndex := s.claimIndex + 1, ring := s.ring.set s.claimIndex last
         recordingCount := s.recordingCount + 1#16
         taps := s.taps.set k (some ⟨.closing, some s.recordingCount, 0#16, x.filling, owed, none⟩) }) ∧
       ((s.ring[s.claimIndex]).owner = .free → s.partySet k ≠ [] → s.tapBoundary k near far gap = State.notify
         (.recordStarved (s.portCfg k).line k s.recordingCount) { s with
           claimIndex := s.claimIndex + 1, ring := s.ring.set s.claimIndex last
           recordingCount := s.recordingCount + 1#16, live := live
           taps := s.taps.set k (some ⟨.starved, some s.recordingCount, 0#16, none, owed, none⟩) })) ∧
  ∀ (s : State) (k : Fin 8) (x : Tap) (r : LineRecord), s.taps[k] = some x → s.records[k] = some r →
    (r.Settled (s.portCfg k) (s.outCause k r) (s.ports[k]).alarms → r.holdOver = some 0 →
      ∃ t, exec (.holdOverExpiry k) s = .next t ∧ t.taps[k] = some (x.left r.parties) ∧
        ∀ i : Fin 64, r.members ≠ [] → x.state = .recording → x.filling = some i →
          (t.ring[i]).owner = .ready ∧ (t.ring[i]).last = true ∧ (t.ring[i]).pairs = (s.ring[i]).pairs) ∧
    ∀ io : AudioIn, s.loaded = true → (∀ j : Fin 8, s.carrier[j] = true ∧ (j ≠ k → s.taps[j] = none)) →
      ∃ (t m : State) (gap : Bool), exec (.blockBoundary io) s = .next t ∧ (gap = true ↔ s.TakesUnreal k) ∧
        m.taps = s.taps ∧ m.ring = s.ring ∧ m.claimIndex = s.claimIndex ∧ m.recordingCount = s.recordingCount ∧
        m.cfg = s.cfg ∧ m.partySet k = s.partySet k ∧ m.stationTime = nextBoundary s.stationTime ∧
        m.notices = s.notices ∧ (m.ports[k]).settled = (s.ports[k]).settled ∧
        (m.ports[k]).alarms = (s.ports[k]).alarms ∧
        t.taps = (m.tapBoundary k t.lineOut[k] (t.farBlock k) gap).taps ∧
        t.ring = (m.tapBoundary k t.lineOut[k] (t.farBlock k) gap).ring ∧
        t.claimIndex = (m.tapBoundary k t.lineOut[k] (t.farBlock k) gap).claimIndex ∧
        t.notices = (m.tapBoundary k t.lineOut[k] (t.farBlock k) gap).notices

/-! ### Position -/

/-- HOOK_OFF, MUTE, VOLUME and BALANCE set what they name in the handset's context, mark its view where it changes, and
leave the rest; mute on drops the handset's voice sequences; a code from 89 to 95 is taken as 88 and above 95 refused
BAD_VALUE, BALANCE of no binding NOT_BOUND (R101, R102, R104, R105). STALENESS_TIMER_EXPIRY, due for a CURRENT mirror in
ACTIVE, makes it STALE with its content kept; PENDING_ASK_EXPIRY, due, removes the pending ask and queues ASK_NO_ANSWER;
not due, both change nothing (R98, R113; log 1). HOOK_ON hangs the handset up: its pending asks, its bindings and the
calls it is placing are gone, its volume and mute kept, and a DROP for a LINE binding waits for the line's home, another
station; on a handset already on hook it changes nothing (R102, R103, R123). -/
def Obligations.HandsetRequestsAndPositionTimers : Prop :=
  ((∀ (s : State) (o : Octet) (h : Fin 2), s.loaded = true → s.panelAnswers = true → o.toNat = h.val →
      (∃ t, exec (.hookOff o) s = .next t ∧ t.handsets[h] = { s.handsets[h] with onHook := false } ∧
        t = { s with
          handsets := s.handsets.set h t.handsets[h]
          marks := { s.marks with handset := s.marks.handset.set h (s.marks.handset[h] || (s.handsets[h]).onHook) }
          panelAnswer := some ⟨5#8, .done, []⟩ }) ∧
      (∀ on : Bool, ∃ t, exec (.mute o on) s = .next t ∧ t.handsets[h] = { s.handsets[h] with muted := on } ∧
        t = { s with
          handsets := s.handsets.set h t.handsets[h]
          marks := { s.marks with handset := s.marks.handset.set h (s.marks.handset[h] || (s.handsets[h]).muted != on) }
          sequences := if on then s.sequences.filter (fun q => q.port != .handset h) else s.sequences
          panelAnswer := some ⟨12#8, .done, []⟩ }) ∧
      (∀ code : Octet, code.toNat ≤ 95 → ∃ t, exec (.volume o code) s = .next t ∧
        t.handsets[h] = { s.handsets[h] with volume := min code.toNat 88 } ∧
        t = { s with
          handsets := s.handsets.set h t.handsets[h]
          marks := { s.marks with handset := s.marks.handset.set h (s.marks.handset[h] || (s.handsets[h]).volume != min code.toNat 88) }
          panelAnswer := some ⟨13#8, .done, []⟩ }) ∧
      (∀ code : Octet, 95 < code.toNat →
        exec (.volume o code) s = .next { s with panelAnswer := some ⟨13#8, .badValue, []⟩ } ∧
        ∀ binding : Octet, binding.toNat ≤ 1 →
          exec (.balance o binding code) s = .next { s with panelAnswer := some ⟨14#8, .badValue, []⟩ }) ∧
      (∀ code binding : Octet, code.toNat ≤ 95 → binding.toNat ≤ 1 →
        (s.handsets[h]).bindings[binding.toNat]? = none →
        exec (.balance o binding code) s = .next { s with panelAnswer := some ⟨14#8, .notBound, []⟩ }) ∧
      ∀ (code binding : Octet) (b : Binding), code.toNat ≤ 95 → binding.toNat ≤ 1 →
        (s.handsets[h]).bindings[binding.toNat]? = some b → ∃ t, exec (.balance o binding code) s = .next t ∧
          t.handsets[h] = { s.handsets[h] with
            bindings := (s.handsets[h]).bindings.set binding.toNat { b with balance := min code.toNat 88 } } ∧
          t = { s with
            handsets := s.handsets.set h t.handsets[h]
            marks := { s.marks with
              handset := s.marks.handset.set h (s.marks.handset[h] || b.balance != min code.toNat 88) }
            panelAnswer := some ⟨14#8, .done, []⟩ }) ∧
   (∀ s : State,
      (∀ (line : LineNo) (m : Mirror), s.mirrorOf line = some m →
        (s.stationState = .active → m.state = .current → m.timer = some 0 →
          ∃ t, exec (.stalenessTimerExpiry line) s = .next t ∧
            t = { s with mirrors := t.mirrors, marks := t.marks, notices := t.notices, overflow := t.overflow } ∧
            t.mirrorOf line = some { m with state := .stale, timer := none } ∧
            ∀ other : LineNo, other ≠ line → t.mirrorOf other = s.mirrorOf other) ∧
        (s.stationState ≠ .active ∨ m.state ≠ .current ∨ m.timer ≠ some 0 →
          exec (.stalenessTimerExpiry line) s = .next s)) ∧
      (∀ (pre post : List PendingAsk) (a : PendingAsk), s.pendingAsks = pre ++ a :: post → a.timer = 0 →
        (∀ x ∈ pre ++ post, x.tag ≠ a.tag) → s.notices.length < 32 →
        exec (.pendingAskExpiry a.tag) s = .next { s with
          pendingAsks := pre ++ post
          notices := s.notices ++ [⟨.askNoAnswer a.line a.op (.handset a.handset), s.stationTime⟩] }) ∧
      ∀ tag : Octet, (∀ a ∈ s.pendingAsks, a.tag ≠ tag ∨ a.timer ≠ 0) → exec (.pendingAskExpiry tag) s = .next s)) ∧
  (∀ (s : State) (o : Octet) (h : Fin 2), s.loaded = true → s.panelAnswers = true → o.toNat = h.val →
     ((s.handsets[h]).onHook = true →
       exec (.hookOn o) s = .next { s with panelAnswer := some ⟨6#8, .done, []⟩ }) ∧
     ((s.handsets[h]).onHook = false → (∀ line : LineNo, s.recordFor line = none) →
       ∃ t, exec (.hookOn o) s = .next t ∧
         t.base = { s.base with slots := t.slots, panelAnswer := some ⟨6#8, .done, []⟩ } ∧
         t.handsets[h] = { s.handsets[h] with onHook := true, bindings := [] } ∧
         t.handsets[1 - h] = s.handsets[1 - h] ∧ t.held = s.held ∧ t.records = s.records ∧
         t.pendingAsks = s.pendingAsks.filter (fun a => a.handset != h) ∧ t.notices = s.notices ∧
         (∀ i : Fin 4, (s.slots[i]).handset ≠ some h → t.slots[i] = s.slots[i]) ∧
         (∀ i : Fin 4, (s.slots[i]).takesPlace h = true → t.slots[i] = Slot.empty) ∧
         ∀ (line : LineNo) (b : Nat) (m : Nat) (st : Station), (s.handsets[h]).bindings = [⟨.line line, b, m⟩] →
           (∀ i : Fin 4, (s.slots[i]).handset ≠ some h) → s.stationState = .active → s.homeOf line = some st →
           st ≠ s.cfg.station → s.txQueue.length < 24 →
           ∃ tag : Octet, t.carries st (askFrame line .drop (.handset h) (.handset 0) false tag)))

/-- LINE_KEY in ACTIVE on a CURRENT key and a handset off hook with a free place: for a line whose home is another
station a TAKE, or for a held line a RESUME, is sent with the next tag and waits 100 ms for its answer; a line bound to
the handset sends nothing; the refusals in R108's order (R103, R107, R108). -/
def Obligations.LineKeyAsksForTheLine : Prop :=
  ∀ (s : State) (ko ho : Octet) (k : Fin 128) (h : Fin 2) (m : Mirror), s.stationState = .active →
    s.panelAnswers = true → ko.toNat = k.val → ho.toNat = h.val → s.cfg.appearance[k] ≠ 0#16 →
    s.mirrorOf s.cfg.appearance[k] = some m →
    (let line := s.cfg.appearance[k]
     let here := (s.handsets[h]).bindings.any fun b => b.circuit == .line line
     let there := (s.handsets[1 - h]).bindings.any fun b => b.circuit == .line line
     let waits := s.pendingAsks.any fun a => a.line == line
     (m.state ≠ .current →
       exec (.lineKey ko ho) s = .next { s with panelAnswer := some ⟨7#8, .noLine, []⟩ }) ∧
     (m.state = .current → (s.handsets[h]).onHook = true →
       exec (.lineKey ko ho) s = .next { s with panelAnswer := some ⟨7#8, .hookOn, []⟩ }) ∧
     (m.state = .current → (s.handsets[h]).onHook = false →
       (here = true → exec (.lineKey ko ho) s = .next { s with panelAnswer := some ⟨7#8, .done, []⟩ }) ∧
       (here = false → there = true ∨ waits = true →
         exec (.lineKey ko ho) s = .next { s with panelAnswer := some ⟨7#8, .busy, []⟩ }) ∧
       (here = false → there = false → waits = false → 2 ≤ s.placesTaken h →
         exec (.lineKey ko ho) s = .next { s with panelAnswer := some ⟨7#8, .fullHandset, []⟩ }) ∧
       (here = false → there = false → waits = false → s.placesTaken h < 2 →
         s.homeOf line ≠ some s.cfg.station → 4 ≤ s.pendingAsks.length →
         exec (.lineKey ko ho) s = .next { s with panelAnswer := some ⟨7#8, .busy, []⟩ }) ∧
       ∀ st : Station, here = false → there = false → waits = false → s.placesTaken h < 2 →
         s.homeOf line = some st → st ≠ s.cfg.station → s.pendingAsks.length < 4 →
         (s.heldEntry line = none → ∃ t, exec (.lineKey ko ho) s = .next t ∧
           State.alikeButQueue { s with
             tagCount := s.nextTag + 1#8
             pendingAsks := s.pendingAsks ++ [⟨s.nextTag, line, .take, h, h, false, st, s.blocks 100⟩]
             panelAnswer := some ⟨7#8, .done, []⟩ } t ∧
           (s.txQueue.length < 24 →
             t.carries st (.ask ⟨line, some .take, .handset h, .handset 0, false, s.nextTag⟩))) ∧
         ∀ e : HeldLine, s.heldEntry line = some e → ∃ t, exec (.lineKey ko ho) s = .next t ∧
           State.alikeButQueue { s with
             tagCount := s.nextTag + 1#8
             pendingAsks := s.pendingAsks ++ [⟨s.nextTag, line, .resume, h, e.handset, false, st, s.blocks 100⟩]
             panelAnswer := some ⟨7#8, .done, []⟩ } t ∧
           (s.txQueue.length < 24 →
             t.carries st (.ask ⟨line, some .resume, .handset e.handset, .handset h, false, s.nextTag⟩))))

/-- RELEASE of a LINE binding removes it and the line's pending asks and sends a DROP to its home, another station; HOLD
of one, and RING and PRIVACY on the first, send their ask with a pending entry and leave the binding (R107, R109 to
R111). -/
def Obligations.BoundLinesAreReleasedHeldAndRung : Prop :=
  ∀ (s : State) (ho bo : Octet) (h : Fin 2) (x : Binding) (line : LineNo) (st : Station), s.stationState = .active →
    s.panelAnswers = true → ho.toNat = h.val → bo.toNat ≤ 1 →
    (s.handsets[h]).bindings[bo.toNat]? = some x → x.circuit = .line line → s.homeOf line = some st →
    st ≠ s.cfg.station →
    (∃ t, exec (.release ho bo) s = .next t ∧ t.base = { s.base with panelAnswer := some ⟨8#8, .done, []⟩ } ∧
      t.handsets[h] = { s.handsets[h] with
        bindings := (s.handsets[h]).bindings.filter fun b => b.circuit != .line line } ∧
      t.handsets[1 - h] = s.handsets[1 - h] ∧ t.held = s.held ∧ t.records = s.records ∧
      t.pendingAsks = s.pendingAsks.filter (fun a => a.line != line) ∧
      (s.txQueue.length < 24 → ∃ tag : Octet,
        t.carries st (.ask ⟨line, some .drop, .handset h, .handset 0, false, tag⟩))) ∧
    ((∀ a ∈ s.pendingAsks, a.line ≠ line) → s.pendingAsks.length < 4 →
      (s.held.length + (s.pendingAsks.filter fun a => a.op == .hold).length < 8 →
        ∃ t, exec (.hold ho bo) s = .next t ∧
          State.alikeButQueue { s with
            tagCount := s.nextTag + 1#8
            pendingAsks := s.pendingAsks ++ [⟨s.nextTag, line, .hold, h, h, false, st, s.blocks 100⟩]
            panelAnswer := some ⟨9#8, .done, []⟩ } t ∧
          (s.txQueue.length < 24 →
            t.carries st (.ask ⟨line, some .hold, .handset h, .handset 0, false, s.nextTag⟩))) ∧
      (8 ≤ s.held.length + (s.pendingAsks.filter fun a => a.op == .hold).length →
        exec (.hold ho bo) s = .next { s with panelAnswer := some ⟨9#8, .heldFull, []⟩ }) ∧
      (s.firstLine h = some line →
        (∃ t, exec (.ring ho) s = .next t ∧
          State.alikeButQueue { s with
            tagCount := s.nextTag + 1#8
            pendingAsks := s.pendingAsks ++ [⟨s.nextTag, line, .ring, h, h, false, st, s.blocks 100⟩]
            panelAnswer := some ⟨10#8, .done, []⟩ } t ∧
          (s.txQueue.length < 24 →
            t.carries st (.ask ⟨line, some .ring, .handset h, .handset 0, false, s.nextTag⟩))) ∧
        ∀ on : Bool, ∃ t, exec (.privacy ho on) s = .next t ∧
          State.alikeButQueue { s with
            tagCount := s.nextTag + 1#8
            pendingAsks := s.pendingAsks ++ [⟨s.nextTag, line, .privacy, h, h, on, st, s.blocks 100⟩]
            panelAnswer := some ⟨11#8, .done, []⟩ } t ∧
          (s.txQueue.length < 24 →
            t.carries st (.ask ⟨line, some .privacy, .handset h, .handset 0, on, s.nextTag⟩))))

/-- A request on a line whose home is the station itself is taken at once by its own line controller, without an ASK or
a REPLY: LINE_KEY takes the line, or resumes the held one, and binds it; HOLD moves the binding to the held list with
the entry HELD; RING, PRIVACY and RELEASE change the record as the remote asks do; BIND joins a speaker channel to the
listeners, UNBIND removes it; a refusal queues ASK_REFUSED and changes no record, and a channel whose LISTEN is refused
is OFF again with its view marked (R74, R107 to R112, R135 to R137, R143, R192). A supervisor station passes privacy
(R74). The premise OwnLine keeps the Orphan and Lost rules silent. -/
def Obligations.LocalRequestsAreTakenAtHome : Prop :=
  ∀ (s : State) (line : LineNo) (k : Fin 8) (r : LineRecord), s.OwnLine line k r →
    (∀ (ko ho : Octet) (key : Fin 128) (h : Fin 2) (m : Mirror), ko.toNat = key.val → ho.toNat = h.val →
      s.cfg.appearance[key] = line → line ≠ 0#16 → s.mirrorOf line = some m → m.state = .current →
      (s.handsets[h]).onHook = false → (∀ x : Fin 2, ∀ b ∈ (s.handsets[x]).bindings, b.circuit ≠ .line line) →
      s.placesTaken h < 2 →
      ((∀ e ∈ s.held, e.line ≠ line) →
        (r.state = .idle ∨ r.state = .ringingIn ∨ ((r.state = .engaged ∨ r.state = .held) ∧
            (r.privacy = false ∨ s.cfg.supervisor = true) ∧ r.members.length < (s.portCfg k).shareLimit) →
          ∃ (t : State) (r' : LineRecord), exec (.lineKey ko ho) s = .next t ∧ s.ActsLocally t 7#8 k r' ∧
            r'.members = r.members ++ [⟨s.own (.handset h), .active, s.stationTime, none, false⟩] ∧
            r'.state = .engaged ∧ r'.listeners = r.listeners ∧ r'.privacy = r.privacy ∧
            r'.outRing = (if r.state = .idle ∧ (s.portCfg k).automatic = true then some (s.blocks 30000)
              else r.outRing) ∧
            t.boundCircuits h = s.boundCircuits h ++ [(.line line, 72)] ∧
            t.boundCircuits (1 - h) = s.boundCircuits (1 - h) ∧ t.heldLines = s.heldLines) ∧
        ∀ reason : AskReason, s.notices.length < 32 →
          (r.state = .outOfService ∧ reason = .outOfService ∨ r.state = .failed ∧ reason = .failed ∨
            (r.state = .engaged ∨ r.state = .held) ∧ (r.privacy = true ∧ s.cfg.supervisor = false ∧
              reason = .isPrivate ∨ (r.privacy = false ∨ s.cfg.supervisor = true) ∧
              (s.portCfg k).shareLimit ≤ r.members.length ∧ reason = .full)) →
          exec (.lineKey ko ho) s = .next { s with
            tagCount := s.nextTag + 1#8
            notices := s.notices ++ [⟨.askRefused line .take (.handset h) (some reason), s.stationTime⟩]
            panelAnswer := some ⟨7#8, .done, []⟩ }) ∧
      ∀ e : HeldLine, s.held.filter (fun x => x.line == line) = [e] → r.state = .engaged ∨ r.state = .held →
        ∃ (t : State) (r' : LineRecord), exec (.lineKey ko ho) s = .next t ∧ s.ActsLocally t 7#8 k r' ∧
          r'.members = r.members.map (fun m =>
            if m.party = s.own (.handset e.handset) then
              { m with party := s.own (.handset h), mode := .active, recallFlag := false, recallTimer := none }
            else m) ∧
          r'.state = .engaged ∧ r'.listeners = r.listeners ∧ r'.privacy = r.privacy ∧ r'.outRing = r.outRing ∧
          t.boundCircuits h = s.boundCircuits h ++ [(.line line, 72)] ∧
          t.boundCircuits (1 - h) = s.boundCircuits (1 - h) ∧
          t.heldLines = s.heldLines.filter (fun x => x.1 != line)) ∧
    (∀ (ho bo : Octet) (h : Fin 2) (x : Binding), ho.toNat = h.val → bo.toNat ≤ 1 →
      (s.handsets[h]).bindings[bo.toNat]? = some x → x.circuit = .line line →
      (∃ (t : State) (r' : LineRecord), exec (.release ho bo) s = .next t ∧ s.ActsLocally t 8#8 k r' ∧
        r'.members = r.members.filter (fun m => m.party != s.own (.handset h)) ∧ r'.listeners = r.listeners ∧
        r'.privacy = (if r'.members = [] then (s.portCfg k).privacyDefault else r.privacy) ∧
        t.boundCircuits h = (s.boundCircuits h).filter (fun b => b.1 != .line line) ∧
        t.boundCircuits (1 - h) = s.boundCircuits (1 - h) ∧ t.heldLines = s.heldLines) ∧
      (s.held.length + (s.pendingAsks.filter fun a => a.op == .hold).length < 8 →
        ∃ (t : State) (r' : LineRecord), exec (.hold ho bo) s = .next t ∧ s.ActsLocally t 9#8 k r' ∧
          r'.members = r.members.map (fun m =>
            if m.party = s.own (.handset h) then
              { m with
                mode := .held, recallFlag := false
                recallTimer := if (s.portCfg k).holdRecall = 0 then none
                  else some (s.blocks (1000 * (s.portCfg k).holdRecall)) }
            else m) ∧
          r'.listeners = r.listeners ∧ r'.privacy = r.privacy ∧
          t.boundCircuits h = (s.boundCircuits h).filter (fun b => b.1 != .line line) ∧
          t.boundCircuits (1 - h) = s.boundCircuits (1 - h) ∧ t.heldLines = s.heldLines ++ [(line, h)]) ∧
      (s.firstLine h = some line →
        (r.state ≠ .failed → ∃ (t : State) (r' : LineRecord), exec (.ring ho) s = .next t ∧
          s.ActsLocally t 10#8 k r' ∧ r'.members = r.members ∧ r'.listeners = r.listeners ∧
          r'.privacy = r.privacy ∧ r'.state = .engaged ∧
          r'.outRing = some (s.blocks (if (s.portCfg k).automatic = true then 30000 else 2000)) ∧
          ∀ j : Fin 2, t.boundCircuits j = s.boundCircuits j) ∧
        (r.state = .failed → s.notices.length < 32 → exec (.ring ho) s = .next { s with
          tagCount := s.nextTag + 1#8
          notices := s.notices ++ [⟨.askRefused line .ring (.handset h) (some .failed), s.stationTime⟩]
          panelAnswer := some ⟨10#8, .done, []⟩ }) ∧
        ∀ on : Bool, ∃ (t : State) (r' : LineRecord), exec (.privacy ho on) s = .next t ∧
          s.ActsLocally t 11#8 k r' ∧ r'.privacy = on ∧ r'.members = r.members ∧ r'.listeners = r.listeners ∧
          r'.state = r.state ∧ r'.outRing = r.outRing ∧ ∀ j : Fin 2, t.boundCircuits j = s.boundCircuits j)) ∧
    ∀ (co : Octet) (c : Fin 8), co.toNat = c.val → s.talk ≠ some c →
      ((s.channels[c]).binding = .unbound → (s.channels[c]).wait = none → 1 ≤ line.toNat → line.toNat ≤ 1023 →
        (r.state ≠ .outOfService → r.state ≠ .failed → r.listeners.length < 16 →
          r.state = .idle ∨ r.state = .ringingIn ∨ r.privacy = false ∨ s.cfg.supervisor = true →
          ∃ (t : State) (r' : LineRecord), exec (.bind co 1#8 line) s = .next t ∧ s.ActsLocally t 25#8 k r' ∧
            r'.listeners = r.listeners ++ [⟨s.own (.speakerCh c), s.stationTime⟩] ∧ r'.members = r.members ∧
            r'.state = r.state ∧ (t.channels[c]).binding = .line line ∧ (t.channels[c]).wait = none) ∧
        (r.state = .failed → s.notices.length < 32 → ∃ t : State, exec (.bind co 1#8 line) s = .next t ∧
          t.base = { s.base with panelAnswer := some ⟨25#8, .done, []⟩ } ∧ t.records = s.records ∧
          t.txQueue = s.txQueue ∧ t.channelState c = .off ∧ t.marks.talker[c] = true ∧ t.notices = s.notices ++
            [⟨.askRefused line .listen (.speakerCh c) (some .failed), s.stationTime⟩])) ∧
      ((s.channels[c]).binding = .line line →
        ∃ (t : State) (r' : LineRecord), exec (.unbind co) s = .next t ∧ s.ActsLocally t 26#8 k r' ∧
          r'.listeners = r.listeners.filter (fun l => l.party != s.own (.speakerCh c)) ∧
          r'.members = r.members ∧ r'.state = r.state ∧ t.channelState c = .off)

/-! ### Calls -/

/-- CALL to another station's handset or to a hunt group takes the lowest FREE slot as a CALLER slot in OFFERING with the
100 ms alert wait and sends an OFFER; the refusals in R118's order (R103, R116 to R118). -/
def Obligations.CallOffersFromTheLowestFreeSlot : Prop :=
  ∀ (s : State) (ho st called : Octet) (h : Fin 2) (i : Fin 4), s.stationState = .active → s.panelAnswers = true →
    ho.toNat = h.val → (s.slots[i]).state = .free → (∀ j : Fin 4, j < i → (s.slots[j]).state ≠ .free) →
    (∀ x : Fin 2, 1 ≤ st.toNat → st.toNat ≤ 62 → st.toNat ≠ s.cfg.station.toNat → called.toNat = x.val →
      ((s.handsets[h]).onHook = true →
        exec (.call ho st called) s = .next { s with panelAnswer := some ⟨15#8, .hookOn, []⟩ }) ∧
      ((s.handsets[h]).onHook = false → 2 ≤ s.placesTaken h →
        exec (.call ho st called) s = .next { s with panelAnswer := some ⟨15#8, .fullHandset, []⟩ }) ∧
      ((s.handsets[h]).onHook = false → s.placesTaken h < 2 → ∀ p : Party, p = ⟨st.setWidth 6, .handset x⟩ →
        ∃ t, exec (.call ho st called) s = .next t ∧
          State.alikeButQueue { s with
            slots := s.slots.set i ⟨.offering, some .caller, some ⟨s.cfg.station, i⟩, some (.party p), some p, none,
              some h, some (s.blocks 100)⟩
            panelAnswer := some ⟨15#8, .done, []⟩ } t ∧
          (s.txQueue.length < 24 → t.carries p.station
            (.call ⟨.offer, ⟨s.cfg.station, i⟩, .handset h, .port (.handset x), .none⟩)))) ∧
    (∀ g : Station, st = 0#8 → g ≠ 0#6 → called.toNat = g.toNat + 64 → (s.handsets[h]).onHook = false →
      s.placesTaken h < 2 → ∃ t, exec (.call ho st called) s = .next t ∧
        State.alikeButQueue { s with
          slots := s.slots.set i ⟨.offering, some .caller, some ⟨s.cfg.station, i⟩, some (.group g), none, none,
            some h, some (s.blocks 100)⟩
          panelAnswer := some ⟨15#8, .done, []⟩ } t ∧
        (s.txQueue.length < 24 → t.carries Config.allStations
          (.call ⟨.offer, ⟨s.cfg.station, i⟩, .handset h, .group g, .none⟩))) ∧
    (st ≠ 0#8 → 62 < st.toNat ∨ st.toNat = s.cfg.station.toNat →
      exec (.call ho st called) s = .next { s with panelAnswer := some ⟨15#8, .badValue, []⟩ })

/-- The OFFERs: a point offer to a handset that meets no glare, and a hunt offer for a listed group, take the lowest
FREE slot in ALERTING, with an ALERT to the caller and a CALL_OFFER notice; an ALERTING slot that holds the call id
already is freed first, with CALL_ENDED CLEARED. A point offer is declined BUSY without a FREE slot and NO_ANSWER
without a panel, and one to another port has no effect; a hunt offer is ignored for a group that is not listed, without
a panel or without a FREE slot, once it has freed an ALERTING slot that holds its call id (R117, R121, R124). The model's
own choices: that step 1 of R121 is run where the offer is then ignored (log 36), and that the caller is the station of
the call id, whatever the frame's source (log 48). -/
def Obligations.OffersAlert : Prop :=
  ∀ (s : State) (unit crc : List Octet) (source target : Station) (f : CallFrame) (alerting : Slot),
    s.HandsOn (unit ++ crc) source target (.call f) → f.kind = .offer → s.cfg.station ≠ Config.allStations →
    f.id.station ≠ s.cfg.station →
    alerting = ⟨.alerting, some .called, some f.id, none, some ⟨f.id.station, f.callerPort⟩, some f.called, none,
      some (s.blocks 20000)⟩ →
    (target = s.cfg.station → (∀ x : Fin 2, f.called ≠ .port (.handset x)) →
      exec (.offer unit crc) s = .next (s.havingHeard source)) ∧
    ((∃ x : Fin 2, target = s.cfg.station ∧ f.called = .port (.handset x) ∧
          ∀ i : Fin 4, (s.slots[i]).target ≠ some (.party ⟨f.id.station, f.callerPort⟩)) ∨
        (∃ g : Station, target = Config.allStations ∧ f.called = .group g ∧ g.toNat ∈ s.cfg.groups) →
      s.cfg.panelPresent = true →
      (∀ i : Fin 4, s.calledSlot f.id = none → (s.slots[i]).state = .free →
        (∀ j : Fin 4, j < i → (s.slots[j]).state ≠ .free) → s.notices.length < 32 →
        ∃ t, exec (.offer unit crc) s = .next t ∧
          State.alikeButQueue { s.havingHeard source with
            slots := s.slots.set i alerting
            notices := s.notices ++
              [⟨.callOffer i f.id ⟨f.id.station, f.callerPort⟩ f.called, s.stationTime⟩] } t ∧
          (s.txQueue.length < 24 → t.carries f.id.station (.call ⟨.alert, f.id, f.callerPort, f.called, .none⟩))) ∧
      ∀ i j : Fin 4, s.calledSlot f.id = some j → (s.slots[j]).state = .alerting →
        i = j ∨ (s.slots[i]).state = .free → (∀ n : Fin 4, n < i → n ≠ j ∧ (s.slots[n]).state ≠ .free) →
        s.notices.length + 1 < 32 →
        ∃ t, exec (.offer unit crc) s = .next t ∧
          State.alikeButQueue { s.havingHeard source with
            slots := (s.slots.set j Slot.empty).set i alerting
            notices := s.notices ++ [⟨.callEnded j f.id .cleared, s.stationTime⟩,
              ⟨.callOffer i f.id ⟨f.id.station, f.callerPort⟩ f.called, s.stationTime⟩] } t ∧
          (s.txQueue.length < 24 → t.carries f.id.station (.call ⟨.alert, f.id, f.callerPort, f.called, .none⟩))) ∧
    (s.calledSlot f.id = none → target = s.cfg.station → ∀ x : Fin 2, f.called = .port (.handset x) →
      (∀ i : Fin 4, (s.slots[i]).target ≠ some (.party ⟨f.id.station, f.callerPort⟩)) →
      (s.cfg.panelPresent = true → (∀ i : Fin 4, (s.slots[i]).state ≠ .free) →
        ∃ t, exec (.offer unit crc) s = .next t ∧ (s.havingHeard source).alikeButQueue t ∧
          (s.txQueue.length < 24 → t.carries f.id.station (.call ⟨.decline, f.id, f.callerPort, f.called, .busy⟩))) ∧
      (s.cfg.panelPresent = false →
        ∃ t, exec (.offer unit crc) s = .next t ∧ (s.havingHeard source).alikeButQueue t ∧
          (s.txQueue.length < 24 →
            t.carries f.id.station (.call ⟨.decline, f.id, f.callerPort, f.called, .noAnswer⟩)))) ∧
    (target = Config.allStations → ∀ g : Station, f.called = .group g →
      (s.calledSlot f.id = none →
        g.toNat ∉ s.cfg.groups ∨ s.cfg.panelPresent = false ∨ (∀ i : Fin 4, (s.slots[i]).state ≠ .free) →
        exec (.offer unit crc) s = .next (s.havingHeard source)) ∧
      ∀ j : Fin 4, s.calledSlot f.id = some j → (s.slots[j]).state = .alerting → s.notices.length < 32 →
        g.toNat ∉ s.cfg.groups ∨ s.cfg.panelPresent = false →
        exec (.offer unit crc) s = .next { s.havingHeard source with
          slots := s.slots.set j Slot.empty
          notices := s.notices ++ [⟨.callEnded j f.id .cleared, s.stationTime⟩] })

/-- Frames at the CALLER slot of a point call, from its peer's station: ALERT moves OFFERING to RINGBACK with the 20 s
answer wait, ACCEPT binds the call on the slot's handset in TALKING, DECLINE and END free it with a CALL_ENDED notice;
ACCEPT at a FREE slot of the station is answered END CLEARED, and so, as the model reads R119, at a slot that is CALLED
(log 21), with the ACCEPT's own ports (log 47); END from the caller's station frees a CALLED slot, and END of a TALKING call, on either side, removes its
binding too (R117, R119, R120, R123). -/
def Obligations.CallFramesMoveTheSlot : Prop :=
  ∀ (s : State) (unit crc : List Octet) (source target : Station) (f : CallFrame) (i : Fin 4),
    (∀ (x : Slot) (p q : Party) (hs : Fin 2), f.id = ⟨s.cfg.station, i⟩ → s.slots[i] = x → x.role = some .caller →
      x.id = some f.id → x.target = some (.party q) → x.peer = some p → p.station = source →
      x.handset = some hs →
      (s.HandsOn (unit ++ crc) source target (.call f) → f.kind = .alert → x.state = .offering →
        exec (.alert unit crc) s = .next { s.havingHeard source with
          slots := s.slots.set i { x with state := .ringback, timer := some (s.blocks 20000) } }) ∧
      (s.HandsOn (unit ++ crc) source target (.call f) → f.kind = .accept →
        x.state = .offering ∨ x.state = .ringback → ∀ cp : Port, f.called = .port cp →
        ∃ t, exec (.accept unit crc) s = .next t ∧
          t.base = { (s.havingHeard source).base with slots := t.slots } ∧
          t.slots = s.slots.set i { x with state := .talking, timer := none, peer := some ⟨source, cp⟩ } ∧
          (t.handsets[hs]).bindings = (s.handsets[hs]).bindings ++ [⟨callCircuit ⟨s.cfg.station, i⟩, 72, 0⟩] ∧
          t.txQueue = s.txQueue ∧ t.notices = s.notices) ∧
      (s.HandsOn (unit ++ crc) source target (.call f) → f.kind = .decline →
        x.state = .offering ∨ x.state = .ringback → s.notices.length < 32 →
        exec (.decline unit crc) s = .next { s.havingHeard source with
          slots := s.slots.set i Slot.empty
          notices := s.notices ++ [⟨.callEnded i f.id f.reason, s.stationTime⟩] }) ∧
      (s.HandsOn (unit ++ crc) source target (.call f) → f.kind = .callEnd →
        x.state = .offering ∨ x.state = .ringback → s.notices.length < 32 →
        exec (.endReceived unit crc) s = .next { s.havingHeard source with
          slots := s.slots.set i Slot.empty
          notices := s.notices ++ [⟨.callEnded i f.id f.reason, s.stationTime⟩] })) ∧
    (s.HandsOn (unit ++ crc) source target (.call f) → f.kind = .accept → f.id.station = s.cfg.station →
      (s.slots[f.id.slot]).role ≠ some .caller →
      ∃ t, exec (.accept unit crc) s = .next t ∧ (s.havingHeard source).alikeButQueue t ∧
        (s.txQueue.length < 24 → t.carries source (.call ⟨.callEnd, f.id, f.callerPort, f.called, .cleared⟩))) ∧
    (s.HandsOn (unit ++ crc) source target (.call f) → f.kind = .callEnd → f.id.station ≠ s.cfg.station →
      source = f.id.station → s.calledSlot f.id = some i → (s.slots[i]).state = .alerting →
      s.notices.length < 32 →
      exec (.endReceived unit crc) s = .next { s.havingHeard source with
        slots := s.slots.set i Slot.empty
        notices := s.notices ++ [⟨.callEnded i f.id f.reason, s.stationTime⟩] }) ∧
    (∀ (hs : Fin 2) (cp : Port), s.HandsOn (unit ++ crc) source target (.call f) → f.kind = .callEnd →
      f.id.station ≠ s.cfg.station → source = f.id.station → s.calledSlot f.id = some i →
      (s.slots[i]).state = .talking → (s.slots[i]).handset = some hs → (s.slots[i]).called = some (.port cp) →
      s.notices.length < 32 →
      ∃ t, exec (.endReceived unit crc) s = .next t ∧
        t.base = { (s.havingHeard source).base with slots := s.slots.set i Slot.empty } ∧
        (t.handsets[hs]).bindings = (s.handsets[hs]).bindings.filter (fun x => x.circuit != callCircuit f.id) ∧
        t.handsets[1 - hs] = s.handsets[1 - hs] ∧ t.txQueue = s.txQueue ∧
        t.notices = s.notices ++ [⟨.callEnded i f.id f.reason, s.stationTime⟩]) ∧
    (∀ (p : Party) (hs : Fin 2), s.HandsOn (unit ++ crc) source target (.call f) → f.kind = .callEnd →
      f.id = ⟨s.cfg.station, i⟩ → (s.slots[i]).role = some .caller → (s.slots[i]).id = some f.id →
      (s.slots[i]).peer = some p → p.station = source → (s.slots[i]).state = .talking →
      (s.slots[i]).handset = some hs → s.notices.length < 32 →
      ∃ t, exec (.endReceived unit crc) s = .next t ∧
        t.base = { (s.havingHeard source).base with slots := s.slots.set i Slot.empty } ∧
        (t.handsets[hs]).bindings = (s.handsets[hs]).bindings.filter (fun x => x.circuit != callCircuit f.id) ∧
        t.handsets[1 - hs] = s.handsets[1 - hs] ∧ t.txQueue = s.txQueue ∧
        t.notices = s.notices ++ [⟨.callEnded i f.id f.reason, s.stationTime⟩])

/-- Frames at the CALLER slot of a hunt call: the first ALERT moves OFFERING to RINGBACK, later ALERTs, every DECLINE,
and an END while it has no peer change nothing; the first ACCEPT binds the call in TALKING and sends END
ANSWERED_ELSEWHERE to all; a later ACCEPT of another station is answered with it and changes nothing (R125). At a
member, the broadcast END ANSWERED_ELSEWHERE has no effect on a TALKING slot and any other END of the caller frees it
with its binding (R125). Glare: a point offer that crosses the station's own call on the same pair of handsets is
declined GLARE by the lower station, which keeps its call; the higher one ends its own with END GLARE and CALL_ENDED
GLARE and takes the offer in the lowest FREE slot, TALKING at once with an ACCEPT (R126); of several own calls that
cross it the lowest slot is meant, and P is the station of the offer's call id (the model's choices, logs 43 and 48). -/
def Obligations.HuntCallsAndGlare : Prop :=
  ∀ (s : State) (unit crc : List Octet) (source target : Station) (f : CallFrame) (i : Fin 4) (x : Slot) (h : Fin 2),
    s.HandsOn (unit ++ crc) source target (.call f) → s.slots[i] = x →
    (∀ g : Station, f.id = ⟨s.cfg.station, i⟩ → x.role = some .caller → x.id = some f.id → x.handset = some h →
      x.target = some (.group g) →
      (x.peer = none →
        (f.kind = .alert → x.state = .offering →
          exec (.alert unit crc) s = .next { s.havingHeard source with
            slots := s.slots.set i { x with state := .ringback, timer := some (s.blocks 20000) } }) ∧
        (f.kind = .alert → x.state = .ringback → exec (.alert unit crc) s = .next (s.havingHeard source)) ∧
        (f.kind = .callEnd → exec (.endReceived unit crc) s = .next (s.havingHeard source)) ∧
        (f.kind = .accept → x.state = .offering ∨ x.state = .ringback → ∀ cp : Port, f.called = .port cp →
          ∃ t, exec (.accept unit crc) s = .next t ∧
            t.base = { (s.havingHeard source).base with slots := t.slots } ∧
            t.slots = s.slots.set i { x with state := .talking, timer := none, peer := some ⟨source, cp⟩ } ∧
            (t.handsets[h]).bindings = (s.handsets[h]).bindings ++ [⟨callCircuit f.id, 72, 0⟩] ∧
            t.handsets[1 - h] = s.handsets[1 - h] ∧ t.notices = s.notices ∧
            (s.txQueue.length < 24 → t.carries Config.allStations
              (.call ⟨.callEnd, f.id, .handset h, .group g, .answeredElsewhere⟩)))) ∧
      (f.kind = .decline → exec (.decline unit crc) s = .next (s.havingHeard source)) ∧
      ∀ p : Party, x.state = .talking → x.peer = some p → f.kind = .accept →
        (p.station = source → exec (.accept unit crc) s = .next (s.havingHeard source)) ∧
        (p.station ≠ source → ∃ t, exec (.accept unit crc) s = .next t ∧ (s.havingHeard source).alikeButQueue t ∧
          (s.txQueue.length < 24 →
            t.carries source (.call ⟨.callEnd, f.id, .handset h, .group g, .answeredElsewhere⟩)))) ∧
    (∀ g : Station, f.kind = .callEnd → f.id.station = source → s.calledSlot f.id = some i →
      x.called = some (.group g) → x.state = .talking → x.handset = some h →
      (target = Config.allStations → f.reason = .answeredElsewhere →
        exec (.endReceived unit crc) s = .next (s.havingHeard source)) ∧
      (target ≠ Config.allStations ∨ f.reason ≠ .answeredElsewhere → s.notices.length < 32 →
        ∃ t, exec (.endReceived unit crc) s = .next t ∧
          t.base = { (s.havingHeard source).base with slots := s.slots.set i Slot.empty } ∧
          (t.handsets[h]).bindings = (s.handsets[h]).bindings.filter (fun b => b.circuit != callCircuit f.id) ∧
          t.handsets[1 - h] = s.handsets[1 - h] ∧
          t.notices = s.notices ++ [⟨.callEnded i f.id f.reason, s.stationTime⟩])) ∧
    (f.kind = .offer → target = s.cfg.station → s.cfg.station ≠ Config.allStations →
      f.id.station ≠ s.cfg.station → s.calledSlot f.id = none → f.called = .port (.handset h) →
      x.role = some .caller → x.state = .offering ∨ x.state = .ringback → x.handset = some h →
      x.id = some ⟨s.cfg.station, i⟩ → x.target = some (.party ⟨f.id.station, f.callerPort⟩) →
      (∀ j : Fin 4, j < i → (s.slots[j]).target ≠ x.target) →
      (s.cfg.station.toNat < f.id.station.toNat →
        ∃ t, exec (.offer unit crc) s = .next t ∧ (s.havingHeard source).alikeButQueue t ∧
          (s.txQueue.length < 24 →
            t.carries f.id.station (.call ⟨.decline, f.id, f.callerPort, f.called, .glare⟩))) ∧
      (f.id.station.toNat < s.cfg.station.toNat → ∀ j : Fin 4, j = i ∨ (s.slots[j]).state = .free →
        (∀ n : Fin 4, n < j → n ≠ i ∧ (s.slots[n]).state ≠ .free) → s.notices.length < 32 →
        ∃ t, exec (.offer unit crc) s = .next t ∧
          t.base = { (s.havingHeard source).base with
            slots := (s.slots.set i Slot.empty).set j
              ⟨.talking, some .called, some f.id, none, some ⟨f.id.station, f.callerPort⟩, some f.called, some h,
                none⟩ } ∧
          (t.handsets[h]).bindings = (s.handsets[h]).bindings ++ [⟨callCircuit f.id, 72, 0⟩] ∧
          t.handsets[1 - h] = s.handsets[1 - h] ∧
          t.notices = s.notices ++ [⟨.callEnded i ⟨s.cfg.station, i⟩ .glare, s.stationTime⟩] ∧
          (s.txQueue.length + 1 < 24 →
            t.carries f.id.station (.call ⟨.callEnd, ⟨s.cfg.station, i⟩, .handset h, .port f.callerPort, .glare⟩) ∧
            t.carries f.id.station (.call ⟨.accept, f.id, f.callerPort, f.called, .none⟩))))

/-- The waits of a slot, due: the alert wait in OFFERING ends the call without a frame, the answer wait in RINGBACK with
END NO_ANSWER to the peer, the answer wait in ALERTING with DECLINE NO_ANSWER to the caller; each frees the slot and
queues CALL_ENDED NO_ANSWER; not due, or in another state, they change nothing (R119, R122; log 1). ANSWER of an
ALERTING slot sends ACCEPT, binds the call on the handset and makes the slot TALKING; REJECT and CALL_END of it send
DECLINE CLEARED and free it without a notice; CALL_END of a CALLER slot sends END CLEARED to its peer, or to all stations
for a hunt call without one, and frees it; CALL_END of a TALKING slot, at either end, does so too and removes its
binding, the END carrying the caller's port and the OFFER's called field (R117; the latter is log 46); a slot above 3 or a handset above B is refused BAD_INDEX, ANSWER and REJECT of a slot that does not alert and CALL_END of
a FREE one NOT_BOUND (R122, R123). -/
def Obligations.CallsEndByWaitOrRequest : Prop :=
  (∀ (s : State) (i : Fin 4) (x : Slot), s.slots[i] = x →
     (x.timer ≠ some 0 → exec (.alertWaitExpiry i) s = .next s ∧ exec (.callerAnswerWaitExpiry i) s = .next s ∧
       exec (.calledAnswerWaitExpiry i) s = .next s) ∧
     (x.state ≠ .offering → exec (.alertWaitExpiry i) s = .next s) ∧
     (x.state ≠ .ringback → exec (.callerAnswerWaitExpiry i) s = .next s) ∧
     (x.state ≠ .alerting → exec (.calledAnswerWaitExpiry i) s = .next s) ∧
     ∀ id : CallId, x.timer = some 0 → x.id = some id → s.notices.length < 32 →
       (x.state = .offering → exec (.alertWaitExpiry i) s = .next { s with
         slots := s.slots.set i Slot.empty
         notices := s.notices ++ [⟨.callEnded i id .noAnswer, s.stationTime⟩] }) ∧
       (∀ (p : Party) (hs : Fin 2) (q : Party), x.state = .ringback → x.role = some .caller → x.peer = some p →
         x.handset = some hs → x.target = some (.party q) →
         ∃ t, exec (.callerAnswerWaitExpiry i) s = .next t ∧
           State.alikeButQueue { s with
             slots := s.slots.set i Slot.empty
             notices := s.notices ++ [⟨.callEnded i id .noAnswer, s.stationTime⟩] } t ∧
           (s.stationState = .active → s.txQueue.length < 24 →
             t.carries p.station (.call ⟨.callEnd, id, .handset hs, .port q.port, .noAnswer⟩))) ∧
       (∀ (p : Party) (c : Called), x.state = .alerting → x.role = some .called → x.peer = some p → x.target = none →
         x.called = some c →
         ∃ t, exec (.calledAnswerWaitExpiry i) s = .next t ∧
           State.alikeButQueue { s with
             slots := s.slots.set i Slot.empty
             notices := s.notices ++ [⟨.callEnded i id .noAnswer, s.stationTime⟩] } t ∧
           (s.stationState = .active → s.txQueue.length < 24 →
             t.carries id.station (.call ⟨.decline, id, p.port, c, .noAnswer⟩)))) ∧
  (∀ (s : State) (so ho : Octet), s.stationState = .active → s.panelAnswers = true →
     (3 < so.toNat ∨ 1 < ho.toNat → exec (.answer so ho) s = .next { s with panelAnswer := some ⟨16#8, .badIndex, []⟩ }) ∧
     (3 < so.toNat → exec (.reject so) s = .next { s with panelAnswer := some ⟨17#8, .badIndex, []⟩ } ∧
       exec (.callEnd so) s = .next { s with panelAnswer := some ⟨18#8, .badIndex, []⟩ })) ∧
  (∀ (s : State) (so ho : Octet) (i : Fin 4) (h : Fin 2) (x : Slot), s.stationState = .active →
     s.panelAnswers = true → so.toNat = i.val → ho.toNat = h.val → s.slots[i] = x →
     (∀ (id : CallId) (p : Party) (c : Called), x.state = .alerting → x.role = some .called → x.id = some id →
       x.peer = some p → x.target = none → x.called = some c →
       ((s.handsets[h]).onHook = false → s.placesTaken h < 2 → ∃ t, exec (.answer so ho) s = .next t ∧
         t.base = { s.base with slots := t.slots, panelAnswer := some ⟨16#8, .done, []⟩ } ∧
         t.slots = s.slots.set i { x with state := .talking, handset := some h, timer := none } ∧
         (t.handsets[h]).bindings = (s.handsets[h]).bindings ++ [⟨callCircuit id, 72, 0⟩] ∧
         t.handsets[1 - h] = s.handsets[1 - h] ∧ t.notices = s.notices ∧
         (s.txQueue.length < 24 →
           t.carries id.station (.call ⟨.accept, id, p.port, .port (.handset h), .none⟩))) ∧
       ((s.handsets[h]).onHook = true →
         exec (.answer so ho) s = .next { s with panelAnswer := some ⟨16#8, .hookOn, []⟩ }) ∧
       (∀ (c' : Instr) (kind : Octet), (c' = .reject so ∧ kind = 17#8 ∨ c' = .callEnd so ∧ kind = 18#8) →
         ∃ t, exec c' s = .next t ∧
           State.alikeButQueue { s with
             slots := s.slots.set i Slot.empty, panelAnswer := some ⟨kind, .done, []⟩ } t ∧
           (s.txQueue.length < 24 → t.carries id.station (.call ⟨.decline, id, p.port, c, .cleared⟩)))) ∧
     (∀ (id : CallId) (p q : Party) (hs : Fin 2), x.state = .offering ∨ x.state = .ringback →
       x.role = some .caller → x.id = some id → x.peer = some p → x.target = some (.party q) → x.handset = some hs →
       ∃ t, exec (.callEnd so) s = .next t ∧
         State.alikeButQueue { s with
           slots := s.slots.set i Slot.empty, panelAnswer := some ⟨18#8, .done, []⟩ } t ∧
         (s.txQueue.length < 24 →
           t.carries p.station (.call ⟨.callEnd, id, .handset hs, .port q.port, .cleared⟩))) ∧
     (∀ (id : CallId) (g : Station) (hs : Fin 2), x.state = .offering ∨ x.state = .ringback → x.role = some .caller →
       x.id = some id → x.peer = none → x.target = some (.group g) → x.handset = some hs →
       ∃ t, exec (.callEnd so) s = .next t ∧
         State.alikeButQueue { s with
           slots := s.slots.set i Slot.empty, panelAnswer := some ⟨18#8, .done, []⟩ } t ∧
         (s.txQueue.length < 24 →
           t.carries Config.allStations (.call ⟨.callEnd, id, .handset hs, .group g, .cleared⟩))) ∧
     (∀ (id : CallId) (p : Party) (hs : Fin 2) (callerPort : Port) (called : Called), x.state = .talking →
       x.id = some id → x.peer = some p → x.handset = some hs →
       (x.role = some .caller ∧ callerPort = .handset hs ∧ (∃ q : Party, x.target = some (.party q) ∧ called = .port q.port ∨
           ∃ g : Station, x.target = some (.group g) ∧ called = .group g) ∨
         x.role = some .called ∧ callerPort = p.port ∧ x.target = none ∧ x.called = some called) →
       ∃ t, exec (.callEnd so) s = .next t ∧
         t.base = { s.base with slots := s.slots.set i Slot.empty, panelAnswer := some ⟨18#8, .done, []⟩ } ∧
         (t.handsets[hs]).bindings = (s.handsets[hs]).bindings.filter (fun b => b.circuit != callCircuit id) ∧
         t.handsets[1 - hs] = s.handsets[1 - hs] ∧ t.notices = s.notices ∧
         (s.txQueue.length < 24 → t.carries p.station (.call ⟨.callEnd, id, callerPort, called, .cleared⟩))) ∧
     (x.state ≠ .alerting →
       exec (.answer so ho) s = .next { s with panelAnswer := some ⟨16#8, .notBound, []⟩ } ∧
       exec (.reject so) s = .next { s with panelAnswer := some ⟨17#8, .notBound, []⟩ }) ∧
     (x.state = .free → exec (.callEnd so) s = .next { s with panelAnswer := some ⟨18#8, .notBound, []⟩ }))

/-! ### Signals -/

/-- SIGNAL_SET of a buzz bit sets it, records the setter and queues BUZZ when an unmasked bit was clear; of a
remote-mute bit it is honoured from a supervisor alone, else counted in SIGNAL_IGNORED; SIGNAL_CLEAR clears the bit and
keeps its setter; a bit number above 15 has no effect (R129, R130, R132). BUZZ_MASK, BUZZ_UNMASK and BUZZ_CLEAR set,
clear and clear the named buzz marks and bits; unmasking queues BUZZ for each named bit that was masked and is set, in
ascending order; NOT_ACTIVE before the load has completed (R130). REMOTE_MUTE in ACTIVE sends one SIGNAL to its station
and changes nothing else; it is refused NOT_ACTIVE outside ACTIVE, BAD_INDEX above 7, and BAD_VALUE for station 0, the
station's own number or one above 63 (R132). -/
def Obligations.SignalsAndBuzzMarksChangeTheirBits : Prop :=
  (∀ (s : State) (unit crc : List Octet) (source target : Station) (bit : Octet),
     (s.HandsOn (unit ++ crc) source target (.signal ⟨true, bit⟩) →
       (15 < bit.toNat → exec (.signalSet unit crc) s = .next (s.havingHeard source)) ∧
       (∀ n : Fin 16, bit.toNat = n.val → n.val < 8 ∨ s.peerIsSupervisor source = true →
         ∃ t, exec (.signalSet unit crc) s = .next t ∧
           (∀ j : Fin 16, t.signalWord.getLsbD j.val = (decide (j = n) || s.signalWord.getLsbD j.val)) ∧
           t.setters = s.setters.set n (some source) ∧ t.live = s.live ∧
           (∀ m : Fin 8, m.val = n.val → s.signalWord.getLsbD n.val = false → s.buzzMasked.getLsbD n.val = false →
             s.notices.length < 32 →
             t.notices = s.notices ++ [⟨.buzz m (some source), s.stationTime⟩] ∧ t.talk = s.talk) ∧
           (n.val < 8 → s.signalWord.getLsbD n.val = true ∨ s.buzzMasked.getLsbD n.val = true →
             t.notices = s.notices ∧ t.talk = s.talk) ∧
           (∀ m : Fin 8, n.val = 8 + m.val → s.signalWord.getLsbD n.val = false →
             (s.talk = some m → t.talk = none ∧ (s.notices.length < 32 →
               t.notices = s.notices ++ [⟨.talkStopped m, s.stationTime⟩])) ∧
             (s.talk ≠ some m → t.talk = s.talk ∧ t.notices = s.notices))) ∧
       (∀ m : Fin 8, bit.toNat = 8 + m.val → s.peerIsSupervisor source = false →
         exec (.signalSet unit crc) s = .next { s.havingHeard source with
           live := { s.live with signalIgnored := s.live.signalIgnored.add 1 } })) ∧
     (s.HandsOn (unit ++ crc) source target (.signal ⟨false, bit⟩) →
       (15 < bit.toNat → exec (.signalClear unit crc) s = .next (s.havingHeard source)) ∧
       ∀ n : Fin 16, bit.toNat = n.val → ∃ w : BitVec 16,
         exec (.signalClear unit crc) s = .next { s.havingHeard source with signalWord := w } ∧
         ∀ j : Fin 16, w.getLsbD j.val = (decide (j ≠ n) && s.signalWord.getLsbD j.val))) ∧
  ((∀ (s : State) (bits : Octet), s.panelAnswers = true →
      (s.loaded = false → ∀ (c : Instr) (kind : Octet),
        (c = .buzzMask bits ∧ kind = 19#8 ∨ c = .buzzUnmask bits ∧ kind = 20#8 ∨ c = .buzzClear bits ∧ kind = 21#8) →
        exec c s = .next { s with panelAnswer := some ⟨kind, .notActive, []⟩ }) ∧
      (s.loaded = true →
        (∃ marks : BitVec 8, exec (.buzzMask bits) s =
            .next { s with buzzMasked := marks, panelAnswer := some ⟨19#8, .done, []⟩ } ∧
          ∀ j : Fin 8, marks.getLsbD j.val = (s.buzzMasked.getLsbD j.val || bits.getLsbD j.val)) ∧
        (∃ (marks : BitVec 8) (t : State), exec (.buzzUnmask bits) s = .next t ∧
          t = { s with buzzMasked := marks, notices := t.notices, overflow := t.overflow
                       panelAnswer := some ⟨20#8, .done, []⟩ } ∧
          (∀ j : Fin 8, marks.getLsbD j.val = (s.buzzMasked.getLsbD j.val && !bits.getLsbD j.val)) ∧
          (s.notices.length + 8 ≤ 32 → t.notices = s.notices ++
            (([0, 1, 2, 3, 4, 5, 6, 7] : List (Fin 8)).filter fun j =>
              bits.getLsbD j.val && s.buzzMasked.getLsbD j.val && s.signalWord.getLsbD j.val).map
              fun j => ⟨.buzz j s.setters[j.val], s.stationTime⟩)) ∧
        ∃ w : BitVec 16, exec (.buzzClear bits) s =
            .next { s with signalWord := w, panelAnswer := some ⟨21#8, .done, []⟩ } ∧
          ∀ j : Fin 16, w.getLsbD j.val = (s.signalWord.getLsbD j.val && !bits.getLsbD j.val))) ∧
   ∀ (s : State) (o station : Octet) (on : Bool), s.panelAnswers = true →
      (s.stationState ≠ .active →
        exec (.remoteMute station o on) s = .next { s with panelAnswer := some ⟨24#8, .notActive, []⟩ }) ∧
      (s.stationState = .active → 7 < o.toNat →
        exec (.remoteMute station o on) s = .next { s with panelAnswer := some ⟨24#8, .badIndex, []⟩ }) ∧
      (s.stationState = .active → o.toNat ≤ 7 →
        station.toNat = 0 ∨ 63 < station.toNat ∨ station.toNat = s.cfg.station.toNat →
        exec (.remoteMute station o on) s = .next { s with panelAnswer := some ⟨24#8, .badValue, []⟩ }) ∧
      (s.stationState = .active → o.toNat ≤ 7 → 1 ≤ station.toNat → station.toNat ≤ 63 →
        station.toNat ≠ s.cfg.station.toNat → ∃ t, exec (.remoteMute station o on) s = .next t ∧
          State.alikeButQueue { s with panelAnswer := some ⟨24#8, .done, []⟩ } t ∧
          (s.txQueue.length < 24 →
            t.carries (station.setWidth 6) (.signal ⟨on, BitVec.ofNat 8 (8 + o.toNat)⟩))))

/-- BUZZ and BUZZ_OFF in ACTIVE send a SIGNAL SET or CLEAR of the target bit to the target station and change nothing
else, be it sent or not; they are refused NOT_ACTIVE outside ACTIVE, BAD_INDEX above 7, and BAD_VALUE for a target of
station 0 or the station's own number (R131). -/
def Obligations.BuzzRequestsSignalTheirTarget : Prop :=
  ∀ (s : State) (o : Octet) (c : Instr) (kind : Octet) (on : Bool), s.panelAnswers = true →
    (c = .buzz o ∧ kind = 22#8 ∧ on = true ∨ c = .buzzOff o ∧ kind = 23#8 ∧ on = false) →
    (s.stationState ≠ .active → exec c s = .next { s with panelAnswer := some ⟨kind, .notActive, []⟩ }) ∧
    (s.stationState = .active → 7 < o.toNat →
      exec c s = .next { s with panelAnswer := some ⟨kind, .badIndex, []⟩ }) ∧
    ∀ (n : Fin 8) (target : Station) (bit : Fin 8), s.stationState = .active → o.toNat = n.val →
      s.cfg.buzzTargets[n] = (target, bit) →
      (target = 0#6 ∨ target = s.cfg.station →
        exec c s = .next { s with panelAnswer := some ⟨kind, .badValue, []⟩ }) ∧
      (target ≠ 0#6 → target ≠ s.cfg.station → ∃ t, exec c s = .next t ∧
        State.alikeButQueue { s with panelAnswer := some ⟨kind, .done, []⟩ } t ∧
        (s.txQueue.length < 24 → t.carries target (.signal ⟨on, BitVec.ofNat 8 bit.val⟩)))

/-! ### Speaker channels -/

/-- BIND of an OFF channel to a hoot binds it at once, QUIET; to a line whose home is another station it sends a LISTEN and
waits 100 ms; UNBIND of a hoot channel ends its talk and turns it OFF; LISTEN_WAIT_EXPIRY, due, turns a waiting channel
OFF with ASK_NO_ANSWER; a granted or refused REPLY ends the wait (R135 to R137; log 1). -/
def Obligations.ChannelsAreBoundAndUnbound : Prop :=
  ∀ (s : State) (o : Octet) (k : Fin 8), o.toNat = k.val →
    (s.stationState = .active → s.panelAnswers = true →
      (∀ n : BitVec 16, (s.channels[k]).binding = .unbound → 1 ≤ n.toNat → n.toNat ≤ 127 → s.talk ≠ some k →
        ∃ t, exec (.bind o 2#8 n) s = .next t ∧
          t.base = { s.base with panelAnswer := some ⟨25#8, .done, []⟩ } ∧ t.records = s.records ∧
          t.txQueue = s.txQueue ∧ t.channels[k] = { s.channels[k] with
            binding := .hoot n.toNat, talkers := [], wait := none, misses := 0 } ∧ t.channelState k = .quiet) ∧
      (∀ (n : BitVec 16) (st : Station), (s.channels[k]).binding = .unbound → 1 ≤ n.toNat → n.toNat ≤ 1023 →
        s.talk ≠ some k → (s.channels[k]).wait = none → s.homeOf n = some st → st ≠ s.cfg.station →
        ∃ (t : State) (tag : Octet), exec (.bind o 1#8 n) s = .next t ∧
          t.base = { s.base with panelAnswer := some ⟨25#8, .done, []⟩ } ∧ t.records = s.records ∧
          t.channels[k] = { s.channels[k] with
            binding := .line n, talkers := [], misses := 0, wait := some ⟨tag, st, s.blocks 100⟩ } ∧
          t.channelState k = .waiting ∧
          (s.txQueue.length < 24 →
            t.carries st (.ask ⟨n, some .listen, .speakerCh k, .handset 0, false, tag⟩))) ∧
      (∀ n : BitVec 16, 1 ≤ n.toNat → n.toNat ≤ 1023 → s.homeOf n = none →
        exec (.bind o 1#8 n) s = .next { s with panelAnswer := some ⟨25#8, .noLine, []⟩ }) ∧
      ((s.channels[k]).binding = .unbound →
        exec (.unbind o) s = .next { s with panelAnswer := some ⟨26#8, .done, []⟩ }) ∧
      (∀ n : Nat, (s.channels[k]).binding = .hoot n → ∃ t, exec (.unbind o) s = .next t ∧
        t.base = { s.base with
          talk := if s.talk = some k then none else s.talk, panelAnswer := some ⟨26#8, .done, []⟩ } ∧
        t.records = s.records ∧ t.txQueue = s.txQueue ∧ t.notices = s.notices ∧ t.channels[k] = { s.channels[k] with
          binding := .unbound, talkers := [], wait := none, misses := 0 } ∧ t.channelState k = .off)) ∧
    (∀ (n : LineNo) (w : ListenWait), (s.channels[k]).binding = .line n → (s.channels[k]).wait = some w →
      (w.timer ≠ 0 → exec (.listenWaitExpiry k) s = .next s) ∧
      (w.timer = 0 → s.notices.length < 32 → ∃ t, exec (.listenWaitExpiry k) s = .next t ∧ t.base = s.base ∧
        t.records = s.records ∧ t.txQueue = s.txQueue ∧ t.channelState k = .off ∧
        t.notices = s.notices ++ [⟨.askNoAnswer n .listen (.speakerCh k), s.stationTime⟩]) ∧
      ∀ (unit crc : List Octet) (source target : Station) (r : Reply),
        s.HandsOn (unit ++ crc) source target (.reply r) →
        (∀ a ∈ s.pendingAsks, a.tag ≠ r.tag) → w.tag = r.tag → w.station = source → r.line = n →
        (∀ (j : Fin 8) (x : ListenWait), j < k → (s.channels[j]).wait = some x → x.tag ≠ r.tag) →
        ∃ t, exec (.replyReceived unit crc) s = .next t ∧ t.base = (s.havingHeard source).base ∧
          t.records = s.records ∧ t.txQueue = s.txQueue ∧
          (r.refused = false → s.talk ≠ some k → t.notices = s.notices ∧
            t.channels[k] = { s.channels[k] with wait := none, misses := 0, talkers := (t.channels[k]).talkers }) ∧
          (r.refused = true → s.notices.length < 32 → t.channelState k = .off ∧
            t.notices = s.notices ++ [⟨.askRefused n .listen (.speakerCh k) r.reason, s.stationTime⟩]))

/-- TALK on a hoot channel that is not muted makes it TALKING, the talk on another channel ended; TALK_UP ends the talk
of the channel it names; TALKERS sets the limit and trims every longer set to exactly it, the lowest level going first
and among equals the one admitted last; the refusals in R144's order (R142, R144, R145). CHANNEL_VOLUME, CHANNEL_OUTPUT,
CHANNEL_MUTE and MASTER set what they name and nothing else, in every state after the load; a gain code from 89 to 95 is
taken as 88; the refusals NOT_ACTIVE, BAD_INDEX and BAD_VALUE (R147, R170). -/
def Obligations.TalkTalkersAndSpeakerSettings : Prop :=
  (∀ (s : State) (o : Octet) (k : Fin 8), s.panelAnswers = true → o.toNat = k.val →
     (s.stationState = .active →
       (∀ n : Nat, (s.channels[k]).binding = .hoot n → s.signalWord.getLsbD (8 + k.val) = false →
         ∃ t, exec (.talk o) s = .next t ∧
           t = { s with talk := some k, sequences := t.sequences, marks := t.marks
                        panelAnswer := some ⟨28#8, .done, []⟩ } ∧
           ((s.channels[k]).wait = none → t.channelState k = .talking) ∧
           (s.talk = some k → t.sequences = s.sequences) ∧
           ∀ (j : Fin 8) (m : Nat), s.talk = some j → j ≠ k → (s.channels[j]).binding = .hoot m →
             t.sequences = if m = n then s.sequences
               else s.sequences.filter fun q => !(q.circuit == .hoot m && q.port == .mic)) ∧
       ((s.channels[k]).binding = .unbound →
         exec (.talk o) s = .next { s with panelAnswer := some ⟨28#8, .notBound, []⟩ }) ∧
       (∀ n : LineNo, (s.channels[k]).binding = .line n →
         exec (.talk o) s = .next { s with panelAnswer := some ⟨28#8, .listenOnly, []⟩ }) ∧
       (∀ n : Nat, (s.channels[k]).binding = .hoot n → s.signalWord.getLsbD (8 + k.val) = true →
         exec (.talk o) s = .next { s with panelAnswer := some ⟨28#8, .muted, []⟩ }) ∧
       (s.talk ≠ some k → exec (.talkUp o) s = .next { s with panelAnswer := some ⟨29#8, .done, []⟩ }) ∧
       (s.talk = some k → ∃ t, exec (.talkUp o) s = .next t ∧
         t = { s with talk := none, sequences := t.sequences, marks := t.marks
                      panelAnswer := some ⟨29#8, .done, []⟩ })) ∧
     (∀ x : Octet, s.stationState = .active → 7 < x.toNat →
       exec (.talk x) s = .next { s with panelAnswer := some ⟨28#8, .badIndex, []⟩ } ∧
       exec (.talkUp x) s = .next { s with panelAnswer := some ⟨29#8, .badIndex, []⟩ }) ∧
     (s.stationState ≠ .active →
       exec (.talk o) s = .next { s with panelAnswer := some ⟨28#8, .notActive, []⟩ } ∧
       exec (.talkUp o) s = .next { s with panelAnswer := some ⟨29#8, .notActive, []⟩ }) ∧
     ∀ limit : Octet, s.loaded = true →
       (limit.toNat = 0 ∨ 4 < limit.toNat →
         exec (.talkers limit) s = .next { s with panelAnswer := some ⟨27#8, .badValue, []⟩ }) ∧
       (1 ≤ limit.toNat → limit.toNat ≤ 4 → ∃ t, exec (.talkers limit) s = .next t ∧
         t = { s with talkerLimit := limit.toNat, channels := t.channels, marks := t.marks
                      panelAnswer := some ⟨27#8, .done, []⟩ } ∧
         ∀ j : Fin 8, t.channels[j] = { s.channels[j] with talkers := (t.channels[j]).talkers } ∧
           (t.channels[j]).talkers.Sublist (s.channels[j]).talkers ∧
           ((s.channels[j]).talkers.length ≤ limit.toNat → (t.channels[j]).talkers = (s.channels[j]).talkers) ∧
           (((s.channels[j]).talkers.map (·.party)).Nodup →
             (t.channels[j]).talkers.length = min limit.toNat (s.channels[j]).talkers.length ∧
             ∀ (m n : Nat) (x y : Talker), (s.channels[j]).talkers[m]? = some x → (s.channels[j]).talkers[n]? = some y →
               x ∉ (t.channels[j]).talkers → y ∈ (t.channels[j]).talkers →
               x.level < y.level ∨ x.level = y.level ∧ n < m))) ∧
  (∀ (s : State) (o x : Octet) (on : Bool), s.panelAnswers = true →
     (s.loaded = false → ∀ (c : Instr) (kind : Octet),
       (c = .channelVolume o x ∧ kind = 30#8 ∨ c = .channelOutput o x ∧ kind = 31#8 ∨
         c = .channelMute o on ∧ kind = 32#8 ∨ c = .master o x ∧ kind = 33#8) →
       exec c s = .next { s with panelAnswer := some ⟨kind, .notActive, []⟩ }) ∧
     (s.loaded = true →
       (∀ k : Fin 8, o.toNat = k.val →
         (x.toNat ≤ 95 → exec (.channelVolume o x) s = .next { s with
           channels := s.channels.set k { s.channels[k] with volume := min x.toNat 88 }
           panelAnswer := some ⟨30#8, .done, []⟩ }) ∧
         (95 < x.toNat →
           exec (.channelVolume o x) s = .next { s with panelAnswer := some ⟨30#8, .badValue, []⟩ }) ∧
         (∀ out : Fin 2, x.toNat = out.val → exec (.channelOutput o x) s = .next { s with
           channels := s.channels.set k { s.channels[k] with output := out }
           panelAnswer := some ⟨31#8, .done, []⟩ }) ∧
         (1 < x.toNat →
           exec (.channelOutput o x) s = .next { s with panelAnswer := some ⟨31#8, .badValue, []⟩ }) ∧
         exec (.channelMute o on) s = .next { s with
           channels := s.channels.set k { s.channels[k] with muted := on }
           panelAnswer := some ⟨32#8, .done, []⟩ }) ∧
       (7 < o.toNat → ∀ (c : Instr) (kind : Octet),
         (c = .channelVolume o x ∧ kind = 30#8 ∨ c = .channelOutput o x ∧ kind = 31#8 ∨
           c = .channelMute o on ∧ kind = 32#8) →
         exec c s = .next { s with panelAnswer := some ⟨kind, .badIndex, []⟩ }) ∧
       (∀ out : Fin 2, o.toNat = out.val → x.toNat ≤ 95 → exec (.master o x) s = .next { s with
         masters := s.masters.set out (min x.toNat 88), panelAnswer := some ⟨33#8, .done, []⟩ }) ∧
       (1 < o.toNat → exec (.master o x) s = .next { s with panelAnswer := some ⟨33#8, .badIndex, []⟩ }) ∧
       (o.toNat ≤ 1 → 95 < x.toNat →
         exec (.master o x) s = .next { s with panelAnswer := some ⟨33#8, .badValue, []⟩ })))
end

