-- ==== Sys2Proof/Laws/Frames.lean ====
section
/-! SUPPORT. What the shared operations leave alone: every operation on lines, mirrors, bindings, streams and offered
frames keeps `State.base`. -/

namespace Sys2Proof.Machine

/-- A fold of steps that each keep a view of the state keeps it. -/
theorem foldl_keeps {α β γ : Type} (view : β → γ) (f : β → α → β) (h : ∀ s a, view (f s a) = view s) (l : List α)
    (s : β) : view (l.foldl f s) = view s := by
  induction l generalizing s with
  | nil => rfl
  | cons a l ih => simp only [List.foldl_cons, ih, h]

/-- A fold of steps that each keep a predicate keeps it. -/
theorem foldl_preserves {α β : Type} (P : β → Prop) (f : β → α → β) (h : ∀ s a, P s → P (f s a)) (l : List α)
    (s : β) (hs : P s) : P (l.foldl f s) := by
  induction l generalizing s with
  | nil => exact hs
  | cons a l ih => exact ih _ (h _ _ hs)

/-! ### Notices, counters, queue -/

@[simp] theorem notify_base (e : Event) (s : State) : (s.notify e).base = s.base := by
  unfold State.notify; split <;> rfl
@[simp] theorem notifyAll_base (es : List Event) (s : State) : (s.notifyAll es).base = s.base :=
  foldl_keeps State.base _ (fun s e => notify_base e s) es s
@[simp] theorem count_base (f : Counters → Counters) (s : State) : (s.count f).base = s.base := rfl
@[simp] theorem setWaiting_base (q : List TxEntry) (s : State) : (s.setWaiting q).base = s.base := rfl
@[simp] theorem beginFrame_base (s : State) : s.beginFrame.base = s.base := rfl
@[simp] theorem acceptEntry_base (e : TxEntry) (s : State) : (s.acceptEntry e).base = s.base := by
  simp only [State.acceptEntry, State.seizeMedium]; repeat' split
  all_goals rfl
@[simp] theorem offerAllowed_base (t : Station) (b : Body) (s : State) : (s.offerAllowed t b).1.base = s.base := by
  unfold State.offerAllowed
  repeat' split
  all_goals simp
@[simp] theorem send_base (t : Station) (b : Body) (s : State) : (s.send t b).base = s.base := by
  unfold State.send State.offer; split <;> simp

/-! ### Recording -/

@[simp] theorem setTap_base (k : Fin 8) (t : Tap) (s : State) : (s.setTap k t).base = s.base := rfl
@[simp] theorem openSegment_base (k : Fin 8) (t : Tap) (i : Fin 64) (s : State) : (s.openSegment k t i).base = s.base :=
  rfl
@[simp] theorem starve_base (k : Fin 8) (t : Tap) (s : State) : (s.starve k t).base = s.base := by simp [State.starve]
@[simp] theorem claimOrStarve_base (k : Fin 8) (t : Tap) (s : State) : (s.claimOrStarve k t).base = s.base := by
  unfold State.claimOrStarve State.claim
  split
  · next h => split at h <;> simp at h; rcases h with ⟨rfl, rfl⟩; rfl
  · simp
@[simp] theorem closeSegment_base (t : Tap) (b : Bool) (s : State) : (s.closeSegment t b).base = s.base := by
  unfold State.closeSegment; split <;> rfl
@[simp] theorem tapEvent_base (k : Fin 8) (old : List (Party × Mode)) (s : State) :
    (s.tapEvent k old).base = s.base := by
  unfold State.tapEvent
  split
  · rfl
  · split
    · rfl
    · split
      · unfold State.tapStart State.beginRecording
        split <;> simp
        rfl
      · split
        · unfold State.tapEnd; split <;> simp
        · unfold State.tapPartyChange; split <;> simp

/-! ### Streams and views -/

@[simp] theorem markTalkers_base (s b : State) : (s.markTalkers b).base = s.base := rfl
@[simp] theorem mapTalkers_base (f : Fin 8 → Channel → List Talker) (s : State) : (s.mapTalkers f).base = s.base := rfl
@[simp] theorem announceEnds_base (l : List StreamEntry) (s : State) : (s.announceEnds l).base = s.base := by
  unfold State.announceEnds; split <;> rfl
@[simp] theorem removeStreams_base (p : StreamEntry → Bool) (s : State) : (s.removeStreams p).base = s.base := by
  unfold State.removeStreams; rw [announceEnds_base]; simp only [State.base]
@[simp] theorem syncStreams_base (s : State) : s.syncStreams.base = s.base := by
  have h := removeStreams_base (fun e => (s.interest e.circuit).isNone) s
  rw [← h]
  simp only [State.syncStreams, State.base]
@[simp] theorem setRecord_base (k : Fin 8) (r : LineRecord) (s : State) : (s.setRecord k r).base = s.base := rfl
@[simp] theorem setHandset_base (h : Fin 2) (x : Handset) (s : State) : (s.setHandset h x).base = s.base := rfl
@[simp] theorem setChannel_base (k : Fin 8) (c : Channel) (s : State) : (s.setChannel k c).base = s.base := rfl
@[simp] theorem takeTag_base (s : State) : s.takeTag.base = s.base := rfl
@[simp] theorem setMirror_base (old new : Mirror) (s : State) : (s.setMirror old new).base = s.base := by
  have hl (l : LineNo) (s : State) : (s.markLamps l).base = s.base := by simp only [State.markLamps, State.base]
  simp only [State.setMirror]
  repeat' split
  all_goals try rw [notify_base]
  all_goals try rw [hl]
  all_goals simp only [State.base]
@[simp] theorem dropSequence_base (c : Circuit) (p : Port) (s : State) : (s.dropSequence c p).base = s.base := rfl
@[simp] theorem setBindings_base (h : Fin 2) (bs : List Binding) (s : State) : (s.setBindings h bs).base = s.base := by
  simp [State.setBindings]
@[simp] theorem addBinding_base (h : Fin 2) (c : Circuit) (s : State) : (s.addBinding h c).base = s.base := by
  simp [State.addBinding]
@[simp] theorem removeBinding_base (h : Fin 2) (c : Circuit) (s : State) : (s.removeBinding h c).base = s.base := by
  simp [State.removeBinding]

/-! ### Lines and their announcement -/

@[simp] theorem commitRecord_base (k : Fin 8) (r : LineRecord) (s : State) : (s.commitRecord k r).base = s.base := by
  simp [State.commitRecord]
@[simp] theorem changeRecord_base (k : Fin 8) (f : LineRecord → LineRecord) (s : State) :
    (s.changeRecord k f).base = s.base := by unfold State.changeRecord; split <;> simp
@[simp] theorem takeRequest_base (l : LineNo) (q : LineRequest) (s : State) : (s.takeRequest l q).base = s.base := by
  unfold State.takeRequest; split <;> simp
@[simp] theorem restartRefresh_base (k : Fin 8) (s : State) : (s.restartRefresh k).base = s.base := by
  unfold State.restartRefresh
  repeat' split
  all_goals rfl
@[simp] theorem mirrorTakes_base (b : LineStatus) (s : State) : (s.mirrorTakes b).base = s.base := by
  unfold State.mirrorTakes; split <;> simp
@[simp] theorem lostBindings_base (b : LineStatus) (h : Fin 2) (s : State) : (s.lostBindings b h).base = s.base := by
  simp only [State.lostBindings]; split
  · rw [notify_base, removeBinding_base]; simp only [State.base]
  · simp only [State.base]
@[simp] theorem lostHeld_base (b : LineStatus) (s : State) : (s.lostHeld b).base = s.base := by
  simp only [State.lostHeld, notifyAll_base]; simp only [State.base]
@[simp] theorem positionTakes_base (st : Station) (b : LineStatus) (s : State) : (s.positionTakes st b).1.base = s.base := by
  unfold State.positionTakes; split <;> simp
@[simp] theorem turnOff_base (k : Fin 8) (s : State) : (s.turnOff k).base = s.base := by simp [State.turnOff]
@[simp] theorem lostChannel_base (b : LineStatus) (s : State) (k : Fin 8) : (s.lostChannel b k).base = s.base := by
  unfold State.lostChannel
  split
  · dsimp only
    split
    · rw [notify_base, turnOff_base]
    · rw [setChannel_base]
  · rfl
@[simp] theorem speakerTakes_base (st : Station) (b : LineStatus) (s : State) : (s.speakerTakes st b).1.base = s.base := by
  unfold State.speakerTakes
  split
  · split
    all_goals dsimp only
    · refine foldl_keeps State.base _ (fun s k => ?_) _ s
      split
      · rw [setChannel_base]
      · rfl
    · exact foldl_keeps State.base _ (fun s k => lostChannel_base b s k) _ s
  · rfl
theorem dropLocally_base (f : Fin 8 → State → State) (hf : ∀ k s, (f k s).base = s.base) (l : LineNo) (s : State)
    (p : Port) : (s.dropLocally f l p).base = s.base := by
  unfold State.dropLocally
  split
  · simp only; split <;> simp [hf]
  · simp
theorem handOver_eq (f : Fin 8 → State → State) (b : LineStatus) (s : State) :
    s.handOver f b =
      if s.onFloor then
        ((s.positionTakes s.cfg.station b).2 ++
            ((s.positionTakes s.cfg.station b).1.speakerTakes s.cfg.station b).2).foldl (State.dropLocally f b.line)
          ((s.positionTakes s.cfg.station b).1.speakerTakes s.cfg.station b).1
      else s := rfl
theorem handOver_base (f : Fin 8 → State → State) (hf : ∀ k s, (f k s).base = s.base) (b : LineStatus) (s : State) :
    (s.handOver f b).base = s.base := by
  rw [handOver_eq]
  split
  · refine (foldl_keeps State.base _ (fun s p => dropLocally_base f hf b.line s p) _ _).trans ?_
    rw [speakerTakes_base, positionTakes_base]
  · rfl
@[simp] theorem announceWithin_base (n : Nat) (k : Fin 8) (s : State) : (s.announceWithin n k).base = s.base := by
  induction n generalizing k s with
  | zero => rfl
  | succ n ih =>
    unfold State.announceWithin
    split
    · rw [handOver_base _ (fun k s => ih k s)]; simp
    · rfl
@[simp] theorem announce_base (k : Fin 8) (s : State) : (s.announce k).base = s.base := announceWithin_base _ k s
@[simp] theorem announceChange_base (s b : State) (k : Fin 8) : (s.announceChange b k).base = s.base := by
  unfold State.announceChange; split <;> simp

/-! ### Homes, asks and lost peers -/

@[simp] theorem staleMirror_base (l : LineNo) (s : State) : (s.staleMirror l).base = s.base := by
  unfold State.staleMirror
  repeat' split
  all_goals simp
@[simp] theorem loseLine_base (l : LineNo) (s : State) : (s.loseLine l).base = s.base := by
  simp only [State.loseLine, notifyAll_base]
  show ((State.notifyAll _ _)).base = _
  rw [notifyAll_base]
  exact foldl_keeps State.base _ (fun s h => by split <;> simp) _ s
@[simp] theorem loseChannels_base (l : LineNo) (s : State) : (s.loseChannels l).base = s.base := by
  refine foldl_keeps State.base _ (fun s k => ?_) _ s
  repeat' split
  all_goals simp
@[simp] theorem homeChanged_base (o : Option Station) (l : LineNo) (s : State) : (s.homeChanged o l).base = s.base := by
  unfold State.homeChanged; simp only; split <;> simp
@[simp] theorem followHomes_base (s b : State) : (s.followHomes b).base = s.base :=
  foldl_keeps State.base _ (fun s l => by split <;> simp) _ s
@[simp] theorem sightConflict_base (k : Fin 8) (p : Station) (s : State) : (s.sightConflict k p).base = s.base := by
  unfold State.sightConflict
  repeat' split
  all_goals simp
@[simp] theorem sightCard_base (p : Station) (s : State) : (s.sightCard p).base = s.base := by
  unfold State.sightCard
  split
  · exact foldl_keeps State.base _ (fun s k => by split <;> simp) _ s
  · rfl
@[simp] theorem sightState_base (p : Station) (l : LineNo) (s : State) : (s.sightState p l).base = s.base := by
  unfold State.sightState
  repeat' split
  all_goals simp
@[simp] theorem returnToService_base (k : Fin 8) (s : State) : (s.returnToService k).base = s.base := by
  unfold State.returnToService
  repeat' split
  all_goals simp
@[simp] theorem linesLosePeer_base (p : Station) (s : State) : (s.linesLosePeer p).base = s.base := by
  refine foldl_keeps State.base _ (fun s k => ?_) _ s
  repeat' split
  all_goals simp
@[simp] theorem linesLeave_base (s : State) : s.linesLeave.base = s.base :=
  foldl_keeps State.base _ (fun s _ => changeRecord_base _ _ s) _ s
@[simp] theorem linesReturn_base (s : State) : s.linesReturn.base = s.base :=
  foldl_keeps State.base _ (fun s k => by simp) _ s
@[simp] theorem takeOutcome_base (a : PendingAsk) (b : Bool) (r : Option AskReason) (s : State) :
    (s.takeOutcome a b r).base = s.base := by
  unfold State.takeOutcome
  split
  · simp
  · split
    · simp
    · rw [addBinding_base]; simp only [State.base]
    · rw [← removeBinding_base a.handset (lineCircuit a.line) s]; simp only [State.base]
    · rfl
@[simp] theorem askLocally_base (a : PendingAsk) (s : State) : (s.askLocally a).base = s.base := by
  simp only [State.askLocally]; split <;> simp
@[simp] theorem sendAsk_base (op : AskOp) (l : LineNo) (h o : Fin 2) (w : Bool) (s : State) :
    (s.sendAsk op l h o w).base = s.base := by
  unfold State.sendAsk
  split
  · rfl
  · simp only; split
    · simp
    · rw [send_base]; rfl
@[simp] theorem sendPlain_base (op : AskOp) (l : LineNo) (p : Port) (s : State) : (s.sendPlain op l p).base = s.base := by
  unfold State.sendPlain
  split
  · rfl
  · split
    · simp only; split <;> simp
    · simp
theorem takeStateFrame_eq (st : Station) (b : LineStatus) (s : State) :
    s.takeStateFrame st b =
      let s2 := (s.positionTakes st b).2.foldl (fun s p => s.sendPlain .drop b.line p) (s.positionTakes st b).1
      (s2.speakerTakes st b).2.foldl (fun s p => s.sendPlain .drop b.line p) (s2.speakerTakes st b).1 := rfl
@[simp] theorem takeStateFrame_base (st : Station) (b : LineStatus) (s : State) : (s.takeStateFrame st b).base = s.base := by
  rw [takeStateFrame_eq]
  refine (foldl_keeps State.base _ (fun s p => sendPlain_base _ _ _ s) _ _).trans ?_
  rw [speakerTakes_base]
  refine (foldl_keeps State.base _ (fun s p => sendPlain_base _ _ _ s) _ _).trans ?_
  rw [positionTakes_base]
@[simp] theorem listenOutcome_base (k : Fin 8) (l : LineNo) (b : Bool) (r : Option AskReason) (s : State) :
    (s.listenOutcome k l b r).base = s.base := by unfold State.listenOutcome; split <;> simp
@[simp] theorem applyBinding_base (k : Fin 8) (b : ChannelBinding) (s : State) : (s.applyBinding k b).base = s.base := by
  unfold State.applyBinding
  split
  · rfl
  · simp
  · split
    · simp
    · split
      · simp only; split <;> simp
      · simp
@[simp] theorem reply_base (st : Station) (a : Ask) (r : Option AskReason) (s : State) :
    (s.reply st a r).base = s.base := send_base ..
@[simp] theorem takeAsk_base (st : Station) (a : Ask) (s : State) : (s.takeAsk st a).base = s.base := by
  unfold State.takeAsk
  split
  · split <;> simp
  · simp only; split <;> simp

end Sys2Proof.Machine
end

