-- ==== Sys2Proof/Laws/State.lean ====
section
/-! SUPPORT. Every update of the state, field by field: what it sets and what it leaves, so that no proof unfolds a
record update. -/

namespace Sys2Proof.Machine

/-! ### setPeer -/

@[simp] theorem setPeer_stationTime (st : Station) (p : Peer) (s : State) :
    (s.setPeer st p).stationTime = s.stationTime := rfl
@[simp] theorem setPeer_stationState (st : Station) (p : Peer) (s : State) :
    (s.setPeer st p).stationState = s.stationState := rfl
@[simp] theorem setPeer_cfg (st : Station) (p : Peer) (s : State) : (s.setPeer st p).cfg = s.cfg := rfl
@[simp] theorem setPeer_configClamps (st : Station) (p : Peer) (s : State) :
    (s.setPeer st p).configClamps = s.configClamps := rfl
@[simp] theorem setPeer_listenTimer (st : Station) (p : Peer) (s : State) :
    (s.setPeer st p).listenTimer = s.listenTimer := rfl
@[simp] theorem setPeer_carrier (st : Station) (p : Peer) (s : State) : (s.setPeer st p).carrier = s.carrier := rfl
@[simp] theorem setPeer_txQueue (st : Station) (p : Peer) (s : State) : (s.setPeer st p).txQueue = s.txQueue := rfl
@[simp] theorem setPeer_transmitting (st : Station) (p : Peer) (s : State) :
    (s.setPeer st p).transmitting = s.transmitting := rfl
@[simp] theorem setPeer_mediumIdle (st : Station) (p : Peer) (s : State) : (s.setPeer st p).mediumIdle = s.mediumIdle := rfl
@[simp] theorem setPeer_mediumLooks (st : Station) (p : Peer) (s : State) : (s.setPeer st p).mediumLooks = s.mediumLooks := rfl
@[simp] theorem setPeer_clashWindow (st : Station) (p : Peer) (s : State) :
    (s.setPeer st p).clashWindow = s.clashWindow := rfl
@[simp] theorem setPeer_beaconTimer (st : Station) (p : Peer) (s : State) :
    (s.setPeer st p).beaconTimer = s.beaconTimer := rfl
@[simp] theorem setPeer_peers (st : Station) (p : Peer) (s : State) :
    (s.setPeer st p).peers = s.peers.set (stationIndex st) p := rfl
@[simp] theorem setPeer_sequences (st : Station) (p : Peer) (s : State) : (s.setPeer st p).sequences = s.sequences := rfl
@[simp] theorem setPeer_ports (st : Station) (p : Peer) (s : State) : (s.setPeer st p).ports = s.ports := rfl
@[simp] theorem setPeer_records (st : Station) (p : Peer) (s : State) : (s.setPeer st p).records = s.records := rfl
@[simp] theorem setPeer_mirrors (st : Station) (p : Peer) (s : State) : (s.setPeer st p).mirrors = s.mirrors := rfl
@[simp] theorem setPeer_handsets (st : Station) (p : Peer) (s : State) : (s.setPeer st p).handsets = s.handsets := rfl
@[simp] theorem setPeer_held (st : Station) (p : Peer) (s : State) : (s.setPeer st p).held = s.held := rfl
@[simp] theorem setPeer_pendingAsks (st : Station) (p : Peer) (s : State) :
    (s.setPeer st p).pendingAsks = s.pendingAsks := rfl
@[simp] theorem setPeer_tagCount (st : Station) (p : Peer) (s : State) : (s.setPeer st p).tagCount = s.tagCount := rfl
@[simp] theorem setPeer_slots (st : Station) (p : Peer) (s : State) : (s.setPeer st p).slots = s.slots := rfl
@[simp] theorem setPeer_signalWord (st : Station) (p : Peer) (s : State) : (s.setPeer st p).signalWord = s.signalWord := rfl
@[simp] theorem setPeer_setters (st : Station) (p : Peer) (s : State) : (s.setPeer st p).setters = s.setters := rfl
@[simp] theorem setPeer_buzzMasked (st : Station) (p : Peer) (s : State) : (s.setPeer st p).buzzMasked = s.buzzMasked := rfl
@[simp] theorem setPeer_channels (st : Station) (p : Peer) (s : State) : (s.setPeer st p).channels = s.channels := rfl
@[simp] theorem setPeer_talk (st : Station) (p : Peer) (s : State) : (s.setPeer st p).talk = s.talk := rfl
@[simp] theorem setPeer_talkerLimit (st : Station) (p : Peer) (s : State) :
    (s.setPeer st p).talkerLimit = s.talkerLimit := rfl
@[simp] theorem setPeer_localLevels (st : Station) (p : Peer) (s : State) :
    (s.setPeer st p).localLevels = s.localLevels := rfl
@[simp] theorem setPeer_streams (st : Station) (p : Peer) (s : State) : (s.setPeer st p).streams = s.streams := rfl
@[simp] theorem setPeer_masters (st : Station) (p : Peer) (s : State) : (s.setPeer st p).masters = s.masters := rfl
@[simp] theorem setPeer_earpieceOut (st : Station) (p : Peer) (s : State) :
    (s.setPeer st p).earpieceOut = s.earpieceOut := rfl
@[simp] theorem setPeer_speakerOut (st : Station) (p : Peer) (s : State) : (s.setPeer st p).speakerOut = s.speakerOut := rfl
@[simp] theorem setPeer_lineOut (st : Station) (p : Peer) (s : State) : (s.setPeer st p).lineOut = s.lineOut := rfl
@[simp] theorem setPeer_taps (st : Station) (p : Peer) (s : State) : (s.setPeer st p).taps = s.taps := rfl
@[simp] theorem setPeer_recordingCount (st : Station) (p : Peer) (s : State) :
    (s.setPeer st p).recordingCount = s.recordingCount := rfl
@[simp] theorem setPeer_ring (st : Station) (p : Peer) (s : State) : (s.setPeer st p).ring = s.ring := rfl
@[simp] theorem setPeer_claimIndex (st : Station) (p : Peer) (s : State) : (s.setPeer st p).claimIndex = s.claimIndex := rfl
@[simp] theorem setPeer_notices (st : Station) (p : Peer) (s : State) : (s.setPeer st p).notices = s.notices := rfl
@[simp] theorem setPeer_overflow (st : Station) (p : Peer) (s : State) : (s.setPeer st p).overflow = s.overflow := rfl
@[simp] theorem setPeer_eventMasked (st : Station) (p : Peer) (s : State) :
    (s.setPeer st p).eventMasked = s.eventMasked := rfl
@[simp] theorem setPeer_marks (st : Station) (p : Peer) (s : State) : (s.setPeer st p).marks = s.marks := rfl
@[simp] theorem setPeer_viewMasked (st : Station) (p : Peer) (s : State) : (s.setPeer st p).viewMasked = s.viewMasked := rfl
@[simp] theorem setPeer_live (st : Station) (p : Peer) (s : State) : (s.setPeer st p).live = s.live := rfl
@[simp] theorem setPeer_snapshots (st : Station) (p : Peer) (s : State) : (s.setPeer st p).snapshots = s.snapshots := rfl
@[simp] theorem setPeer_snapshotTime (st : Station) (p : Peer) (s : State) :
    (s.setPeer st p).snapshotTime = s.snapshotTime := rfl
@[simp] theorem setPeer_monitorTimer (st : Station) (p : Peer) (s : State) :
    (s.setPeer st p).monitorTimer = s.monitorTimer := rfl
@[simp] theorem setPeer_panelAnswer (st : Station) (p : Peer) (s : State) :
    (s.setPeer st p).panelAnswer = s.panelAnswer := rfl
@[simp] theorem setPeer_recorderAnswer (st : Station) (p : Peer) (s : State) :
    (s.setPeer st p).recorderAnswer = s.recorderAnswer := rfl
@[simp] theorem setPeer_pending (st : Station) (p : Peer) (s : State) : (s.setPeer st p).pending = s.pending := rfl

/-! ### setRecord -/

@[simp] theorem setRecord_stationTime (k : Fin 8) (r : LineRecord) (s : State) :
    (s.setRecord k r).stationTime = s.stationTime := rfl
@[simp] theorem setRecord_stationState (k : Fin 8) (r : LineRecord) (s : State) :
    (s.setRecord k r).stationState = s.stationState := rfl
@[simp] theorem setRecord_cfg (k : Fin 8) (r : LineRecord) (s : State) : (s.setRecord k r).cfg = s.cfg := rfl
@[simp] theorem setRecord_configClamps (k : Fin 8) (r : LineRecord) (s : State) :
    (s.setRecord k r).configClamps = s.configClamps := rfl
@[simp] theorem setRecord_listenTimer (k : Fin 8) (r : LineRecord) (s : State) :
    (s.setRecord k r).listenTimer = s.listenTimer := rfl
@[simp] theorem setRecord_carrier (k : Fin 8) (r : LineRecord) (s : State) : (s.setRecord k r).carrier = s.carrier := rfl
@[simp] theorem setRecord_txQueue (k : Fin 8) (r : LineRecord) (s : State) : (s.setRecord k r).txQueue = s.txQueue := rfl
@[simp] theorem setRecord_transmitting (k : Fin 8) (r : LineRecord) (s : State) :
    (s.setRecord k r).transmitting = s.transmitting := rfl
@[simp] theorem setRecord_mediumIdle (k : Fin 8) (r : LineRecord) (s : State) :
    (s.setRecord k r).mediumIdle = s.mediumIdle := rfl
@[simp] theorem setRecord_mediumLooks (k : Fin 8) (r : LineRecord) (s : State) :
    (s.setRecord k r).mediumLooks = s.mediumLooks := rfl
@[simp] theorem setRecord_clashWindow (k : Fin 8) (r : LineRecord) (s : State) :
    (s.setRecord k r).clashWindow = s.clashWindow := rfl
@[simp] theorem setRecord_beaconTimer (k : Fin 8) (r : LineRecord) (s : State) :
    (s.setRecord k r).beaconTimer = s.beaconTimer := rfl
@[simp] theorem setRecord_peers (k : Fin 8) (r : LineRecord) (s : State) : (s.setRecord k r).peers = s.peers := rfl
@[simp] theorem setRecord_sequences (k : Fin 8) (r : LineRecord) (s : State) :
    (s.setRecord k r).sequences = s.sequences := rfl
@[simp] theorem setRecord_ports (k : Fin 8) (r : LineRecord) (s : State) : (s.setRecord k r).ports = s.ports := rfl
@[simp] theorem setRecord_records (k : Fin 8) (r : LineRecord) (s : State) :
    (s.setRecord k r).records = s.records.set k (some r) := rfl
@[simp] theorem setRecord_mirrors (k : Fin 8) (r : LineRecord) (s : State) : (s.setRecord k r).mirrors = s.mirrors := rfl
@[simp] theorem setRecord_handsets (k : Fin 8) (r : LineRecord) (s : State) : (s.setRecord k r).handsets = s.handsets := rfl
@[simp] theorem setRecord_held (k : Fin 8) (r : LineRecord) (s : State) : (s.setRecord k r).held = s.held := rfl
@[simp] theorem setRecord_pendingAsks (k : Fin 8) (r : LineRecord) (s : State) :
    (s.setRecord k r).pendingAsks = s.pendingAsks := rfl
@[simp] theorem setRecord_tagCount (k : Fin 8) (r : LineRecord) (s : State) : (s.setRecord k r).tagCount = s.tagCount := rfl
@[simp] theorem setRecord_slots (k : Fin 8) (r : LineRecord) (s : State) : (s.setRecord k r).slots = s.slots := rfl
@[simp] theorem setRecord_signalWord (k : Fin 8) (r : LineRecord) (s : State) :
    (s.setRecord k r).signalWord = s.signalWord := rfl
@[simp] theorem setRecord_setters (k : Fin 8) (r : LineRecord) (s : State) : (s.setRecord k r).setters = s.setters := rfl
@[simp] theorem setRecord_buzzMasked (k : Fin 8) (r : LineRecord) (s : State) :
    (s.setRecord k r).buzzMasked = s.buzzMasked := rfl
@[simp] theorem setRecord_channels (k : Fin 8) (r : LineRecord) (s : State) : (s.setRecord k r).channels = s.channels := rfl
@[simp] theorem setRecord_talk (k : Fin 8) (r : LineRecord) (s : State) : (s.setRecord k r).talk = s.talk := rfl
@[simp] theorem setRecord_talkerLimit (k : Fin 8) (r : LineRecord) (s : State) :
    (s.setRecord k r).talkerLimit = s.talkerLimit := rfl
@[simp] theorem setRecord_localLevels (k : Fin 8) (r : LineRecord) (s : State) :
    (s.setRecord k r).localLevels = s.localLevels := rfl
@[simp] theorem setRecord_streams (k : Fin 8) (r : LineRecord) (s : State) : (s.setRecord k r).streams = s.streams := rfl
@[simp] theorem setRecord_masters (k : Fin 8) (r : LineRecord) (s : State) : (s.setRecord k r).masters = s.masters := rfl
@[simp] theorem setRecord_earpieceOut (k : Fin 8) (r : LineRecord) (s : State) :
    (s.setRecord k r).earpieceOut = s.earpieceOut := rfl
@[simp] theorem setRecord_speakerOut (k : Fin 8) (r : LineRecord) (s : State) :
    (s.setRecord k r).speakerOut = s.speakerOut := rfl
@[simp] theorem setRecord_lineOut (k : Fin 8) (r : LineRecord) (s : State) : (s.setRecord k r).lineOut = s.lineOut := rfl
@[simp] theorem setRecord_taps (k : Fin 8) (r : LineRecord) (s : State) : (s.setRecord k r).taps = s.taps := rfl
@[simp] theorem setRecord_recordingCount (k : Fin 8) (r : LineRecord) (s : State) :
    (s.setRecord k r).recordingCount = s.recordingCount := rfl
@[simp] theorem setRecord_ring (k : Fin 8) (r : LineRecord) (s : State) : (s.setRecord k r).ring = s.ring := rfl
@[simp] theorem setRecord_claimIndex (k : Fin 8) (r : LineRecord) (s : State) :
    (s.setRecord k r).claimIndex = s.claimIndex := rfl
@[simp] theorem setRecord_notices (k : Fin 8) (r : LineRecord) (s : State) : (s.setRecord k r).notices = s.notices := rfl
@[simp] theorem setRecord_overflow (k : Fin 8) (r : LineRecord) (s : State) : (s.setRecord k r).overflow = s.overflow := rfl
@[simp] theorem setRecord_eventMasked (k : Fin 8) (r : LineRecord) (s : State) :
    (s.setRecord k r).eventMasked = s.eventMasked := rfl
@[simp] theorem setRecord_marks (k : Fin 8) (r : LineRecord) (s : State) : (s.setRecord k r).marks = s.marks := rfl
@[simp] theorem setRecord_viewMasked (k : Fin 8) (r : LineRecord) (s : State) :
    (s.setRecord k r).viewMasked = s.viewMasked := rfl
@[simp] theorem setRecord_live (k : Fin 8) (r : LineRecord) (s : State) : (s.setRecord k r).live = s.live := rfl
@[simp] theorem setRecord_snapshots (k : Fin 8) (r : LineRecord) (s : State) :
    (s.setRecord k r).snapshots = s.snapshots := rfl
@[simp] theorem setRecord_snapshotTime (k : Fin 8) (r : LineRecord) (s : State) :
    (s.setRecord k r).snapshotTime = s.snapshotTime := rfl
@[simp] theorem setRecord_monitorTimer (k : Fin 8) (r : LineRecord) (s : State) :
    (s.setRecord k r).monitorTimer = s.monitorTimer := rfl
@[simp] theorem setRecord_panelAnswer (k : Fin 8) (r : LineRecord) (s : State) :
    (s.setRecord k r).panelAnswer = s.panelAnswer := rfl
@[simp] theorem setRecord_recorderAnswer (k : Fin 8) (r : LineRecord) (s : State) :
    (s.setRecord k r).recorderAnswer = s.recorderAnswer := rfl
@[simp] theorem setRecord_pending (k : Fin 8) (r : LineRecord) (s : State) : (s.setRecord k r).pending = s.pending := rfl

/-! ### setSlot -/

@[simp] theorem setSlot_stationTime (i : Fin 4) (x : Slot) (s : State) : (s.setSlot i x).stationTime = s.stationTime := rfl
@[simp] theorem setSlot_stationState (i : Fin 4) (x : Slot) (s : State) :
    (s.setSlot i x).stationState = s.stationState := rfl
@[simp] theorem setSlot_cfg (i : Fin 4) (x : Slot) (s : State) : (s.setSlot i x).cfg = s.cfg := rfl
@[simp] theorem setSlot_configClamps (i : Fin 4) (x : Slot) (s : State) :
    (s.setSlot i x).configClamps = s.configClamps := rfl
@[simp] theorem setSlot_listenTimer (i : Fin 4) (x : Slot) (s : State) : (s.setSlot i x).listenTimer = s.listenTimer := rfl
@[simp] theorem setSlot_carrier (i : Fin 4) (x : Slot) (s : State) : (s.setSlot i x).carrier = s.carrier := rfl
@[simp] theorem setSlot_txQueue (i : Fin 4) (x : Slot) (s : State) : (s.setSlot i x).txQueue = s.txQueue := rfl
@[simp] theorem setSlot_transmitting (i : Fin 4) (x : Slot) (s : State) :
    (s.setSlot i x).transmitting = s.transmitting := rfl
@[simp] theorem setSlot_mediumIdle (i : Fin 4) (x : Slot) (s : State) : (s.setSlot i x).mediumIdle = s.mediumIdle := rfl
@[simp] theorem setSlot_mediumLooks (i : Fin 4) (x : Slot) (s : State) : (s.setSlot i x).mediumLooks = s.mediumLooks := rfl
@[simp] theorem setSlot_clashWindow (i : Fin 4) (x : Slot) (s : State) : (s.setSlot i x).clashWindow = s.clashWindow := rfl
@[simp] theorem setSlot_beaconTimer (i : Fin 4) (x : Slot) (s : State) : (s.setSlot i x).beaconTimer = s.beaconTimer := rfl
@[simp] theorem setSlot_peers (i : Fin 4) (x : Slot) (s : State) : (s.setSlot i x).peers = s.peers := rfl
@[simp] theorem setSlot_sequences (i : Fin 4) (x : Slot) (s : State) : (s.setSlot i x).sequences = s.sequences := rfl
@[simp] theorem setSlot_ports (i : Fin 4) (x : Slot) (s : State) : (s.setSlot i x).ports = s.ports := rfl
@[simp] theorem setSlot_records (i : Fin 4) (x : Slot) (s : State) : (s.setSlot i x).records = s.records := rfl
@[simp] theorem setSlot_mirrors (i : Fin 4) (x : Slot) (s : State) : (s.setSlot i x).mirrors = s.mirrors := rfl
@[simp] theorem setSlot_handsets (i : Fin 4) (x : Slot) (s : State) : (s.setSlot i x).handsets = s.handsets := rfl
@[simp] theorem setSlot_held (i : Fin 4) (x : Slot) (s : State) : (s.setSlot i x).held = s.held := rfl
@[simp] theorem setSlot_pendingAsks (i : Fin 4) (x : Slot) (s : State) : (s.setSlot i x).pendingAsks = s.pendingAsks := rfl
@[simp] theorem setSlot_tagCount (i : Fin 4) (x : Slot) (s : State) : (s.setSlot i x).tagCount = s.tagCount := rfl
@[simp] theorem setSlot_slots (i : Fin 4) (x : Slot) (s : State) : (s.setSlot i x).slots = s.slots.set i x := rfl
@[simp] theorem setSlot_signalWord (i : Fin 4) (x : Slot) (s : State) : (s.setSlot i x).signalWord = s.signalWord := rfl
@[simp] theorem setSlot_setters (i : Fin 4) (x : Slot) (s : State) : (s.setSlot i x).setters = s.setters := rfl
@[simp] theorem setSlot_buzzMasked (i : Fin 4) (x : Slot) (s : State) : (s.setSlot i x).buzzMasked = s.buzzMasked := rfl
@[simp] theorem setSlot_channels (i : Fin 4) (x : Slot) (s : State) : (s.setSlot i x).channels = s.channels := rfl
@[simp] theorem setSlot_talk (i : Fin 4) (x : Slot) (s : State) : (s.setSlot i x).talk = s.talk := rfl
@[simp] theorem setSlot_talkerLimit (i : Fin 4) (x : Slot) (s : State) : (s.setSlot i x).talkerLimit = s.talkerLimit := rfl
@[simp] theorem setSlot_localLevels (i : Fin 4) (x : Slot) (s : State) : (s.setSlot i x).localLevels = s.localLevels := rfl
@[simp] theorem setSlot_streams (i : Fin 4) (x : Slot) (s : State) : (s.setSlot i x).streams = s.streams := rfl
@[simp] theorem setSlot_masters (i : Fin 4) (x : Slot) (s : State) : (s.setSlot i x).masters = s.masters := rfl
@[simp] theorem setSlot_earpieceOut (i : Fin 4) (x : Slot) (s : State) : (s.setSlot i x).earpieceOut = s.earpieceOut := rfl
@[simp] theorem setSlot_speakerOut (i : Fin 4) (x : Slot) (s : State) : (s.setSlot i x).speakerOut = s.speakerOut := rfl
@[simp] theorem setSlot_lineOut (i : Fin 4) (x : Slot) (s : State) : (s.setSlot i x).lineOut = s.lineOut := rfl
@[simp] theorem setSlot_taps (i : Fin 4) (x : Slot) (s : State) : (s.setSlot i x).taps = s.taps := rfl
@[simp] theorem setSlot_recordingCount (i : Fin 4) (x : Slot) (s : State) :
    (s.setSlot i x).recordingCount = s.recordingCount := rfl
@[simp] theorem setSlot_ring (i : Fin 4) (x : Slot) (s : State) : (s.setSlot i x).ring = s.ring := rfl
@[simp] theorem setSlot_claimIndex (i : Fin 4) (x : Slot) (s : State) : (s.setSlot i x).claimIndex = s.claimIndex := rfl
@[simp] theorem setSlot_notices (i : Fin 4) (x : Slot) (s : State) : (s.setSlot i x).notices = s.notices := rfl
@[simp] theorem setSlot_overflow (i : Fin 4) (x : Slot) (s : State) : (s.setSlot i x).overflow = s.overflow := rfl
@[simp] theorem setSlot_eventMasked (i : Fin 4) (x : Slot) (s : State) : (s.setSlot i x).eventMasked = s.eventMasked := rfl
@[simp] theorem setSlot_marks (i : Fin 4) (x : Slot) (s : State) : (s.setSlot i x).marks = s.marks := rfl
@[simp] theorem setSlot_viewMasked (i : Fin 4) (x : Slot) (s : State) : (s.setSlot i x).viewMasked = s.viewMasked := rfl
@[simp] theorem setSlot_live (i : Fin 4) (x : Slot) (s : State) : (s.setSlot i x).live = s.live := rfl
@[simp] theorem setSlot_snapshots (i : Fin 4) (x : Slot) (s : State) : (s.setSlot i x).snapshots = s.snapshots := rfl
@[simp] theorem setSlot_snapshotTime (i : Fin 4) (x : Slot) (s : State) :
    (s.setSlot i x).snapshotTime = s.snapshotTime := rfl
@[simp] theorem setSlot_monitorTimer (i : Fin 4) (x : Slot) (s : State) :
    (s.setSlot i x).monitorTimer = s.monitorTimer := rfl
@[simp] theorem setSlot_panelAnswer (i : Fin 4) (x : Slot) (s : State) : (s.setSlot i x).panelAnswer = s.panelAnswer := rfl
@[simp] theorem setSlot_recorderAnswer (i : Fin 4) (x : Slot) (s : State) :
    (s.setSlot i x).recorderAnswer = s.recorderAnswer := rfl
@[simp] theorem setSlot_pending (i : Fin 4) (x : Slot) (s : State) : (s.setSlot i x).pending = s.pending := rfl

/-! ### setStream -/

@[simp] theorem setStream_stationTime (i : Fin 32) (e : StreamEntry) (s : State) :
    (s.setStream i e).stationTime = s.stationTime := rfl
@[simp] theorem setStream_stationState (i : Fin 32) (e : StreamEntry) (s : State) :
    (s.setStream i e).stationState = s.stationState := rfl
@[simp] theorem setStream_cfg (i : Fin 32) (e : StreamEntry) (s : State) : (s.setStream i e).cfg = s.cfg := rfl
@[simp] theorem setStream_configClamps (i : Fin 32) (e : StreamEntry) (s : State) :
    (s.setStream i e).configClamps = s.configClamps := rfl
@[simp] theorem setStream_listenTimer (i : Fin 32) (e : StreamEntry) (s : State) :
    (s.setStream i e).listenTimer = s.listenTimer := rfl
@[simp] theorem setStream_carrier (i : Fin 32) (e : StreamEntry) (s : State) : (s.setStream i e).carrier = s.carrier := rfl
@[simp] theorem setStream_txQueue (i : Fin 32) (e : StreamEntry) (s : State) : (s.setStream i e).txQueue = s.txQueue := rfl
@[simp] theorem setStream_transmitting (i : Fin 32) (e : StreamEntry) (s : State) :
    (s.setStream i e).transmitting = s.transmitting := rfl
@[simp] theorem setStream_mediumIdle (i : Fin 32) (e : StreamEntry) (s : State) :
    (s.setStream i e).mediumIdle = s.mediumIdle := rfl
@[simp] theorem setStream_mediumLooks (i : Fin 32) (e : StreamEntry) (s : State) :
    (s.setStream i e).mediumLooks = s.mediumLooks := rfl
@[simp] theorem setStream_clashWindow (i : Fin 32) (e : StreamEntry) (s : State) :
    (s.setStream i e).clashWindow = s.clashWindow := rfl
@[simp] theorem setStream_beaconTimer (i : Fin 32) (e : StreamEntry) (s : State) :
    (s.setStream i e).beaconTimer = s.beaconTimer := rfl
@[simp] theorem setStream_peers (i : Fin 32) (e : StreamEntry) (s : State) : (s.setStream i e).peers = s.peers := rfl
@[simp] theorem setStream_sequences (i : Fin 32) (e : StreamEntry) (s : State) :
    (s.setStream i e).sequences = s.sequences := rfl
@[simp] theorem setStream_ports (i : Fin 32) (e : StreamEntry) (s : State) : (s.setStream i e).ports = s.ports := rfl
@[simp] theorem setStream_records (i : Fin 32) (e : StreamEntry) (s : State) : (s.setStream i e).records = s.records := rfl
@[simp] theorem setStream_mirrors (i : Fin 32) (e : StreamEntry) (s : State) : (s.setStream i e).mirrors = s.mirrors := rfl
@[simp] theorem setStream_handsets (i : Fin 32) (e : StreamEntry) (s : State) :
    (s.setStream i e).handsets = s.handsets := rfl
@[simp] theorem setStream_held (i : Fin 32) (e : StreamEntry) (s : State) : (s.setStream i e).held = s.held := rfl
@[simp] theorem setStream_pendingAsks (i : Fin 32) (e : StreamEntry) (s : State) :
    (s.setStream i e).pendingAsks = s.pendingAsks := rfl
@[simp] theorem setStream_tagCount (i : Fin 32) (e : StreamEntry) (s : State) :
    (s.setStream i e).tagCount = s.tagCount := rfl
@[simp] theorem setStream_slots (i : Fin 32) (e : StreamEntry) (s : State) : (s.setStream i e).slots = s.slots := rfl
@[simp] theorem setStream_signalWord (i : Fin 32) (e : StreamEntry) (s : State) :
    (s.setStream i e).signalWord = s.signalWord := rfl
@[simp] theorem setStream_setters (i : Fin 32) (e : StreamEntry) (s : State) : (s.setStream i e).setters = s.setters := rfl
@[simp] theorem setStream_buzzMasked (i : Fin 32) (e : StreamEntry) (s : State) :
    (s.setStream i e).buzzMasked = s.buzzMasked := rfl
@[simp] theorem setStream_channels (i : Fin 32) (e : StreamEntry) (s : State) :
    (s.setStream i e).channels = s.channels := rfl
@[simp] theorem setStream_talk (i : Fin 32) (e : StreamEntry) (s : State) : (s.setStream i e).talk = s.talk := rfl
@[simp] theorem setStream_talkerLimit (i : Fin 32) (e : StreamEntry) (s : State) :
    (s.setStream i e).talkerLimit = s.talkerLimit := rfl
@[simp] theorem setStream_localLevels (i : Fin 32) (e : StreamEntry) (s : State) :
    (s.setStream i e).localLevels = s.localLevels := rfl
@[simp] theorem setStream_streams (i : Fin 32) (e : StreamEntry) (s : State) :
    (s.setStream i e).streams = s.streams.set i (some e) := rfl
@[simp] theorem setStream_masters (i : Fin 32) (e : StreamEntry) (s : State) : (s.setStream i e).masters = s.masters := rfl
@[simp] theorem setStream_earpieceOut (i : Fin 32) (e : StreamEntry) (s : State) :
    (s.setStream i e).earpieceOut = s.earpieceOut := rfl
@[simp] theorem setStream_speakerOut (i : Fin 32) (e : StreamEntry) (s : State) :
    (s.setStream i e).speakerOut = s.speakerOut := rfl
@[simp] theorem setStream_lineOut (i : Fin 32) (e : StreamEntry) (s : State) : (s.setStream i e).lineOut = s.lineOut := rfl
@[simp] theorem setStream_taps (i : Fin 32) (e : StreamEntry) (s : State) : (s.setStream i e).taps = s.taps := rfl
@[simp] theorem setStream_recordingCount (i : Fin 32) (e : StreamEntry) (s : State) :
    (s.setStream i e).recordingCount = s.recordingCount := rfl
@[simp] theorem setStream_ring (i : Fin 32) (e : StreamEntry) (s : State) : (s.setStream i e).ring = s.ring := rfl
@[simp] theorem setStream_claimIndex (i : Fin 32) (e : StreamEntry) (s : State) :
    (s.setStream i e).claimIndex = s.claimIndex := rfl
@[simp] theorem setStream_notices (i : Fin 32) (e : StreamEntry) (s : State) : (s.setStream i e).notices = s.notices := rfl
@[simp] theorem setStream_overflow (i : Fin 32) (e : StreamEntry) (s : State) :
    (s.setStream i e).overflow = s.overflow := rfl
@[simp] theorem setStream_eventMasked (i : Fin 32) (e : StreamEntry) (s : State) :
    (s.setStream i e).eventMasked = s.eventMasked := rfl
@[simp] theorem setStream_marks (i : Fin 32) (e : StreamEntry) (s : State) : (s.setStream i e).marks = s.marks := rfl
@[simp] theorem setStream_viewMasked (i : Fin 32) (e : StreamEntry) (s : State) :
    (s.setStream i e).viewMasked = s.viewMasked := rfl
@[simp] theorem setStream_live (i : Fin 32) (e : StreamEntry) (s : State) : (s.setStream i e).live = s.live := rfl
@[simp] theorem setStream_snapshots (i : Fin 32) (e : StreamEntry) (s : State) :
    (s.setStream i e).snapshots = s.snapshots := rfl
@[simp] theorem setStream_snapshotTime (i : Fin 32) (e : StreamEntry) (s : State) :
    (s.setStream i e).snapshotTime = s.snapshotTime := rfl
@[simp] theorem setStream_monitorTimer (i : Fin 32) (e : StreamEntry) (s : State) :
    (s.setStream i e).monitorTimer = s.monitorTimer := rfl
@[simp] theorem setStream_panelAnswer (i : Fin 32) (e : StreamEntry) (s : State) :
    (s.setStream i e).panelAnswer = s.panelAnswer := rfl
@[simp] theorem setStream_recorderAnswer (i : Fin 32) (e : StreamEntry) (s : State) :
    (s.setStream i e).recorderAnswer = s.recorderAnswer := rfl
@[simp] theorem setStream_pending (i : Fin 32) (e : StreamEntry) (s : State) : (s.setStream i e).pending = s.pending := rfl

/-! ### setTap -/

@[simp] theorem setTap_stationTime (k : Fin 8) (t : Tap) (s : State) : (s.setTap k t).stationTime = s.stationTime := rfl
@[simp] theorem setTap_stationState (k : Fin 8) (t : Tap) (s : State) : (s.setTap k t).stationState = s.stationState := rfl
@[simp] theorem setTap_cfg (k : Fin 8) (t : Tap) (s : State) : (s.setTap k t).cfg = s.cfg := rfl
@[simp] theorem setTap_configClamps (k : Fin 8) (t : Tap) (s : State) : (s.setTap k t).configClamps = s.configClamps := rfl
@[simp] theorem setTap_listenTimer (k : Fin 8) (t : Tap) (s : State) : (s.setTap k t).listenTimer = s.listenTimer := rfl
@[simp] theorem setTap_carrier (k : Fin 8) (t : Tap) (s : State) : (s.setTap k t).carrier = s.carrier := rfl
@[simp] theorem setTap_txQueue (k : Fin 8) (t : Tap) (s : State) : (s.setTap k t).txQueue = s.txQueue := rfl
@[simp] theorem setTap_transmitting (k : Fin 8) (t : Tap) (s : State) : (s.setTap k t).transmitting = s.transmitting := rfl
@[simp] theorem setTap_mediumIdle (k : Fin 8) (t : Tap) (s : State) : (s.setTap k t).mediumIdle = s.mediumIdle := rfl
@[simp] theorem setTap_mediumLooks (k : Fin 8) (t : Tap) (s : State) : (s.setTap k t).mediumLooks = s.mediumLooks := rfl
@[simp] theorem setTap_clashWindow (k : Fin 8) (t : Tap) (s : State) : (s.setTap k t).clashWindow = s.clashWindow := rfl
@[simp] theorem setTap_beaconTimer (k : Fin 8) (t : Tap) (s : State) : (s.setTap k t).beaconTimer = s.beaconTimer := rfl
@[simp] theorem setTap_peers (k : Fin 8) (t : Tap) (s : State) : (s.setTap k t).peers = s.peers := rfl
@[simp] theorem setTap_sequences (k : Fin 8) (t : Tap) (s : State) : (s.setTap k t).sequences = s.sequences := rfl
@[simp] theorem setTap_ports (k : Fin 8) (t : Tap) (s : State) : (s.setTap k t).ports = s.ports := rfl
@[simp] theorem setTap_records (k : Fin 8) (t : Tap) (s : State) : (s.setTap k t).records = s.records := rfl
@[simp] theorem setTap_mirrors (k : Fin 8) (t : Tap) (s : State) : (s.setTap k t).mirrors = s.mirrors := rfl
@[simp] theorem setTap_handsets (k : Fin 8) (t : Tap) (s : State) : (s.setTap k t).handsets = s.handsets := rfl
@[simp] theorem setTap_held (k : Fin 8) (t : Tap) (s : State) : (s.setTap k t).held = s.held := rfl
@[simp] theorem setTap_pendingAsks (k : Fin 8) (t : Tap) (s : State) : (s.setTap k t).pendingAsks = s.pendingAsks := rfl
@[simp] theorem setTap_tagCount (k : Fin 8) (t : Tap) (s : State) : (s.setTap k t).tagCount = s.tagCount := rfl
@[simp] theorem setTap_slots (k : Fin 8) (t : Tap) (s : State) : (s.setTap k t).slots = s.slots := rfl
@[simp] theorem setTap_signalWord (k : Fin 8) (t : Tap) (s : State) : (s.setTap k t).signalWord = s.signalWord := rfl
@[simp] theorem setTap_setters (k : Fin 8) (t : Tap) (s : State) : (s.setTap k t).setters = s.setters := rfl
@[simp] theorem setTap_buzzMasked (k : Fin 8) (t : Tap) (s : State) : (s.setTap k t).buzzMasked = s.buzzMasked := rfl
@[simp] theorem setTap_channels (k : Fin 8) (t : Tap) (s : State) : (s.setTap k t).channels = s.channels := rfl
@[simp] theorem setTap_talk (k : Fin 8) (t : Tap) (s : State) : (s.setTap k t).talk = s.talk := rfl
@[simp] theorem setTap_talkerLimit (k : Fin 8) (t : Tap) (s : State) : (s.setTap k t).talkerLimit = s.talkerLimit := rfl
@[simp] theorem setTap_localLevels (k : Fin 8) (t : Tap) (s : State) : (s.setTap k t).localLevels = s.localLevels := rfl
@[simp] theorem setTap_streams (k : Fin 8) (t : Tap) (s : State) : (s.setTap k t).streams = s.streams := rfl
@[simp] theorem setTap_masters (k : Fin 8) (t : Tap) (s : State) : (s.setTap k t).masters = s.masters := rfl
@[simp] theorem setTap_earpieceOut (k : Fin 8) (t : Tap) (s : State) : (s.setTap k t).earpieceOut = s.earpieceOut := rfl
@[simp] theorem setTap_speakerOut (k : Fin 8) (t : Tap) (s : State) : (s.setTap k t).speakerOut = s.speakerOut := rfl
@[simp] theorem setTap_lineOut (k : Fin 8) (t : Tap) (s : State) : (s.setTap k t).lineOut = s.lineOut := rfl
@[simp] theorem setTap_taps (k : Fin 8) (t : Tap) (s : State) : (s.setTap k t).taps = s.taps.set k (some t) := rfl
@[simp] theorem setTap_recordingCount (k : Fin 8) (t : Tap) (s : State) :
    (s.setTap k t).recordingCount = s.recordingCount := rfl
@[simp] theorem setTap_ring (k : Fin 8) (t : Tap) (s : State) : (s.setTap k t).ring = s.ring := rfl
@[simp] theorem setTap_claimIndex (k : Fin 8) (t : Tap) (s : State) : (s.setTap k t).claimIndex = s.claimIndex := rfl
@[simp] theorem setTap_notices (k : Fin 8) (t : Tap) (s : State) : (s.setTap k t).notices = s.notices := rfl
@[simp] theorem setTap_overflow (k : Fin 8) (t : Tap) (s : State) : (s.setTap k t).overflow = s.overflow := rfl
@[simp] theorem setTap_eventMasked (k : Fin 8) (t : Tap) (s : State) : (s.setTap k t).eventMasked = s.eventMasked := rfl
@[simp] theorem setTap_marks (k : Fin 8) (t : Tap) (s : State) : (s.setTap k t).marks = s.marks := rfl
@[simp] theorem setTap_viewMasked (k : Fin 8) (t : Tap) (s : State) : (s.setTap k t).viewMasked = s.viewMasked := rfl
@[simp] theorem setTap_live (k : Fin 8) (t : Tap) (s : State) : (s.setTap k t).live = s.live := rfl
@[simp] theorem setTap_snapshots (k : Fin 8) (t : Tap) (s : State) : (s.setTap k t).snapshots = s.snapshots := rfl
@[simp] theorem setTap_snapshotTime (k : Fin 8) (t : Tap) (s : State) : (s.setTap k t).snapshotTime = s.snapshotTime := rfl
@[simp] theorem setTap_monitorTimer (k : Fin 8) (t : Tap) (s : State) : (s.setTap k t).monitorTimer = s.monitorTimer := rfl
@[simp] theorem setTap_panelAnswer (k : Fin 8) (t : Tap) (s : State) : (s.setTap k t).panelAnswer = s.panelAnswer := rfl
@[simp] theorem setTap_recorderAnswer (k : Fin 8) (t : Tap) (s : State) :
    (s.setTap k t).recorderAnswer = s.recorderAnswer := rfl
@[simp] theorem setTap_pending (k : Fin 8) (t : Tap) (s : State) : (s.setTap k t).pending = s.pending := rfl

/-! ### setPort -/

@[simp] theorem setPort_stationTime (k : Fin 8) (p : LinePort) (s : State) :
    (s.setPort k p).stationTime = s.stationTime := rfl
@[simp] theorem setPort_stationState (k : Fin 8) (p : LinePort) (s : State) :
    (s.setPort k p).stationState = s.stationState := rfl
@[simp] theorem setPort_cfg (k : Fin 8) (p : LinePort) (s : State) : (s.setPort k p).cfg = s.cfg := rfl
@[simp] theorem setPort_configClamps (k : Fin 8) (p : LinePort) (s : State) :
    (s.setPort k p).configClamps = s.configClamps := rfl
@[simp] theorem setPort_listenTimer (k : Fin 8) (p : LinePort) (s : State) :
    (s.setPort k p).listenTimer = s.listenTimer := rfl
@[simp] theorem setPort_carrier (k : Fin 8) (p : LinePort) (s : State) : (s.setPort k p).carrier = s.carrier := rfl
@[simp] theorem setPort_txQueue (k : Fin 8) (p : LinePort) (s : State) : (s.setPort k p).txQueue = s.txQueue := rfl
@[simp] theorem setPort_transmitting (k : Fin 8) (p : LinePort) (s : State) :
    (s.setPort k p).transmitting = s.transmitting := rfl
@[simp] theorem setPort_mediumIdle (k : Fin 8) (p : LinePort) (s : State) : (s.setPort k p).mediumIdle = s.mediumIdle := rfl
@[simp] theorem setPort_mediumLooks (k : Fin 8) (p : LinePort) (s : State) : (s.setPort k p).mediumLooks = s.mediumLooks := rfl
@[simp] theorem setPort_clashWindow (k : Fin 8) (p : LinePort) (s : State) :
    (s.setPort k p).clashWindow = s.clashWindow := rfl
@[simp] theorem setPort_beaconTimer (k : Fin 8) (p : LinePort) (s : State) :
    (s.setPort k p).beaconTimer = s.beaconTimer := rfl
@[simp] theorem setPort_peers (k : Fin 8) (p : LinePort) (s : State) : (s.setPort k p).peers = s.peers := rfl
@[simp] theorem setPort_sequences (k : Fin 8) (p : LinePort) (s : State) : (s.setPort k p).sequences = s.sequences := rfl
@[simp] theorem setPort_ports (k : Fin 8) (p : LinePort) (s : State) : (s.setPort k p).ports = s.ports.set k p := rfl
@[simp] theorem setPort_records (k : Fin 8) (p : LinePort) (s : State) : (s.setPort k p).records = s.records := rfl
@[simp] theorem setPort_mirrors (k : Fin 8) (p : LinePort) (s : State) : (s.setPort k p).mirrors = s.mirrors := rfl
@[simp] theorem setPort_handsets (k : Fin 8) (p : LinePort) (s : State) : (s.setPort k p).handsets = s.handsets := rfl
@[simp] theorem setPort_held (k : Fin 8) (p : LinePort) (s : State) : (s.setPort k p).held = s.held := rfl
@[simp] theorem setPort_pendingAsks (k : Fin 8) (p : LinePort) (s : State) :
    (s.setPort k p).pendingAsks = s.pendingAsks := rfl
@[simp] theorem setPort_tagCount (k : Fin 8) (p : LinePort) (s : State) : (s.setPort k p).tagCount = s.tagCount := rfl
@[simp] theorem setPort_slots (k : Fin 8) (p : LinePort) (s : State) : (s.setPort k p).slots = s.slots := rfl
@[simp] theorem setPort_signalWord (k : Fin 8) (p : LinePort) (s : State) : (s.setPort k p).signalWord = s.signalWord := rfl
@[simp] theorem setPort_setters (k : Fin 8) (p : LinePort) (s : State) : (s.setPort k p).setters = s.setters := rfl
@[simp] theorem setPort_buzzMasked (k : Fin 8) (p : LinePort) (s : State) : (s.setPort k p).buzzMasked = s.buzzMasked := rfl
@[simp] theorem setPort_channels (k : Fin 8) (p : LinePort) (s : State) : (s.setPort k p).channels = s.channels := rfl
@[simp] theorem setPort_talk (k : Fin 8) (p : LinePort) (s : State) : (s.setPort k p).talk = s.talk := rfl
@[simp] theorem setPort_talkerLimit (k : Fin 8) (p : LinePort) (s : State) :
    (s.setPort k p).talkerLimit = s.talkerLimit := rfl
@[simp] theorem setPort_localLevels (k : Fin 8) (p : LinePort) (s : State) :
    (s.setPort k p).localLevels = s.localLevels := rfl
@[simp] theorem setPort_streams (k : Fin 8) (p : LinePort) (s : State) : (s.setPort k p).streams = s.streams := rfl
@[simp] theorem setPort_masters (k : Fin 8) (p : LinePort) (s : State) : (s.setPort k p).masters = s.masters := rfl
@[simp] theorem setPort_earpieceOut (k : Fin 8) (p : LinePort) (s : State) :
    (s.setPort k p).earpieceOut = s.earpieceOut := rfl
@[simp] theorem setPort_speakerOut (k : Fin 8) (p : LinePort) (s : State) : (s.setPort k p).speakerOut = s.speakerOut := rfl
@[simp] theorem setPort_lineOut (k : Fin 8) (p : LinePort) (s : State) : (s.setPort k p).lineOut = s.lineOut := rfl
@[simp] theorem setPort_taps (k : Fin 8) (p : LinePort) (s : State) : (s.setPort k p).taps = s.taps := rfl
@[simp] theorem setPort_recordingCount (k : Fin 8) (p : LinePort) (s : State) :
    (s.setPort k p).recordingCount = s.recordingCount := rfl
@[simp] theorem setPort_ring (k : Fin 8) (p : LinePort) (s : State) : (s.setPort k p).ring = s.ring := rfl
@[simp] theorem setPort_claimIndex (k : Fin 8) (p : LinePort) (s : State) : (s.setPort k p).claimIndex = s.claimIndex := rfl
@[simp] theorem setPort_notices (k : Fin 8) (p : LinePort) (s : State) : (s.setPort k p).notices = s.notices := rfl
@[simp] theorem setPort_overflow (k : Fin 8) (p : LinePort) (s : State) : (s.setPort k p).overflow = s.overflow := rfl
@[simp] theorem setPort_eventMasked (k : Fin 8) (p : LinePort) (s : State) :
    (s.setPort k p).eventMasked = s.eventMasked := rfl
@[simp] theorem setPort_viewMasked (k : Fin 8) (p : LinePort) (s : State) : (s.setPort k p).viewMasked = s.viewMasked := rfl
@[simp] theorem setPort_live (k : Fin 8) (p : LinePort) (s : State) : (s.setPort k p).live = s.live := rfl
@[simp] theorem setPort_snapshots (k : Fin 8) (p : LinePort) (s : State) : (s.setPort k p).snapshots = s.snapshots := rfl
@[simp] theorem setPort_snapshotTime (k : Fin 8) (p : LinePort) (s : State) :
    (s.setPort k p).snapshotTime = s.snapshotTime := rfl
@[simp] theorem setPort_monitorTimer (k : Fin 8) (p : LinePort) (s : State) :
    (s.setPort k p).monitorTimer = s.monitorTimer := rfl
@[simp] theorem setPort_panelAnswer (k : Fin 8) (p : LinePort) (s : State) :
    (s.setPort k p).panelAnswer = s.panelAnswer := rfl
@[simp] theorem setPort_recorderAnswer (k : Fin 8) (p : LinePort) (s : State) :
    (s.setPort k p).recorderAnswer = s.recorderAnswer := rfl
@[simp] theorem setPort_pending (k : Fin 8) (p : LinePort) (s : State) : (s.setPort k p).pending = s.pending := rfl

/-! ### setHandset -/

@[simp] theorem setHandset_stationTime (h : Fin 2) (x : Handset) (s : State) :
    (s.setHandset h x).stationTime = s.stationTime := rfl
@[simp] theorem setHandset_stationState (h : Fin 2) (x : Handset) (s : State) :
    (s.setHandset h x).stationState = s.stationState := rfl
@[simp] theorem setHandset_cfg (h : Fin 2) (x : Handset) (s : State) : (s.setHandset h x).cfg = s.cfg := rfl
@[simp] theorem setHandset_configClamps (h : Fin 2) (x : Handset) (s : State) :
    (s.setHandset h x).configClamps = s.configClamps := rfl
@[simp] theorem setHandset_listenTimer (h : Fin 2) (x : Handset) (s : State) :
    (s.setHandset h x).listenTimer = s.listenTimer := rfl
@[simp] theorem setHandset_carrier (h : Fin 2) (x : Handset) (s : State) : (s.setHandset h x).carrier = s.carrier := rfl
@[simp] theorem setHandset_txQueue (h : Fin 2) (x : Handset) (s : State) : (s.setHandset h x).txQueue = s.txQueue := rfl
@[simp] theorem setHandset_transmitting (h : Fin 2) (x : Handset) (s : State) :
    (s.setHandset h x).transmitting = s.transmitting := rfl
@[simp] theorem setHandset_mediumIdle (h : Fin 2) (x : Handset) (s : State) :
    (s.setHandset h x).mediumIdle = s.mediumIdle := rfl
@[simp] theorem setHandset_mediumLooks (h : Fin 2) (x : Handset) (s : State) :
    (s.setHandset h x).mediumLooks = s.mediumLooks := rfl
@[simp] theorem setHandset_clashWindow (h : Fin 2) (x : Handset) (s : State) :
    (s.setHandset h x).clashWindow = s.clashWindow := rfl
@[simp] theorem setHandset_beaconTimer (h : Fin 2) (x : Handset) (s : State) :
    (s.setHandset h x).beaconTimer = s.beaconTimer := rfl
@[simp] theorem setHandset_peers (h : Fin 2) (x : Handset) (s : State) : (s.setHandset h x).peers = s.peers := rfl
@[simp] theorem setHandset_sequences (h : Fin 2) (x : Handset) (s : State) :
    (s.setHandset h x).sequences = s.sequences := rfl
@[simp] theorem setHandset_ports (h : Fin 2) (x : Handset) (s : State) : (s.setHandset h x).ports = s.ports := rfl
@[simp] theorem setHandset_records (h : Fin 2) (x : Handset) (s : State) : (s.setHandset h x).records = s.records := rfl
@[simp] theorem setHandset_mirrors (h : Fin 2) (x : Handset) (s : State) : (s.setHandset h x).mirrors = s.mirrors := rfl
@[simp] theorem setHandset_handsets (h : Fin 2) (x : Handset) (s : State) :
    (s.setHandset h x).handsets = s.handsets.set h x := rfl
@[simp] theorem setHandset_held (h : Fin 2) (x : Handset) (s : State) : (s.setHandset h x).held = s.held := rfl
@[simp] theorem setHandset_pendingAsks (h : Fin 2) (x : Handset) (s : State) :
    (s.setHandset h x).pendingAsks = s.pendingAsks := rfl
@[simp] theorem setHandset_tagCount (h : Fin 2) (x : Handset) (s : State) : (s.setHandset h x).tagCount = s.tagCount := rfl
@[simp] theorem setHandset_slots (h : Fin 2) (x : Handset) (s : State) : (s.setHandset h x).slots = s.slots := rfl
@[simp] theorem setHandset_signalWord (h : Fin 2) (x : Handset) (s : State) :
    (s.setHandset h x).signalWord = s.signalWord := rfl
@[simp] theorem setHandset_setters (h : Fin 2) (x : Handset) (s : State) : (s.setHandset h x).setters = s.setters := rfl
@[simp] theorem setHandset_buzzMasked (h : Fin 2) (x : Handset) (s : State) :
    (s.setHandset h x).buzzMasked = s.buzzMasked := rfl
@[simp] theorem setHandset_channels (h : Fin 2) (x : Handset) (s : State) : (s.setHandset h x).channels = s.channels := rfl
@[simp] theorem setHandset_talk (h : Fin 2) (x : Handset) (s : State) : (s.setHandset h x).talk = s.talk := rfl
@[simp] theorem setHandset_talkerLimit (h : Fin 2) (x : Handset) (s : State) :
    (s.setHandset h x).talkerLimit = s.talkerLimit := rfl
@[simp] theorem setHandset_localLevels (h : Fin 2) (x : Handset) (s : State) :
    (s.setHandset h x).localLevels = s.localLevels := rfl
@[simp] theorem setHandset_streams (h : Fin 2) (x : Handset) (s : State) : (s.setHandset h x).streams = s.streams := rfl
@[simp] theorem setHandset_masters (h : Fin 2) (x : Handset) (s : State) : (s.setHandset h x).masters = s.masters := rfl
@[simp] theorem setHandset_earpieceOut (h : Fin 2) (x : Handset) (s : State) :
    (s.setHandset h x).earpieceOut = s.earpieceOut := rfl
@[simp] theorem setHandset_speakerOut (h : Fin 2) (x : Handset) (s : State) :
    (s.setHandset h x).speakerOut = s.speakerOut := rfl
@[simp] theorem setHandset_lineOut (h : Fin 2) (x : Handset) (s : State) : (s.setHandset h x).lineOut = s.lineOut := rfl
@[simp] theorem setHandset_taps (h : Fin 2) (x : Handset) (s : State) : (s.setHandset h x).taps = s.taps := rfl
@[simp] theorem setHandset_recordingCount (h : Fin 2) (x : Handset) (s : State) :
    (s.setHandset h x).recordingCount = s.recordingCount := rfl
@[simp] theorem setHandset_ring (h : Fin 2) (x : Handset) (s : State) : (s.setHandset h x).ring = s.ring := rfl
@[simp] theorem setHandset_claimIndex (h : Fin 2) (x : Handset) (s : State) :
    (s.setHandset h x).claimIndex = s.claimIndex := rfl
@[simp] theorem setHandset_notices (h : Fin 2) (x : Handset) (s : State) : (s.setHandset h x).notices = s.notices := rfl
@[simp] theorem setHandset_overflow (h : Fin 2) (x : Handset) (s : State) : (s.setHandset h x).overflow = s.overflow := rfl
@[simp] theorem setHandset_eventMasked (h : Fin 2) (x : Handset) (s : State) :
    (s.setHandset h x).eventMasked = s.eventMasked := rfl
@[simp] theorem setHandset_viewMasked (h : Fin 2) (x : Handset) (s : State) :
    (s.setHandset h x).viewMasked = s.viewMasked := rfl
@[simp] theorem setHandset_live (h : Fin 2) (x : Handset) (s : State) : (s.setHandset h x).live = s.live := rfl
@[simp] theorem setHandset_snapshots (h : Fin 2) (x : Handset) (s : State) :
    (s.setHandset h x).snapshots = s.snapshots := rfl
@[simp] theorem setHandset_snapshotTime (h : Fin 2) (x : Handset) (s : State) :
    (s.setHandset h x).snapshotTime = s.snapshotTime := rfl
@[simp] theorem setHandset_monitorTimer (h : Fin 2) (x : Handset) (s : State) :
    (s.setHandset h x).monitorTimer = s.monitorTimer := rfl
@[simp] theorem setHandset_panelAnswer (h : Fin 2) (x : Handset) (s : State) :
    (s.setHandset h x).panelAnswer = s.panelAnswer := rfl
@[simp] theorem setHandset_recorderAnswer (h : Fin 2) (x : Handset) (s : State) :
    (s.setHandset h x).recorderAnswer = s.recorderAnswer := rfl
@[simp] theorem setHandset_pending (h : Fin 2) (x : Handset) (s : State) : (s.setHandset h x).pending = s.pending := rfl

/-! ### setChannel -/

@[simp] theorem setChannel_stationTime (k : Fin 8) (c : Channel) (s : State) :
    (s.setChannel k c).stationTime = s.stationTime := rfl
@[simp] theorem setChannel_stationState (k : Fin 8) (c : Channel) (s : State) :
    (s.setChannel k c).stationState = s.stationState := rfl
@[simp] theorem setChannel_cfg (k : Fin 8) (c : Channel) (s : State) : (s.setChannel k c).cfg = s.cfg := rfl
@[simp] theorem setChannel_configClamps (k : Fin 8) (c : Channel) (s : State) :
    (s.setChannel k c).configClamps = s.configClamps := rfl
@[simp] theorem setChannel_listenTimer (k : Fin 8) (c : Channel) (s : State) :
    (s.setChannel k c).listenTimer = s.listenTimer := rfl
@[simp] theorem setChannel_carrier (k : Fin 8) (c : Channel) (s : State) : (s.setChannel k c).carrier = s.carrier := rfl
@[simp] theorem setChannel_txQueue (k : Fin 8) (c : Channel) (s : State) : (s.setChannel k c).txQueue = s.txQueue := rfl
@[simp] theorem setChannel_transmitting (k : Fin 8) (c : Channel) (s : State) :
    (s.setChannel k c).transmitting = s.transmitting := rfl
@[simp] theorem setChannel_mediumIdle (k : Fin 8) (c : Channel) (s : State) :
    (s.setChannel k c).mediumIdle = s.mediumIdle := rfl
@[simp] theorem setChannel_mediumLooks (k : Fin 8) (c : Channel) (s : State) :
    (s.setChannel k c).mediumLooks = s.mediumLooks := rfl
@[simp] theorem setChannel_clashWindow (k : Fin 8) (c : Channel) (s : State) :
    (s.setChannel k c).clashWindow = s.clashWindow := rfl
@[simp] theorem setChannel_beaconTimer (k : Fin 8) (c : Channel) (s : State) :
    (s.setChannel k c).beaconTimer = s.beaconTimer := rfl
@[simp] theorem setChannel_peers (k : Fin 8) (c : Channel) (s : State) : (s.setChannel k c).peers = s.peers := rfl
@[simp] theorem setChannel_sequences (k : Fin 8) (c : Channel) (s : State) :
    (s.setChannel k c).sequences = s.sequences := rfl
@[simp] theorem setChannel_ports (k : Fin 8) (c : Channel) (s : State) : (s.setChannel k c).ports = s.ports := rfl
@[simp] theorem setChannel_records (k : Fin 8) (c : Channel) (s : State) : (s.setChannel k c).records = s.records := rfl
@[simp] theorem setChannel_mirrors (k : Fin 8) (c : Channel) (s : State) : (s.setChannel k c).mirrors = s.mirrors := rfl
@[simp] theorem setChannel_handsets (k : Fin 8) (c : Channel) (s : State) : (s.setChannel k c).handsets = s.handsets := rfl
@[simp] theorem setChannel_held (k : Fin 8) (c : Channel) (s : State) : (s.setChannel k c).held = s.held := rfl
@[simp] theorem setChannel_pendingAsks (k : Fin 8) (c : Channel) (s : State) :
    (s.setChannel k c).pendingAsks = s.pendingAsks := rfl
@[simp] theorem setChannel_tagCount (k : Fin 8) (c : Channel) (s : State) : (s.setChannel k c).tagCount = s.tagCount := rfl
@[simp] theorem setChannel_slots (k : Fin 8) (c : Channel) (s : State) : (s.setChannel k c).slots = s.slots := rfl
@[simp] theorem setChannel_signalWord (k : Fin 8) (c : Channel) (s : State) :
    (s.setChannel k c).signalWord = s.signalWord := rfl
@[simp] theorem setChannel_setters (k : Fin 8) (c : Channel) (s : State) : (s.setChannel k c).setters = s.setters := rfl
@[simp] theorem setChannel_buzzMasked (k : Fin 8) (c : Channel) (s : State) :
    (s.setChannel k c).buzzMasked = s.buzzMasked := rfl
@[simp] theorem setChannel_channels (k : Fin 8) (c : Channel) (s : State) :
    (s.setChannel k c).channels = s.channels.set k c := rfl
@[simp] theorem setChannel_talk (k : Fin 8) (c : Channel) (s : State) : (s.setChannel k c).talk = s.talk := rfl
@[simp] theorem setChannel_talkerLimit (k : Fin 8) (c : Channel) (s : State) :
    (s.setChannel k c).talkerLimit = s.talkerLimit := rfl
@[simp] theorem setChannel_localLevels (k : Fin 8) (c : Channel) (s : State) :
    (s.setChannel k c).localLevels = s.localLevels := rfl
@[simp] theorem setChannel_streams (k : Fin 8) (c : Channel) (s : State) : (s.setChannel k c).streams = s.streams := rfl
@[simp] theorem setChannel_masters (k : Fin 8) (c : Channel) (s : State) : (s.setChannel k c).masters = s.masters := rfl
@[simp] theorem setChannel_earpieceOut (k : Fin 8) (c : Channel) (s : State) :
    (s.setChannel k c).earpieceOut = s.earpieceOut := rfl
@[simp] theorem setChannel_speakerOut (k : Fin 8) (c : Channel) (s : State) :
    (s.setChannel k c).speakerOut = s.speakerOut := rfl
@[simp] theorem setChannel_lineOut (k : Fin 8) (c : Channel) (s : State) : (s.setChannel k c).lineOut = s.lineOut := rfl
@[simp] theorem setChannel_taps (k : Fin 8) (c : Channel) (s : State) : (s.setChannel k c).taps = s.taps := rfl
@[simp] theorem setChannel_recordingCount (k : Fin 8) (c : Channel) (s : State) :
    (s.setChannel k c).recordingCount = s.recordingCount := rfl
@[simp] theorem setChannel_ring (k : Fin 8) (c : Channel) (s : State) : (s.setChannel k c).ring = s.ring := rfl
@[simp] theorem setChannel_claimIndex (k : Fin 8) (c : Channel) (s : State) :
    (s.setChannel k c).claimIndex = s.claimIndex := rfl
@[simp] theorem setChannel_notices (k : Fin 8) (c : Channel) (s : State) : (s.setChannel k c).notices = s.notices := rfl
@[simp] theorem setChannel_overflow (k : Fin 8) (c : Channel) (s : State) : (s.setChannel k c).overflow = s.overflow := rfl
@[simp] theorem setChannel_eventMasked (k : Fin 8) (c : Channel) (s : State) :
    (s.setChannel k c).eventMasked = s.eventMasked := rfl
@[simp] theorem setChannel_viewMasked (k : Fin 8) (c : Channel) (s : State) :
    (s.setChannel k c).viewMasked = s.viewMasked := rfl
@[simp] theorem setChannel_live (k : Fin 8) (c : Channel) (s : State) : (s.setChannel k c).live = s.live := rfl
@[simp] theorem setChannel_snapshots (k : Fin 8) (c : Channel) (s : State) :
    (s.setChannel k c).snapshots = s.snapshots := rfl
@[simp] theorem setChannel_snapshotTime (k : Fin 8) (c : Channel) (s : State) :
    (s.setChannel k c).snapshotTime = s.snapshotTime := rfl
@[simp] theorem setChannel_monitorTimer (k : Fin 8) (c : Channel) (s : State) :
    (s.setChannel k c).monitorTimer = s.monitorTimer := rfl
@[simp] theorem setChannel_panelAnswer (k : Fin 8) (c : Channel) (s : State) :
    (s.setChannel k c).panelAnswer = s.panelAnswer := rfl
@[simp] theorem setChannel_recorderAnswer (k : Fin 8) (c : Channel) (s : State) :
    (s.setChannel k c).recorderAnswer = s.recorderAnswer := rfl
@[simp] theorem setChannel_pending (k : Fin 8) (c : Channel) (s : State) : (s.setChannel k c).pending = s.pending := rfl

/-! ### setTalk -/

@[simp] theorem setTalk_stationTime (t : Option (Fin 8)) (s : State) : (s.setTalk t).stationTime = s.stationTime := rfl
@[simp] theorem setTalk_stationState (t : Option (Fin 8)) (s : State) : (s.setTalk t).stationState = s.stationState := rfl
@[simp] theorem setTalk_cfg (t : Option (Fin 8)) (s : State) : (s.setTalk t).cfg = s.cfg := rfl
@[simp] theorem setTalk_configClamps (t : Option (Fin 8)) (s : State) : (s.setTalk t).configClamps = s.configClamps := rfl
@[simp] theorem setTalk_listenTimer (t : Option (Fin 8)) (s : State) : (s.setTalk t).listenTimer = s.listenTimer := rfl
@[simp] theorem setTalk_carrier (t : Option (Fin 8)) (s : State) : (s.setTalk t).carrier = s.carrier := rfl
@[simp] theorem setTalk_txQueue (t : Option (Fin 8)) (s : State) : (s.setTalk t).txQueue = s.txQueue := rfl
@[simp] theorem setTalk_transmitting (t : Option (Fin 8)) (s : State) : (s.setTalk t).transmitting = s.transmitting := rfl
@[simp] theorem setTalk_mediumIdle (t : Option (Fin 8)) (s : State) : (s.setTalk t).mediumIdle = s.mediumIdle := rfl
@[simp] theorem setTalk_mediumLooks (t : Option (Fin 8)) (s : State) : (s.setTalk t).mediumLooks = s.mediumLooks := rfl
@[simp] theorem setTalk_clashWindow (t : Option (Fin 8)) (s : State) : (s.setTalk t).clashWindow = s.clashWindow := rfl
@[simp] theorem setTalk_beaconTimer (t : Option (Fin 8)) (s : State) : (s.setTalk t).beaconTimer = s.beaconTimer := rfl
@[simp] theorem setTalk_peers (t : Option (Fin 8)) (s : State) : (s.setTalk t).peers = s.peers := rfl
@[simp] theorem setTalk_sequences (t : Option (Fin 8)) (s : State) : (s.setTalk t).sequences = s.sequences := rfl
@[simp] theorem setTalk_ports (t : Option (Fin 8)) (s : State) : (s.setTalk t).ports = s.ports := rfl
@[simp] theorem setTalk_records (t : Option (Fin 8)) (s : State) : (s.setTalk t).records = s.records := rfl
@[simp] theorem setTalk_mirrors (t : Option (Fin 8)) (s : State) : (s.setTalk t).mirrors = s.mirrors := rfl
@[simp] theorem setTalk_handsets (t : Option (Fin 8)) (s : State) : (s.setTalk t).handsets = s.handsets := rfl
@[simp] theorem setTalk_held (t : Option (Fin 8)) (s : State) : (s.setTalk t).held = s.held := rfl
@[simp] theorem setTalk_pendingAsks (t : Option (Fin 8)) (s : State) : (s.setTalk t).pendingAsks = s.pendingAsks := rfl
@[simp] theorem setTalk_tagCount (t : Option (Fin 8)) (s : State) : (s.setTalk t).tagCount = s.tagCount := rfl
@[simp] theorem setTalk_slots (t : Option (Fin 8)) (s : State) : (s.setTalk t).slots = s.slots := rfl
@[simp] theorem setTalk_signalWord (t : Option (Fin 8)) (s : State) : (s.setTalk t).signalWord = s.signalWord := rfl
@[simp] theorem setTalk_setters (t : Option (Fin 8)) (s : State) : (s.setTalk t).setters = s.setters := rfl
@[simp] theorem setTalk_buzzMasked (t : Option (Fin 8)) (s : State) : (s.setTalk t).buzzMasked = s.buzzMasked := rfl
@[simp] theorem setTalk_channels (t : Option (Fin 8)) (s : State) : (s.setTalk t).channels = s.channels := rfl
@[simp] theorem setTalk_talk (t : Option (Fin 8)) (s : State) : (s.setTalk t).talk = t := rfl
@[simp] theorem setTalk_talkerLimit (t : Option (Fin 8)) (s : State) : (s.setTalk t).talkerLimit = s.talkerLimit := rfl
@[simp] theorem setTalk_localLevels (t : Option (Fin 8)) (s : State) : (s.setTalk t).localLevels = s.localLevels := rfl
@[simp] theorem setTalk_streams (t : Option (Fin 8)) (s : State) : (s.setTalk t).streams = s.streams := rfl
@[simp] theorem setTalk_masters (t : Option (Fin 8)) (s : State) : (s.setTalk t).masters = s.masters := rfl
@[simp] theorem setTalk_earpieceOut (t : Option (Fin 8)) (s : State) : (s.setTalk t).earpieceOut = s.earpieceOut := rfl
@[simp] theorem setTalk_speakerOut (t : Option (Fin 8)) (s : State) : (s.setTalk t).speakerOut = s.speakerOut := rfl
@[simp] theorem setTalk_lineOut (t : Option (Fin 8)) (s : State) : (s.setTalk t).lineOut = s.lineOut := rfl
@[simp] theorem setTalk_taps (t : Option (Fin 8)) (s : State) : (s.setTalk t).taps = s.taps := rfl
@[simp] theorem setTalk_recordingCount (t : Option (Fin 8)) (s : State) :
    (s.setTalk t).recordingCount = s.recordingCount := rfl
@[simp] theorem setTalk_ring (t : Option (Fin 8)) (s : State) : (s.setTalk t).ring = s.ring := rfl
@[simp] theorem setTalk_claimIndex (t : Option (Fin 8)) (s : State) : (s.setTalk t).claimIndex = s.claimIndex := rfl
@[simp] theorem setTalk_notices (t : Option (Fin 8)) (s : State) : (s.setTalk t).notices = s.notices := rfl
@[simp] theorem setTalk_overflow (t : Option (Fin 8)) (s : State) : (s.setTalk t).overflow = s.overflow := rfl
@[simp] theorem setTalk_eventMasked (t : Option (Fin 8)) (s : State) : (s.setTalk t).eventMasked = s.eventMasked := rfl
@[simp] theorem setTalk_viewMasked (t : Option (Fin 8)) (s : State) : (s.setTalk t).viewMasked = s.viewMasked := rfl
@[simp] theorem setTalk_live (t : Option (Fin 8)) (s : State) : (s.setTalk t).live = s.live := rfl
@[simp] theorem setTalk_snapshots (t : Option (Fin 8)) (s : State) : (s.setTalk t).snapshots = s.snapshots := rfl
@[simp] theorem setTalk_snapshotTime (t : Option (Fin 8)) (s : State) : (s.setTalk t).snapshotTime = s.snapshotTime := rfl
@[simp] theorem setTalk_monitorTimer (t : Option (Fin 8)) (s : State) : (s.setTalk t).monitorTimer = s.monitorTimer := rfl
@[simp] theorem setTalk_panelAnswer (t : Option (Fin 8)) (s : State) : (s.setTalk t).panelAnswer = s.panelAnswer := rfl
@[simp] theorem setTalk_recorderAnswer (t : Option (Fin 8)) (s : State) :
    (s.setTalk t).recorderAnswer = s.recorderAnswer := rfl
@[simp] theorem setTalk_pending (t : Option (Fin 8)) (s : State) : (s.setTalk t).pending = s.pending := rfl

/-! ### enter -/

@[simp] theorem enter_stationTime (st : StationState) (s : State) : (s.enter st).stationTime = s.stationTime := rfl
@[simp] theorem enter_stationState (st : StationState) (s : State) : (s.enter st).stationState = st := rfl
@[simp] theorem enter_cfg (st : StationState) (s : State) : (s.enter st).cfg = s.cfg := rfl
@[simp] theorem enter_configClamps (st : StationState) (s : State) : (s.enter st).configClamps = s.configClamps := rfl
@[simp] theorem enter_listenTimer (st : StationState) (s : State) : (s.enter st).listenTimer = s.listenTimer := rfl
@[simp] theorem enter_carrier (st : StationState) (s : State) : (s.enter st).carrier = s.carrier := rfl
@[simp] theorem enter_txQueue (st : StationState) (s : State) : (s.enter st).txQueue = s.txQueue := rfl
@[simp] theorem enter_transmitting (st : StationState) (s : State) : (s.enter st).transmitting = s.transmitting := rfl
@[simp] theorem enter_mediumIdle (st : StationState) (s : State) : (s.enter st).mediumIdle = s.mediumIdle := rfl
@[simp] theorem enter_mediumLooks (st : StationState) (s : State) : (s.enter st).mediumLooks = s.mediumLooks := rfl
@[simp] theorem enter_clashWindow (st : StationState) (s : State) : (s.enter st).clashWindow = s.clashWindow := rfl
@[simp] theorem enter_beaconTimer (st : StationState) (s : State) : (s.enter st).beaconTimer = s.beaconTimer := rfl
@[simp] theorem enter_peers (st : StationState) (s : State) : (s.enter st).peers = s.peers := rfl
@[simp] theorem enter_sequences (st : StationState) (s : State) : (s.enter st).sequences = s.sequences := rfl
@[simp] theorem enter_ports (st : StationState) (s : State) : (s.enter st).ports = s.ports := rfl
@[simp] theorem enter_records (st : StationState) (s : State) : (s.enter st).records = s.records := rfl
@[simp] theorem enter_mirrors (st : StationState) (s : State) : (s.enter st).mirrors = s.mirrors := rfl
@[simp] theorem enter_handsets (st : StationState) (s : State) : (s.enter st).handsets = s.handsets := rfl
@[simp] theorem enter_held (st : StationState) (s : State) : (s.enter st).held = s.held := rfl
@[simp] theorem enter_pendingAsks (st : StationState) (s : State) : (s.enter st).pendingAsks = s.pendingAsks := rfl
@[simp] theorem enter_tagCount (st : StationState) (s : State) : (s.enter st).tagCount = s.tagCount := rfl
@[simp] theorem enter_slots (st : StationState) (s : State) : (s.enter st).slots = s.slots := rfl
@[simp] theorem enter_signalWord (st : StationState) (s : State) : (s.enter st).signalWord = s.signalWord := rfl
@[simp] theorem enter_setters (st : StationState) (s : State) : (s.enter st).setters = s.setters := rfl
@[simp] theorem enter_buzzMasked (st : StationState) (s : State) : (s.enter st).buzzMasked = s.buzzMasked := rfl
@[simp] theorem enter_channels (st : StationState) (s : State) : (s.enter st).channels = s.channels := rfl
@[simp] theorem enter_talk (st : StationState) (s : State) : (s.enter st).talk = s.talk := rfl
@[simp] theorem enter_talkerLimit (st : StationState) (s : State) : (s.enter st).talkerLimit = s.talkerLimit := rfl
@[simp] theorem enter_localLevels (st : StationState) (s : State) : (s.enter st).localLevels = s.localLevels := rfl
@[simp] theorem enter_streams (st : StationState) (s : State) : (s.enter st).streams = s.streams := rfl
@[simp] theorem enter_masters (st : StationState) (s : State) : (s.enter st).masters = s.masters := rfl
@[simp] theorem enter_earpieceOut (st : StationState) (s : State) : (s.enter st).earpieceOut = s.earpieceOut := rfl
@[simp] theorem enter_speakerOut (st : StationState) (s : State) : (s.enter st).speakerOut = s.speakerOut := rfl
@[simp] theorem enter_lineOut (st : StationState) (s : State) : (s.enter st).lineOut = s.lineOut := rfl
@[simp] theorem enter_taps (st : StationState) (s : State) : (s.enter st).taps = s.taps := rfl
@[simp] theorem enter_recordingCount (st : StationState) (s : State) : (s.enter st).recordingCount = s.recordingCount := rfl
@[simp] theorem enter_ring (st : StationState) (s : State) : (s.enter st).ring = s.ring := rfl
@[simp] theorem enter_claimIndex (st : StationState) (s : State) : (s.enter st).claimIndex = s.claimIndex := rfl
@[simp] theorem enter_notices (st : StationState) (s : State) : (s.enter st).notices = s.notices := rfl
@[simp] theorem enter_overflow (st : StationState) (s : State) : (s.enter st).overflow = s.overflow := rfl
@[simp] theorem enter_eventMasked (st : StationState) (s : State) : (s.enter st).eventMasked = s.eventMasked := rfl
@[simp] theorem enter_viewMasked (st : StationState) (s : State) : (s.enter st).viewMasked = s.viewMasked := rfl
@[simp] theorem enter_live (st : StationState) (s : State) : (s.enter st).live = s.live := rfl
@[simp] theorem enter_snapshots (st : StationState) (s : State) : (s.enter st).snapshots = s.snapshots := rfl
@[simp] theorem enter_snapshotTime (st : StationState) (s : State) : (s.enter st).snapshotTime = s.snapshotTime := rfl
@[simp] theorem enter_monitorTimer (st : StationState) (s : State) : (s.enter st).monitorTimer = s.monitorTimer := rfl
@[simp] theorem enter_panelAnswer (st : StationState) (s : State) : (s.enter st).panelAnswer = s.panelAnswer := rfl
@[simp] theorem enter_recorderAnswer (st : StationState) (s : State) : (s.enter st).recorderAnswer = s.recorderAnswer := rfl
@[simp] theorem enter_pending (st : StationState) (s : State) : (s.enter st).pending = s.pending := rfl

/-! ### count -/

@[simp] theorem count_stationTime (f : Counters → Counters) (s : State) : (s.count f).stationTime = s.stationTime := rfl
@[simp] theorem count_stationState (f : Counters → Counters) (s : State) : (s.count f).stationState = s.stationState := rfl
@[simp] theorem count_cfg (f : Counters → Counters) (s : State) : (s.count f).cfg = s.cfg := rfl
@[simp] theorem count_configClamps (f : Counters → Counters) (s : State) : (s.count f).configClamps = s.configClamps := rfl
@[simp] theorem count_listenTimer (f : Counters → Counters) (s : State) : (s.count f).listenTimer = s.listenTimer := rfl
@[simp] theorem count_carrier (f : Counters → Counters) (s : State) : (s.count f).carrier = s.carrier := rfl
@[simp] theorem count_txQueue (f : Counters → Counters) (s : State) : (s.count f).txQueue = s.txQueue := rfl
@[simp] theorem count_transmitting (f : Counters → Counters) (s : State) : (s.count f).transmitting = s.transmitting := rfl
@[simp] theorem count_mediumIdle (f : Counters → Counters) (s : State) : (s.count f).mediumIdle = s.mediumIdle := rfl
@[simp] theorem count_mediumLooks (f : Counters → Counters) (s : State) : (s.count f).mediumLooks = s.mediumLooks := rfl
@[simp] theorem count_clashWindow (f : Counters → Counters) (s : State) : (s.count f).clashWindow = s.clashWindow := rfl
@[simp] theorem count_beaconTimer (f : Counters → Counters) (s : State) : (s.count f).beaconTimer = s.beaconTimer := rfl
@[simp] theorem count_peers (f : Counters → Counters) (s : State) : (s.count f).peers = s.peers := rfl
@[simp] theorem count_sequences (f : Counters → Counters) (s : State) : (s.count f).sequences = s.sequences := rfl
@[simp] theorem count_ports (f : Counters → Counters) (s : State) : (s.count f).ports = s.ports := rfl
@[simp] theorem count_records (f : Counters → Counters) (s : State) : (s.count f).records = s.records := rfl
@[simp] theorem count_mirrors (f : Counters → Counters) (s : State) : (s.count f).mirrors = s.mirrors := rfl
@[simp] theorem count_handsets (f : Counters → Counters) (s : State) : (s.count f).handsets = s.handsets := rfl
@[simp] theorem count_held (f : Counters → Counters) (s : State) : (s.count f).held = s.held := rfl
@[simp] theorem count_pendingAsks (f : Counters → Counters) (s : State) : (s.count f).pendingAsks = s.pendingAsks := rfl
@[simp] theorem count_tagCount (f : Counters → Counters) (s : State) : (s.count f).tagCount = s.tagCount := rfl
@[simp] theorem count_slots (f : Counters → Counters) (s : State) : (s.count f).slots = s.slots := rfl
@[simp] theorem count_signalWord (f : Counters → Counters) (s : State) : (s.count f).signalWord = s.signalWord := rfl
@[simp] theorem count_setters (f : Counters → Counters) (s : State) : (s.count f).setters = s.setters := rfl
@[simp] theorem count_buzzMasked (f : Counters → Counters) (s : State) : (s.count f).buzzMasked = s.buzzMasked := rfl
@[simp] theorem count_channels (f : Counters → Counters) (s : State) : (s.count f).channels = s.channels := rfl
@[simp] theorem count_talk (f : Counters → Counters) (s : State) : (s.count f).talk = s.talk := rfl
@[simp] theorem count_talkerLimit (f : Counters → Counters) (s : State) : (s.count f).talkerLimit = s.talkerLimit := rfl
@[simp] theorem count_localLevels (f : Counters → Counters) (s : State) : (s.count f).localLevels = s.localLevels := rfl
@[simp] theorem count_streams (f : Counters → Counters) (s : State) : (s.count f).streams = s.streams := rfl
@[simp] theorem count_masters (f : Counters → Counters) (s : State) : (s.count f).masters = s.masters := rfl
@[simp] theorem count_earpieceOut (f : Counters → Counters) (s : State) : (s.count f).earpieceOut = s.earpieceOut := rfl
@[simp] theorem count_speakerOut (f : Counters → Counters) (s : State) : (s.count f).speakerOut = s.speakerOut := rfl
@[simp] theorem count_lineOut (f : Counters → Counters) (s : State) : (s.count f).lineOut = s.lineOut := rfl
@[simp] theorem count_taps (f : Counters → Counters) (s : State) : (s.count f).taps = s.taps := rfl
@[simp] theorem count_recordingCount (f : Counters → Counters) (s : State) :
    (s.count f).recordingCount = s.recordingCount := rfl
@[simp] theorem count_ring (f : Counters → Counters) (s : State) : (s.count f).ring = s.ring := rfl
@[simp] theorem count_claimIndex (f : Counters → Counters) (s : State) : (s.count f).claimIndex = s.claimIndex := rfl
@[simp] theorem count_notices (f : Counters → Counters) (s : State) : (s.count f).notices = s.notices := rfl
@[simp] theorem count_overflow (f : Counters → Counters) (s : State) : (s.count f).overflow = s.overflow := rfl
@[simp] theorem count_eventMasked (f : Counters → Counters) (s : State) : (s.count f).eventMasked = s.eventMasked := rfl
@[simp] theorem count_marks (f : Counters → Counters) (s : State) : (s.count f).marks = s.marks := rfl
@[simp] theorem count_viewMasked (f : Counters → Counters) (s : State) : (s.count f).viewMasked = s.viewMasked := rfl
@[simp] theorem count_live (f : Counters → Counters) (s : State) : (s.count f).live = f s.live := rfl
@[simp] theorem count_snapshots (f : Counters → Counters) (s : State) : (s.count f).snapshots = s.snapshots := rfl
@[simp] theorem count_snapshotTime (f : Counters → Counters) (s : State) : (s.count f).snapshotTime = s.snapshotTime := rfl
@[simp] theorem count_monitorTimer (f : Counters → Counters) (s : State) : (s.count f).monitorTimer = s.monitorTimer := rfl
@[simp] theorem count_panelAnswer (f : Counters → Counters) (s : State) : (s.count f).panelAnswer = s.panelAnswer := rfl
@[simp] theorem count_recorderAnswer (f : Counters → Counters) (s : State) :
    (s.count f).recorderAnswer = s.recorderAnswer := rfl
@[simp] theorem count_pending (f : Counters → Counters) (s : State) : (s.count f).pending = s.pending := rfl

/-! ### answerPanel -/

@[simp] theorem answerPanel_stationTime (kind : Octet) (v : Verdict) (fields : List Octet) (s : State) :
    (s.answerPanel kind v fields).stationTime = s.stationTime := rfl
@[simp] theorem answerPanel_stationState (kind : Octet) (v : Verdict) (fields : List Octet) (s : State) :
    (s.answerPanel kind v fields).stationState = s.stationState := rfl
@[simp] theorem answerPanel_cfg (kind : Octet) (v : Verdict) (fields : List Octet) (s : State) :
    (s.answerPanel kind v fields).cfg = s.cfg := rfl
@[simp] theorem answerPanel_configClamps (kind : Octet) (v : Verdict) (fields : List Octet) (s : State) :
    (s.answerPanel kind v fields).configClamps = s.configClamps := rfl
@[simp] theorem answerPanel_listenTimer (kind : Octet) (v : Verdict) (fields : List Octet) (s : State) :
    (s.answerPanel kind v fields).listenTimer = s.listenTimer := rfl
@[simp] theorem answerPanel_carrier (kind : Octet) (v : Verdict) (fields : List Octet) (s : State) :
    (s.answerPanel kind v fields).carrier = s.carrier := rfl
@[simp] theorem answerPanel_txQueue (kind : Octet) (v : Verdict) (fields : List Octet) (s : State) :
    (s.answerPanel kind v fields).txQueue = s.txQueue := rfl
@[simp] theorem answerPanel_transmitting (kind : Octet) (v : Verdict) (fields : List Octet) (s : State) :
    (s.answerPanel kind v fields).transmitting = s.transmitting := rfl
@[simp] theorem answerPanel_mediumIdle (kind : Octet) (v : Verdict) (fields : List Octet) (s : State) :
    (s.answerPanel kind v fields).mediumIdle = s.mediumIdle := rfl
@[simp] theorem answerPanel_mediumLooks (kind : Octet) (v : Verdict) (fields : List Octet) (s : State) :
    (s.answerPanel kind v fields).mediumLooks = s.mediumLooks := rfl
@[simp] theorem answerPanel_clashWindow (kind : Octet) (v : Verdict) (fields : List Octet) (s : State) :
    (s.answerPanel kind v fields).clashWindow = s.clashWindow := rfl
@[simp] theorem answerPanel_beaconTimer (kind : Octet) (v : Verdict) (fields : List Octet) (s : State) :
    (s.answerPanel kind v fields).beaconTimer = s.beaconTimer := rfl
@[simp] theorem answerPanel_peers (kind : Octet) (v : Verdict) (fields : List Octet) (s : State) :
    (s.answerPanel kind v fields).peers = s.peers := rfl
@[simp] theorem answerPanel_sequences (kind : Octet) (v : Verdict) (fields : List Octet) (s : State) :
    (s.answerPanel kind v fields).sequences = s.sequences := rfl
@[simp] theorem answerPanel_ports (kind : Octet) (v : Verdict) (fields : List Octet) (s : State) :
    (s.answerPanel kind v fields).ports = s.ports := rfl
@[simp] theorem answerPanel_records (kind : Octet) (v : Verdict) (fields : List Octet) (s : State) :
    (s.answerPanel kind v fields).records = s.records := rfl
@[simp] theorem answerPanel_mirrors (kind : Octet) (v : Verdict) (fields : List Octet) (s : State) :
    (s.answerPanel kind v fields).mirrors = s.mirrors := rfl
@[simp] theorem answerPanel_handsets (kind : Octet) (v : Verdict) (fields : List Octet) (s : State) :
    (s.answerPanel kind v fields).handsets = s.handsets := rfl
@[simp] theorem answerPanel_held (kind : Octet) (v : Verdict) (fields : List Octet) (s : State) :
    (s.answerPanel kind v fields).held = s.held := rfl
@[simp] theorem answerPanel_pendingAsks (kind : Octet) (v : Verdict) (fields : List Octet) (s : State) :
    (s.answerPanel kind v fields).pendingAsks = s.pendingAsks := rfl
@[simp] theorem answerPanel_tagCount (kind : Octet) (v : Verdict) (fields : List Octet) (s : State) :
    (s.answerPanel kind v fields).tagCount = s.tagCount := rfl
@[simp] theorem answerPanel_slots (kind : Octet) (v : Verdict) (fields : List Octet) (s : State) :
    (s.answerPanel kind v fields).slots = s.slots := rfl
@[simp] theorem answerPanel_signalWord (kind : Octet) (v : Verdict) (fields : List Octet) (s : State) :
    (s.answerPanel kind v fields).signalWord = s.signalWord := rfl
@[simp] theorem answerPanel_setters (kind : Octet) (v : Verdict) (fields : List Octet) (s : State) :
    (s.answerPanel kind v fields).setters = s.setters := rfl
@[simp] theorem answerPanel_buzzMasked (kind : Octet) (v : Verdict) (fields : List Octet) (s : State) :
    (s.answerPanel kind v fields).buzzMasked = s.buzzMasked := rfl
@[simp] theorem answerPanel_channels (kind : Octet) (v : Verdict) (fields : List Octet) (s : State) :
    (s.answerPanel kind v fields).channels = s.channels := rfl
@[simp] theorem answerPanel_talk (kind : Octet) (v : Verdict) (fields : List Octet) (s : State) :
    (s.answerPanel kind v fields).talk = s.talk := rfl
@[simp] theorem answerPanel_talkerLimit (kind : Octet) (v : Verdict) (fields : List Octet) (s : State) :
    (s.answerPanel kind v fields).talkerLimit = s.talkerLimit := rfl
@[simp] theorem answerPanel_localLevels (kind : Octet) (v : Verdict) (fields : List Octet) (s : State) :
    (s.answerPanel kind v fields).localLevels = s.localLevels := rfl
@[simp] theorem answerPanel_streams (kind : Octet) (v : Verdict) (fields : List Octet) (s : State) :
    (s.answerPanel kind v fields).streams = s.streams := rfl
@[simp] theorem answerPanel_masters (kind : Octet) (v : Verdict) (fields : List Octet) (s : State) :
    (s.answerPanel kind v fields).masters = s.masters := rfl
@[simp] theorem answerPanel_earpieceOut (kind : Octet) (v : Verdict) (fields : List Octet) (s : State) :
    (s.answerPanel kind v fields).earpieceOut = s.earpieceOut := rfl
@[simp] theorem answerPanel_speakerOut (kind : Octet) (v : Verdict) (fields : List Octet) (s : State) :
    (s.answerPanel kind v fields).speakerOut = s.speakerOut := rfl
@[simp] theorem answerPanel_lineOut (kind : Octet) (v : Verdict) (fields : List Octet) (s : State) :
    (s.answerPanel kind v fields).lineOut = s.lineOut := rfl
@[simp] theorem answerPanel_taps (kind : Octet) (v : Verdict) (fields : List Octet) (s : State) :
    (s.answerPanel kind v fields).taps = s.taps := rfl
@[simp] theorem answerPanel_recordingCount (kind : Octet) (v : Verdict) (fields : List Octet) (s : State) :
    (s.answerPanel kind v fields).recordingCount = s.recordingCount := rfl
@[simp] theorem answerPanel_ring (kind : Octet) (v : Verdict) (fields : List Octet) (s : State) :
    (s.answerPanel kind v fields).ring = s.ring := rfl
@[simp] theorem answerPanel_claimIndex (kind : Octet) (v : Verdict) (fields : List Octet) (s : State) :
    (s.answerPanel kind v fields).claimIndex = s.claimIndex := rfl
@[simp] theorem answerPanel_notices (kind : Octet) (v : Verdict) (fields : List Octet) (s : State) :
    (s.answerPanel kind v fields).notices = s.notices := rfl
@[simp] theorem answerPanel_overflow (kind : Octet) (v : Verdict) (fields : List Octet) (s : State) :
    (s.answerPanel kind v fields).overflow = s.overflow := rfl
@[simp] theorem answerPanel_eventMasked (kind : Octet) (v : Verdict) (fields : List Octet) (s : State) :
    (s.answerPanel kind v fields).eventMasked = s.eventMasked := rfl
@[simp] theorem answerPanel_marks (kind : Octet) (v : Verdict) (fields : List Octet) (s : State) :
    (s.answerPanel kind v fields).marks = s.marks := rfl
@[simp] theorem answerPanel_viewMasked (kind : Octet) (v : Verdict) (fields : List Octet) (s : State) :
    (s.answerPanel kind v fields).viewMasked = s.viewMasked := rfl
@[simp] theorem answerPanel_live (kind : Octet) (v : Verdict) (fields : List Octet) (s : State) :
    (s.answerPanel kind v fields).live = s.live := rfl
@[simp] theorem answerPanel_snapshots (kind : Octet) (v : Verdict) (fields : List Octet) (s : State) :
    (s.answerPanel kind v fields).snapshots = s.snapshots := rfl
@[simp] theorem answerPanel_snapshotTime (kind : Octet) (v : Verdict) (fields : List Octet) (s : State) :
    (s.answerPanel kind v fields).snapshotTime = s.snapshotTime := rfl
@[simp] theorem answerPanel_monitorTimer (kind : Octet) (v : Verdict) (fields : List Octet) (s : State) :
    (s.answerPanel kind v fields).monitorTimer = s.monitorTimer := rfl
@[simp] theorem answerPanel_panelAnswer (kind : Octet) (v : Verdict) (fields : List Octet) (s : State) :
    (s.answerPanel kind v fields).panelAnswer = some ⟨kind, v, fields⟩ := rfl
@[simp] theorem answerPanel_recorderAnswer (kind : Octet) (v : Verdict) (fields : List Octet) (s : State) :
    (s.answerPanel kind v fields).recorderAnswer = s.recorderAnswer := rfl
@[simp] theorem answerPanel_pending (kind : Octet) (v : Verdict) (fields : List Octet) (s : State) :
    (s.answerPanel kind v fields).pending = s.pending := rfl

/-! ### answerRecorder -/

@[simp] theorem answerRecorder_stationTime (kind : Octet) (v : Verdict) (fields : List Octet) (s : State) :
    (s.answerRecorder kind v fields).stationTime = s.stationTime := rfl
@[simp] theorem answerRecorder_stationState (kind : Octet) (v : Verdict) (fields : List Octet) (s : State) :
    (s.answerRecorder kind v fields).stationState = s.stationState := rfl
@[simp] theorem answerRecorder_cfg (kind : Octet) (v : Verdict) (fields : List Octet) (s : State) :
    (s.answerRecorder kind v fields).cfg = s.cfg := rfl
@[simp] theorem answerRecorder_configClamps (kind : Octet) (v : Verdict) (fields : List Octet) (s : State) :
    (s.answerRecorder kind v fields).configClamps = s.configClamps := rfl
@[simp] theorem answerRecorder_listenTimer (kind : Octet) (v : Verdict) (fields : List Octet) (s : State) :
    (s.answerRecorder kind v fields).listenTimer = s.listenTimer := rfl
@[simp] theorem answerRecorder_carrier (kind : Octet) (v : Verdict) (fields : List Octet) (s : State) :
    (s.answerRecorder kind v fields).carrier = s.carrier := rfl
@[simp] theorem answerRecorder_txQueue (kind : Octet) (v : Verdict) (fields : List Octet) (s : State) :
    (s.answerRecorder kind v fields).txQueue = s.txQueue := rfl
@[simp] theorem answerRecorder_transmitting (kind : Octet) (v : Verdict) (fields : List Octet) (s : State) :
    (s.answerRecorder kind v fields).transmitting = s.transmitting := rfl
@[simp] theorem answerRecorder_mediumIdle (kind : Octet) (v : Verdict) (fields : List Octet) (s : State) :
    (s.answerRecorder kind v fields).mediumIdle = s.mediumIdle := rfl
@[simp] theorem answerRecorder_mediumLooks (kind : Octet) (v : Verdict) (fields : List Octet) (s : State) :
    (s.answerRecorder kind v fields).mediumLooks = s.mediumLooks := rfl
@[simp] theorem answerRecorder_clashWindow (kind : Octet) (v : Verdict) (fields : List Octet) (s : State) :
    (s.answerRecorder kind v fields).clashWindow = s.clashWindow := rfl
@[simp] theorem answerRecorder_beaconTimer (kind : Octet) (v : Verdict) (fields : List Octet) (s : State) :
    (s.answerRecorder kind v fields).beaconTimer = s.beaconTimer := rfl
@[simp] theorem answerRecorder_peers (kind : Octet) (v : Verdict) (fields : List Octet) (s : State) :
    (s.answerRecorder kind v fields).peers = s.peers := rfl
@[simp] theorem answerRecorder_sequences (kind : Octet) (v : Verdict) (fields : List Octet) (s : State) :
    (s.answerRecorder kind v fields).sequences = s.sequences := rfl
@[simp] theorem answerRecorder_ports (kind : Octet) (v : Verdict) (fields : List Octet) (s : State) :
    (s.answerRecorder kind v fields).ports = s.ports := rfl
@[simp] theorem answerRecorder_records (kind : Octet) (v : Verdict) (fields : List Octet) (s : State) :
    (s.answerRecorder kind v fields).records = s.records := rfl
@[simp] theorem answerRecorder_mirrors (kind : Octet) (v : Verdict) (fields : List Octet) (s : State) :
    (s.answerRecorder kind v fields).mirrors = s.mirrors := rfl
@[simp] theorem answerRecorder_handsets (kind : Octet) (v : Verdict) (fields : List Octet) (s : State) :
    (s.answerRecorder kind v fields).handsets = s.handsets := rfl
@[simp] theorem answerRecorder_held (kind : Octet) (v : Verdict) (fields : List Octet) (s : State) :
    (s.answerRecorder kind v fields).held = s.held := rfl
@[simp] theorem answerRecorder_pendingAsks (kind : Octet) (v : Verdict) (fields : List Octet) (s : State) :
    (s.answerRecorder kind v fields).pendingAsks = s.pendingAsks := rfl
@[simp] theorem answerRecorder_tagCount (kind : Octet) (v : Verdict) (fields : List Octet) (s : State) :
    (s.answerRecorder kind v fields).tagCount = s.tagCount := rfl
@[simp] theorem answerRecorder_slots (kind : Octet) (v : Verdict) (fields : List Octet) (s : State) :
    (s.answerRecorder kind v fields).slots = s.slots := rfl
@[simp] theorem answerRecorder_signalWord (kind : Octet) (v : Verdict) (fields : List Octet) (s : State) :
    (s.answerRecorder kind v fields).signalWord = s.signalWord := rfl
@[simp] theorem answerRecorder_setters (kind : Octet) (v : Verdict) (fields : List Octet) (s : State) :
    (s.answerRecorder kind v fields).setters = s.setters := rfl
@[simp] theorem answerRecorder_buzzMasked (kind : Octet) (v : Verdict) (fields : List Octet) (s : State) :
    (s.answerRecorder kind v fields).buzzMasked = s.buzzMasked := rfl
@[simp] theorem answerRecorder_channels (kind : Octet) (v : Verdict) (fields : List Octet) (s : State) :
    (s.answerRecorder kind v fields).channels = s.channels := rfl
@[simp] theorem answerRecorder_talk (kind : Octet) (v : Verdict) (fields : List Octet) (s : State) :
    (s.answerRecorder kind v fields).talk = s.talk := rfl
@[simp] theorem answerRecorder_talkerLimit (kind : Octet) (v : Verdict) (fields : List Octet) (s : State) :
    (s.answerRecorder kind v fields).talkerLimit = s.talkerLimit := rfl
@[simp] theorem answerRecorder_localLevels (kind : Octet) (v : Verdict) (fields : List Octet) (s : State) :
    (s.answerRecorder kind v fields).localLevels = s.localLevels := rfl
@[simp] theorem answerRecorder_streams (kind : Octet) (v : Verdict) (fields : List Octet) (s : State) :
    (s.answerRecorder kind v fields).streams = s.streams := rfl
@[simp] theorem answerRecorder_masters (kind : Octet) (v : Verdict) (fields : List Octet) (s : State) :
    (s.answerRecorder kind v fields).masters = s.masters := rfl
@[simp] theorem answerRecorder_earpieceOut (kind : Octet) (v : Verdict) (fields : List Octet) (s : State) :
    (s.answerRecorder kind v fields).earpieceOut = s.earpieceOut := rfl
@[simp] theorem answerRecorder_speakerOut (kind : Octet) (v : Verdict) (fields : List Octet) (s : State) :
    (s.answerRecorder kind v fields).speakerOut = s.speakerOut := rfl
@[simp] theorem answerRecorder_lineOut (kind : Octet) (v : Verdict) (fields : List Octet) (s : State) :
    (s.answerRecorder kind v fields).lineOut = s.lineOut := rfl
@[simp] theorem answerRecorder_taps (kind : Octet) (v : Verdict) (fields : List Octet) (s : State) :
    (s.answerRecorder kind v fields).taps = s.taps := rfl
@[simp] theorem answerRecorder_recordingCount (kind : Octet) (v : Verdict) (fields : List Octet) (s : State) :
    (s.answerRecorder kind v fields).recordingCount = s.recordingCount := rfl
@[simp] theorem answerRecorder_ring (kind : Octet) (v : Verdict) (fields : List Octet) (s : State) :
    (s.answerRecorder kind v fields).ring = s.ring := rfl
@[simp] theorem answerRecorder_claimIndex (kind : Octet) (v : Verdict) (fields : List Octet) (s : State) :
    (s.answerRecorder kind v fields).claimIndex = s.claimIndex := rfl
@[simp] theorem answerRecorder_notices (kind : Octet) (v : Verdict) (fields : List Octet) (s : State) :
    (s.answerRecorder kind v fields).notices = s.notices := rfl
@[simp] theorem answerRecorder_overflow (kind : Octet) (v : Verdict) (fields : List Octet) (s : State) :
    (s.answerRecorder kind v fields).overflow = s.overflow := rfl
@[simp] theorem answerRecorder_eventMasked (kind : Octet) (v : Verdict) (fields : List Octet) (s : State) :
    (s.answerRecorder kind v fields).eventMasked = s.eventMasked := rfl
@[simp] theorem answerRecorder_marks (kind : Octet) (v : Verdict) (fields : List Octet) (s : State) :
    (s.answerRecorder kind v fields).marks = s.marks := rfl
@[simp] theorem answerRecorder_viewMasked (kind : Octet) (v : Verdict) (fields : List Octet) (s : State) :
    (s.answerRecorder kind v fields).viewMasked = s.viewMasked := rfl
@[simp] theorem answerRecorder_live (kind : Octet) (v : Verdict) (fields : List Octet) (s : State) :
    (s.answerRecorder kind v fields).live = s.live := rfl
@[simp] theorem answerRecorder_snapshots (kind : Octet) (v : Verdict) (fields : List Octet) (s : State) :
    (s.answerRecorder kind v fields).snapshots = s.snapshots := rfl
@[simp] theorem answerRecorder_snapshotTime (kind : Octet) (v : Verdict) (fields : List Octet) (s : State) :
    (s.answerRecorder kind v fields).snapshotTime = s.snapshotTime := rfl
@[simp] theorem answerRecorder_monitorTimer (kind : Octet) (v : Verdict) (fields : List Octet) (s : State) :
    (s.answerRecorder kind v fields).monitorTimer = s.monitorTimer := rfl
@[simp] theorem answerRecorder_panelAnswer (kind : Octet) (v : Verdict) (fields : List Octet) (s : State) :
    (s.answerRecorder kind v fields).panelAnswer = s.panelAnswer := rfl
@[simp] theorem answerRecorder_recorderAnswer (kind : Octet) (v : Verdict) (fields : List Octet) (s : State) :
    (s.answerRecorder kind v fields).recorderAnswer = some ⟨kind, v, fields⟩ := rfl
@[simp] theorem answerRecorder_pending (kind : Octet) (v : Verdict) (fields : List Octet) (s : State) :
    (s.answerRecorder kind v fields).pending = s.pending := rfl

/-! ### dropSequence -/

@[simp] theorem dropSequence_stationTime (c : Circuit) (p : Port) (s : State) :
    (s.dropSequence c p).stationTime = s.stationTime := rfl
@[simp] theorem dropSequence_stationState (c : Circuit) (p : Port) (s : State) :
    (s.dropSequence c p).stationState = s.stationState := rfl
@[simp] theorem dropSequence_cfg (c : Circuit) (p : Port) (s : State) : (s.dropSequence c p).cfg = s.cfg := rfl
@[simp] theorem dropSequence_configClamps (c : Circuit) (p : Port) (s : State) :
    (s.dropSequence c p).configClamps = s.configClamps := rfl
@[simp] theorem dropSequence_listenTimer (c : Circuit) (p : Port) (s : State) :
    (s.dropSequence c p).listenTimer = s.listenTimer := rfl
@[simp] theorem dropSequence_carrier (c : Circuit) (p : Port) (s : State) : (s.dropSequence c p).carrier = s.carrier := rfl
@[simp] theorem dropSequence_txQueue (c : Circuit) (p : Port) (s : State) : (s.dropSequence c p).txQueue = s.txQueue := rfl
@[simp] theorem dropSequence_transmitting (c : Circuit) (p : Port) (s : State) :
    (s.dropSequence c p).transmitting = s.transmitting := rfl
@[simp] theorem dropSequence_mediumIdle (c : Circuit) (p : Port) (s : State) :
    (s.dropSequence c p).mediumIdle = s.mediumIdle := rfl
@[simp] theorem dropSequence_mediumLooks (c : Circuit) (p : Port) (s : State) :
    (s.dropSequence c p).mediumLooks = s.mediumLooks := rfl
@[simp] theorem dropSequence_clashWindow (c : Circuit) (p : Port) (s : State) :
    (s.dropSequence c p).clashWindow = s.clashWindow := rfl
@[simp] theorem dropSequence_beaconTimer (c : Circuit) (p : Port) (s : State) :
    (s.dropSequence c p).beaconTimer = s.beaconTimer := rfl
@[simp] theorem dropSequence_peers (c : Circuit) (p : Port) (s : State) : (s.dropSequence c p).peers = s.peers := rfl
@[simp] theorem dropSequence_sequences (c : Circuit) (p : Port) (s : State) :
    (s.dropSequence c p).sequences = s.sequences.filter fun q => !(q.circuit == c && q.port == p) := rfl
@[simp] theorem dropSequence_ports (c : Circuit) (p : Port) (s : State) : (s.dropSequence c p).ports = s.ports := rfl
@[simp] theorem dropSequence_records (c : Circuit) (p : Port) (s : State) : (s.dropSequence c p).records = s.records := rfl
@[simp] theorem dropSequence_mirrors (c : Circuit) (p : Port) (s : State) : (s.dropSequence c p).mirrors = s.mirrors := rfl
@[simp] theorem dropSequence_handsets (c : Circuit) (p : Port) (s : State) :
    (s.dropSequence c p).handsets = s.handsets := rfl
@[simp] theorem dropSequence_held (c : Circuit) (p : Port) (s : State) : (s.dropSequence c p).held = s.held := rfl
@[simp] theorem dropSequence_pendingAsks (c : Circuit) (p : Port) (s : State) :
    (s.dropSequence c p).pendingAsks = s.pendingAsks := rfl
@[simp] theorem dropSequence_tagCount (c : Circuit) (p : Port) (s : State) :
    (s.dropSequence c p).tagCount = s.tagCount := rfl
@[simp] theorem dropSequence_slots (c : Circuit) (p : Port) (s : State) : (s.dropSequence c p).slots = s.slots := rfl
@[simp] theorem dropSequence_signalWord (c : Circuit) (p : Port) (s : State) :
    (s.dropSequence c p).signalWord = s.signalWord := rfl
@[simp] theorem dropSequence_setters (c : Circuit) (p : Port) (s : State) : (s.dropSequence c p).setters = s.setters := rfl
@[simp] theorem dropSequence_buzzMasked (c : Circuit) (p : Port) (s : State) :
    (s.dropSequence c p).buzzMasked = s.buzzMasked := rfl
@[simp] theorem dropSequence_channels (c : Circuit) (p : Port) (s : State) :
    (s.dropSequence c p).channels = s.channels := rfl
@[simp] theorem dropSequence_talk (c : Circuit) (p : Port) (s : State) : (s.dropSequence c p).talk = s.talk := rfl
@[simp] theorem dropSequence_talkerLimit (c : Circuit) (p : Port) (s : State) :
    (s.dropSequence c p).talkerLimit = s.talkerLimit := rfl
@[simp] theorem dropSequence_localLevels (c : Circuit) (p : Port) (s : State) :
    (s.dropSequence c p).localLevels = s.localLevels := rfl
@[simp] theorem dropSequence_streams (c : Circuit) (p : Port) (s : State) : (s.dropSequence c p).streams = s.streams := rfl
@[simp] theorem dropSequence_masters (c : Circuit) (p : Port) (s : State) : (s.dropSequence c p).masters = s.masters := rfl
@[simp] theorem dropSequence_earpieceOut (c : Circuit) (p : Port) (s : State) :
    (s.dropSequence c p).earpieceOut = s.earpieceOut := rfl
@[simp] theorem dropSequence_speakerOut (c : Circuit) (p : Port) (s : State) :
    (s.dropSequence c p).speakerOut = s.speakerOut := rfl
@[simp] theorem dropSequence_lineOut (c : Circuit) (p : Port) (s : State) : (s.dropSequence c p).lineOut = s.lineOut := rfl
@[simp] theorem dropSequence_taps (c : Circuit) (p : Port) (s : State) : (s.dropSequence c p).taps = s.taps := rfl
@[simp] theorem dropSequence_recordingCount (c : Circuit) (p : Port) (s : State) :
    (s.dropSequence c p).recordingCount = s.recordingCount := rfl
@[simp] theorem dropSequence_ring (c : Circuit) (p : Port) (s : State) : (s.dropSequence c p).ring = s.ring := rfl
@[simp] theorem dropSequence_claimIndex (c : Circuit) (p : Port) (s : State) :
    (s.dropSequence c p).claimIndex = s.claimIndex := rfl
@[simp] theorem dropSequence_notices (c : Circuit) (p : Port) (s : State) : (s.dropSequence c p).notices = s.notices := rfl
@[simp] theorem dropSequence_overflow (c : Circuit) (p : Port) (s : State) :
    (s.dropSequence c p).overflow = s.overflow := rfl
@[simp] theorem dropSequence_eventMasked (c : Circuit) (p : Port) (s : State) :
    (s.dropSequence c p).eventMasked = s.eventMasked := rfl
@[simp] theorem dropSequence_marks (c : Circuit) (p : Port) (s : State) : (s.dropSequence c p).marks = s.marks := rfl
@[simp] theorem dropSequence_viewMasked (c : Circuit) (p : Port) (s : State) :
    (s.dropSequence c p).viewMasked = s.viewMasked := rfl
@[simp] theorem dropSequence_live (c : Circuit) (p : Port) (s : State) : (s.dropSequence c p).live = s.live := rfl
@[simp] theorem dropSequence_snapshots (c : Circuit) (p : Port) (s : State) :
    (s.dropSequence c p).snapshots = s.snapshots := rfl
@[simp] theorem dropSequence_snapshotTime (c : Circuit) (p : Port) (s : State) :
    (s.dropSequence c p).snapshotTime = s.snapshotTime := rfl
@[simp] theorem dropSequence_monitorTimer (c : Circuit) (p : Port) (s : State) :
    (s.dropSequence c p).monitorTimer = s.monitorTimer := rfl
@[simp] theorem dropSequence_panelAnswer (c : Circuit) (p : Port) (s : State) :
    (s.dropSequence c p).panelAnswer = s.panelAnswer := rfl
@[simp] theorem dropSequence_recorderAnswer (c : Circuit) (p : Port) (s : State) :
    (s.dropSequence c p).recorderAnswer = s.recorderAnswer := rfl
@[simp] theorem dropSequence_pending (c : Circuit) (p : Port) (s : State) : (s.dropSequence c p).pending = s.pending := rfl

/-! ### takeTag -/

@[simp] theorem takeTag_stationTime (s : State) : (s.takeTag).stationTime = s.stationTime := rfl
@[simp] theorem takeTag_stationState (s : State) : (s.takeTag).stationState = s.stationState := rfl
@[simp] theorem takeTag_cfg (s : State) : (s.takeTag).cfg = s.cfg := rfl
@[simp] theorem takeTag_configClamps (s : State) : (s.takeTag).configClamps = s.configClamps := rfl
@[simp] theorem takeTag_listenTimer (s : State) : (s.takeTag).listenTimer = s.listenTimer := rfl
@[simp] theorem takeTag_carrier (s : State) : (s.takeTag).carrier = s.carrier := rfl
@[simp] theorem takeTag_txQueue (s : State) : (s.takeTag).txQueue = s.txQueue := rfl
@[simp] theorem takeTag_transmitting (s : State) : (s.takeTag).transmitting = s.transmitting := rfl
@[simp] theorem takeTag_mediumIdle (s : State) : (s.takeTag).mediumIdle = s.mediumIdle := rfl
@[simp] theorem takeTag_mediumLooks (s : State) : (s.takeTag).mediumLooks = s.mediumLooks := rfl
@[simp] theorem takeTag_clashWindow (s : State) : (s.takeTag).clashWindow = s.clashWindow := rfl
@[simp] theorem takeTag_beaconTimer (s : State) : (s.takeTag).beaconTimer = s.beaconTimer := rfl
@[simp] theorem takeTag_peers (s : State) : (s.takeTag).peers = s.peers := rfl
@[simp] theorem takeTag_sequences (s : State) : (s.takeTag).sequences = s.sequences := rfl
@[simp] theorem takeTag_ports (s : State) : (s.takeTag).ports = s.ports := rfl
@[simp] theorem takeTag_records (s : State) : (s.takeTag).records = s.records := rfl
@[simp] theorem takeTag_mirrors (s : State) : (s.takeTag).mirrors = s.mirrors := rfl
@[simp] theorem takeTag_handsets (s : State) : (s.takeTag).handsets = s.handsets := rfl
@[simp] theorem takeTag_held (s : State) : (s.takeTag).held = s.held := rfl
@[simp] theorem takeTag_pendingAsks (s : State) : (s.takeTag).pendingAsks = s.pendingAsks := rfl
@[simp] theorem takeTag_tagCount (s : State) : (s.takeTag).tagCount = s.nextTag + 1#8 := rfl
@[simp] theorem takeTag_slots (s : State) : (s.takeTag).slots = s.slots := rfl
@[simp] theorem takeTag_signalWord (s : State) : (s.takeTag).signalWord = s.signalWord := rfl
@[simp] theorem takeTag_setters (s : State) : (s.takeTag).setters = s.setters := rfl
@[simp] theorem takeTag_buzzMasked (s : State) : (s.takeTag).buzzMasked = s.buzzMasked := rfl
@[simp] theorem takeTag_channels (s : State) : (s.takeTag).channels = s.channels := rfl
@[simp] theorem takeTag_talk (s : State) : (s.takeTag).talk = s.talk := rfl
@[simp] theorem takeTag_talkerLimit (s : State) : (s.takeTag).talkerLimit = s.talkerLimit := rfl
@[simp] theorem takeTag_localLevels (s : State) : (s.takeTag).localLevels = s.localLevels := rfl
@[simp] theorem takeTag_streams (s : State) : (s.takeTag).streams = s.streams := rfl
@[simp] theorem takeTag_masters (s : State) : (s.takeTag).masters = s.masters := rfl
@[simp] theorem takeTag_earpieceOut (s : State) : (s.takeTag).earpieceOut = s.earpieceOut := rfl
@[simp] theorem takeTag_speakerOut (s : State) : (s.takeTag).speakerOut = s.speakerOut := rfl
@[simp] theorem takeTag_lineOut (s : State) : (s.takeTag).lineOut = s.lineOut := rfl
@[simp] theorem takeTag_taps (s : State) : (s.takeTag).taps = s.taps := rfl
@[simp] theorem takeTag_recordingCount (s : State) : (s.takeTag).recordingCount = s.recordingCount := rfl
@[simp] theorem takeTag_ring (s : State) : (s.takeTag).ring = s.ring := rfl
@[simp] theorem takeTag_claimIndex (s : State) : (s.takeTag).claimIndex = s.claimIndex := rfl
@[simp] theorem takeTag_notices (s : State) : (s.takeTag).notices = s.notices := rfl
@[simp] theorem takeTag_overflow (s : State) : (s.takeTag).overflow = s.overflow := rfl
@[simp] theorem takeTag_eventMasked (s : State) : (s.takeTag).eventMasked = s.eventMasked := rfl
@[simp] theorem takeTag_marks (s : State) : (s.takeTag).marks = s.marks := rfl
@[simp] theorem takeTag_viewMasked (s : State) : (s.takeTag).viewMasked = s.viewMasked := rfl
@[simp] theorem takeTag_live (s : State) : (s.takeTag).live = s.live := rfl
@[simp] theorem takeTag_snapshots (s : State) : (s.takeTag).snapshots = s.snapshots := rfl
@[simp] theorem takeTag_snapshotTime (s : State) : (s.takeTag).snapshotTime = s.snapshotTime := rfl
@[simp] theorem takeTag_monitorTimer (s : State) : (s.takeTag).monitorTimer = s.monitorTimer := rfl
@[simp] theorem takeTag_panelAnswer (s : State) : (s.takeTag).panelAnswer = s.panelAnswer := rfl
@[simp] theorem takeTag_recorderAnswer (s : State) : (s.takeTag).recorderAnswer = s.recorderAnswer := rfl
@[simp] theorem takeTag_pending (s : State) : (s.takeTag).pending = s.pending := rfl

/-! ### setWaiting -/

@[simp] theorem setWaiting_stationTime (q : List TxEntry) (s : State) : (s.setWaiting q).stationTime = s.stationTime := rfl
@[simp] theorem setWaiting_stationState (q : List TxEntry) (s : State) :
    (s.setWaiting q).stationState = s.stationState := rfl
@[simp] theorem setWaiting_cfg (q : List TxEntry) (s : State) : (s.setWaiting q).cfg = s.cfg := rfl
@[simp] theorem setWaiting_configClamps (q : List TxEntry) (s : State) :
    (s.setWaiting q).configClamps = s.configClamps := rfl
@[simp] theorem setWaiting_listenTimer (q : List TxEntry) (s : State) : (s.setWaiting q).listenTimer = s.listenTimer := rfl
@[simp] theorem setWaiting_carrier (q : List TxEntry) (s : State) : (s.setWaiting q).carrier = s.carrier := rfl
@[simp] theorem setWaiting_txQueue (q : List TxEntry) (s : State) : (s.setWaiting q).txQueue = s.inTransmission ++ q := rfl
@[simp] theorem setWaiting_transmitting (q : List TxEntry) (s : State) :
    (s.setWaiting q).transmitting = s.transmitting := rfl
@[simp] theorem setWaiting_mediumIdle (q : List TxEntry) (s : State) : (s.setWaiting q).mediumIdle = s.mediumIdle := rfl
@[simp] theorem setWaiting_mediumLooks (q : List TxEntry) (s : State) : (s.setWaiting q).mediumLooks = s.mediumLooks := rfl
@[simp] theorem setWaiting_clashWindow (q : List TxEntry) (s : State) : (s.setWaiting q).clashWindow = s.clashWindow := rfl
@[simp] theorem setWaiting_beaconTimer (q : List TxEntry) (s : State) : (s.setWaiting q).beaconTimer = s.beaconTimer := rfl
@[simp] theorem setWaiting_peers (q : List TxEntry) (s : State) : (s.setWaiting q).peers = s.peers := rfl
@[simp] theorem setWaiting_sequences (q : List TxEntry) (s : State) : (s.setWaiting q).sequences = s.sequences := rfl
@[simp] theorem setWaiting_ports (q : List TxEntry) (s : State) : (s.setWaiting q).ports = s.ports := rfl
@[simp] theorem setWaiting_records (q : List TxEntry) (s : State) : (s.setWaiting q).records = s.records := rfl
@[simp] theorem setWaiting_mirrors (q : List TxEntry) (s : State) : (s.setWaiting q).mirrors = s.mirrors := rfl
@[simp] theorem setWaiting_handsets (q : List TxEntry) (s : State) : (s.setWaiting q).handsets = s.handsets := rfl
@[simp] theorem setWaiting_held (q : List TxEntry) (s : State) : (s.setWaiting q).held = s.held := rfl
@[simp] theorem setWaiting_pendingAsks (q : List TxEntry) (s : State) : (s.setWaiting q).pendingAsks = s.pendingAsks := rfl
@[simp] theorem setWaiting_tagCount (q : List TxEntry) (s : State) : (s.setWaiting q).tagCount = s.tagCount := rfl
@[simp] theorem setWaiting_slots (q : List TxEntry) (s : State) : (s.setWaiting q).slots = s.slots := rfl
@[simp] theorem setWaiting_signalWord (q : List TxEntry) (s : State) : (s.setWaiting q).signalWord = s.signalWord := rfl
@[simp] theorem setWaiting_setters (q : List TxEntry) (s : State) : (s.setWaiting q).setters = s.setters := rfl
@[simp] theorem setWaiting_buzzMasked (q : List TxEntry) (s : State) : (s.setWaiting q).buzzMasked = s.buzzMasked := rfl
@[simp] theorem setWaiting_channels (q : List TxEntry) (s : State) : (s.setWaiting q).channels = s.channels := rfl
@[simp] theorem setWaiting_talk (q : List TxEntry) (s : State) : (s.setWaiting q).talk = s.talk := rfl
@[simp] theorem setWaiting_talkerLimit (q : List TxEntry) (s : State) : (s.setWaiting q).talkerLimit = s.talkerLimit := rfl
@[simp] theorem setWaiting_localLevels (q : List TxEntry) (s : State) : (s.setWaiting q).localLevels = s.localLevels := rfl
@[simp] theorem setWaiting_streams (q : List TxEntry) (s : State) : (s.setWaiting q).streams = s.streams := rfl
@[simp] theorem setWaiting_masters (q : List TxEntry) (s : State) : (s.setWaiting q).masters = s.masters := rfl
@[simp] theorem setWaiting_earpieceOut (q : List TxEntry) (s : State) : (s.setWaiting q).earpieceOut = s.earpieceOut := rfl
@[simp] theorem setWaiting_speakerOut (q : List TxEntry) (s : State) : (s.setWaiting q).speakerOut = s.speakerOut := rfl
@[simp] theorem setWaiting_lineOut (q : List TxEntry) (s : State) : (s.setWaiting q).lineOut = s.lineOut := rfl
@[simp] theorem setWaiting_taps (q : List TxEntry) (s : State) : (s.setWaiting q).taps = s.taps := rfl
@[simp] theorem setWaiting_recordingCount (q : List TxEntry) (s : State) :
    (s.setWaiting q).recordingCount = s.recordingCount := rfl
@[simp] theorem setWaiting_ring (q : List TxEntry) (s : State) : (s.setWaiting q).ring = s.ring := rfl
@[simp] theorem setWaiting_claimIndex (q : List TxEntry) (s : State) : (s.setWaiting q).claimIndex = s.claimIndex := rfl
@[simp] theorem setWaiting_notices (q : List TxEntry) (s : State) : (s.setWaiting q).notices = s.notices := rfl
@[simp] theorem setWaiting_overflow (q : List TxEntry) (s : State) : (s.setWaiting q).overflow = s.overflow := rfl
@[simp] theorem setWaiting_eventMasked (q : List TxEntry) (s : State) : (s.setWaiting q).eventMasked = s.eventMasked := rfl
@[simp] theorem setWaiting_marks (q : List TxEntry) (s : State) : (s.setWaiting q).marks = s.marks := rfl
@[simp] theorem setWaiting_viewMasked (q : List TxEntry) (s : State) : (s.setWaiting q).viewMasked = s.viewMasked := rfl
@[simp] theorem setWaiting_live (q : List TxEntry) (s : State) : (s.setWaiting q).live = s.live := rfl
@[simp] theorem setWaiting_snapshots (q : List TxEntry) (s : State) : (s.setWaiting q).snapshots = s.snapshots := rfl
@[simp] theorem setWaiting_snapshotTime (q : List TxEntry) (s : State) :
    (s.setWaiting q).snapshotTime = s.snapshotTime := rfl
@[simp] theorem setWaiting_monitorTimer (q : List TxEntry) (s : State) :
    (s.setWaiting q).monitorTimer = s.monitorTimer := rfl
@[simp] theorem setWaiting_panelAnswer (q : List TxEntry) (s : State) : (s.setWaiting q).panelAnswer = s.panelAnswer := rfl
@[simp] theorem setWaiting_recorderAnswer (q : List TxEntry) (s : State) :
    (s.setWaiting q).recorderAnswer = s.recorderAnswer := rfl
@[simp] theorem setWaiting_pending (q : List TxEntry) (s : State) : (s.setWaiting q).pending = s.pending := rfl

/-! ### beginFrame -/

@[simp] theorem beginFrame_stationTime (s : State) : (s.beginFrame).stationTime = s.stationTime := rfl
@[simp] theorem beginFrame_stationState (s : State) : (s.beginFrame).stationState = s.stationState := rfl
@[simp] theorem beginFrame_cfg (s : State) : (s.beginFrame).cfg = s.cfg := rfl
@[simp] theorem beginFrame_configClamps (s : State) : (s.beginFrame).configClamps = s.configClamps := rfl
@[simp] theorem beginFrame_listenTimer (s : State) : (s.beginFrame).listenTimer = s.listenTimer := rfl
@[simp] theorem beginFrame_carrier (s : State) : (s.beginFrame).carrier = s.carrier := rfl
@[simp] theorem beginFrame_txQueue (s : State) : (s.beginFrame).txQueue = s.txQueue := rfl
@[simp] theorem beginFrame_transmitting (s : State) : (s.beginFrame).transmitting = true := rfl
@[simp] theorem beginFrame_mediumIdle (s : State) : (s.beginFrame).mediumIdle = false := rfl
@[simp] theorem beginFrame_mediumLooks (s : State) : (s.beginFrame).mediumLooks = s.mediumLooks := rfl
@[simp] theorem beginFrame_clashWindow (s : State) : (s.beginFrame).clashWindow = s.clashWindow := rfl
@[simp] theorem beginFrame_beaconTimer (s : State) : (s.beginFrame).beaconTimer = s.beaconTimer := rfl
@[simp] theorem beginFrame_peers (s : State) : (s.beginFrame).peers = s.peers := rfl
@[simp] theorem beginFrame_sequences (s : State) : (s.beginFrame).sequences = s.sequences := rfl
@[simp] theorem beginFrame_ports (s : State) : (s.beginFrame).ports = s.ports := rfl
@[simp] theorem beginFrame_records (s : State) : (s.beginFrame).records = s.records := rfl
@[simp] theorem beginFrame_mirrors (s : State) : (s.beginFrame).mirrors = s.mirrors := rfl
@[simp] theorem beginFrame_handsets (s : State) : (s.beginFrame).handsets = s.handsets := rfl
@[simp] theorem beginFrame_held (s : State) : (s.beginFrame).held = s.held := rfl
@[simp] theorem beginFrame_pendingAsks (s : State) : (s.beginFrame).pendingAsks = s.pendingAsks := rfl
@[simp] theorem beginFrame_tagCount (s : State) : (s.beginFrame).tagCount = s.tagCount := rfl
@[simp] theorem beginFrame_slots (s : State) : (s.beginFrame).slots = s.slots := rfl
@[simp] theorem beginFrame_signalWord (s : State) : (s.beginFrame).signalWord = s.signalWord := rfl
@[simp] theorem beginFrame_setters (s : State) : (s.beginFrame).setters = s.setters := rfl
@[simp] theorem beginFrame_buzzMasked (s : State) : (s.beginFrame).buzzMasked = s.buzzMasked := rfl
@[simp] theorem beginFrame_channels (s : State) : (s.beginFrame).channels = s.channels := rfl
@[simp] theorem beginFrame_talk (s : State) : (s.beginFrame).talk = s.talk := rfl
@[simp] theorem beginFrame_talkerLimit (s : State) : (s.beginFrame).talkerLimit = s.talkerLimit := rfl
@[simp] theorem beginFrame_localLevels (s : State) : (s.beginFrame).localLevels = s.localLevels := rfl
@[simp] theorem beginFrame_streams (s : State) : (s.beginFrame).streams = s.streams := rfl
@[simp] theorem beginFrame_masters (s : State) : (s.beginFrame).masters = s.masters := rfl
@[simp] theorem beginFrame_earpieceOut (s : State) : (s.beginFrame).earpieceOut = s.earpieceOut := rfl
@[simp] theorem beginFrame_speakerOut (s : State) : (s.beginFrame).speakerOut = s.speakerOut := rfl
@[simp] theorem beginFrame_lineOut (s : State) : (s.beginFrame).lineOut = s.lineOut := rfl
@[simp] theorem beginFrame_taps (s : State) : (s.beginFrame).taps = s.taps := rfl
@[simp] theorem beginFrame_recordingCount (s : State) : (s.beginFrame).recordingCount = s.recordingCount := rfl
@[simp] theorem beginFrame_ring (s : State) : (s.beginFrame).ring = s.ring := rfl
@[simp] theorem beginFrame_claimIndex (s : State) : (s.beginFrame).claimIndex = s.claimIndex := rfl
@[simp] theorem beginFrame_notices (s : State) : (s.beginFrame).notices = s.notices := rfl
@[simp] theorem beginFrame_overflow (s : State) : (s.beginFrame).overflow = s.overflow := rfl
@[simp] theorem beginFrame_eventMasked (s : State) : (s.beginFrame).eventMasked = s.eventMasked := rfl
@[simp] theorem beginFrame_marks (s : State) : (s.beginFrame).marks = s.marks := rfl
@[simp] theorem beginFrame_viewMasked (s : State) : (s.beginFrame).viewMasked = s.viewMasked := rfl
@[simp] theorem beginFrame_live (s : State) : (s.beginFrame).live = s.live := rfl
@[simp] theorem beginFrame_snapshots (s : State) : (s.beginFrame).snapshots = s.snapshots := rfl
@[simp] theorem beginFrame_snapshotTime (s : State) : (s.beginFrame).snapshotTime = s.snapshotTime := rfl
@[simp] theorem beginFrame_monitorTimer (s : State) : (s.beginFrame).monitorTimer = s.monitorTimer := rfl
@[simp] theorem beginFrame_panelAnswer (s : State) : (s.beginFrame).panelAnswer = s.panelAnswer := rfl
@[simp] theorem beginFrame_recorderAnswer (s : State) : (s.beginFrame).recorderAnswer = s.recorderAnswer := rfl
@[simp] theorem beginFrame_pending (s : State) : (s.beginFrame).pending = s.pending := rfl

/-! ### findBusy -/

@[simp] theorem findBusy_stationTime (s : State) : (s.findBusy).stationTime = s.stationTime := rfl
@[simp] theorem findBusy_stationState (s : State) : (s.findBusy).stationState = s.stationState := rfl
@[simp] theorem findBusy_cfg (s : State) : (s.findBusy).cfg = s.cfg := rfl
@[simp] theorem findBusy_configClamps (s : State) : (s.findBusy).configClamps = s.configClamps := rfl
@[simp] theorem findBusy_listenTimer (s : State) : (s.findBusy).listenTimer = s.listenTimer := rfl
@[simp] theorem findBusy_carrier (s : State) : (s.findBusy).carrier = s.carrier := rfl
@[simp] theorem findBusy_txQueue (s : State) : (s.findBusy).txQueue = s.txQueue := rfl
@[simp] theorem findBusy_transmitting (s : State) : (s.findBusy).transmitting = s.transmitting := rfl
@[simp] theorem findBusy_mediumIdle (s : State) : (s.findBusy).mediumIdle = false := rfl
@[simp] theorem findBusy_mediumLooks (s : State) : (s.findBusy).mediumLooks = s.mediumLooks := rfl
@[simp] theorem findBusy_clashWindow (s : State) : (s.findBusy).clashWindow = s.clashWindow := rfl
@[simp] theorem findBusy_beaconTimer (s : State) : (s.findBusy).beaconTimer = s.beaconTimer := rfl
@[simp] theorem findBusy_peers (s : State) : (s.findBusy).peers = s.peers := rfl
@[simp] theorem findBusy_sequences (s : State) : (s.findBusy).sequences = s.sequences := rfl
@[simp] theorem findBusy_ports (s : State) : (s.findBusy).ports = s.ports := rfl
@[simp] theorem findBusy_records (s : State) : (s.findBusy).records = s.records := rfl
@[simp] theorem findBusy_mirrors (s : State) : (s.findBusy).mirrors = s.mirrors := rfl
@[simp] theorem findBusy_handsets (s : State) : (s.findBusy).handsets = s.handsets := rfl
@[simp] theorem findBusy_held (s : State) : (s.findBusy).held = s.held := rfl
@[simp] theorem findBusy_pendingAsks (s : State) : (s.findBusy).pendingAsks = s.pendingAsks := rfl
@[simp] theorem findBusy_tagCount (s : State) : (s.findBusy).tagCount = s.tagCount := rfl
@[simp] theorem findBusy_slots (s : State) : (s.findBusy).slots = s.slots := rfl
@[simp] theorem findBusy_signalWord (s : State) : (s.findBusy).signalWord = s.signalWord := rfl
@[simp] theorem findBusy_setters (s : State) : (s.findBusy).setters = s.setters := rfl
@[simp] theorem findBusy_buzzMasked (s : State) : (s.findBusy).buzzMasked = s.buzzMasked := rfl
@[simp] theorem findBusy_channels (s : State) : (s.findBusy).channels = s.channels := rfl
@[simp] theorem findBusy_talk (s : State) : (s.findBusy).talk = s.talk := rfl
@[simp] theorem findBusy_talkerLimit (s : State) : (s.findBusy).talkerLimit = s.talkerLimit := rfl
@[simp] theorem findBusy_localLevels (s : State) : (s.findBusy).localLevels = s.localLevels := rfl
@[simp] theorem findBusy_streams (s : State) : (s.findBusy).streams = s.streams := rfl
@[simp] theorem findBusy_masters (s : State) : (s.findBusy).masters = s.masters := rfl
@[simp] theorem findBusy_earpieceOut (s : State) : (s.findBusy).earpieceOut = s.earpieceOut := rfl
@[simp] theorem findBusy_speakerOut (s : State) : (s.findBusy).speakerOut = s.speakerOut := rfl
@[simp] theorem findBusy_lineOut (s : State) : (s.findBusy).lineOut = s.lineOut := rfl
@[simp] theorem findBusy_taps (s : State) : (s.findBusy).taps = s.taps := rfl
@[simp] theorem findBusy_recordingCount (s : State) : (s.findBusy).recordingCount = s.recordingCount := rfl
@[simp] theorem findBusy_ring (s : State) : (s.findBusy).ring = s.ring := rfl
@[simp] theorem findBusy_claimIndex (s : State) : (s.findBusy).claimIndex = s.claimIndex := rfl
@[simp] theorem findBusy_notices (s : State) : (s.findBusy).notices = s.notices := rfl
@[simp] theorem findBusy_overflow (s : State) : (s.findBusy).overflow = s.overflow := rfl
@[simp] theorem findBusy_eventMasked (s : State) : (s.findBusy).eventMasked = s.eventMasked := rfl
@[simp] theorem findBusy_marks (s : State) : (s.findBusy).marks = s.marks := rfl
@[simp] theorem findBusy_viewMasked (s : State) : (s.findBusy).viewMasked = s.viewMasked := rfl
@[simp] theorem findBusy_live (s : State) : (s.findBusy).live = s.live := rfl
@[simp] theorem findBusy_snapshots (s : State) : (s.findBusy).snapshots = s.snapshots := rfl
@[simp] theorem findBusy_snapshotTime (s : State) : (s.findBusy).snapshotTime = s.snapshotTime := rfl
@[simp] theorem findBusy_monitorTimer (s : State) : (s.findBusy).monitorTimer = s.monitorTimer := rfl
@[simp] theorem findBusy_panelAnswer (s : State) : (s.findBusy).panelAnswer = s.panelAnswer := rfl
@[simp] theorem findBusy_recorderAnswer (s : State) : (s.findBusy).recorderAnswer = s.recorderAnswer := rfl
@[simp] theorem findBusy_pending (s : State) : (s.findBusy).pending = s.pending := rfl

/-! ### notify -/

@[simp] theorem notify_stationTime (e : Event) (s : State) : (s.notify e).stationTime = s.stationTime := by
  unfold State.notify; split <;> rfl
@[simp] theorem notify_stationState (e : Event) (s : State) : (s.notify e).stationState = s.stationState := by
  unfold State.notify; split <;> rfl
@[simp] theorem notify_cfg (e : Event) (s : State) : (s.notify e).cfg = s.cfg := by
  unfold State.notify; split <;> rfl
@[simp] theorem notify_configClamps (e : Event) (s : State) : (s.notify e).configClamps = s.configClamps := by
  unfold State.notify; split <;> rfl
@[simp] theorem notify_listenTimer (e : Event) (s : State) : (s.notify e).listenTimer = s.listenTimer := by
  unfold State.notify; split <;> rfl
@[simp] theorem notify_carrier (e : Event) (s : State) : (s.notify e).carrier = s.carrier := by
  unfold State.notify; split <;> rfl
@[simp] theorem notify_txQueue (e : Event) (s : State) : (s.notify e).txQueue = s.txQueue := by
  unfold State.notify; split <;> rfl
@[simp] theorem notify_transmitting (e : Event) (s : State) : (s.notify e).transmitting = s.transmitting := by
  unfold State.notify; split <;> rfl
@[simp] theorem notify_mediumIdle (e : Event) (s : State) : (s.notify e).mediumIdle = s.mediumIdle := by
  unfold State.notify; split <;> rfl
@[simp] theorem notify_mediumLooks (e : Event) (s : State) : (s.notify e).mediumLooks = s.mediumLooks := by
  unfold State.notify; split <;> rfl
@[simp] theorem notify_clashWindow (e : Event) (s : State) : (s.notify e).clashWindow = s.clashWindow := by
  unfold State.notify; split <;> rfl
@[simp] theorem notify_beaconTimer (e : Event) (s : State) : (s.notify e).beaconTimer = s.beaconTimer := by
  unfold State.notify; split <;> rfl
@[simp] theorem notify_peers (e : Event) (s : State) : (s.notify e).peers = s.peers := by
  unfold State.notify; split <;> rfl
@[simp] theorem notify_sequences (e : Event) (s : State) : (s.notify e).sequences = s.sequences := by
  unfold State.notify; split <;> rfl
@[simp] theorem notify_ports (e : Event) (s : State) : (s.notify e).ports = s.ports := by
  unfold State.notify; split <;> rfl
@[simp] theorem notify_records (e : Event) (s : State) : (s.notify e).records = s.records := by
  unfold State.notify; split <;> rfl
@[simp] theorem notify_mirrors (e : Event) (s : State) : (s.notify e).mirrors = s.mirrors := by
  unfold State.notify; split <;> rfl
@[simp] theorem notify_handsets (e : Event) (s : State) : (s.notify e).handsets = s.handsets := by
  unfold State.notify; split <;> rfl
@[simp] theorem notify_held (e : Event) (s : State) : (s.notify e).held = s.held := by
  unfold State.notify; split <;> rfl
@[simp] theorem notify_pendingAsks (e : Event) (s : State) : (s.notify e).pendingAsks = s.pendingAsks := by
  unfold State.notify; split <;> rfl
@[simp] theorem notify_tagCount (e : Event) (s : State) : (s.notify e).tagCount = s.tagCount := by
  unfold State.notify; split <;> rfl
@[simp] theorem notify_slots (e : Event) (s : State) : (s.notify e).slots = s.slots := by
  unfold State.notify; split <;> rfl
@[simp] theorem notify_signalWord (e : Event) (s : State) : (s.notify e).signalWord = s.signalWord := by
  unfold State.notify; split <;> rfl
@[simp] theorem notify_setters (e : Event) (s : State) : (s.notify e).setters = s.setters := by
  unfold State.notify; split <;> rfl
@[simp] theorem notify_buzzMasked (e : Event) (s : State) : (s.notify e).buzzMasked = s.buzzMasked := by
  unfold State.notify; split <;> rfl
@[simp] theorem notify_channels (e : Event) (s : State) : (s.notify e).channels = s.channels := by
  unfold State.notify; split <;> rfl
@[simp] theorem notify_talk (e : Event) (s : State) : (s.notify e).talk = s.talk := by
  unfold State.notify; split <;> rfl
@[simp] theorem notify_talkerLimit (e : Event) (s : State) : (s.notify e).talkerLimit = s.talkerLimit := by
  unfold State.notify; split <;> rfl
@[simp] theorem notify_localLevels (e : Event) (s : State) : (s.notify e).localLevels = s.localLevels := by
  unfold State.notify; split <;> rfl
@[simp] theorem notify_streams (e : Event) (s : State) : (s.notify e).streams = s.streams := by
  unfold State.notify; split <;> rfl
@[simp] theorem notify_masters (e : Event) (s : State) : (s.notify e).masters = s.masters := by
  unfold State.notify; split <;> rfl
@[simp] theorem notify_earpieceOut (e : Event) (s : State) : (s.notify e).earpieceOut = s.earpieceOut := by
  unfold State.notify; split <;> rfl
@[simp] theorem notify_speakerOut (e : Event) (s : State) : (s.notify e).speakerOut = s.speakerOut := by
  unfold State.notify; split <;> rfl
@[simp] theorem notify_lineOut (e : Event) (s : State) : (s.notify e).lineOut = s.lineOut := by
  unfold State.notify; split <;> rfl
@[simp] theorem notify_taps (e : Event) (s : State) : (s.notify e).taps = s.taps := by
  unfold State.notify; split <;> rfl
@[simp] theorem notify_recordingCount (e : Event) (s : State) : (s.notify e).recordingCount = s.recordingCount := by
  unfold State.notify; split <;> rfl
@[simp] theorem notify_ring (e : Event) (s : State) : (s.notify e).ring = s.ring := by
  unfold State.notify; split <;> rfl
@[simp] theorem notify_claimIndex (e : Event) (s : State) : (s.notify e).claimIndex = s.claimIndex := by
  unfold State.notify; split <;> rfl
@[simp] theorem notify_eventMasked (e : Event) (s : State) : (s.notify e).eventMasked = s.eventMasked := by
  unfold State.notify; split <;> rfl
@[simp] theorem notify_marks (e : Event) (s : State) : (s.notify e).marks = s.marks := by
  unfold State.notify; split <;> rfl
@[simp] theorem notify_viewMasked (e : Event) (s : State) : (s.notify e).viewMasked = s.viewMasked := by
  unfold State.notify; split <;> rfl
@[simp] theorem notify_live (e : Event) (s : State) : (s.notify e).live = s.live := by
  unfold State.notify; split <;> rfl
@[simp] theorem notify_snapshots (e : Event) (s : State) : (s.notify e).snapshots = s.snapshots := by
  unfold State.notify; split <;> rfl
@[simp] theorem notify_snapshotTime (e : Event) (s : State) : (s.notify e).snapshotTime = s.snapshotTime := by
  unfold State.notify; split <;> rfl
@[simp] theorem notify_monitorTimer (e : Event) (s : State) : (s.notify e).monitorTimer = s.monitorTimer := by
  unfold State.notify; split <;> rfl
@[simp] theorem notify_panelAnswer (e : Event) (s : State) : (s.notify e).panelAnswer = s.panelAnswer := by
  unfold State.notify; split <;> rfl
@[simp] theorem notify_recorderAnswer (e : Event) (s : State) : (s.notify e).recorderAnswer = s.recorderAnswer := by
  unfold State.notify; split <;> rfl
@[simp] theorem notify_pending (e : Event) (s : State) : (s.notify e).pending = s.pending := by
  unfold State.notify; split <;> rfl

/-- A notice queued with room stands last, with the station time (R190). -/
theorem notify_room (e : Event) (s : State) (h : s.notices.length < 32) :
    s.notify e = { s with notices := s.notices ++ [⟨e, s.stationTime⟩] } := by
  unfold State.notify; exact if_pos h

/-- A notice at a full queue is counted (R190). -/
theorem notify_full (e : Event) (s : State) (h : 32 ≤ s.notices.length) :
    s.notify e = { s with overflow := if s.overflow = 255#8 then 255#8 else s.overflow + 1#8 } := by
  unfold State.notify; exact if_neg (Nat.not_lt.mpr h)

end Sys2Proof.Machine
end

