-- ==== Sys2Proof/Laws/Ops.lean ====
section
/-! SUPPORT. What each shared operation can do, said once: requests and their operands, the transmit queue, frames
handed on, and the change marks. -/

namespace Sys2Proof.Machine

/-! ### Operands of requests -/

/-- An octet that names an entry of a table. -/
theorem indexOf_val {n : Nat} (o : Octet) (i : Fin n) (h : o.toNat = i.val) : indexOf n o = some i := by
  unfold indexOf
  have := i.isLt
  rw [dif_pos (by omega)]; simp [h]

/-- An octet that names none. -/
theorem indexOf_out {n : Nat} (o : Octet) (h : n ≤ o.toNat) : indexOf n o = none := by
  unfold indexOf
  rw [dif_neg (by omega)]

theorem outOf_val {n : Nat} (o : Octet) (i : Fin n) (h : o.toNat = i.val) : outOf n o = false := by
  have := i.isLt
  simp [outOf]; omega

theorem outOf_lt {n : Nat} (o : Octet) (h : o.toNat < n) : outOf n o = false := by simp [outOf]; omega

theorem outOf_ge {n : Nat} (o : Octet) (h : n ≤ o.toNat) : outOf n o = true := by simp [outOf]; omega

theorem onIndex_val {n : Nat} (o : Octet) (i : Fin n) (h : o.toNat = i.val) (f : Fin n → State → State) (s : State) :
    s.onIndex o f = f i s := by unfold State.onIndex; rw [indexOf_val o i h]

theorem atIndex_val {n : Nat} (o : Octet) (i : Fin n) (h : o.toNat = i.val) (p : Fin n → Bool) : atIndex o p = p i := by
  unfold atIndex; rw [indexOf_val o i h]

/-- A gain code up to 95 is taken, 89 to 95 as 88; above 95 it is refused (R105, R147, R170). -/
theorem gain_taken (x : Octet) (h : x.toNat ≤ 95) : badGain x = false ∧ gainOf x = min x.toNat 88 := by
  simp [badGain, gainOf, gainOfOctet, h]

theorem gain_refused (x : Octet) (h : 95 < x.toNat) : badGain x = true := by
  simp [badGain, gainOfOctet]; omega

@[simp] theorem firstVerdict_nil : firstVerdict [] = none := rfl
@[simp] theorem firstVerdict_cons (c : Bool) (v : Verdict) (t : List (Bool × Verdict)) :
    firstVerdict ((c, v) :: t) = if c then some v else firstVerdict t := rfl

/-! ### Requests -/

/-- A panel request that passes has its effect and is answered DONE (R189). -/
theorem panelRequest_pass (kind : Nat) (refusal : Option Verdict) (fields : List Octet) (f : State → State) (s : State)
    (ha : s.panelAnswers = true) (hr : refusal = none) :
    s.panelRequest kind refusal fields f = { f s with panelAnswer := some ⟨octet kind, .done, fields⟩ } := by
  subst hr
  unfold State.panelRequest
  rw [if_pos ha]; rfl

/-- A refused panel request changes nothing but the answer (R189). -/
theorem panelRequest_refused (kind : Nat) (v : Verdict) (refusal : Option Verdict) (fields : List Octet)
    (f : State → State) (s : State) (ha : s.panelAnswers = true) (hr : refusal = some v) :
    s.panelRequest kind refusal fields f = { s with panelAnswer := some ⟨octet kind, v, []⟩ } := by
  subst hr
  unfold State.panelRequest
  rw [if_pos ha]; rfl

/-- A panel port that does not answer takes nothing (R189). -/
theorem panelRequest_silent (kind : Nat) (refusal : Option Verdict) (fields : List Octet) (f : State → State) (s : State)
    (ha : s.panelAnswers = false) : s.panelRequest kind refusal fields f = s := by
  unfold State.panelRequest
  rw [if_neg (by simp [ha])]

/-! ### The transmit queue -/

theorem placeEntry_length (e : TxEntry) (q : List TxEntry) : (placeEntry e q).length = q.length + 1 := by
  induction q with
  | nil => rfl
  | cons x t ih => unfold placeEntry; split <;> simp [ih]

/-- An entry is placed behind its own and every lower class of a queue in class order (R7). -/
theorem placeEntry_split (e : TxEntry) (q : List TxEntry) (h : q.Pairwise fun a b => a.cls ≤ b.cls) :
    ∃ pre post : List TxEntry, q = pre ++ post ∧ (∀ x ∈ pre, x.cls ≤ e.cls) ∧ (∀ x ∈ post, e.cls < x.cls) ∧
      placeEntry e q = pre ++ e :: post := by
  induction q with
  | nil => exact ⟨[], [], rfl, by simp, by simp, rfl⟩
  | cons x t ih =>
    rw [List.pairwise_cons] at h
    by_cases hx : x.cls ≤ e.cls
    · obtain ⟨pre, post, rfl, h1, h2, h3⟩ := ih h.2
      refine ⟨x :: pre, post, rfl, ?_, h2, ?_⟩
      · intro y hy
        rcases List.mem_cons.1 hy with rfl | hy
        · exact hx
        · exact h1 y hy
      · unfold placeEntry; rw [if_pos hx, h3]; rfl
    · refine ⟨[], x :: t, rfl, by simp, ?_, ?_⟩
      · intro y hy
        rcases List.mem_cons.1 hy with rfl | hy
        · omega
        · have := h.1 y hy; omega
      · unfold placeEntry; rw [if_neg hx]; rfl

theorem placeEntry_mem (e : TxEntry) (q : List TxEntry) : e ∈ placeEntry e q := by
  induction q with
  | nil => simp [placeEntry]
  | cons x t ih => unfold placeEntry; split <;> simp [ih]

/-- A queue in class order stays so (R7). -/
theorem placeEntry_sorted (e : TxEntry) (q : List TxEntry) (h : q.Pairwise fun a b => a.cls ≤ b.cls) :
    (placeEntry e q).Pairwise fun a b => a.cls ≤ b.cls := by
  obtain ⟨pre, post, rfl, h1, h2, h3⟩ := placeEntry_split e q h
  rw [h3]
  rw [List.pairwise_append] at h ⊢
  refine ⟨h.1, ?_, ?_⟩
  · rw [List.pairwise_cons]
    exact ⟨fun x hx => Nat.le_of_lt (h2 x hx), h.2.1⟩
  · intro a ha b hb
    rcases List.mem_cons.1 hb with rfl | hb
    · exact h1 a ha
    · exact h.2.2 a ha b hb

/-- The entry that lost contention stands ahead of its own class (R4). -/
theorem replaceLoser_eq (e : TxEntry) (q : List TxEntry) :
    replaceLoser e q = q.takeWhile (fun x => decide (x.cls < e.cls)) ++ e :: q.dropWhile fun x => decide (x.cls < e.cls) := by
  induction q with
  | nil => rfl
  | cons x t ih =>
    unfold replaceLoser
    by_cases h : x.cls < e.cls <;> simp [h, ih]

/-- The stale entries at the head are counted and set aside (R8). -/
theorem dropStale_eq (q : List TxEntry) : dropStale q = ((q.takeWhile TxEntry.ended).length, q.dropWhile TxEntry.ended) := by
  induction q with
  | nil => rfl
  | cons e t ih =>
    unfold dropStale
    cases h : e.ended <;> simp [h, ih]

/-- Replacement keeps the number of entries. -/
theorem replaceIn_length (b : Body) (life : Nat) (q q' : List TxEntry) (h : replaceIn b life q = some q') :
    q'.length = q.length := by
  induction q generalizing q' with
  | nil => cases h
  | cons x t ih =>
    unfold replaceIn at h
    cases hr : replaceIn b life t with
    | some t' => rw [hr] at h; cases h; simp [ih t' hr]
    | none =>
      rw [hr] at h
      by_cases hx : b.replaces x.body = true
      · simp [hx] at h; subst h; rfl
      · simp [hx] at h

/-- Nothing is replaced where nothing of the same line or kind waits (R9, R14). -/
theorem replaceIn_none (b : Body) (life : Nat) (q : List TxEntry) (h : ∀ e ∈ q, b.replaces e.body = false) :
    replaceIn b life q = none := by
  induction q with
  | nil => rfl
  | cons x t ih =>
    unfold replaceIn
    rw [ih fun e he => h e (List.mem_cons_of_mem _ he)]
    simp [h x (List.mem_cons_self ..)]

/-- A body that replaces nothing: every body but a STATE or a BEACON (R9, R14). -/
theorem replaces_other (b : Body) (h : b.kind ≠ .state ∧ b.kind ≠ .beacon) (o : Body) : b.replaces o = false := by
  cases b <;> cases o <;> simp_all [Body.replaces, Body.kind]

theorem evictVoice_length (q q' : List TxEntry) (h : evictVoice q = some q') : q'.length + 1 = q.length := by
  induction q generalizing q' with
  | nil => cases h
  | cons x t ih =>
    unfold evictVoice at h
    by_cases hx : x.isVoice = true
    · simp [hx] at h; subst h; rfl
    · simp [hx] at h
      obtain ⟨t', ht, rfl⟩ := h
      simp [ih t' ht]

/-- Outside ACTIVE an offer changes nothing (R6). -/
theorem send_idle (t : Station) (b : Body) (s : State) (h : s.stationState ≠ .active) : s.send t b = s := by
  unfold State.send State.offer State.isActive
  rw [if_neg (by simpa using h)]

/-- An offer changes the queue, the medium's marks and the live counters alone (R3, R6 to R11). -/
theorem send_alike (t : Station) (b : Body) (s : State) : s.alikeButQueue (s.send t b) := by
  have accept (e : TxEntry) (s : State) : s.alikeButQueue (s.acceptEntry e) := by
    simp only [State.acceptEntry, State.seizeMedium]; repeat' split
    all_goals rfl
  unfold State.send State.offer
  split
  · unfold State.offerAllowed
    split
    · rfl
    · split
      · exact accept _ s
      · split
        · rfl
        · split
          · next q _ =>
            have := accept (s.newEntry t b) ((s.setWaiting q).count fun c => { c with evictions := c.evictions.add 1 })
            unfold State.alikeButQueue at this ⊢
            rw [this]
            rfl
          · rfl
  · rfl

/-- A frame that replaces nothing, offered in ACTIVE with room in the queue, waits there (R7). -/
theorem send_carries (t : Station) (b : Body) (s : State) (ha : s.stationState = .active) (hr : s.txQueue.length < 24)
    (hb : b.kind ≠ .state ∧ b.kind ≠ .beacon) : (s.send t b).carries t b := by
  have e : s.send t b = s.acceptEntry (s.newEntry t b) := by
    unfold State.send State.offer State.isActive
    rw [if_pos (by simp [ha])]
    unfold State.offerAllowed
    rw [replaceIn_none _ _ _ fun e _ => replaces_other b hb e.body]
    simp only
    rw [if_pos (show s.txQueue.length < Config.queueCapacity from hr)]
  rw [e]
  refine ⟨s.newEntry t b, ?_, rfl, rfl, rfl⟩
  have hm : s.newEntry t b ∈ (s.setWaiting (placeEntry (s.newEntry t b) s.waiting)).txQueue :=
    List.mem_append_right _ (placeEntry_mem _ _)
  unfold State.acceptEntry State.seizeMedium
  simp only
  repeat' split
  all_goals exact hm

/-! ### Frames handed on -/

/-- A frame other than a BEACON that an ACTIVE station hands on: the silence timer restarts, no home changes, and the
block it is for takes it (R16, R19, R22). -/
theorem hear_handsOn (octets : List Octet) (source target : Station) (b : Body) (s : State)
    (h : s.HandsOn octets source target b) (hb : b.kind ≠ .beacon) :
    s.hear octets = (s.havingHeard source).handOn source target b := by
  have hl : s.loaded = true := by simp [State.loaded, h.active]
  have hp : ∀ t : State, t.peers = (s.havingHeard source).peers → ∀ q : Station,
      (t.peer q).state = (s.peer q).state ∧ (t.peer q).card = (s.peer q).card := by
    intro t ht q
    have hq := h.present
    unfold State.peer at hq ⊢
    rw [ht]
    by_cases e : q = source
    · subst e
      simp only [State.havingHeard, State.peer, Fin.getElem_fin, Vector.getElem_set_self]
      exact ⟨hq.symm, trivial⟩
    · have e' : (stationIndex source).val ≠ (stationIndex q).val := fun c => e (BitVec.eq_of_toNat_eq c.symm)
      simp [State.havingHeard, e']
  have hpt : s.findBusy.peerTakes source b = s.havingHeard source := by
    cases b <;> first | rfl | exact absurd rfl hb
  have hh : ∀ line : LineNo, (s.havingHeard source).homeOf line = s.findBusy.homeOf line := by
    intro line
    have : ∀ q : Station, (s.havingHeard source).homeCandidate line q =
        s.findBusy.homeCandidate line q := by
      intro q
      obtain ⟨h1, h2⟩ := hp (s.havingHeard source) rfl q
      have h3 : s.findBusy.peer q = s.peer q := rfl
      unfold State.homeCandidate Peer.lists
      rw [h1, h2, h3]
      rfl
    unfold State.homeOf
    congr 1
    funext q
    exact this q
  have hf : (s.havingHeard source).followHomes s.findBusy = s.havingHeard source := by
    unfold State.followHomes
    generalize s.findBusy.linesKept = l
    induction l with
    | nil => rfl
    | cons x l ih =>
      simp only [List.foldl_cons]
      rw [if_pos (hh x).symm]
      exact ih
  have hst : ((s.havingHeard source).peer source).state = .present := by
    rw [(hp _ rfl source).1]; exact h.present
  have he : (s.havingHeard source).peerEvents s.findBusy source b =
      s.havingHeard source := by
    unfold State.peerEvents
    rw [hst, show (s.findBusy.peer source).state = .present from h.present]
    cases b <;> first | exact hf | exact absurd rfl hb
  unfold State.hear
  simp only
  rw [if_pos (show s.findBusy.loaded = true from hl), h.good]
  simp only
  rw [if_neg (show ¬source = s.findBusy.cfg.station from h.other)]
  unfold State.takeOther
  simp only
  rw [hpt, he, if_pos]
  exact ⟨by simp [State.isActive, State.havingHeard, h.active], h.addressed⟩

/-- The command of a row hears a good frame of the row as what it is. -/
theorem hearAs_row (row : Body → Bool) (octets : List Octet) (f : Frame) (s : State) (h : readFrame octets = some f)
    (hr : row f.body = true) : s.hearAs row octets = s.hear octets := by
  unfold State.hearAs; rw [h]; simp only; rw [if_pos hr]

/-! ### Views and masks -/

/-- A channel record replaced without a change of what the talker view shows marks nothing (R143). -/
theorem setChannel_same (s : State) (k : Fin 8) (c : Channel) (h1 : c.binding = (s.channels[k]).binding)
    (h2 : c.talkers = (s.channels[k]).talkers) (h3 : c.wait = (s.channels[k]).wait) :
    s.setChannel k c = { s with channels := s.channels.set k c } := by
  have same : ∀ j : Fin 8, ({ s with channels := s.channels.set k c } : State).talkerView j = s.talkerView j := by
    intro j
    simp only [State.talkerView, State.channelState, Channel.state]
    by_cases hj : j = k
    · subst hj
      simp only [Fin.getElem_fin, Vector.getElem_set_self] at h1 h2 h3 ⊢
      rw [h1, h2, h3]
    · have e : (s.channels.set k c)[j] = s.channels[j] := by
        simp only [Fin.getElem_fin, Vector.getElem_set]
        rw [if_neg fun h => hj (Fin.ext h).symm]
      rw [e]
  have marks : (mapTable s.marks.talker fun j v =>
      v || s.talkerView j != ({ s with channels := s.channels.set k c } : State).talkerView j) = s.marks.talker := by
    ext i hi
    simp only [mapTable, same]
    simp
  unfold State.setChannel State.markTalkers
  simp only
  rw [marks]

/-- A mask request sets or clears the named marks and no others (R191, R193). -/
theorem applyMask_bit {n : Nat} (m k : BitVec n) (b : Bool) (i : Nat) (hi : i < n) :
    (applyMask m k b).getLsbD i = if k.getLsbD i then b else m.getLsbD i := by
  unfold applyMask; cases b <;> simp <;> cases k.getLsbD i <;> simp [hi]

/-- A mark cleared. -/
theorem has_clear (m : Marks) (e x : ViewEntry) : (m.clear e).has x = (m.has x && x != e) := by
  cases e <;> cases x <;> simp [Marks.clear, Marks.has, Vector.getElem_set] <;> grind

/-- The marks of a list of entries cleared. -/
theorem has_clears (l : List ViewEntry) (m : Marks) (x : ViewEntry) :
    (l.foldl Marks.clear m).has x = (m.has x && !l.contains x) := by
  induction l generalizing m with
  | nil => simp
  | cons a l ih => simp [ih, has_clear]; grind

end Sys2Proof.Machine
end

