-- ==== Sys2Proof/WellFormed.lean ====
section
/-! DEFINITION. Which commands are of the form their row describes. The part takes any command of the syntax; a command
that is not well formed is one that no sender of the spec can make. -/

namespace Sys2Proof

/-- A frame of at most 9 octets and a body that the 16-bit length field can hold (R197). Nothing else is asked of a
frame: one that fails its checks is counted (R16). -/
def frameFits (octets : List Octet) : Bool := octets.length < 65545

/-- The memory gives at most the image's 4096 bytes (R28). -/
def imageFits (memory : List Octet) : Bool := memory.length ≤ 2 * Config.imageWords

/-- A frame whose octet 7, the operation where it is an ASK, is no code from 1 to 8 (R73, R197). -/
def unknownOperation (octets : List Octet) : Bool :=
  let op := (octets.getD 7 0#8).toNat
  op == 0 || op > 8

/-- A panel or recorder message that its 16-bit length field can hold (R197). -/
def messageFits (octets : List Octet) : Bool := octets.length < 65538

/-- A station that can have a peer table entry (R21). -/
def isStation (st : Station) : Bool := 1 ≤ st.toNat && st.toNat ≤ Config.lastStation

/-- A port code (R197). -/
def isPortCode (o : Octet) : Bool := o.toNat ≤ 18

/-- A place of the transmit queue (R7). -/
def isQueuePlace (entry : Nat) : Bool := entry < Config.queueCapacity

/-- A place of a member list, which holds at most SHARE_LIMIT, 6, entries (R65). -/
def isMemberPlace (entry : Nat) : Bool := entry < 6

/-- Whether a command is of the form its row describes. -/
def wellFormed : Instr → Bool
  | .loadComplete memory _ => imageFits memory
  | .lifetimeExpiry entry => isQueuePlace entry
  | .voiceReceived unit crc | .stateReceived unit crc | .replyReceived unit crc | .beaconReceived unit crc |
    .askTake unit crc | .askDrop unit crc | .askHold unit crc | .askResume unit crc | .askRing unit crc |
    .askPrivacy unit crc | .askListen unit crc | .askUnlisten unit crc | .offer unit crc | .alert unit crc |
    .accept unit crc | .decline unit crc | .endReceived unit crc | .signalSet unit crc | .signalClear unit crc =>
    frameFits (unit ++ crc)
  | .askUnknownOperation header body crc => frameFits (header ++ body ++ crc) && unknownOperation (header ++ body)
  | .malformedMessage _ octets => messageFits octets
  | .peerSilenceExpiry station => isStation station
  | .recallTimerExpiry _ entry => isMemberPlace entry
  | .hangoverExpiry _ station port _ => isStation station && isPortCode port
  | .fullReset | .listenPeriodExpiry | .join | .leave | .mediumIdle | .contentionLoss | .frameSent | .clashEvent |
    .clashWindowExpiry | .beaconIntervalExpiry | .outRingExpiry .. | .holdOverExpiry .. | .refreshExpiry .. |
    .conflictTimerExpiry .. | .carrierFall .. | .carrierRise .. | .losCleared .. | .lineOctetReceived .. |
    .alignmentConfirmed .. | .alignmentLost .. | .lolDeclared .. | .lolCleared .. | .labelSettled .. |
    .signallingAccepted .. | .farDefectDecided .. | .degradeWindowEnd .. | .linePortOut .. | .linePortIn .. |
    .forceOoa .. | .forceRd .. | .forceNone .. | .blockBoundary .. | .segmentFull .. | .stalenessTimerExpiry .. |
    .pendingAskExpiry .. | .hookOff .. | .hookOn .. | .mute .. | .volume .. | .balance .. | .lineKey .. |
    .release .. | .hold .. | .ring .. | .privacy .. | .call .. | .alertWaitExpiry .. | .callerAnswerWaitExpiry .. |
    .calledAnswerWaitExpiry .. | .answer .. | .reject .. | .callEnd .. | .buzzMask .. | .buzzUnmask .. |
    .buzzClear .. | .buzz .. | .buzzOff .. | .remoteMute .. | .bind .. | .unbind .. | .listenWaitExpiry .. |
    .talkers .. | .talk .. | .talkUp .. | .channelVolume .. | .channelOutput .. | .channelMute .. | .master .. |
    .streamSilenceExpiry .. | .status | .readDescriptor .. | .readAudio .. | .returnDescriptor .. | .readEvent |
    .eventMask .. | .readChanges | .conditionMask .. | .snapshot | .monitorIntervalExpiry | .readCounters .. => true

end Sys2Proof
end

