-- ==== Sys2Proof/Tests/Slice0.lean ====
section
/-! SUPPORT. Tests of the model: ill-formed commands refused, commands run on small states with results taken from the
manual, and for every statement with premises a state and operands that meet them. -/

open Sys2Proof Sys2Proof.Machine

namespace Sys2Proof.Tests

-- The tests are checked one after another: side by side they would take much more memory.
set_option Elab.async false

/-! ### Helpers -/

/-- The next state of an answer. -/
def nextOf : Result → State
  | .next t => t
  | _ => State.reset

/-- The state a command leaves. -/
def go (c : Instr) (s : State) : State := nextOf (exec c s)

/-- Whether the queue holds a fresh entry for a frame. -/
def has (s : State) (target : Station) (b : Body) : Bool :=
  s.txQueue.any fun e => e.target == target && e.body == b && !e.stale

/-- The command that hears a frame one station sends. -/
def heardCommand (source target : Station) (b : Body) : Instr :=
  let unit := sentUnit source target b
  let crc := octets32 (crc32 unit)
  match b with
  | .voice _ => .voiceReceived unit crc
  | .state _ => .stateReceived unit crc
  | .reply _ => .replyReceived unit crc
  | .beacon _ => .beaconReceived unit crc
  | .ask x =>
    match x.op with
    | some op => askCommand unit crc op
    | none => .askUnknownOperation (unit.take 5) (unit.drop 5) crc
  | .signal x => if x.set then .signalSet unit crc else .signalClear unit crc
  | .call x =>
    match x.kind with
    | .offer => .offer unit crc
    | .alert => .alert unit crc
    | .accept => .accept unit crc
    | .decline => .decline unit crc
    | .callEnd => .endReceived unit crc

/-- Whether a frame that one station sends passes the checks of another and carries the same body there. -/
def heardAsSent (source target : Station) (b : Body) : Bool :=
  readFrame (sentFrame source target b) == some ⟨source, target, b⟩

/-- A frame of octets written out, its CRC added. -/
def closedFrame (octets : List Octet) : List Octet := octets ++ octets32 (crc32 octets)

/-- Settings of a test station: number 12, home of line 412 on port 0, keys for 412 and 501, hunt group 7. -/
def cfg12 : Settings :=
  { Settings.unloaded with
    station := 12#6
    ports := Settings.unloaded.ports.set 0 { PortSettings.default with line := 412#16 }
    appearance := (Settings.unloaded.appearance.set 0 412#16).set 1 501#16
    groups := [7]
    buzzTargets := Settings.unloaded.buzzTargets.set 2 (19#6, 4) }

/-- An idle line record. -/
def idle : LineRecord := ⟨.idle, [], [], false, none, .idle, none, none, some 200⟩

/-- The card of station 19, home of line 501. -/
def card19 : Card := ⟨19#6, false, true, true, false, [(501#16, 0)]⟩

/-- The card of another station 12, without lines. -/
def card12 : Card := ⟨12#6, false, false, true, false, []⟩

/-- The content of line 501 with the given members. -/
def line501 (st : LineState) (ms : List MemberStatus) : LineStatus := ⟨501#16, st, false, false, .idle, Alarms.clear, ms, []⟩

/-- Station 12 in ACTIVE, five samples past a boundary, with station 19 present. -/
def up : State :=
  { State.reset with
    stationTime := 4005#32, stationState := .active, cfg := cfg12, beaconTimer := some 30
    carrier := State.reset.carrier.set 0 true
    peers := State.reset.peers.set 19 ⟨.present, some card19, some 150⟩
    records := State.reset.records.set 0 (some idle)
    taps := State.reset.taps.set 0 (some Tap.new)
    mirrors := [⟨412#16, .unknown, none, none⟩, ⟨501#16, .current, some (line501 .idle []), some 500⟩] }

/-- The same station with another record on port 0. -/
def upWith (r : LineRecord) : State := { up with records := up.records.set 0 (some r) }

/-- A queue entry for a body. -/
def entry (target : Station) (b : Body) (life : Nat) : TxEntry := ⟨target, b, 4000#32, life, false⟩

/-- A SIGNAL body, of class 3. -/
def signalBody : Body := .signal ⟨true, 3#8⟩

/-- A VOICE body, of class 4. -/
def voiceBody : Body := .voice ⟨.hoot 5, .mic, 9#8, true, Block.silence⟩

/-- Silent audio inputs. -/
def quiet : AudioIn := ⟨Vector.replicate 2 Block.silence, Block.silence⟩

/-- A loud block. -/
def loud : Block := Vector.replicate 16 8000#16

theorem handsOn_of (s : State) (octets : List Octet) (source target : Station) (b : Body)
    (h : (s.stationState == .active && readFrame octets == some ⟨source, target, b⟩ && source != s.cfg.station &&
      (s.peer source).state == .present && (target == s.cfg.station || target == Config.allStations)) = true) :
    s.HandsOn octets source target b := by
  simp only [Bool.and_eq_true, Bool.or_eq_true, beq_iff_eq, bne_iff_ne] at h
  exact ⟨h.1.1.1.1, h.1.1.1.2, h.1.1.2, h.1.2, h.2⟩

/-- An image word that is unset. -/
def U : BitVec 16 := 0xFFFF#16

/-- Image words that leave every setting of a port unset. -/
def port0 : PortWords := ⟨U, U, Vector.replicate 16 0xFF#8, none, U, U, U, U, U, U, U, U, U, U, U⟩

/-- An image of station 12 with line 412 on port 0 and on key 0, HOLD_RECALL out of range; all else unset. -/
def words12 : SettingWords where
  stationNumber := 12#16
  supervisor := U
  panelPresent := U
  monitorInterval := U
  ports := (Vector.replicate 8 port0).set 0 { port0 with lineNumber := 412#16, holdRecall := 700#16 }
  appearance := (Vector.replicate 128 U).set 0 412#16
  handsetVolume := U
  sidetone := U
  duck := U
  speakerMaster := Vector.replicate 2 U
  channels := Vector.replicate 8 ⟨U, U, U, U⟩
  talkers := U
  gate := U
  hangover := U
  groupCount := U
  groups := Vector.replicate 8 U
  buzzTargets := Vector.replicate 8 ⟨U, U⟩
/-! ### Well-formed commands -/

theorem image_length (l : List Octet) : wellFormed (.loadComplete l words12) = decide (l.length ≤ 4096) := rfl

theorem frame_length (l crc : List Octet) : wellFormed (.voiceReceived l crc) = decide ((l ++ crc).length < 65545) := rfl

theorem message_length (l : List Octet) : wellFormed (.malformedMessage true l) = decide (l.length < 65538) := rfl

theorem test_wf_image : wellFormed (.loadComplete (List.replicate 4097 0#8) words12) = false ∧
    wellFormed (.loadComplete (List.replicate 4096 0#8) words12) = true := by
  rw [image_length, image_length, List.length_replicate, List.length_replicate]; exact ⟨rfl, rfl⟩

theorem test_wf_frame : wellFormed (.voiceReceived (List.replicate 65541 0#8) [0#8, 0#8, 0#8, 0#8]) = false ∧
    wellFormed (.voiceReceived (List.replicate 65540 0#8) [0#8, 0#8, 0#8, 0#8]) = true := by
  rw [frame_length, frame_length, List.length_append, List.length_append, List.length_replicate, List.length_replicate]
  exact ⟨rfl, rfl⟩

theorem test_wf_message : wellFormed (.malformedMessage true (List.replicate 65538 0#8)) = false ∧
    wellFormed (.malformedMessage true (List.replicate 65537 0#8)) = true := by
  rw [message_length, message_length, List.length_replicate, List.length_replicate]; exact ⟨rfl, rfl⟩

theorem test_wf_queue_place : wellFormed (.lifetimeExpiry 24) = false ∧ wellFormed (.lifetimeExpiry 23) = true := by decide

theorem test_wf_silent_station : wellFormed (.peerSilenceExpiry 0#6) = false ∧ wellFormed (.peerSilenceExpiry 63#6) = false ∧
    wellFormed (.peerSilenceExpiry 62#6) = true := by decide
theorem test_wf_member_place : wellFormed (.recallTimerExpiry 0 6) = false ∧ wellFormed (.recallTimerExpiry 0 5) = true := by
  decide
theorem test_wf_talker_party : wellFormed (.hangoverExpiry 0 0#6 1#8 quiet) = false ∧
    wellFormed (.hangoverExpiry 0 1#6 19#8 quiet) = false ∧ wellFormed (.hangoverExpiry 0 1#6 18#8 quiet) = true := by
  decide +kernel
theorem test_wf_unknown_operation :
    wellFormed (.askUnknownOperation [0#8, 0#8, 3#8, 0#8, 8#8] [0#8, 0#8, 1#8] []) = false ∧
    wellFormed (.askUnknownOperation [0#8, 0#8, 3#8, 0#8, 8#8] [0#8, 0#8, 8#8] []) = false ∧
    wellFormed (.askUnknownOperation [0#8, 0#8, 3#8, 0#8, 8#8] [0#8, 0#8, 9#8] []) = true ∧
    wellFormed (.askUnknownOperation [0#8, 0#8, 3#8, 0#8, 8#8] [0#8, 0#8, 0#8] []) = true := by decide

theorem test_no_word_spells_a_command : decodeTableWord 16 0xFFFF = none := rfl

/-! ### Recorder and panel ports -/

/-- A READY descriptor of a full segment's last 16 pairs. -/
def ready : Descriptor := { Descriptor.empty with owner := .ready, segment := 1#16, pairs := List.replicate 16 (1#16, 2#16) }

/-- A station with one READY descriptor at index 63, three places below the claim index in ring order. -/
def recorded : State := { up with claimIndex := 60, ring := up.ring.set 63 ready }

theorem witness_status : (∀ i : Fin 64, (up.ring[i]).owner ≠ .ready) ∧ (∀ k : Fin 8, State.reset.taps[k] = none) ∧
    (recorded.ring[recorded.claimIndex + 3]).owner = .ready ∧
    (∀ j : Fin 64, j < 3 → (recorded.ring[recorded.claimIndex + j]).owner ≠ .ready) ∧
    (go .status recorded).recorderAnswer = some ⟨1#8, .done, [1#8, 63#8, 0#8, 0#8]⟩ ∧
    (go .status up).recorderAnswer = some ⟨1#8, .done, [0#8, 255#8, 0#8, 0#8]⟩ := by decide +kernel

theorem witness_recorder : (recorded.ring[(63 : Fin 64)]).owner = .ready ∧ (recorded.ring[(63 : Fin 64)]).pairs.length = 16 ∧
    (recorded.ring[(0 : Fin 64)]).owner ≠ .ready ∧
    (go (.readAudio 63#8 15#16 1#16) recorded).recorderAnswer = some ⟨3#8, .done, [0#8, 1#8, 0#8, 2#8]⟩ ∧
    (go (.readAudio 63#8 15#16 2#16) recorded).recorderAnswer = some ⟨3#8, .badRange, []⟩ ∧
    (go (.readAudio 63#8 0#16 0#16) recorded).recorderAnswer = some ⟨3#8, .badRange, []⟩ ∧
    (go (.readAudio 64#8 0#16 1#16) recorded).recorderAnswer = some ⟨3#8, .badRange, []⟩ ∧
    (go (.readDescriptor 0#8) recorded).recorderAnswer = some ⟨2#8, .notReady, []⟩ ∧
    (go (.returnDescriptor 63#8) recorded).ring[(63 : Fin 64)] = Descriptor.empty := by decide +kernel

theorem test_read_descriptor_is_51_octets : (go (.readDescriptor 63#8) recorded).recorderAnswer.map (·.fields.length) =
    some 51 := by decide +kernel

/-- A station with a tap in STARVED on port 2 and one in CLOSING on port 5. -/
def strained : State :=
  { up with taps := (State.reset.taps.set 2 (some ⟨.starved, some 7#16, 1#16, none, 300#16, none⟩)).set 5
              (some ⟨.closing, some 8#16, 2#16, none, 1#16, none⟩) }

theorem witness_strained : (go .status strained).recorderAnswer =
    some ⟨1#8, .done, [0#8, 255#8, 0#8, 2#8, 2#8, 2#8, 1#8, 44#8, 5#8, 3#8, 0#8, 1#8]⟩ ∧
    (([2, 5] : List (Fin 8)).Pairwise (· < ·)) ∧ up.readyOutput = false ∧ recorded.readyOutput = true := by decide +kernel

/-- A station without a panel. -/
def noPanel : State := { up with cfg := { cfg12 with panelPresent := false } }

/-- A station with two notices and an overflow. -/
def noticed : State := { up with notices := [⟨.duplicate, 7#32⟩, ⟨.buzz 3 none, 9#32⟩], overflow := 2#8 }

theorem witness_panel : up.panelAnswers = true ∧ noPanel.panelAnswers = false ∧ up.notices = [] ∧
    noticed.notices = ⟨.duplicate, 7#32⟩ :: [⟨.buzz 3 none, 9#32⟩] ∧
    (go (.malformedMessage false [0#8, 1#8, 200#8]) up).panelAnswer = some ⟨200#8, .badValue, []⟩ ∧
    (go (.malformedMessage false [0#8, 1#8, 200#8]) noPanel).panelAnswer = none ∧
    (go .readEvent noticed).panelAnswer = some ⟨34#8, .done, [2#8, 1#8, 13#8, 0#8, 0#8, 0#8, 7#8]⟩ ∧
    (go .readEvent noticed).notices.length = 1 ∧ (go .readEvent noticed).overflow = 0#8 ∧
    (go (.eventMask 1#16 true) up).panelAnswer = some ⟨35#8, .badValue, []⟩ ∧
    (go (.eventMask 0x8002#16 true) up).eventMasked = 0x8002#16 := by decide +kernel

/-- A station whose marks are two lamps and the station view. -/
def changed : State :=
  { up with marks := { up.marks with lamp := (up.marks.lamp.set 0 true).set 1 true, station := true } }

theorem witness_views : changed.panelAnswers = true ∧ changed.changedEntries = [.lamp 0, .lamp 1, .station] ∧
    (go .readChanges changed).marks.lamp[1] = false ∧ (go .readChanges changed).marks.station = false ∧
    (32#8 : Octet).getLsbD 5 = true ∧ (∀ v : Fin 8, v.val > 4 → (31#8 : Octet).getLsbD v.val = false) ∧
    (go (.conditionMask 32#8 true) up).panelAnswer = some ⟨37#8, .badIndex, []⟩ ∧
    (go (.conditionMask 31#8 true) up).viewMasked = 31#8 := by decide +kernel

/-- Messages written out: REMOTE_MUTE of channel 3 at station 5, BIND of channel 7 to hoot 127, LINE_FORCE FORCE_RD, LINE_PORT
IN, EVENT_MASK of kind 15, CALL of hunt group 7 by handset A, READ_AUDIO. -/
theorem witness_messages :
    readRequest false [0#8, 4#8, 24#8, 5#8, 3#8, 1#8] = some (.remoteMute 5#8 3#8 true) ∧
    readRequest false [0#8, 5#8, 25#8, 7#8, 2#8, 0#8, 127#8] = some (.bind 7#8 2#8 127#16) ∧
    readRequest false [0#8, 3#8, 4#8, 6#8, 1#8] = some (.forceRd 6#8) ∧
    readRequest false [0#8, 3#8, 3#8, 6#8, 0#8] = some (.linePortIn 6#8) ∧
    readRequest false [0#8, 4#8, 35#8, 0x80#8, 0#8, 1#8] = some (.eventMask 0x8000#16 true) ∧
    readRequest false [0#8, 4#8, 15#8, 0#8, 0#8, 71#8] = some (.call 0#8 0#8 71#8) ∧
    readRequest true [0#8, 6#8, 3#8, 63#8, 0#8, 15#8, 1#8, 0#8] = some (.readAudio 63#8 15#16 256#16) ∧
    requestMessage false (.bind 7#8 1#8 501#16) = some [0#8, 5#8, 25#8, 7#8, 1#8, 1#8, 0xF5#8] ∧
    requestMessage true (.bind 7#8 1#8 501#16) = none := by decide +kernel

theorem test_malformed_messages : readRequest false [] = none ∧ readRequest false [0#8, 1#8] = none ∧
    readRequest false [0#8, 1#8, 40#8] = none ∧ readRequest false [0#8, 2#8, 1#8] = none ∧
    readRequest false [0#8, 2#8, 1#8, 0#8] = none ∧ readRequest false [0#8, 3#8, 12#8, 0#8, 2#8] = none ∧
    readRequest false [0#8, 3#8, 4#8, 0#8, 3#8] = none ∧ readRequest true [0#8, 1#8, 5#8] = none ∧
    (go (.malformedMessage true [0#8, 1#8, 5#8]) up).recorderAnswer = some ⟨5#8, .badValue, []⟩ ∧
    (go (.malformedMessage false [0#8]) up).panelAnswer = some ⟨0#8, .badValue, []⟩ ∧
    go (.malformedMessage false [0#8, 1#8, 1#8]) up = up := by decide +kernel

/-- The outcome of a panel message that no request reads. -/
def refusedAs (octets : List Octet) (s : State) : Option Verdict := (go (.malformedMessage false octets) s).panelAnswer.map (·.verdict)

theorem witness_uncoded_values : readUncoded [0#8, 1#8, 200#8] = none ∧ readUncoded [0#8, 3#8, 12#8, 0#8, 1#8] = none ∧
    State.reset.panelAnswers = true ∧ refusedAs [0#8, 3#8, 12#8, 5#8, 2#8] State.reset = some .notActive ∧
    refusedAs [0#8, 3#8, 12#8, 2#8, 2#8] up = some .badIndex ∧ refusedAs [0#8, 3#8, 12#8, 1#8, 2#8] up = some .badValue ∧
    refusedAs [0#8, 3#8, 11#8, 0#8, 2#8] { up with stationState := .left } = some .notActive ∧ refusedAs [0#8, 3#8, 32#8, 8#8, 255#8] up = some .badIndex ∧
    refusedAs [0#8, 4#8, 24#8, 5#8, 7#8, 2#8] up = some .badValue ∧ refusedAs [0#8, 3#8, 37#8, 32#8, 2#8] up = some .badIndex ∧
    refusedAs [0#8, 4#8, 35#8, 0#8, 2#8, 2#8] State.reset = some .badValue ∧ refusedAs [0#8, 3#8, 3#8, 1#8, 2#8] up = some .badIndex ∧
    refusedAs [0#8, 3#8, 4#8, 0#8, 3#8] up = some .badValue := by decide +kernel

/-- A station with `n` notices and an overflow count of 254. -/
def queuedNotices (n : Nat) : State := { up with notices := List.replicate n ⟨.duplicate, 7#32⟩, overflow := 254#8 }

theorem witness_notices : (queuedNotices 31).notices.length < 32 ∧ 32 ≤ (queuedNotices 32).notices.length ∧
    ((queuedNotices 31).notify .clashed).notices.length = 32 ∧ ((queuedNotices 31).notify .clashed).overflow = 254#8 ∧
    ((queuedNotices 32).notify .clashed).overflow = 255#8 ∧
    (((queuedNotices 32).notify .clashed).notify .clashed).overflow = 255#8 ∧ (queuedNotices 1).interrupt = true ∧
    ({ queuedNotices 1 with eventMasked := 0x2000#16 } : State).interrupt = false ∧ up.interrupt = false ∧
    changed.interrupt = true ∧ ({ changed with viewMasked := 1#8 } : State).interrupt = true ∧
    ({ changed with viewMasked := 0x11#8 } : State).interrupt = false := by decide +kernel

/-- A station with counts, at the end of its monitoring interval. -/
def counted : State :=
  { up with monitorTimer := 0, live := { up.live with badFrames := 3#16 }
            snapshots := { up.snapshots with signalIgnored := 258#16 }, snapshotTime := 1#32 }

theorem witness_counters : counted.panelAnswers = true ∧ counted.monitorTimer = 0 ∧ up.monitorTimer ≠ 0 ∧
    (go .monitorIntervalExpiry counted).snapshots.badFrames = 3#16 ∧ (go .snapshot counted).live.badFrames = 0#16 ∧
    (go .snapshot up).monitorTimer = 501 ∧
    (go (.readCounters 5#8 9#8) counted).panelAnswer = some ⟨39#8, .done, [0#8, 0#8, 0#8, 1#8, 1#8, 2#8]⟩ ∧
    (go (.readCounters 1#8 8#8) counted).panelAnswer = some ⟨39#8, .badIndex, []⟩ ∧
    (go (.readCounters 1#8 7#8) counted).panelAnswer = some ⟨39#8, .done, [0#8, 0#8, 0#8, 1#8, 0#8, 0#8, 0#8, 0#8, 0#8, 0#8]⟩ ∧
    (go (.readCounters 6#8 0#8) counted).panelAnswer = some ⟨39#8, .badValue, []⟩ := by decide +kernel

/-! ### The queue and the invariants -/

theorem witness_step : ({ up with pending := [.mediumIdle, .join] } : State).pending = .mediumIdle :: [.join] ∧
    (nextOf (step { up with pending := [.mediumIdle, .join] })).pending = [.join] ∧ up.pending = [] ∧
    (nextOf (step up)).stationTime = 4006#32 ∧
    (nextOf (step { up with stationTime := 4015#32 })).stationTime = 4015#32 := by decide +kernel

/-- A member entry of a handset. -/
def member (st : Station) (h : Fin 2) (mode : Mode) : Member := ⟨⟨st, .handset h⟩, mode, 100#32, none, false⟩

/-- An engaged record with station 19 as its one member. -/
def engaged : LineRecord := { idle with state := .engaged, members := [member 19#6 0 .active] }

theorem settled_idle : idle.Settled (up.portCfg 0) false Alarms.clear :=
  ⟨by decide, by decide, by decide, by decide, by decide⟩

theorem settled_engaged : engaged.Settled (up.portCfg 0) false Alarms.clear :=
  ⟨by decide, by decide, by decide, by decide, by decide⟩

theorem witness_tables_sound : up.TablesSound ∧ step up = .next up.passSample :=
  ⟨⟨by decide, by decide, by decide, by decide⟩, rfl⟩

theorem witness_lines_settled : up.LinesSettled ∧ step up = .next up.passSample := by
  refine ⟨?_, rfl⟩
  intro k r h
  by_cases hk : k = 0
  · subst hk
    cases h
    exact settled_idle
  · have e : ∀ j : Fin 8, j ≠ 0 → up.records[j] = none := by decide
    rw [e k hk] at h
    cases h

theorem witness_line_state : engaged.Settled (up.portCfg 0) false Alarms.clear ∧ engaged.state = .engaged ∧
    idle.Settled (up.portCfg 0) false Alarms.clear ∧ idle.state = .idle :=
  ⟨settled_engaged, rfl, settled_idle, rfl⟩

/-! ### Layouts and arithmetic -/

/-- The CRC check value of the polynomial with that start and that inversion, of "123456789". -/
theorem test_crc_check_value : crc32 [0x31#8, 0x32#8, 0x33#8, 0x34#8, 0x35#8, 0x36#8, 0x37#8, 0x38#8, 0x39#8] =
    0xFC891918#32 := by decide +kernel

theorem witness_sent_frames :
    Body.carriable (.beacon card19) ∧ (Body.beacon card19).agrees 19#6 = true ∧
    (Body.beacon card19).kind.allows Config.allStations = true ∧
    heardAsSent 19#6 63#6 (.beacon card19) = true ∧
    Body.carriable (.ask ⟨1023#16, some .unlisten, .linePort 7, .speakerCh 7, true, 255#8⟩) ∧
    heardAsSent 62#6 1#6 (.ask ⟨1023#16, some .unlisten, .linePort 7, .speakerCh 7, true, 255#8⟩) = true ∧
    Body.carriable (.call ⟨.offer, ⟨19#6, 3⟩, .handset 1, .group 63#6, .answeredElsewhere⟩) ∧
    heardAsSent 19#6 63#6 (.call ⟨.offer, ⟨19#6, 3⟩, .handset 1, .group 63#6, .answeredElsewhere⟩) = true ∧
    Body.carriable (.voice ⟨.call 251, .mic, 255#8, true, loud⟩) ∧
    heardAsSent 1#6 63#6 (.voice ⟨.call 251, .mic, 255#8, true, loud⟩) = true ∧
    Body.carriable (.state ⟨412#16, .held, true, true, .ring, ⟨true, false, true, false, true⟩,
      [⟨⟨1#6, .handset 1⟩, .held, true⟩], [⟨2#6, .speakerCh 7⟩]⟩) ∧
    heardAsSent 12#6 63#6 (.state ⟨412#16, .held, true, true, .ring, ⟨true, false, true, false, true⟩,
      [⟨⟨1#6, .handset 1⟩, .held, true⟩], [⟨2#6, .speakerCh 7⟩]⟩) = true :=
  ⟨(by decide : card19.homeLines.length ≤ 8), by decide, by decide, by decide +kernel, rfl, by decide +kernel, ⟨by decide, by decide⟩,
    by decide +kernel, (by decide : (251 : Nat) < 1024), by decide +kernel, ⟨by decide, by decide⟩, by decide +kernel⟩

/-- An ASK TAKE of station 19's handset B for line 412, octet by octet: class 3, source 19, target 12, kind ASK, 8 octets. -/
def askAsWritten (unnamed : Octet) : List Octet :=
  closedFrame [0x69#8, 0x98#8 ||| unnamed, 3#8, 0#8, 8#8, 1#8, 0x9C#8, 1#8, 1#8, 0#8, 0#8, 3#8, 0#8]

theorem test_frames_as_written :
    readFrame (askAsWritten 0#8) = some ⟨19#6, 12#6, .ask ⟨412#16, some .take, .handset 1, .handset 0, false, 3#8⟩⟩ ∧
    readFrame (askAsWritten 1#8) = readFrame (askAsWritten 0#8) ∧
    readFrame (closedFrame [0x49#8, 0xFE#8, 1#8, 0#8, 12#8, 1#8, 0xF5#8, 4#8, 0xC2#8, 1#8, 1#8, 1#8, 12#8, 1#8, 0x40#8, 9#8, 3#8]) =
      some ⟨19#6, 63#6, .state ⟨501#16, .engaged, true, true, .offhook, ⟨false, false, false, false, true⟩,
        [⟨⟨12#6, .handset 1⟩, .active, true⟩], [⟨9#6, .speakerCh 0⟩]⟩⟩ ∧
    readFrame (closedFrame [0x49#8, 0x98#8, 2#8, 0#8, 5#8, 1#8, 0xF5#8, 4#8, 1#8, 6#8]) =
      some ⟨19#6, 12#6, .reply ⟨501#16, 4#8, true, some .inUse⟩⟩ ∧
    readFrame (closedFrame [0x69#8, 0xFE#8, 4#8, 0#8, 6#8, 1#8, 19#8, 2#8, 1#8, 71#8, 0#8]) =
      some ⟨19#6, 63#6, .call ⟨.offer, ⟨19#6, 2⟩, .handset 1, .group 7#6, .none⟩⟩ ∧
    readFrame (closedFrame [0x69#8, 0x98#8, 5#8, 0#8, 2#8, 2#8, 15#8]) = some ⟨19#6, 12#6, .signal ⟨false, 15#8⟩⟩ ∧
    readFrame (closedFrame [0xA9#8, 0xFE#8, 7#8, 0#8, 6#8, 19#8, 0x60#8, 1#8, 1#8, 0xF5#8, 0#8]) =
      some ⟨19#6, 63#6, .beacon card19⟩ ∧
    (readFrame (closedFrame ([0x89#8, 0xFE#8, 6#8, 0#8, 37#8, 0xC0#8, 251#8, 1#8, 255#8, 0x80#8] ++ List.replicate 32 0#8))) =
      some ⟨19#6, 63#6, .voice ⟨.call 251, .handset 1, 255#8, true, Block.silence⟩⟩ := by decide +kernel

/-- Frames with a right CRC that fail another check: class 4 for an ASK, source 63, target 63 for an ASK, kind 8, a length of
one less, CALL kind 6, SIGNAL code 3, port code 19, a BEACON of another number, seven members, and no frame at all. -/
theorem test_frames_refused :
    readFrame (closedFrame [0x89#8, 0x98#8, 3#8, 0#8, 8#8, 1#8, 0x9C#8, 1#8, 1#8, 0#8, 0#8, 3#8, 0#8]) = none ∧
    readFrame (closedFrame [0x7F#8, 0x98#8, 3#8, 0#8, 8#8, 1#8, 0x9C#8, 1#8, 1#8, 0#8, 0#8, 3#8, 0#8]) = none ∧
    readFrame (closedFrame [0x69#8, 0xFE#8, 3#8, 0#8, 8#8, 1#8, 0x9C#8, 1#8, 1#8, 0#8, 0#8, 3#8, 0#8]) = none ∧
    readFrame (closedFrame [0x69#8, 0x98#8, 8#8, 0#8, 2#8, 2#8, 15#8]) = none ∧
    readFrame (closedFrame [0x69#8, 0x98#8, 5#8, 0#8, 1#8, 2#8, 15#8]) = none ∧
    readFrame (closedFrame [0x69#8, 0xFE#8, 4#8, 0#8, 6#8, 6#8, 19#8, 2#8, 1#8, 71#8, 0#8]) = none ∧
    readFrame (closedFrame [0x69#8, 0x98#8, 5#8, 0#8, 2#8, 3#8, 15#8]) = none ∧
    readFrame (closedFrame [0x69#8, 0x98#8, 3#8, 0#8, 8#8, 1#8, 0x9C#8, 1#8, 19#8, 0#8, 0#8, 3#8, 0#8]) = none ∧
    readFrame (closedFrame [0xA9#8, 0xFE#8, 7#8, 0#8, 3#8, 18#8, 0#8, 0#8]) = none ∧
    readFrame (closedFrame ([0x49#8, 0xFE#8, 1#8, 0#8, 28#8, 1#8, 0xF5#8, 4#8, 0#8, 0#8, 7#8, 0#8] ++ List.replicate 21 1#8)) = none ∧
    readFrame [] = none ∧ readFrame (closedFrame []) = none := by decide +kernel

theorem witness_scaling : scale (-32768) 88 = -131072 ∧ scale 32767 88 = 131068 ∧ scale 1000 64 = 500 ∧
    scale (-1) 64 = 0 ∧ scale 1 64 = 1 ∧ gainFactor 71 < gainFactor 72 := by decide

theorem witness_levels : energy loud = 8000 ∧ energy (Vector.replicate 16 0x8000#16) = 32768 ∧ (0 : Nat) < energy loud ∧
    levelAfter 0 loud = 2000 ∧ levelAfter 8000 loud = 8000 ∧ levelAfter 800 Block.silence = 700 := by decide +kernel

/-! ### Joining and leaving the floor -/

/-- An image whose words sum to 0: 2047, its high octet first, and 2047 words not given. -/
def goodImage : List Octet := [7#8, 255#8]

/-- A station in LOADING with carrier on port 0. -/
def fresh : State := { State.reset with carrier := State.reset.carrier.set 0 true }

theorem test_full_reset_keeps_the_pins : (go .fullReset up).carrier = up.carrier ∧
    (go .fullReset up).stationState = .loading ∧ (go .fullReset up).buzzMasked = 0xF0#8 := by decide +kernel

theorem witness_load : imageSum goodImage = 0#16 ∧ imageSum [7#8, 254#8] ≠ 0#16 ∧ fresh.stationState = .loading ∧
    up.stationState ≠ .loading ∧ words12.stationNumber.toNat = 12 ∧
    (∀ k : Fin 8, fresh.records[k] = none ∧ fresh.taps[k] = none) ∧
    (go (.loadComplete [7#8, 254#8] words12) fresh).stationState = .configFault ∧
    (go (.loadComplete goodImage { words12 with stationNumber := 63#16 }) fresh).stationState = .configFault ∧
    (go (.loadComplete goodImage words12) fresh).stationState = .listening ∧
    (go (.loadComplete goodImage words12) fresh).listenTimer = some 150 ∧
    (go (.loadComplete goodImage words12) fresh).configClamps = 1#16 ∧
    ((go (.loadComplete goodImage words12) fresh).portCfg 0).holdRecall = 600 ∧
    ((go (.loadComplete goodImage words12) fresh).records[(0 : Fin 8)]).map (·.state) = some .idle ∧
    (go (.loadComplete goodImage words12) State.reset).notices = [⟨.lineAlarm 412#16 0 .los true, 0#32⟩] ∧
    ((go (.loadComplete goodImage words12) State.reset).records[(0 : Fin 8)]).map (·.state) = some .failed := by
  decide +kernel

theorem witness_settings : ({ words12 with gate := 32768#16 } : SettingWords).gate.toNat ≤ 32768 ∧
    (checkSettings { words12 with gate := 32768#16 }).1.gate = 32768 ∧
    (checkSettings { words12 with gate := 32769#16 }).1.gate = 32768 ∧ (checkSettings words12).1.gate = 200 ∧
    (0 : Fin 8) ≠ 1 ∧ ((checkSettings words12).1.ports[(0 : Fin 8)]).line = 412#16 := by decide +kernel

theorem test_load_without_a_panel :
    (go (.loadComplete goodImage { words12 with panelPresent := 0#16 }) { fresh with panelAnswer := some ⟨1#8, .done, []⟩ }).panelAnswer
      = none ∧
    (go (.loadComplete goodImage words12) { fresh with panelAnswer := some ⟨1#8, .done, []⟩ }).panelAnswer =
      some ⟨1#8, .done, []⟩ := by decide +kernel

/-- Station 12 at the end of its listen period, no peer heard. -/
def listened : State :=
  { up with stationState := .listening, listenTimer := some 0, beaconTimer := none, peers := State.reset.peers
            mirrors := [⟨412#16, .unknown, none, none⟩, ⟨501#16, .unknown, none, none⟩] }

theorem witness_listen_period : listened.stationState = .listening ∧ listened.listenTimer = some 0 ∧ listened.txQueue = [] ∧
    listened.transmitting = false ∧ (∀ p : Fin 64, (listened.peers[p]).state ≠ .present) ∧
    (∀ k : Fin 8, (listened.cfg.channels[k]).binding = .unbound) ∧
    (∀ j k : Fin 8, j ≠ k → (listened.cfg.ports[j]).line ≠ (listened.cfg.ports[k]).line ∨ (listened.cfg.ports[j]).line = 0#16) ∧
    listened.records[(0 : Fin 8)] = some idle ∧ (listened.cfg.ports[(0 : Fin 8)]).line ≠ 0#16 ∧ up.listenTimer ≠ some 0 ∧
    (go .listenPeriodExpiry listened).stationState = .active ∧
    has (go .listenPeriodExpiry listened) Config.allStations (.state (listened.lineStatus 0 idle)) = true ∧
    has (go .listenPeriodExpiry listened) Config.allStations (.beacon (listened.card false)) = true ∧
    ((go .listenPeriodExpiry listened).records[(0 : Fin 8)]).map (·.refresh) = some (some 251) := by decide +kernel

/-- Station 12 in LEFT, its line out of service, the far end ringing. -/
def left : State :=
  { upWith { idle with state := .outOfService, refresh := none } with
    stationState := .left, ports := up.ports.set 0 { up.ports[(0 : Fin 8)] with accepted := .ring } }

theorem witness_join : left.panelAnswers = true ∧ left.stationState = .left ∧
    left.records[(0 : Fin 8)] = some { idle with state := .outOfService, refresh := none } ∧
    (left.ports[(0 : Fin 8)]).out = false ∧ State.reset.panelAnswers = true ∧ State.reset.stationState = .loading ∧
    (go .join left).stationState = .listening ∧ (go .join left).listenTimer = some 151 ∧
    ((go .join left).records[(0 : Fin 8)]).map (·.state) = some .ringingIn ∧ (go .join left).txQueue = [] ∧
    (go .join up).panelAnswer = some ⟨1#8, .busy, []⟩ ∧
    (go .join State.reset).panelAnswer = some ⟨1#8, .notActive, []⟩ := by decide +kernel

/-- Station 12 in ACTIVE with a frame in transmission and another behind it, a handset bound and a call alerting. -/
def busyUp : State :=
  { up with
    txQueue := [entry 19#6 signalBody 20, entry 63#6 voiceBody 1], transmitting := true
    handsets := up.handsets.set 0 ⟨false, [⟨.line 501#16, 72, 0⟩], 72, false⟩
    slots := up.slots.set 1 ⟨.alerting, some .called, some ⟨19#6, 0⟩, none, some ⟨19#6, .handset 0⟩, some (.port (.handset 0)),
      none, some 4000⟩ }

theorem witness_leave : busyUp.panelAnswers = true ∧ busyUp.stationState = .active ∧ listened.stationState = .listening ∧
    left.stationState = .left ∧ State.reset.stationState = .loading ∧
    (go .leave busyUp).txQueue = [entry 19#6 signalBody 20, ⟨63#6, .beacon (busyUp.card true), 4005#32, 51, false⟩] ∧
    (go .leave left).panelAnswer = some ⟨2#8, .done, []⟩ ∧
    (go .leave State.reset).panelAnswer = some ⟨2#8, .notActive, []⟩ := by decide +kernel

/-- Engaged line 412 with its recording at descriptor 63, and the same station in LISTENING with an entry waiting. -/
def recordingLine : State :=
  { upWith engaged with
    taps := up.taps.set 0 (some ⟨.recording, some 6#16, 2#16, some 63, 0#16, none⟩)
    ring := up.ring.set 63 { Descriptor.empty with owner := .filling, recording := 6#16, segment := 1#16
                                                   pairs := [(1#16, 2#16)] } }

theorem witness_leave_of_a_tap : recordingLine.records[(0 : Fin 8)] = some engaged ∧
    recordingLine.taps[(0 : Fin 8)] = some ⟨.recording, some 6#16, 2#16, some 63, 0#16, none⟩ ∧ engaged.members ≠ [] ∧
    ((go .leave recordingLine).taps[(0 : Fin 8)]).map (·.state) = some .idle ∧
    ((go .leave recordingLine).ring[(63 : Fin 64)]).owner = .ready ∧ ((go .leave recordingLine).ring[(63 : Fin 64)]).last = true ∧
    (go .leave { listened with txQueue := [entry 63#6 voiceBody 0] }).txQueue = [] ∧
    ((go .leave { recordingLine with taps := up.taps.set 0 (some ⟨.starved, some 6#16, 2#16, none, 5#16, none⟩) }).taps[(0 : Fin 8)]).map
      (·.state) = some .closing := by decide +kernel

/-! ### Floor bus -/

/-- A queue with a stale entry at its head. -/
def staleHead : State := { up with txQueue := [entry 63#6 voiceBody 0, entry 19#6 signalBody 20] }

theorem witness_queue : staleHead.transmitting = false ∧ busyUp.transmitting = true ∧
    busyUp.txQueue = entry 19#6 signalBody 20 :: [entry 63#6 voiceBody 1] ∧
    staleHead.txQueue[0]? = some (entry 63#6 voiceBody 0) ∧ busyUp.txQueue[1]? = some (entry 63#6 voiceBody 1) ∧
    (go .mediumIdle staleHead).txQueue = [entry 19#6 signalBody 20] ∧ (go .mediumIdle staleHead).transmitting = true ∧
    (go .mediumIdle staleHead).live.staleDrops = 1#16 ∧ (go .mediumIdle up).mediumIdle = true ∧
    (go .contentionLoss busyUp).txQueue = busyUp.txQueue ∧ (go .contentionLoss busyUp).live.contentionLosses = 1#16 ∧
    (go .contentionLoss busyUp).transmitting = false ∧ (go .frameSent busyUp).txQueue = [entry 63#6 voiceBody 1] ∧
    ((go (.lifetimeExpiry 0) staleHead).txQueue.map (·.stale)) = [true, false] ∧
    ((go (.lifetimeExpiry 1) busyUp).txQueue.map (·.stale)) = [false, false] := by decide +kernel

theorem witness_beacon_interval : ({ up with beaconTimer := some 0 } : State).beaconTimer = some 0 ∧ up.beaconTimer ≠ some 0 ∧
    (go .beaconIntervalExpiry { up with beaconTimer := some 0 }).beaconTimer = some 51 ∧
    has (go .beaconIntervalExpiry { up with beaconTimer := some 0 }) 63#6 (.beacon (up.card false)) = true ∧
    (go .beaconIntervalExpiry up).txQueue = [] := by decide +kernel

/-- A station with a frame in transmission and two clash events in its window, the earlier one's second over. -/
def clashing : State := { busyUp with clashWindow := [0, 300] }

theorem witness_clash : busyUp.transmitting = true ∧ busyUp.clashWindow.length < 2 ∧ 2 ≤ clashing.clashWindow.length ∧
    clashing.clashWindow = [] ++ 0 :: [300] ∧ ({ up with clashWindow := [7, 300] } : State).clashWindow = [7, 300] ∧
    up.transmitting = false ∧ left.stationState ≠ .active ∧
    (go .clashEvent busyUp).clashWindow = [501] ∧ (go .clashEvent busyUp).txQueue = [entry 63#6 voiceBody 1] ∧
    (go .clashEvent clashing).txQueue = [] ∧
    (go .clashEvent { left with transmitting := true, txQueue := [entry 63#6 signalBody 3] }).clashWindow = [] ∧
    (go .clashWindowExpiry clashing).clashWindow = [300] := by decide +kernel

/-- A station with a frame in transmission and `n` further control entries. -/
def queued (n : Nat) : State :=
  { up with txQueue := List.replicate (n + 1) (entry 19#6 signalBody 20), transmitting := true }

/-- The same with a VOICE entry last. -/
def queuedVoice (n : Nat) : State := { queued n with txQueue := (queued n).txQueue ++ [entry 63#6 voiceBody 1] }

theorem sound_queued : (queued 22).TablesSound ∧ (queued 23).TablesSound ∧ (queuedVoice 22).TablesSound :=
  ⟨⟨by decide, by decide, by decide, by decide⟩, ⟨by decide, by decide, by decide, by decide⟩,
    ⟨by decide, by decide, by decide, by decide⟩⟩

theorem witness_offers : (queued 22).stationState = .active ∧ (queued 22).txQueue.length = 23 ∧
    (∀ e ∈ (queued 22).waiting, signalBody.replaces e.body = false) ∧ (queued 23).txQueue.length = 24 ∧
    (∀ e ∈ (queued 23).waiting, e.body.kind ≠ .voice) ∧ voiceBody.kind = .voice ∧ (queuedVoice 22).txQueue.length = 24 ∧
    (queuedVoice 22).waiting = List.replicate 22 (entry 19#6 signalBody 20) ++ entry 63#6 voiceBody 1 :: [] ∧
    ((queued 22).offer 19#6 signalBody).2 = true ∧ ((queued 23).offer 63#6 voiceBody).1.live.txOverruns = 1#16 ∧
    ((queued 23).offer 19#6 signalBody).1.live.controlRefused = 1#16 ∧
    ((queuedVoice 22).offer 19#6 signalBody).1.live.evictions = 1#16 := by decide +kernel

/-- Station 12 with the medium idle, and with a stale BEACON and a STATE of line 412 waiting. -/
def idleMedium : State := { up with mediumIdle := true }
def oldState : LineStatus := { up.lineStatus 0 idle with members := [⟨⟨19#6, .handset 0⟩, .held, true⟩] }
def newState : LineStatus :=
  { up.lineStatus 0 idle with members := [⟨⟨19#6, .handset 0⟩, .held, false⟩, ⟨⟨3#6, .handset 0⟩, .held, false⟩] }
def announced : State :=
  { up with txQueue := [⟨63#6, .state oldState, 7#32, 3, true⟩, ⟨63#6, .beacon (up.card false), 8#32, 0, true⟩] }

theorem sound_announced : announced.TablesSound ∧ idleMedium.TablesSound :=
  ⟨⟨by decide, by decide, by decide, by decide⟩, ⟨by decide, by decide, by decide, by decide⟩⟩

theorem witness_replacements : idleMedium.txQueue = [] ∧ idleMedium.mediumIdle = true ∧
    (up.offer 19#6 signalBody).1.mediumIdle = false ∧
    announced.waiting = [] ++ ⟨63#6, .state oldState, 7#32, 3, true⟩ :: [⟨63#6, .beacon (up.card false), 8#32, 0, true⟩] ∧
    (∀ x ∈ [(⟨63#6, .beacon (up.card false), 8#32, 0, true⟩ : TxEntry)], (Body.state newState).replaces x.body = false) ∧
    (announced.offer 63#6 (.state newState)).1.txQueue.head? = some ⟨63#6, .state { newState with
      members := [⟨⟨19#6, .handset 0⟩, .held, true⟩, ⟨⟨3#6, .handset 0⟩, .held, false⟩] }, 7#32, 26, false⟩ ∧
    (announced.offer 63#6 (.beacon card12)).1.txQueue.getLast? = some ⟨63#6, .beacon card12, 8#32, 51, false⟩ ∧
    ((queuedVoice 22).offer 19#6 signalBody).1.txQueue.length = 24 ∧
    ((queuedVoice 22).offer 19#6 signalBody).1.txQueue.all (fun e => !e.isVoice) = true := by decide +kernel

/-- An offer to an empty queue on an idle medium begins, or finds the frame of another station: the queue holds it either
way. -/
theorem test_seized_medium : (idleMedium.offer 19#6 signalBody).1.txQueue = [⟨19#6, signalBody, 4005#32, 26, false⟩] ∧
    (idleMedium.offer 19#6 signalBody).1.transmitting = !Config.otherHasBegun 0 := by
  have e : idleMedium.offer 19#6 signalBody =
      (({ idleMedium with txQueue := [⟨19#6, signalBody, 4005#32, 26, false⟩] } : State).seizeMedium, true) := rfl
  rw [e, State.seizeMedium]
  show (ite (Config.otherHasBegun 0 = true) _ _ : State).txQueue = _ ∧ (ite (Config.otherHasBegun 0 = true) _ _ : State).transmitting = _
  cases Config.otherHasBegun 0 <;> exact ⟨rfl, rfl⟩

/-! ### Frames heard -/

/-- A SIGNAL frame with one wrong bit, before the CRC it was sent with. -/
def badUnit : List Octet := (sentUnit 19#6 12#6 signalBody).set 6 2#8

/-- The CRC the SIGNAL frame was sent with. -/
def badCrc : List Octet := octets32 (crc32 (sentUnit 19#6 12#6 signalBody))

theorem witness_bad_frames : (.signalSet badUnit badCrc, (·.signals true)) ∈
    heardRows (badUnit.take 5) (badUnit.drop 5) badCrc := by
  simp [heardRows]

theorem test_bad_frames : up.loaded = true ∧ State.reset.loaded = false ∧ readFrame (badUnit ++ badCrc) = none ∧
    (go (.signalSet badUnit badCrc) up).live.badFrames = 1#16 ∧ (go (.signalSet badUnit badCrc) up).signalWord = 0#16 ∧
    (go (.voiceReceived badUnit badCrc) up).live.badFrames = 1#16 ∧
    (go (.signalSet badUnit badCrc) State.reset).live.badFrames = 0#16 ∧
    (go (.signalSet badUnit badCrc) { up with mediumIdle := true }).mediumIdle = false ∧
    (go (.signalClear (sentUnit 19#6 12#6 signalBody) badCrc) up).live.badFrames = 0#16 := by decide +kernel

/-- The card with which station 19 leaves. -/
def leavingCard : Card := { card19 with leaving := true }

/-- Station 19 in a talker set, a stream and a call of station 12. -/
def together : State :=
  { upWith engaged with
    streams := up.streams.set 4 (some ⟨.line 412#16, ⟨19#6, .handset 0⟩, .lineMix, true, [], 5#8, 900, 0, Block.silence, 30⟩)
    channels := up.channels.set 2 ⟨.hoot 7, 72, 0, false, [⟨⟨19#6, .mic⟩, 0, 900⟩], none, 0⟩
    slots := up.slots.set 1 ⟨.alerting, some .called, some ⟨19#6, 0⟩, none, some ⟨19#6, .handset 0⟩, some (.port (.handset 0)),
      none, some 4000⟩ }

theorem witness_beacon_of_another : heardAsSent 19#6 63#6 (.beacon card19) = true ∧
    heardAsSent 19#6 63#6 (.beacon leavingCard) = true ∧ (19#6 : Station) ≠ up.cfg.station ∧
    (together.peer 19#6).state = .present ∧ (listened.peer 19#6).state ≠ .present ∧
    ((go (heardCommand 19#6 63#6 (.beacon card19)) listened).peer 19#6).silence = some 201 ∧
    ((go (heardCommand 19#6 63#6 (.beacon leavingCard)) listened).peer 19#6).state = .left ∧
    (go (heardCommand 19#6 63#6 (.beacon leavingCard)) together).streams[(4 : Fin 32)] = none ∧
    ((go (heardCommand 19#6 63#6 (.beacon leavingCard)) together).channels[(2 : Fin 8)]).talkers = [] ∧
    (go (heardCommand 19#6 63#6 (.beacon leavingCard)) together).slots[(1 : Fin 4)] = Slot.empty ∧
    ((go (heardCommand 19#6 63#6 (.beacon leavingCard)) together).records[(0 : Fin 8)]).map (·.members) = some [] := by
  decide +kernel

theorem witness_beacon_of_own_number : heardAsSent 12#6 63#6 (.beacon card12) = true ∧
    (12#6 : Station) = up.cfg.station ∧ busyUp.transmitting = true ∧
    busyUp.loaded = true ∧ listened.transmitting = false ∧
    (go (heardCommand 12#6 63#6 (.beacon card12)) busyUp).clashWindow = [] ∧
    (go (heardCommand 12#6 63#6 (.beacon card12)) listened).stationState = .duplicate ∧
    (go (heardCommand 12#6 63#6 (.beacon card12)) up).clashWindow = [501] ∧
    (go (heardCommand 12#6 63#6 (.beacon card12)) left).stationState = .left := by decide +kernel

/-- Station 12 with station 19's silence timer due. -/
def silentPeer : State := { together with peers := up.peers.set 19 ⟨.present, some card19, some 0⟩ }

theorem witness_peer_silence : (silentPeer.peer 19#6).state = .present ∧ (silentPeer.peer 19#6).silence = some 0 ∧
    silentPeer.records[(0 : Fin 8)] = some engaged ∧ silentPeer.outCause 0 engaged = false ∧
    (∀ m ∈ engaged.members, m.party.station ≠ silentPeer.cfg.station) ∧ engaged.listeners = [] ∧
    (together.peer 19#6).silence ≠ some 0 ∧
    ((go (.peerSilenceExpiry 19#6) silentPeer).peer 19#6) = ⟨.silent, some card19, none⟩ ∧
    ((go (.peerSilenceExpiry 19#6) silentPeer).records[(0 : Fin 8)]).map (·.members) = some [] := by decide +kernel

/-- Station 12 with line 501, home of the silent station 19, in every table of its position and a channel. -/
def losing : State :=
  { silentPeer with
    handsets := up.handsets.set 0 ⟨false, [⟨.line 501#16, 72, 0⟩], 72, false⟩
    held := [⟨501#16, 1, 0⟩], pendingAsks := [⟨4#8, 501#16, .ring, 0, 0, false, 19#6, 40⟩]
    channels := up.channels.set 7 ⟨.line 501#16, 72, 0, false, [], some ⟨5#8, 19#6, 40⟩, 0⟩ }

theorem witness_lost_home : losing.recordFor 501#16 = none ∧ losing.homeOf 501#16 = some 19#6 ∧
    (go (.peerSilenceExpiry 19#6) losing).homeOf 501#16 ≠ some 19#6 ∧
    (losing.mirrorOf 501#16).map (·.state) = some .current ∧
    ((go (.peerSilenceExpiry 19#6) losing).mirrorOf 501#16) = some ⟨501#16, .stale, some (line501 .idle []), none⟩ ∧
    ((go (.peerSilenceExpiry 19#6) losing).handsets[(0 : Fin 2)]).bindings = [] ∧
    (go (.peerSilenceExpiry 19#6) losing).held = [] ∧ (go (.peerSilenceExpiry 19#6) losing).pendingAsks = [] ∧
    (go (.peerSilenceExpiry 19#6) losing).channelState 7 = .off := by decide +kernel

theorem witness_home_changes : losing.notices.length + 4 ≤ 32 ∧
    (∀ b : LineStatus, losing.mirrorOf 501#16 = some ⟨501#16, .current, some b, some 500⟩ → b.state ≠ .ringingIn) ∧
    (losing.homeChanged (some 19#6) 501#16).notices = [⟨.lineLost 501#16 (.handset 0), 4005#32⟩,
      ⟨.lineLost 501#16 (.handset 1), 4005#32⟩, ⟨.askNoAnswer 501#16 .ring (.handset 0), 4005#32⟩,
      ⟨.askNoAnswer 501#16 .listen (.speakerCh 7), 4005#32⟩] ∧
    (losing.homeChanged none 501#16).held = losing.held ∧
    ({ losing with peers := up.peers.set 19 ⟨.silent, some card19, none⟩ } : State).homeOf 501#16 = none ∧
    (∃ m ∈ losing.mirrors, m.line = 501#16) ∧ losing.followHomes losing = losing := by
  refine ⟨by decide, ?_, by decide +kernel⟩
  intro b h; cases h; decide

/-- The card of station 3, which lists line 501 too. -/
def card3 : Card := ⟨3#6, false, true, true, false, [(501#16, 1)]⟩

theorem witness_lower_home : up.loaded = true ∧ (3#6 : Station) ≠ up.cfg.station ∧ heardAsSent 3#6 63#6 (.beacon card3) = true ∧
    card3.leaving = false ∧ (∃ e ∈ card3.homeLines, e.1 = 501#16) ∧ losing.recordFor 501#16 = none ∧
    losing.homeOf 501#16 = some 19#6 ∧ (3#6 : Station).toNat < (19#6 : Station).toNat ∧
    (losing.mirrorOf 501#16).map (·.state) = some .current ∧
    (go (heardCommand 3#6 63#6 (.beacon card3)) losing).homeOf 501#16 = some 3#6 ∧
    (go (heardCommand 3#6 63#6 (.beacon card3)) losing).held = [] := by decide +kernel

/-! ### Voice, STATE and REPLY frames -/

/-- A VOICE body of line 501 from a port of station 19. -/
def said (sequence : Octet) : Voice := ⟨.line 501#16, .handset 0, sequence, true, loud⟩

/-- A stream entry of line 501 with `n` blocks, expecting sequence 10. -/
def stream (n : Nat) : StreamEntry :=
  ⟨.line 501#16, ⟨19#6, .handset 0⟩, .handset, true, List.replicate n (9#8, Block.silence), 10#8, 0, 0, Block.silence, 20⟩

/-- Station 12 with handset A bound to line 501. -/
def bound : State := { up with handsets := up.handsets.set 0 ⟨false, [⟨.line 501#16, 72, 0⟩], 72, false⟩ }

/-- The same with a stream of line 501 at index 31. -/
def heard (n : Nat) : State := { bound with streams := up.streams.set 31 (some (stream n)) }

theorem hands_voice (n : Octet)
    (h : heardAsSent 19#6 63#6 (.voice (said n)) = true) :
    bound.HandsOn (sentFrame 19#6 63#6 (.voice (said n))) 19#6 63#6 (.voice (said n)) :=
  ⟨rfl, eq_of_beq h, (by decide : (19#6 : Station) ≠ 12#6), rfl, .inr rfl⟩

theorem witness_voice : bound.HandsOn (sentFrame 19#6 63#6 (.voice (said 10#8))) 19#6 63#6 (.voice (said 10#8)) ∧
    bound.interest (.line 501#16) = some .handset ∧ up.interest (.line 501#16) = none ∧
    bound.streams[(0 : Fin 32)] = none ∧ (heard 3).streams[(31 : Fin 32)] = some (stream 3) ∧
    ((go (heardCommand 19#6 63#6 (.voice (said 10#8))) bound).streams[(0 : Fin 32)]).map (·.expected) = some 11#8 ∧
    ((go (heardCommand 19#6 63#6 (.voice (said 10#8))) (heard 3)).streams[(31 : Fin 32)]).map (·.queue.length) = some 4 ∧
    (go (heardCommand 19#6 63#6 (.voice (said 10#8))) (heard 4)).live.slips = 1#16 :=
  ⟨hands_voice 10#8 (by decide +kernel), by decide +kernel⟩

theorem witness_voice_distances :
    ((11#8 : Octet) - (stream 3).expected).toNat = 1 ∧ ((14#8 : Octet) - (stream 3).expected).toNat = 4 ∧
    ((13#8 : Octet) - (stream 3).expected).toNat = 3 ∧ ((137#8 : Octet) - (stream 3).expected).toNat = 127 ∧
    ((138#8 : Octet) - (stream 3).expected).toNat = 128 ∧
    (go (heardCommand 19#6 63#6 (.voice (said 13#8))) (heard 3)).live.gaps = 3#16 ∧
    (go (heardCommand 19#6 63#6 (.voice (said 137#8))) (heard 3)).live.restarts = 1#16 ∧
    (go (heardCommand 19#6 63#6 (.voice (said 138#8))) (heard 3)).live.lateFrames = 1#16 := by decide +kernel

/-- Station 12 with line 501 bound and a full stream table, all entries of class LINE_MIX at level 9 or, the two lowest,
of class SPEAKER at level 7; the source of entry 5 talks on channel 2. -/
def fullTable (low : StreamClass) : State :=
  { bound with
    streams := (Vector.replicate 32 (some { stream 0 with party := ⟨20#6, .mic⟩, cls := .lineMix, level := 9 })).set 5
      (some { stream 0 with circuit := .hoot 7, party := ⟨21#6, .mic⟩, cls := low, level := 7 })
    channels := up.channels.set 2 ⟨.hoot 7, 72, 0, false, [⟨⟨21#6, .mic⟩, 0, 900⟩, ⟨⟨22#6, .mic⟩, 0, 900⟩], none, 0⟩ }

theorem witness_full_table :
    (fullTable .speaker).HandsOn (sentFrame 19#6 63#6 (.voice (said 10#8))) 19#6 63#6 (.voice (said 10#8)) ∧
    (fullTable .lineMix).HandsOn (sentFrame 19#6 63#6 (.voice (said 10#8))) 19#6 63#6 (.voice (said 10#8)) ∧
    ((∀ j : Fin 32, (fullTable .speaker).streams[j] ≠ none) ∧ (fullTable .speaker).interest (.line 501#16) = some .handset ∧
      StreamClass.speaker.rank < StreamClass.handset.rank ∧
      (∀ j : Fin 32, ((fullTable .lineMix).streams[j]).all fun e => decide (StreamClass.handset.rank ≤ e.cls.rank)) ∧
      (∀ j : Fin 32, j ≠ 5 → ((fullTable .speaker).streams[j]).all fun e => decide (StreamClass.handset.rank ≤ e.cls.rank)) ∧
      (go (heardCommand 19#6 63#6 (.voice (said 10#8))) (fullTable .lineMix)).live.streamsRefused = 1#16 ∧
      (go (heardCommand 19#6 63#6 (.voice (said 10#8))) (fullTable .speaker)).live.evictedStreams = 1#16 ∧
      ((go (heardCommand 19#6 63#6 (.voice (said 10#8))) (fullTable .speaker)).streams[(5 : Fin 32)]).map (·.expected) = some 11#8 ∧
      ((go (heardCommand 19#6 63#6 (.voice (said 10#8))) (fullTable .speaker)).channels[(2 : Fin 8)]).talkers =
        [⟨⟨22#6, .mic⟩, 0, 900⟩]) :=
  ⟨handsOn_of _ _ _ _ _ (by decide +kernel), handsOn_of _ _ _ _ _ (by decide +kernel), by decide +kernel⟩

theorem test_call_number_out_of_range :
    (go (heardCommand 19#6 63#6 (.voice ⟨.call 300, .handset 0, 9#8, true, loud⟩))
      { bound with
        slots := up.slots.set 1 ⟨.talking, some .called, some ⟨11#6, 0⟩, none, some ⟨19#6, .handset 0⟩,
          some (.port (.handset 0)), some 0, none⟩
        handsets := up.handsets.set 0 ⟨false, [⟨callCircuit ⟨11#6, 0⟩, 72, 0⟩], 72, false⟩ }).streams[(0 : Fin 32)] = none ∧
    300 % 256 = (11 : Nat) * 4 ∧ callCircuit ⟨11#6, 0⟩ = .call 44 := by decide +kernel

/-- A STATE of line 501 with handset A of station 12 as its one ACTIVE member. -/
def orphaned : LineStatus := line501 .engaged [⟨⟨12#6, .handset 0⟩, .active, false⟩]

theorem witness_state : up.HandsOn (sentFrame 19#6 63#6 (.state orphaned)) 19#6 63#6 (.state orphaned) ∧
    up.recordFor 501#16 = none ∧ up.homeOf 501#16 = some 19#6 ∧ up.homeOf 502#16 ≠ some 19#6 ∧
    (up.mirrorOf 501#16).isSome = true ∧ up.askPending 501#16 = false ∧ up.isBound 0 (lineCircuit 501#16) = false ∧
    up.txQueue.length < 24 ∧
    ((go (heardCommand 19#6 63#6 (.state orphaned)) up).mirrorOf 501#16).map (·.timer) = some (some 601) ∧
    has (go (heardCommand 19#6 63#6 (.state orphaned)) up) 19#6
      (askFrame 501#16 .drop (.handset 0) (.handset 0) false 0#8) = true ∧
    (go (heardCommand 19#6 63#6 (.state orphaned)) up).tagCount = 1#8 :=
  ⟨handsOn_of _ _ _ _ _ (by decide +kernel), by decide +kernel⟩

/-- Station 12 with a mirror of line 501 in a state, with a content. -/
def mirrored (st : MirrorState) (b : LineStatus) : State :=
  { up with mirrors := [⟨412#16, .unknown, none, none⟩, ⟨501#16, st, some b, some 500⟩] }

/-- A member entry of the station's own handset A. -/
def mine (mode : Mode) (flag : Bool) : MemberStatus := ⟨⟨12#6, .handset 0⟩, mode, flag⟩
/-- A member entry of another station. -/
def theirs : MemberStatus := ⟨⟨3#6, .handset 0⟩, .active, true⟩

theorem witness_lamps : up.mirrorOf up.cfg.appearance[(5 : Fin 128)] = none ∧ up.lamp 5 = .dark ∧
    ((mirrored .stale (line501 .idle [])).mirrorOf 501#16).map (·.state) = some .stale ∧
    (mirrored .stale (line501 .idle [])).lamp 1 = .dark ∧ (mirrored .current (line501 .outOfService [])).lamp 1 = .alarmWink ∧
    (mirrored .current (line501 .failed [])).lamp 1 = .alarmWink ∧ (mirrored .current (line501 .idle [])).lamp 1 = .off ∧
    (mirrored .current (line501 .ringingIn [])).lamp 1 = .fastFlash ∧
    (mirrored .current (line501 .engaged [theirs, mine .active false])).lamp 1 = .steadyGreen ∧
    (mirrored .current (line501 .held [mine .held true])).lamp 1 = .holdRecallFlash ∧
    (mirrored .current (line501 .engaged [theirs, mine .held false])).lamp 1 = .slowFlash ∧
    (mirrored .current (line501 .engaged [theirs])).lamp 1 = .steadyRed ∧
    (mirrored .current { line501 .held [theirs] with privacy := true }).lamp 1 = .redWithPrivacy := by decide +kernel

theorem witness_mirror_takes : (mirrored .current (line501 .ringingIn [])).mirrorOf 501#16 =
      some ⟨501#16, .current, some (line501 .ringingIn []), some 500⟩ ∧ up.notices.length + 9 ≤ 32 ∧
    ((mirrored .current (line501 .idle [])).mirrorTakes (line501 .ringingIn [])).notices = [⟨.ringStart 501#16, 4005#32⟩] ∧
    ((mirrored .stale (line501 .ringingIn [])).mirrorTakes (line501 .ringingIn [])).notices = [⟨.ringStart 501#16, 4005#32⟩] ∧
    ((mirrored .current (line501 .ringingIn [])).mirrorTakes (line501 .idle [])).notices = [⟨.ringStop 501#16, 4005#32⟩] ∧
    ({ mirrored .current (line501 .held [mine .held false]) with held := [⟨501#16, 0, 0⟩] }.mirrorTakes
      (line501 .held [mine .held true])).notices = [⟨.holdRecall 501#16 (.handset 0), 4005#32⟩] ∧
    ({ mirrored .current (line501 .held [mine .held true]) with held := [⟨501#16, 0, 0⟩] }.mirrorTakes
      (line501 .held [mine .held true])).notices = [] ∧
    ((mirrored .current (line501 .idle [])).mirrorTakes (line501 .ringingIn [])).marks.lamp[(1 : Fin 128)] = true := by decide +kernel

/-- A STATE of a line that the station only shows. -/
theorem witness_bare_state :
    up.HandsOn (sentFrame 19#6 63#6 (.state (line501 .engaged [theirs]))) 19#6 63#6 (.state (line501 .engaged [theirs])) ∧
    up.recordFor 501#16 = none ∧ up.homeOf 501#16 = some 19#6 ∧ (∀ x ∈ [theirs], x.party.station ≠ up.cfg.station) ∧
    (∀ h : Fin 2, (up.handsets[h]).bindings = []) ∧ up.held = [] ∧ (∀ c : Fin 8, (up.channels[c]).binding ≠ .line 501#16) :=
  ⟨handsOn_of _ _ _ _ _ (by decide +kernel), by decide +kernel⟩

/-- Station 12 bound to line 501, holding it and listening to it, each with a miss count; channel 7 waits when asked to. -/
def counting (misses : Nat) (wait : Option ListenWait) : State :=
  { up with
    handsets := up.handsets.set 0 ⟨false, [⟨.line 501#16, 72, misses⟩], 72, false⟩
    held := [⟨501#16, 1, misses⟩]
    channels := (up.channels.set 6 ⟨.line 501#16, 72, 0, false, [], none, misses⟩).set 7
      ⟨.line 501#16, 72, 0, false, [], wait, 0⟩ }

/-- A STATE that lists the binding, the held entry and channel 6, and one that lists none. -/
def listing : LineStatus :=
  { line501 .engaged [mine .active false, ⟨⟨12#6, .handset 1⟩, .held, false⟩] with listeners := [⟨12#6, .speakerCh 6⟩] }
def nobody : LineStatus := line501 .engaged [theirs]

theorem witness_unlisted :
    (counting 1 none).HandsOn (sentFrame 19#6 63#6 (.state nobody)) 19#6 63#6 (.state nobody) ∧
    (counting 1 none).HandsOn (sentFrame 19#6 63#6 (.state listing)) 19#6 63#6 (.state listing) ∧
    ((counting 1 none).pendingAsks = [] ∧
      ((counting 1 none).handsets[(0 : Fin 2)]).bindings = [] ++ ⟨.line 501#16, 72, 1⟩ :: [] ∧
      (counting 1 none).held = [] ++ ⟨501#16, 1, 1⟩ :: [] ∧
      ((counting 1 none).channels[(6 : Fin 8)]).binding = .line 501#16 ∧ ((counting 1 none).channels[(6 : Fin 8)]).wait = none ∧
      (go (heardCommand 19#6 63#6 (.state nobody)) (counting 1 none)).notices =
        [⟨.lineLost 501#16 (.handset 0), 4005#32⟩, ⟨.lineLost 501#16 (.handset 1), 4005#32⟩,
          ⟨.lineLost 501#16 (.speakerCh 6), 4005#32⟩] ∧
      ((go (heardCommand 19#6 63#6 (.state nobody)) (counting 1 none)).channels[(7 : Fin 8)]).misses = 1 ∧
      ((go (heardCommand 19#6 63#6 (.state nobody)) (counting 0 none)).held) = [⟨501#16, 1, 1⟩] ∧
      ((go (heardCommand 19#6 63#6 (.state nobody)) (counting 1 (some ⟨5#8, 19#6, 40⟩))).channels[(6 : Fin 8)]).misses = 0 ∧
      ((go (heardCommand 19#6 63#6 (.state nobody)) { counting 1 none with
        pendingAsks := [⟨4#8, 501#16, .ring, 0, 0, false, 19#6, 40⟩] }).held) = [⟨501#16, 1, 0⟩] ∧
      ((go (heardCommand 19#6 63#6 (.state listing)) (counting 1 none)).held) = [⟨501#16, 1, 0⟩] ∧
      ((go (heardCommand 19#6 63#6 (.state listing)) (counting 1 none)).channels[(6 : Fin 8)]).misses = 0) :=
  ⟨handsOn_of _ _ _ _ _ (by decide +kernel), handsOn_of _ _ _ _ _ (by decide +kernel), by decide +kernel⟩

/-- Station 12 awaiting the answer to an ask on line 501. -/
def asking (op : AskOp) : State :=
  { bound with pendingAsks := [⟨4#8, 501#16, op, 1, 0, false, 19#6, 40⟩], held := [⟨501#16, 0, 0⟩] }

/-- The answers to it. -/
def granted : Reply := ⟨501#16, 4#8, false, none⟩
def refused : Reply := ⟨501#16, 4#8, true, some .full⟩

theorem witness_reply : (asking .take).HandsOn (sentFrame 19#6 12#6 (.reply granted)) 19#6 12#6 (.reply granted) ∧
    up.HandsOn (sentFrame 19#6 12#6 (.reply refused)) 19#6 12#6 (.reply refused) ∧ up.pendingAsks = [] ∧
    (∀ k : Fin 8, (up.channels[k]).wait = none) ∧
    (asking .take).pendingAsks = [] ++ ⟨4#8, 501#16, .take, 1, 0, false, 19#6, 40⟩ :: [] ∧
    ((go (heardCommand 19#6 12#6 (.reply granted)) (asking .take)).handsets[(1 : Fin 2)]).bindings = [⟨.line 501#16, 72, 0⟩] ∧
    (go (heardCommand 19#6 12#6 (.reply refused)) (asking .take)).notices =
      [⟨.askRefused 501#16 .take (.handset 1) (some .full), 4005#32⟩] ∧
    (go (heardCommand 19#6 12#6 (.reply granted)) (asking .resume)).held = [] ∧
    (go (heardCommand 19#6 12#6 (.reply granted)) (asking .hold)).held.length = 2 ∧
    (go (heardCommand 19#6 12#6 (.reply granted)) (asking .ring)).pendingAsks = [] :=
  ⟨handsOn_of _ _ _ _ _ (by decide +kernel), handsOn_of _ _ _ _ _ (by decide +kernel), by decide +kernel⟩

/-! ### Asks at the line's home -/

/-- An ASK of station 19 for line 412. -/
def ask412 (op : AskOp) (p q : Port) (wanted : Bool) : Ask := ⟨412#16, some op, p, q, wanted, 3#8⟩

/-- The state after the home has heard it. -/
def asked (r : LineRecord) (a : Ask) : State := go (heardCommand 19#6 12#6 (.ask a)) (upWith r)

/-- The record after it. -/
def askedRecord (r : LineRecord) (a : Ask) : Option LineRecord := (asked r a).records[(0 : Fin 8)]

/-- The reply to it, if one waits. -/
def replies (r : LineRecord) (a : Ask) (reason : Option AskReason) : Bool :=
  has (asked r a) 19#6 (.reply ⟨412#16, 3#8, reason.isSome, reason⟩)

/-- The ASK reaches the station that is home to the line with that record. -/
abbrev AsksAtHome (r : LineRecord) (op : AskOp) (a : Ask) : Prop :=
  (upWith r).AsksHome (sentFrame 19#6 12#6 (.ask a)) 19#6 op a 0 r

/-- The record's members are of other stations. -/
theorem asksHome_of (r : LineRecord) (a : Ask) (op : AskOp)
    (good : heardAsSent 19#6 12#6 (.ask a) = true) (asks : a.op = some op)
    (line : a.line = 412#16) (settled : r.Settled (up.portCfg 0) false Alarms.clear) (noConflict : r.conflict = none)
    (foreign : r.foreign 12#6) :
    AsksAtHome r op a where
  handed := ⟨rfl, eq_of_beq good, (by decide : (19#6 : Station) ≠ 12#6), rfl, .inl rfl⟩
  asks := asks
  found := by rw [line]; rfl
  stands := rfl
  settled := by
    have e : (upWith r).outCause 0 r = false := by simp [State.outCause, noConflict]; exact ⟨rfl, rfl⟩
    rw [e]; exact settled
  foreign := foreign

/-- An engaged record of `n` handsets of stations 19, 1, 2, … -/
def shared (n : Nat) : LineRecord :=
  { engaged with members := engaged.members ++ (List.range n).map fun i => member (BitVec.ofNat 6 (i + 1)) 0 .active }

/-- A held record. -/
def onHold : LineRecord := { idle with state := .held, members := [member 19#6 0 .held] }

/-- An engaged record with a HELD entry of station 19 and privacy on. -/
def closed : LineRecord := { idle with state := .engaged, privacy := true, members := [member 1#6 0 .active, member 19#6 1 .held] }

/-- A failed record. -/
def failedLine : LineRecord := { idle with state := .failed }

theorem settled_onHold : onHold.Settled (up.portCfg 0) false Alarms.clear :=
  ⟨by decide, by decide, by decide, by decide, by decide⟩

theorem settled_shared : (shared 2).Settled (up.portCfg 0) false Alarms.clear ∧
    (shared 3).Settled (up.portCfg 0) false Alarms.clear :=
  ⟨⟨by decide, by decide, by decide, by decide, by decide⟩, ⟨by decide, by decide, by decide, by decide, by decide⟩⟩

theorem settled_closed : closed.Settled (up.portCfg 0) false Alarms.clear :=
  ⟨by decide, by decide, by decide, by decide, by decide⟩

theorem foreign_records : idle.foreign 12#6 ∧ engaged.foreign 12#6 ∧ onHold.foreign 12#6 ∧ (shared 2).foreign 12#6 ∧
    (shared 3).foreign 12#6 ∧ closed.foreign 12#6 :=
  ⟨⟨by decide, by decide⟩, ⟨by decide, by decide⟩, ⟨by decide, by decide⟩, ⟨by decide, by decide⟩,
    ⟨by decide, by decide⟩, ⟨by decide, by decide⟩⟩

/-- TAKE on handset B: idle line, engaged line with three members of four; handset A of station 19 is ACTIVE already. -/
theorem witness_take :
    AsksAtHome idle .take (ask412 .take (.handset 1) (.handset 0) false) ∧
    AsksAtHome (shared 2) .take (ask412 .take (.handset 1) (.handset 0) false) ∧
    ((shared 2).members.length < (up.portCfg 0).shareLimit ∧ (∀ m ∈ (shared 2).members, m.party ≠ ⟨19#6, .handset 1⟩) ∧
      (∃ m ∈ (shared 2).members, m.party = ⟨19#6, .handset 0⟩ ∧ m.mode = .active) ∧
      (askedRecord idle (ask412 .take (.handset 1) (.handset 0) false)).map (·.state) = some .engaged ∧
      (askedRecord (shared 2) (ask412 .take (.handset 1) (.handset 0) false)).map (·.members.length) = some 4 ∧
      replies (shared 2) (ask412 .take (.handset 0) (.handset 0) false) none = true ∧
      (askedRecord (shared 2) (ask412 .take (.handset 0) (.handset 0) false)).map (·.members.length) = some 3) :=
  ⟨asksHome_of _ _ _ (by decide +kernel) rfl rfl settled_idle rfl foreign_records.1,
    asksHome_of _ _ _ (by decide +kernel) rfl rfl settled_shared.1 rfl foreign_records.2.2.2.1, by decide +kernel⟩

/-- DROP of the last member, UNLISTEN of one that does not listen. -/
theorem witness_drop :
    AsksAtHome engaged .drop (ask412 .drop (.handset 0) (.handset 0) false) ∧
    AsksAtHome engaged .unlisten (ask412 .unlisten (.speakerCh 7) (.handset 0) false) ∧
    ((askedRecord engaged (ask412 .drop (.handset 0) (.handset 0) false)).map (·.state) = some .idle ∧
      (askedRecord engaged (ask412 .unlisten (.speakerCh 7) (.handset 0) false)).map (·.members.length) = some 1) :=
  ⟨asksHome_of _ _ _ (by decide +kernel) rfl rfl settled_engaged rfl foreign_records.2.1,
    asksHome_of _ _ _ (by decide +kernel) rfl rfl settled_engaged rfl foreign_records.2.1, by decide +kernel⟩

/-- HOLD by the one member; RESUME of its held entry on the other handset and on the same one. -/
theorem witness_hold_and_resume :
    AsksAtHome engaged .hold (ask412 .hold (.handset 0) (.handset 0) false) ∧
    AsksAtHome onHold .resume (ask412 .resume (.handset 0) (.handset 1) false) ∧
    ((∃ m ∈ engaged.members, m.party = ⟨19#6, .handset 0⟩ ∧ m.mode = .active) ∧
      (∃ m ∈ onHold.members, m.party = ⟨19#6, .handset 0⟩ ∧ m.mode = .held) ∧
      (∀ m ∈ onHold.members, m.party ≠ ⟨19#6, .handset 1⟩) ∧
      (askedRecord engaged (ask412 .hold (.handset 0) (.handset 0) false)).map (·.members) =
        some [⟨⟨19#6, .handset 0⟩, .held, 100#32, some 45001, false⟩] ∧
      (askedRecord onHold (ask412 .resume (.handset 0) (.handset 1) false)).map (·.members) =
        some [⟨⟨19#6, .handset 1⟩, .active, 100#32, none, false⟩] ∧
      (askedRecord onHold (ask412 .resume (.handset 0) (.handset 0) false)).map (·.state) = some .engaged) :=
  ⟨asksHome_of _ _ _ (by decide +kernel) rfl rfl settled_engaged rfl foreign_records.2.1,
    asksHome_of _ _ _ (by decide +kernel) rfl rfl settled_onHold rfl foreign_records.2.2.1, by decide +kernel⟩

/-- A record with fifteen listeners of other stations, and one with sixteen, the last of station 19. -/
def listened15 : LineRecord :=
  { idle with listeners := (List.range 15).map fun i => ⟨⟨BitVec.ofNat 6 (20 + i), .speakerCh 0⟩, 7#32⟩ }
def listened16 : LineRecord := { listened15 with listeners := listened15.listeners ++ [⟨⟨19#6, .speakerCh 7⟩, 8#32⟩] }

theorem settled_listened : listened15.Settled (up.portCfg 0) false Alarms.clear ∧
    listened16.Settled (up.portCfg 0) false Alarms.clear :=
  ⟨⟨by decide, by decide, by decide, by decide, by decide⟩, ⟨by decide, by decide, by decide, by decide, by decide⟩⟩

theorem witness_ring_privacy_listen :
    AsksAtHome engaged .ring (ask412 .ring (.handset 0) (.handset 0) false) ∧
    AsksAtHome engaged .privacy (ask412 .privacy (.handset 0) (.handset 0) true) ∧
    AsksAtHome listened15 .listen (ask412 .listen (.speakerCh 7) (.handset 0) false) ∧
    ((∀ l ∈ listened15.listeners, l.party ≠ ⟨19#6, .speakerCh 7⟩) ∧ listened15.listeners.length < 16 ∧
      (∃ l ∈ listened16.listeners, l.party = ⟨19#6, .speakerCh 7⟩) ∧
      (askedRecord engaged (ask412 .ring (.handset 0) (.handset 0) false)).map (·.outRing) = some (some 1001) ∧
      (askedRecord engaged (ask412 .privacy (.handset 0) (.handset 0) true)).map (·.privacy) = some true ∧
      (askedRecord listened15 (ask412 .listen (.speakerCh 7) (.handset 0) false)).map (·.listeners.length) = some 16 ∧
      replies listened16 (ask412 .listen (.speakerCh 7) (.handset 0) false) none = true) :=
  ⟨asksHome_of _ _ _ (by decide +kernel) rfl rfl settled_engaged rfl foreign_records.2.1,
    asksHome_of _ _ _ (by decide +kernel) rfl rfl settled_engaged rfl foreign_records.2.1,
    asksHome_of _ _ _ (by decide +kernel) rfl rfl settled_listened.1 rfl ⟨by decide, by decide⟩, by decide +kernel⟩

/-- The reasons, in the order of the tables: unsuitable port, no record, failed line, no ACTIVE or HELD entry, a held entry
of its own, privacy, a full line, a full listener list. -/
theorem witness_refusals :
    AsksAtHome closed .take (ask412 .take (.handset 0) (.handset 0) false) ∧
    AsksAtHome (shared 3) .take (ask412 .take (.handset 1) (.handset 0) false) ∧
    up.HandsOn (sentFrame 19#6 12#6 (.ask ⟨413#16, some .drop, .handset 0, .handset 0, false, 3#8⟩)) 19#6 12#6 (.ask ⟨413#16, some .drop, .handset 0, .handset 0, false, 3#8⟩) ∧
    (up.recordFor 413#16 = none ∧ up.peerIsSupervisor 19#6 = false ∧ (shared 3).members.length = 4 ∧
      has (go (heardCommand 19#6 12#6 (.ask ⟨413#16, some .drop, .handset 0, .handset 0, false, 3#8⟩)) up) 19#6
        (.reply ⟨413#16, 3#8, true, some .outOfService⟩) = true ∧
      replies idle (ask412 .take .mic (.handset 0) false) (some .notMember) = true ∧
      replies failedLine (ask412 .take (.handset 0) (.handset 0) false) (some .failed) = true ∧
      replies idle (ask412 .hold (.handset 0) (.handset 0) false) (some .notMember) = true ∧
      replies idle (ask412 .resume (.handset 0) (.handset 1) false) (some .notMember) = true ∧
      replies closed (ask412 .take (.handset 1) (.handset 0) false) (some .inUse) = true ∧
      replies closed (ask412 .take (.handset 0) (.handset 0) false) (some .isPrivate) = true ∧
      replies (shared 3) (ask412 .take (.handset 1) (.handset 0) false) (some .full) = true ∧
      replies listened16 (ask412 .listen (.speakerCh 6) (.handset 0) false) (some .full) = true) :=
  ⟨asksHome_of _ _ _ (by decide +kernel) rfl rfl settled_closed rfl foreign_records.2.2.2.2.2,
    asksHome_of _ _ _ (by decide +kernel) rfl rfl settled_shared.2 rfl foreign_records.2.2.2.2.1,
    handsOn_of _ _ _ _ _ (by decide +kernel), by decide +kernel⟩

/-- The header and body of an ASK of operation 9 for a line of station 12, or one it has no record of. -/
def ask9 (high low : Octet) : List Octet × List Octet :=
  ([0x69#8, 0x98#8, 3#8, 0#8, 8#8], [high, low, 9#8, 0#8, 0#8, 0#8, 3#8, 0#8])

/-- Its CRC. -/
def crc9 (high low : Octet) : List Octet := octets32 (crc32 ((ask9 high low).1 ++ (ask9 high low).2))

/-- Its octets. -/
def frame9 (high low : Octet) : List Octet := (ask9 high low).1 ++ (ask9 high low).2 ++ crc9 high low

/-- The command that hears it. -/
def command9 (high low : Octet) : Instr := .askUnknownOperation (ask9 high low).1 (ask9 high low).2 (crc9 high low)

theorem witness_unknown_operation :
    up.HandsOn (frame9 1#8 0x9C#8) 19#6 12#6 (.ask ⟨412#16, none, .handset 0, .handset 0, false, 3#8⟩) ∧
    up.HandsOn (frame9 1#8 0x9D#8) 19#6 12#6 (.ask ⟨413#16, none, .handset 0, .handset 0, false, 3#8⟩) ∧
    up.recordFor 412#16 = some 0 ∧ up.recordFor 413#16 = none ∧
    (go (command9 1#8 0x9C#8) up).txQueue = [] ∧
    (go (command9 1#8 0x9C#8) up).live.badFrames = 0#16 ∧
    has (go (command9 1#8 0x9D#8) up) 19#6 (.reply ⟨413#16, 3#8, true, some .outOfService⟩) = true :=
  ⟨handsOn_of _ _ _ _ _ (by decide +kernel), handsOn_of _ _ _ _ _ (by decide +kernel), by decide +kernel⟩

/-! ### Timers of a line -/

/-- Records whose timers are due. -/
def ringing : LineRecord := { engaged with outRing := some 0 }
def heldOver : LineRecord := { engaged with state := .failed, holdOver := some 0 }
def recalling : LineRecord := { onHold with members := [{ member 19#6 0 .held with recallTimer := some 0 }] }
def conflicted : LineRecord := { idle with state := .outOfService, conflict := some ⟨3#6, 0⟩ }

/-- Station 12 with LOS on port 0 and a hold-over that ends. -/
def failing : State := { upWith heldOver with ports := up.ports.set 0 { LinePort.reset with alarms := { Alarms.clear with los := true } } }

theorem witness_line_timers :
    ringing.Settled (up.portCfg 0) false Alarms.clear ∧ heldOver.Settled (up.portCfg 0) false { Alarms.clear with los := true } ∧
    recalling.foreign 12#6 ∧ idle.foreign 12#6 ∧
    (recalling.members[0]?).map (·.recallTimer) = some (some 0) ∧ idle.outRing ≠ some 0 ∧ idle.holdOver ≠ some 0 ∧
    up.records[(1 : Fin 8)] = none ∧ idle.refresh ≠ some 0 ∧
    ((go (.outRingExpiry 0) (upWith ringing)).records[(0 : Fin 8)]).map (·.outRing) = some none ∧
    ((go (.holdOverExpiry 0) failing).records[(0 : Fin 8)]).map (·.members) = some [] ∧
    ((go (.recallTimerExpiry 0 0) (upWith recalling)).records[(0 : Fin 8)]).map (·.members.map (·.recallFlag)) = some [true] ∧
    has (go (.refreshExpiry 0) (upWith { idle with refresh := some 0 })) 63#6 (.state (up.lineStatus 0 idle)) = true :=
  ⟨⟨by decide, by decide, by decide, by decide, by decide⟩, ⟨by decide, by decide, by decide, by decide, by decide⟩,
    ⟨by decide, by decide⟩, ⟨by decide, by decide⟩, by decide +kernel⟩

/-- A station whose line 412 stands on the card of PRESENT station 3. -/
def yielding : State :=
  { upWith conflicted with peers := up.peers.set 3 ⟨.present, some ⟨3#6, false, true, true, false, [(412#16, 1)]⟩, some 90⟩ }

theorem witness_conflict : conflicted.Settled (up.portCfg 0) true Alarms.clear ∧ (upWith conflicted).outCause 0 conflicted = true ∧
    (yielding.peer 3#6).state = .present ∧ (yielding.peer 3#6).lists (yielding.portCfg 0).line = true ∧
    (3#6 : Station).toNat < yielding.cfg.station.toNat ∧
    (∀ p : Fin 12, 1 ≤ p.val → ((upWith conflicted).peer (BitVec.ofNat 6 p.val)).state ≠ .present) ∧
    ((go (.conflictTimerExpiry 0) yielding).records[(0 : Fin 8)]).map (·.conflict) = some (some ⟨3#6, 501⟩) ∧
    ((go (.conflictTimerExpiry 0) (upWith conflicted)).records[(0 : Fin 8)]).map (·.state) = some .idle :=
  ⟨⟨by decide, by decide, by decide, by decide, by decide⟩, by decide +kernel⟩

/-- Engaged line 412 of station 12, on the card and in a STATE of station 3, PRESENT in one state and heard in the other;
a station 19 that lists the line, numbered higher, and the end of a listen period with station 3's card. -/
def card412 (p : Station) : Card := ⟨p, false, true, true, false, [(412#16, 1)]⟩
def line412 : LineStatus := up.lineStatus 0 idle
def shared3 : State := { yielding with records := up.records.set 0 (some engaged) }
def entering : State :=
  { shared3 with stationState := .listening, listenTimer := some 0, beaconTimer := none }
def yieldedTo3 (s : State) : Bool :=
  s.records[(0 : Fin 8)].any fun r => r.conflict == some ⟨3#6, 501⟩ && r.state == .outOfService && r.members.isEmpty

theorem witness_conflict_sightings :
    yielding.HandsOn (sentFrame 3#6 63#6 (.state line412)) 3#6 63#6 (.state line412) ∧
    up.HandsOn (sentFrame 19#6 63#6 (.state line412)) 19#6 63#6 (.state line412) ∧
    (heardAsSent 3#6 63#6 (.beacon (card412 3#6)) = true ∧ heardAsSent 19#6 63#6 (.beacon (card412 19#6)) = true ∧
      (up.portCfg 0).line = 412#16 ∧ (∀ j : Fin 8, j ≠ 0 → up.records[j] = none) ∧ up.recordFor line412.line = some 0 ∧
      line412.line = 412#16 ∧ up.blocks 1000 = 501 ∧
      yieldedTo3 (go (heardCommand 3#6 63#6 (.beacon (card412 3#6))) (upWith engaged)) = true ∧
      (go (heardCommand 3#6 63#6 (.beacon (card412 3#6))) (upWith engaged)).notices = [⟨.lineConflict 412#16 0 3#6, 4005#32⟩] ∧
      yieldedTo3 (go (heardCommand 3#6 63#6 (.beacon (card412 3#6))) yielding) = true ∧
      (go (heardCommand 3#6 63#6 (.beacon (card412 3#6))) yielding).notices = [] ∧
      (go (heardCommand 19#6 63#6 (.beacon (card412 19#6))) (upWith engaged)).records = (upWith engaged).records) ∧
    yieldedTo3 (go (heardCommand 3#6 63#6 (.state line412)) shared3) = true ∧
    (go (heardCommand 3#6 63#6 (.state line412)) shared3).notices = [⟨.lineConflict 412#16 0 3#6, 4005#32⟩] ∧
    (go (heardCommand 3#6 63#6 (.state line412)) yielding).notices = [] ∧
    (go (heardCommand 19#6 63#6 (.state line412)) (upWith engaged)).records = (upWith engaged).records ∧
    entering.stationState = .listening ∧ entering.listenTimer = some 0 ∧ engaged.conflict = none ∧
    (entering.peer 3#6).state = .present ∧ (entering.peer 3#6).lists (entering.portCfg 0).line = true ∧
    yieldedTo3 (go .listenPeriodExpiry entering) = true :=
  ⟨handsOn_of _ _ _ _ _ (by decide +kernel), handsOn_of _ _ _ _ _ (by decide +kernel), by decide +kernel⟩

/-- Station 12 bound to its own line 412, station 3 unheard or PRESENT without the line. -/
def ownBound : State := { upWith idle with handsets := up.handsets.set 0 ⟨false, [⟨.line 412#16, 72, 0⟩], 72, false⟩ }
def ownBound3 : State := { ownBound with peers := up.peers.set 3 ⟨.present, some ⟨3#6, false, true, true, false, []⟩, some 90⟩ }

theorem test_peer_found_comes_before_card_heard :
    (go (heardCommand 3#6 63#6 (.beacon (card412 3#6))) ownBound).notices =
      [⟨.lineLost 412#16 (.handset 0), 4005#32⟩, ⟨.lineConflict 412#16 0 3#6, 4005#32⟩] ∧
    (go (heardCommand 3#6 63#6 (.beacon (card412 3#6))) ownBound3).notices =
      [⟨.lineConflict 412#16 0 3#6, 4005#32⟩, ⟨.lineLost 412#16 (.handset 0), 4005#32⟩] ∧
    ((ownBound.findBusy.peerTakes 3#6 (.beacon (card412 3#6))).followHomes ownBound.findBusy).notices.length = 1 := by decide +kernel

/-! ### Line ports -/

/-- Station 12 with another port 0. -/
def withPort (p : LinePort) : State := { up with ports := up.ports.set 0 p }

/-- A port in ALIGNED at the start of a frame, and one octet before the end of one with an overhead octet. -/
def aligned : LinePort := { LinePort.reset with framer := .aligned }
def lastOctet (overhead : Octet) : LinePort :=
  { aligned with frame := [0x5C#8, overhead, 0x41#8, 0#8] ++ List.replicate 31 0#8, periodOctets := 35 }

theorem test_four_octets_come_before_the_samples : (lastOctet 0#8).frame.length = 35 := by decide

/-- Station 12 with carrier gone from port 0 and LOS declared. -/
def dark : State :=
  { withPort { LinePort.reset with alarms := { Alarms.clear with los := true } } with carrier := State.reset.carrier }

theorem witness_carrier : up.carrier[(0 : Fin 8)] = true ∧ up.carrier[(7 : Fin 8)] = false ∧ up.used 7 = false ∧
    up.used 0 = true ∧ (up.ports[(0 : Fin 8)]).alarms.los = false ∧ dark.carrier[(0 : Fin 8)] = false ∧ dark.used 0 = true ∧
    ((go (.carrierFall 0) (withPort aligned)).ports[(0 : Fin 8)]).alarms.los = true ∧
    ((go (.carrierFall 0) (withPort aligned)).ports[(0 : Fin 8)]).framer = .hunt ∧
    ((go (.carrierFall 0) (withPort { LinePort.reset with lolCount := 23 })).ports[(0 : Fin 8)]).alarms.lol = true ∧
    ((go (.carrierRise 0) dark).ports[(0 : Fin 8)]).alarms.los = true ∧ (go (.carrierRise 7) up).carrier[(7 : Fin 8)] = true := by
  decide +kernel

theorem witness_octets : up.hearsLine 0 ∧
    ((go (.lineOctetReceived 0 0x5C#8) up).ports[(0 : Fin 8)] =
        { LinePort.reset with framer := .confirm, frame := [0x5C#8], periodOctets := 1 } ∧
      ((go (.lineOctetReceived 0 0#8) (withPort { LinePort.reset with periodOctets := 34 })).ports[(0 : Fin 8)]).periodOctets = 35 ∧
      ((go (.lineOctetReceived 0 7#8) (withPort { aligned with frame := [0x5C#8], periodOctets := 1 })).ports[(0 : Fin 8)]).frame =
        [0x5C#8, 7#8] ∧
      ((go (.lineOctetReceived 0 0x5C#8) (withPort { LinePort.reset with framer := .confirm, confirmCount := 1 })).ports[(0 : Fin 8)]).confirmCount
        = 2 ∧
      ((go (.lineOctetReceived 0 0x5C#8) (withPort { aligned with missCount := 3 })).ports[(0 : Fin 8)]).missCount = 0 ∧
      ((go (.lineOctetReceived 0 0#8) (withPort { aligned with missCount := 2 })).ports[(0 : Fin 8)]).missCount = 3 ∧
      (up.portCfg 0).alignEnter = 3 ∧ (up.portCfg 0).alignExit = 4 ∧
      ((go (.alignmentConfirmed 0 0x5C#8) (withPort { LinePort.reset with framer := .confirm, confirmCount := 2 })).ports[(0 : Fin 8)]).framer
        = .aligned ∧
      ((go (.alignmentLost 0 0#8) (withPort { aligned with missCount := 3 })).ports[(0 : Fin 8)]).framer = .hunt ∧
      ((go (.alignmentLost 0 0#8) (withPort aligned)).ports[(0 : Fin 8)]).framer = .aligned) :=
  ⟨⟨rfl, rfl⟩, by decide +kernel⟩

theorem witness_periods : (withPort { aligned with periodOctets := 35 }).loaded = true ∧
    (go (.lineOctetReceived 0 0x5C#8) (withPort { LinePort.reset with periodOctets := 17, alignedRun := 4 })).ports[(0 : Fin 8)] =
      { LinePort.reset with framer := .confirm, frame := [0x5C#8], periodOctets := 1, lolCount := 1 } ∧
    ((go (.lineOctetReceived 0 0x5C#8) (withPort { LinePort.reset with periodOctets := 1, lolCount := 23 })).ports[(0 : Fin 8)]).alarms.lol
      = true ∧
    (up.portCfg 0).lolSet = 24 ∧
    (go (.lineOctetReceived 0 7#8) (withPort { LinePort.reset with framer := .confirm, confirmCount := 2 })).ports[(0 : Fin 8)] =
      { LinePort.reset with periodOctets := 1 } ∧
    ((go (.lineOctetReceived 0 7#8) (withPort { LinePort.reset with periodOctets := 35 })).live.lines[(0 : Fin 8)]).ooaPeriods = 1#16 ∧
    ((go (.lineOctetReceived 0 7#8) (withPort { aligned with periodOctets := 35, alignedRun := 63 })).ports[(0 : Fin 8)]).alignedRun = 63 ∧
    ((go (.carrierFall 0) (withPort aligned)).live.lines[(0 : Fin 8)]).ooaPeriods = 1#16 ∧
    ((go (.carrierRise 0) dark).live.lines[(0 : Fin 8)]).ooaPeriods = 1#16 ∧
    ((go (.blockBoundary quiet) dark).live.lines[(0 : Fin 8)]).ooaPeriods = 1#16 ∧
    ((go (.carrierFall 0) (withPort { LinePort.reset with out := true })).live.lines[(0 : Fin 8)]).ooaPeriods = 0#16 := by
  decide +kernel

/-- A port at the end of its tenth period with carrier, one at the end of its fiftieth aligned period, and one at the end
of a degrade window with 24 errored frames. -/
def lostSignal : LinePort :=
  { LinePort.reset with periodOctets := 35, carrierCount := 9, alarms := { Alarms.clear with los := true } }
def lostAlignment : LinePort :=
  { lastOctet 0#8 with alignedRun := 49, lolCount := 24, alarms := { Alarms.clear with lol := true } }
def degradedPort : LinePort :=
  { lastOctet 0#8 with degradeFrames := 499, degradeErrors := 24, alarms := { Alarms.clear with degraded := true } }

theorem witness_losses : (withPort (lastOctet 0#8)).hearsLine 0 ∧
    ((go (.losCleared 0 1#8) (withPort lostSignal)).notices = [⟨.lineAlarm 412#16 0 .los false, 4005#32⟩] ∧
      (go (.lolCleared 0 1#8) (withPort lostAlignment)).notices = [⟨.lineAlarm 412#16 0 .lol false, 4005#32⟩] ∧
      (up.portCfg 0).lolClear = 50 ∧ (up.portCfg 0).lolSet = 24 ∧
      (go (.lolDeclared 0 (.octet 1#8)) (withPort { LinePort.reset with periodOctets := 35, lolCount := 23 })).notices =
        [⟨.lineAlarm 412#16 0 .lol true, 4005#32⟩] ∧
      ((go (.lolDeclared 0 .carrierFall) (withPort { LinePort.reset with lolCount := 23 })).ports[(0 : Fin 8)]).alarms =
        { Alarms.clear with los := true, lol := true } ∧
      ((go (.lolDeclared 0 .carrierRise) { dark with ports := dark.ports.set 0 { dark.ports[(0 : Fin 8)] with lolCount := 23 } }).ports[(0 :
        Fin 8)]).alarms.lol = true) :=
  ⟨⟨rfl, rfl⟩, by decide +kernel⟩

theorem witness_lol_at_a_boundary :
    ((go (.lolDeclared 0 (.boundary quiet)) { dark with ports := dark.ports.set 0 { dark.ports[(0 : Fin 8)] with lolCount := 23 } }).ports[(0 :
      Fin 8)]).alarms.lol = true := by decide +kernel

/-- Fifteen octets of a label. -/
def fifteen : List Octet := List.replicate 15 0x41#8

theorem witness_evaluated : (lastOctet 0#8).EndsEvaluated ∧
    ((((lastOctet 0x20#8).frame ++ [0#8]).getD 1 0#8).getLsbD 4 = false ∧
      (go (.labelSettled 0 0#8) (withPort { lastOctet 0#8 with
        labelOctets := some fifteen, candidate := some (labelOfList (fifteen ++ [0x41#8])), matchCount := 2 })).ports[(0 : Fin 8)].settled =
          some (Vector.replicate 16 0x41#8) ∧
      ((go (.signallingAccepted 0 0#8) (withPort { lastOctet 0x40#8 with signallingCandidate := some .ring, signallingRun := 2 })).records[(0 :
        Fin 8)]).map (·.state) = some .ringingIn ∧
      ((go (.farDefectDecided 0 0#8) (withPort { lastOctet 0x20#8 with rdValue := some true, rdRun := 2 })).ports[(0 :
        Fin 8)]).alarms.farDefect = true ∧
      ((go (.degradeWindowEnd 0 0#8) (withPort { lastOctet 0#8 with degradeFrames := 499, degradeErrors := 49, parityReference := 1#8 })).ports[(0 :
        Fin 8)]).alarms.degraded = true ∧
      ((go (.degradeWindowEnd 0 0#8) (withPort { lastOctet 0#8 with degradeFrames := 499, degradeErrors := 49 })).ports[(0 :
        Fin 8)]).alarms.degraded = false ∧
      ((go (.degradeWindowEnd 0 0#8) (withPort degradedPort)).ports[(0 : Fin 8)]).alarms.degraded = false) :=
  ⟨⟨rfl, rfl, rfl, rfl, rfl⟩, by decide +kernel⟩

theorem witness_port_requests : up.panelAnswers = true ∧ up.used 0 = true ∧ (0#8 : Octet).toNat = (0 : Fin 8).val ∧
    (up.ports[(0 : Fin 8)]).out = false ∧ (withPort { LinePort.reset with out := true }).used 0 = true ∧ idle.members = [] ∧
    up.awayFromFloor = false ∧ (7#8 : Octet).toNat = (7 : Fin 8).val ∧ State.reset.panelAnswers = true ∧
    ((go (.linePortOut 0#8) (upWith engaged)).records[(0 : Fin 8)]).map (·.state) = some .outOfService ∧
    ((go (.linePortIn 0#8) { upWith { idle with state := .outOfService } with
      ports := up.ports.set 0 { LinePort.reset with out := true, accepted := .ring } }).records[(0 : Fin 8)]).map (·.state) =
        some .ringingIn ∧
    (go (.linePortOut 7#8) up).panelAnswer = some ⟨3#8, .badIndex, []⟩ ∧
    (go (.linePortIn 8#8) up).panelAnswer = some ⟨3#8, .badIndex, []⟩ ∧
    ((go (.forceOoa 0#8) (withPort aligned)).ports[(0 : Fin 8)]).framer = .hunt ∧
    ((go (.forceRd 0#8) up).ports[(0 : Fin 8)]).forceRd = true ∧
    ((go (.forceNone 0#8) (withPort { LinePort.reset with forceRd := true })).ports[(0 : Fin 8)]).forceRd = false ∧
    (go (.forceNone 0#8) State.reset).panelAnswer = some ⟨4#8, .notActive, []⟩ := by decide +kernel

/-! ### Block boundary -/

theorem witness_boundary_time : State.reset.loaded = false ∧ (go (.blockBoundary quiet) up).stationTime = 4016#32 ∧
    (go (.blockBoundary quiet) up).beaconTimer = some 29 ∧
    (go (.blockBoundary quiet) State.reset).stationTime = 16#32 := by decide +kernel

/-- Audio inputs with a loud mouthpiece A and a loud microphone. -/
def speech : AudioIn := ⟨quiet.mouthpiece.set 0 loud, loud⟩

/-- Line 412 engaged by handset A of the station itself. -/
def ownCall : State :=
  { upWith { idle with state := .engaged, members := [member 12#6 0 .active] } with
    handsets := up.handsets.set 0 ⟨false, [⟨.line 412#16, 72, 0⟩], 72, false⟩ }

theorem witness_boundary_mixes : up.used 0 = true ∧ up.loaded = true ∧ (up.handsets[(1 : Fin 2)]).onHook = true ∧
    (bound.handsets[(0 : Fin 2)]).onHook = false ∧ (∀ k : Fin 8, (up.channels[k]).binding = .unbound) ∧
    (go (.blockBoundary quiet) (withPort { LinePort.reset with txIndex := 15, txParity := 7#8 })).ports[(0 : Fin 8)].txFrame =
      [0x5C#8, 0#8, 0#8, 7#8] ++ List.replicate 32 0#8 ∧
    (go (.blockBoundary speech) ownCall).lineOut[(0 : Fin 8)] = loud ∧
    (go (.blockBoundary speech) { up with handsets := up.handsets.set 0 ⟨false, [], 72, false⟩ }).earpieceOut[(0 : Fin 2)] =
      Vector.replicate 16 500#16 := by decide +kernel

/-- Station 12 with its microphone on hoot 5 through channel 3. -/
def talking : State := { up with talk := some 3, channels := up.channels.set 3 ⟨.hoot 5, 72, 0, false, [], none, 0⟩ }

/-- Without line records. -/
def lineless (s : State) : State := { s with records := State.reset.records }

theorem witness_boundary_voices : (lineless bound).stationState = .active ∧ (lineless bound).txQueue.length < 24 ∧
    (∀ k : Fin 8, (lineless bound).records[k] = none) ∧ (bound.handsets[(0 : Fin 2)]).bindings = [⟨.line 501#16, 72, 0⟩] ∧
    (bound.handsets[(1 : Fin 2)]).onHook = true ∧ bound.talk = none ∧ (∀ h : Fin 2, (talking.handsets[h]).onHook = true) ∧
    talking.talk = some 3 ∧ (talking.channels[(3 : Fin 8)]).binding = .hoot 5 ∧
    has (go (.blockBoundary speech) (lineless bound)) 63#6 (.voice ⟨.line 501#16, .handset 0, 0#8, true, loud⟩) = true ∧
    has (go (.blockBoundary speech) (lineless talking)) 63#6 (.voice ⟨.hoot 5, .mic, 0#8, true, loud⟩) = true := by
  decide +kernel

/-- A talker of hoot 5 whose hangover ends at the next boundary, with its stream, which ends there too. -/
def ending : State :=
  { up with
    channels := up.channels.set 3 ⟨.hoot 5, 72, 0, false, [⟨⟨19#6, .mic⟩, 99, 10⟩], none, 0⟩
    streams := up.streams.set 31 (some ⟨.hoot 5, ⟨19#6, .mic⟩, .speaker, true, [], 5#8, 10, 2, Block.silence, 1⟩) }

theorem witness_expiries : ending.hangoverFalls quiet 3 ⟨19#6, .mic⟩ = true ∧ up.hangoverFalls quiet 3 ⟨19#6, .mic⟩ = false ∧
    ((ending.channels[(3 : Fin 8)]).talkers.map (·.party)).Nodup ∧
    (((ending.beforeAdmission quiet).sources ending.boundaryYields 3).map (·.party)).Nodup ∧
    (ending.streams[(31 : Fin 32)]).map (·.silence) = some 1 ∧ ending.loaded = true ∧
    (go (.hangoverExpiry 3 19#6 2#8 quiet) ending).channels[(3 : Fin 8)].talkers = [] ∧
    (go (.streamSilenceExpiry 31 quiet) ending).streams[(31 : Fin 32)] = none ∧
    (go (.streamSilenceExpiry 31 quiet) (heard 1)).streams[(31 : Fin 32)] = some (stream 1) := by decide +kernel

theorem witness_levels_at_a_boundary : (heard 3).loaded = true ∧
    (((heard 3).reachBoundary.standInPeriods.readStores).streams[(31 : Fin 32)]).map (·.silence) = some 19 ∧
    (ending.reachBoundary.standInPeriods.readStores.streams[(31 : Fin 32)]).map (·.silence) = some 0 ∧
    ((go (.blockBoundary quiet) (heard 3)).streams[(31 : Fin 32)]).map (·.queue.length) = some 2 ∧
    (upWith engaged).records[(0 : Fin 8)] = some engaged ∧ engaged.state = .engaged := by decide +kernel

/-- Carrier on every port and a segment of `n` pairs open on port 0. -/
def recording (n : Nat) : State :=
  { up with
    carrier := Vector.replicate 8 true
    taps := State.reset.taps.set 0 (some ⟨.recording, some 6#16, 2#16, some 63, 0#16, none⟩)
    ring := up.ring.set 63 { Descriptor.empty with owner := .filling, recording := 6#16, segment := 1#16
                                                   pairs := List.replicate n (0#16, 0#16) } }

theorem witness_segments : (recording 240).loaded = true ∧
    (recording 240).taps[(0 : Fin 8)] = some ⟨.recording, some 6#16, 2#16, some 63, 0#16, none⟩ ∧
    ((recording 240).ring[(63 : Fin 64)]).owner = .filling ∧
    (∀ j : Fin 8, (recording 240).carrier[j] = true ∧ (j ≠ 0 → (recording 240).taps[j] = none)) ∧
    ((recording 239).ring[(63 : Fin 64)]).pairs.length + 16 < 256 ∧ 256 ≤ ((recording 240).ring[(63 : Fin 64)]).pairs.length + 16 ∧
    ((recording 240).ring[(recording 240).claimIndex]).owner = .free ∧
    ((go (.segmentFull 0 quiet) (recording 240)).ring[(63 : Fin 64)]).owner = .ready ∧
    (go (.segmentFull 0 quiet) (recording 240)).claimIndex = 1 ∧
    ((go (.blockBoundary quiet) (recording 239)).ring[(63 : Fin 64)]).owner = .filling ∧
    (go (.segmentFull 0 quiet) { recording 240 with ring := (recording 240).ring.set 0 ready }).notices =
      [⟨.recordStarved 412#16 0 6#16, 4016#32⟩] := by decide +kernel

/-- A segment of 240 pairs with the line engaged, its member's voice missing. -/
def missingVoice : State := { recording 239 with records := up.records.set 0 (some engaged) }

theorem witness_real_voice : ¬(recording 240).TakesUnreal 0 ∧
    ((go (.segmentFull 0 quiet) (recording 240)).ring[(63 : Fin 64)]).gap = false := by
  refine ⟨?_, by decide +kernel⟩
  rintro ⟨r, m, found, state, -⟩
  cases found
  cases state

theorem witness_missing_voice : missingVoice.TakesUnreal 0 ∧
    ((go (.blockBoundary quiet) missingVoice).ring[(63 : Fin 64)]).gap = true := by
  refine ⟨⟨engaged, member 19#6 0 .active, rfl, rfl, by decide, rfl, by decide, ?_⟩, by decide +kernel⟩
  intro i e found
  exact absurd found ((by decide +kernel : ∀ i : Fin 32, ¬missingVoice.streams[i].isSome) i ∘ fun h => by simp [h])

theorem witness_alarm_mark : (recording 240).records[(0 : Fin 8)] = some idle ∧ idle.foreign 12#6 ∧
    idle.Settled ((recording 240).portCfg 0) ((recording 240).outCause 0 idle) ((recording 240).ports[(0 : Fin 8)]).alarms ∧
    ((recording 240).ports[(0 : Fin 8)]).alarms.holds .los = false ∧
    ((go (.carrierFall 0) (recording 240)).ports[(0 : Fin 8)]).alarms.holds .los = true ∧
    ((go (.carrierFall 0) (recording 240)).ring[(63 : Fin 64)]).alarm = true ∧
    (go (.carrierRise 0) { recording 240 with carrier := State.reset.carrier }).ring = (recording 240).ring ∧
    (go (.lineOctetReceived 0 0#8) (recording 240)).ring = (recording 240).ring :=
  ⟨rfl, foreign_records.1, settled_idle, by decide +kernel⟩

/-- A port before the last octet of an evaluated frame, its store holding `n` blocks; the frame's samples are 0x0102 and
zeros. -/
def storing (n : Nat) (running : Bool) : LinePort :=
  { lastOctet 0#8 with
    frame := [0x5C#8, 0#8, 0x41#8, 5#8, 1#8, 2#8] ++ List.replicate 29 0#8
    store := List.replicate n loud, storeRunning := running }

/-- The port after that octet. -/
def stored (n : Nat) (running : Bool) : LinePort := (go (.lineOctetReceived 0 0#8) (withPort (storing n running))).ports[(0 : Fin 8)]

theorem witness_elastic_store : (storing 2 true).EndsEvaluated ∧ (withPort (storing 2 true)).hearsLine 0 ∧
    ((stored 0 false).storeRunning = false ∧ (stored 1 false).storeRunning = true ∧ (stored 2 true).store.length = 3 ∧
      (stored 3 true).store.length = 3 ∧ ((stored 3 true).store.getLast?).map (·[(0 : Fin 16)]) = some 0x0102#16 ∧
      ((go (.lineOctetReceived 0 0#8) (withPort (storing 3 true))).live.lines[(0 : Fin 8)]).lineSlips = 1#16 ∧
      ((go (.lineOctetReceived 0 0#8) (withPort (storing 2 true))).live.lines[(0 : Fin 8)]).parityErrors = 2#16 ∧
      (stored 2 true).parityReference = 0x5C#8 ^^^ 0x41#8 ^^^ 5#8 ^^^ 1#8 ^^^ 2#8 ∧
      ((go (.lineOctetReceived 0 0#8) (withPort { storing 2 true with framer := .confirm })).live.lines[(0 : Fin 8)]).parityErrors =
        0#16) :=
  ⟨⟨rfl, rfl, rfl, rfl, rfl⟩, ⟨rfl, rfl⟩, by decide +kernel⟩

/-- Station 12 at a boundary with carrier on every port and an aligned port 0. -/
def reading (n : Nat) (running : Bool) : State :=
  { withPort { aligned with store := List.replicate n loud, storeRunning := running, lastBlock := Vector.replicate 16 0xFFFF#16 } with
    carrier := Vector.replicate 8 true }

theorem witness_store_reads : (reading 1 true).loaded = true ∧ (∀ j : Fin 8, (reading 1 true).carrier[j] = true) ∧
    ((go (.blockBoundary quiet) (reading 1 true)).ports[(0 : Fin 8)]).lastBlock = loud ∧
    ((go (.blockBoundary quiet) (reading 0 true)).ports[(0 : Fin 8)]).lastBlock = Vector.replicate 16 0xFFFF#16 ∧
    ((go (.blockBoundary quiet) (reading 0 true)).live.lines[(0 : Fin 8)]).lineSlips = 1#16 ∧
    ((go (.blockBoundary quiet) (reading 1 false)).ports[(0 : Fin 8)]).lastBlock = Block.silence := by decide +kernel

/-- Line 412 engaged by station 19, its port running, so that its far end is sent. -/
def farEnd (r : LineRecord) : State :=
  { reading 1 true with records := up.records.set 0 (some r), sequences := [⟨.line 412#16, .linePort 0, 9#8⟩] }

theorem witness_far_end : (farEnd engaged).stationState = .active ∧ (farEnd engaged).txQueue.length < 24 ∧
    (farEnd engaged).records[(0 : Fin 8)] = some engaged ∧ (∀ j : Fin 8, j ≠ 0 → (farEnd engaged).records[j] = none) ∧
    (∀ h : Fin 2, ((farEnd engaged).handsets[h]).onHook = true) ∧ (farEnd engaged).talk = none ∧
    (∃ m ∈ engaged.members, m.party.station ≠ (farEnd engaged).cfg.station) ∧
    has (go (.blockBoundary quiet) (farEnd engaged)) 63#6 (.voice ⟨.line 412#16, .linePort 0, 9#8, true, loud⟩) = true ∧
    (go (.blockBoundary quiet) (farEnd engaged)).sequences = [⟨.line 412#16, .linePort 0, 10#8⟩] ∧
    (go (.blockBoundary quiet) (farEnd idle)).sequences = [] := by decide +kernel

theorem witness_record_timers : (farEnd onHold).loaded = true ∧ (∀ k : Fin 8, (farEnd onHold).carrier[k] = true) ∧
    ((go (.blockBoundary quiet) (farEnd { onHold with members := [{ member 19#6 0 .held with recallTimer := some 5 }] })).records[(0 :
      Fin 8)]).map (·.members.map (·.recallTimer)) = some [some 4] ∧
    (((go (.blockBoundary quiet) { farEnd onHold with mirrors := up.mirrors }).mirrorOf 501#16).map (·.timer)) = some (some 499) := by
  decide +kernel

/-- The station with both handsets and station 19 active on line 412, and a yield of each remote source. -/
def mixing : State :=
  { upWith { idle with
      state := .engaged
      members := [member 12#6 0 .active, member 12#6 1 .active, member 19#6 0 .active, member 3#6 0 .held] } with
    ports := up.ports.set 0 { LinePort.reset with lastBlock := Vector.replicate 16 100#16 }
    handsets := (up.handsets.set 0 ⟨false, [⟨.line 412#16, 72, 0⟩], 72, false⟩).set 1 ⟨false, [], 88, true⟩
    channels := (up.channels.set 2 ⟨.hoot 7, 72, 1, false, [⟨⟨19#6, .mic⟩, 0, 900⟩], none, 0⟩).set 3 ⟨.hoot 5, 72, 1, false, [], none, 0⟩
    slots := up.slots.set 1 ⟨.talking, some .called, some ⟨19#6, 0⟩, none, some ⟨19#6, .handset 0⟩, some (.port (.handset 0)),
      some 0, none⟩ }

/-- Yields of station 19 on line 412, on hoot 7 and on a call. -/
def yields : List Yielded :=
  [⟨.line 412#16, ⟨19#6, .handset 0⟩, .real, Vector.replicate 16 30000#16, 9⟩, ⟨.hoot 7, ⟨19#6, .mic⟩, .real, Vector.replicate 16 4096#16, 9⟩,
    ⟨callCircuit ⟨19#6, 0⟩, ⟨19#6, .handset 0⟩, .real, loud, 9⟩]

theorem witness_mixes : mixing.used 0 = true ∧ mixing.used 1 = false ∧
    mixing.sourceBlock speech yields (.line 412#16) ⟨12#6, .handset 1⟩ = Block.silence ∧
    mixing.sourceBlock speech yields (.line 412#16) ⟨12#6, .handset 0⟩ = loud ∧
    mixing.sourceBlock speech yields (.line 412#16) ⟨19#6, .handset 0⟩ = Vector.replicate 16 30000#16 ∧
    mixing.sourceBlock speech yields (.line 412#16) ⟨3#6, .handset 0⟩ = Block.silence ∧
    (mixing.mix speech yields).lineOut[(0 : Fin 8)] = Vector.replicate 16 32767#16 ∧
    (mixing.mix speech yields).live.clipsLine[(0 : Fin 8)] = 1#16 ∧
    mixing.bindingMix yields 0 (.line 412#16) = Vector.replicate 16 30100#16 ∧
    mixing.slotOfBinding 0 (callCircuit ⟨19#6, 0⟩) = some 1 ∧ callCircuit ⟨19#6, 0⟩ = .call 76 ∧
    mixing.bindingMix yields 0 (.call 76) = loud ∧
    (mixing.mix speech yields).earpieceOut[(0 : Fin 2)] = Vector.replicate 16 30600#16 ∧
    (mixing.mix speech yields).speakerOut[(1 : Fin 2)] = Vector.replicate 16 4096#16 ∧
    ({ mixing with talk := some 3 }.mix speech yields).speakerOut[(1 : Fin 2)] = Vector.replicate 16 512#16 := by decide +kernel

theorem witness_admission :
    admitSources 2 200 100 [⟨⟨1#6, .mic⟩, 500⟩, ⟨⟨2#6, .mic⟩, 400⟩, ⟨⟨3#6, .mic⟩, 700⟩, ⟨⟨4#6, .mic⟩, 199⟩] [] =
      [⟨⟨3#6, .mic⟩, 0, 700⟩, ⟨⟨1#6, .mic⟩, 0, 500⟩] ∧
    meetCandidate 2 [⟨⟨3#6, .mic⟩, 0, 700⟩, ⟨⟨1#6, .mic⟩, 0, 500⟩] ⟨⟨2#6, .mic⟩, 750⟩ =
      [⟨⟨3#6, .mic⟩, 0, 700⟩, ⟨⟨1#6, .mic⟩, 0, 500⟩] ∧
    meetCandidate 2 [⟨⟨3#6, .mic⟩, 0, 500⟩, ⟨⟨1#6, .mic⟩, 0, 500⟩] ⟨⟨2#6, .mic⟩, 751⟩ =
      [⟨⟨3#6, .mic⟩, 0, 500⟩, ⟨⟨2#6, .mic⟩, 0, 751⟩] ∧
    meetCandidate 3 [⟨⟨3#6, .mic⟩, 0, 500⟩] ⟨⟨2#6, .mic⟩, 201⟩ = [⟨⟨3#6, .mic⟩, 0, 500⟩, ⟨⟨2#6, .mic⟩, 0, 201⟩] ∧
    (([⟨⟨3#6, .mic⟩, 0, 500⟩, ⟨⟨1#6, .mic⟩, 0, 500⟩] : List Talker).map (·.party)).Nodup := by decide +kernel

/-- Channel 3 on line 412 with handset A open on it, and channel 4 on hoot 5 with a stream. -/
def admitting : State :=
  { farEnd { engaged with members := [member 12#6 0 .active] } with
    handsets := up.handsets.set 0 ⟨false, [⟨.line 412#16, 72, 0⟩], 72, false⟩
    channels := (up.channels.set 3 ⟨.line 412#16, 72, 0, false, [], none, 0⟩).set 4 ⟨.hoot 5, 72, 0, false, [], none, 0⟩
    streams := up.streams.set 31 (some { stream 1 with circuit := .hoot 5, party := ⟨19#6, .mic⟩, playing := true }) }

theorem witness_sources : admitting.loaded = true ∧ (∀ i : Fin 32, (admitting.streams[i]).all fun e => decide (1 < e.silence)) ∧
    ((admitting.beforeAdmission speech).channels[(4 : Fin 8)]).binding = .hoot 5 ∧
    ((admitting.beforeAdmission speech).channels[(3 : Fin 8)]).binding = .line 412#16 ∧
    (((admitting.beforeAdmission speech).sources admitting.boundaryYields 4).map (·.party)) = [⟨19#6, .mic⟩] ∧
    (((admitting.beforeAdmission speech).sources admitting.boundaryYields 3).map (·.party)) =
      [⟨12#6, .handset 0⟩, ⟨12#6, .linePort 0⟩] ∧ (admitting.beforeAdmission speech).channelPlays 3 = true := by decide +kernel

theorem witness_hangover_falls : ending.loaded = true ∧ (ending.beforeAdmission quiet).channelPlays 3 = true ∧
    (∃ x ∈ ((ending.beforeAdmission quiet).channels[(3 : Fin 8)]).talkers, x.party = ⟨19#6, .mic⟩ ∧
      ∃ y ∈ (ending.beforeAdmission quiet).sources ending.boundaryYields 3, y.party = ⟨19#6, .mic⟩ ∧
        y.level < ending.cfg.gate ∧ ending.cfg.hangover ≤ x.hangover + 1) ∧ State.reset.loaded = false := by decide +kernel

theorem test_stream_end_leaves_every_set :
    (go (.streamSilenceExpiry 31 quiet) { ending with
      channels := ending.channels.set 4 ⟨.hoot 6, 72, 0, false, [⟨⟨19#6, .mic⟩, 0, 900⟩], none, 0⟩ }).channels[(4 : Fin 8)].talkers
      = [] := by decide +kernel

/-- A stream entry by its playing mark, its queue's length and its concealed count, its last block -3. -/
def gapped (playing : Bool) (n concealed : Nat) : StreamEntry :=
  { stream n with playing := playing, concealed := concealed, lastBlock := Vector.replicate 16 0xFFFD#16 }

theorem witness_yields : (gapped false 1 0).yield.1 = .silent ∧ (gapped false 2 0).yield.1 = .real ∧
    (gapped false 2 0).yield.2.playing = true ∧ (gapped true 1 2).yield.1 = .real ∧
    (gapped true 0 1).yield.1 = .concealed ∧ (gapped true 0 1).yield.2.lastBlock = Vector.replicate 16 0xFFFE#16 ∧
    (gapped true 0 2).yield.1 = .silent ∧ (gapped true 0 2).yield.2.playing = false ∧
    (∀ k : Fin 8, (reading 1 true).carrier[k] = true) ∧
    (go (.blockBoundary quiet) { reading 1 true with streams := up.streams.set 31 (some (gapped true 0 1)) }).live.underruns = 1#16 ∧
    1 < (gapped true 0 1).silence := by decide +kernel

/-- Station 12 with another record and tap on port 0, carrier everywhere, and the claim at descriptor 0 or, when it is
taken, at a READY one. -/
def tapping (r : LineRecord) (x : Tap) (free : Bool) : State :=
  { upWith r with
    carrier := Vector.replicate 8 true, taps := State.reset.taps.set 0 (some x), recordingCount := 6#16
    ring := (up.ring.set 63 { Descriptor.empty with owner := .filling, recording := 5#16, pairs := [(1#16, 2#16)] }).set 0
      (if free then Descriptor.empty else ready) }

/-- Taps in their states. -/
def rolling : Tap := ⟨.recording, some 5#16, 1#16, some 63, 0#16, none⟩
def starving : Tap := ⟨.starved, some 5#16, 1#16, none, 48#16, none⟩
def closing (owed : Option Count) : Tap := ⟨.closing, some 5#16, 1#16, none, 48#16, owed⟩

/-- The tap after an event and after a boundary. -/
def tapAfter (r : LineRecord) (x : Tap) (free : Bool) (old : List (Party × Mode)) : Option Tap :=
  ((tapping r x free).tapEvent 0 old).taps[(0 : Fin 8)]
def tapNext (r : LineRecord) (x : Tap) (free : Bool) : Option Tap :=
  ((tapping r x free).tapBoundary 0 loud loud false).taps[(0 : Fin 8)]

theorem witness_tap_events : (tapping engaged Tap.new true).partySet 0 = [(⟨19#6, .handset 0⟩, .active)] ∧
    (tapping idle Tap.new true).partySet 0 = [] ∧ ((tapping engaged rolling true).ring[(63 : Fin 64)]).owner = .filling ∧
    ((tapping engaged rolling true).ring[(tapping engaged rolling true).claimIndex]).owner = .free ∧
    ((tapping engaged rolling false).ring[(tapping engaged rolling false).claimIndex]).owner ≠ .free ∧
    tapAfter engaged Tap.new true [] = some ⟨.recording, some 6#16, 1#16, some 0, 0#16, none⟩ ∧
    tapAfter engaged Tap.new false [] = some ⟨.starved, some 6#16, 0#16, none, 0#16, none⟩ ∧
    tapAfter engaged (closing none) true [] = some (closing (some 0#16)) ∧
    tapAfter engaged starving true [(⟨3#6, .handset 0⟩, .active)] = some starving ∧
    tapAfter idle rolling true [(⟨3#6, .handset 0⟩, .active)] = some ⟨.idle, none, 0#16, none, 0#16, none⟩ ∧
    tapAfter engaged rolling true [(⟨3#6, .handset 0⟩, .active)] = some { rolling with nextSegment := 2#16, filling := some 0 } ∧
    tapAfter engaged rolling false [(⟨3#6, .handset 0⟩, .active)] = some { rolling with state := .starved, filling := none } ∧
    tapAfter idle starving true [(⟨3#6, .handset 0⟩, .active)] = some (closing none) ∧
    (((tapping idle rolling true).tapEvent 0 [(⟨3#6, .handset 0⟩, .active)]).ring[(63 : Fin 64)]).last = true := by decide +kernel

theorem witness_tap_boundaries : starving.number = some 5#16 ∧ (closing none).owedStart = none ∧
    tapNext engaged starving true = some ⟨.recording, some 5#16, 2#16, some 0, 0#16, none⟩ ∧
    (((tapping engaged starving true).tapBoundary 0 loud loud false).ring[(0 : Fin 64)]).lostPairs = 48#16 ∧
    tapNext engaged starving false = some { starving with lostPairs := 64#16 } ∧
    tapNext idle (closing none) true = some ⟨.idle, none, 0#16, none, 0#16, none⟩ ∧
    tapNext idle (closing none) false = some (closing none) ∧
    tapNext engaged (closing (some 16#16)) false = some (closing (some 32#16)) ∧
    tapNext engaged (closing (some 16#16)) true = some ⟨.starved, some 6#16, 0#16, none, 32#16, none⟩ ∧
    tapNext idle (closing (some 16#16)) true = some ⟨.closing, some 6#16, 0#16, none, 16#16, none⟩ := by decide +kernel

theorem witness_tap_at_a_boundary : (tapping engaged starving true).loaded = true ∧
    (∀ j : Fin 8, (tapping engaged starving true).carrier[j] = true ∧ (j ≠ 0 → (tapping engaged starving true).taps[j] = none)) ∧
    (tapping heldOver rolling true).records[(0 : Fin 8)] = some heldOver ∧ heldOver.holdOver = some 0 ∧
    ((go (.holdOverExpiry 0) { failing with taps := (tapping heldOver rolling true).taps, ring := (tapping heldOver rolling true).ring
      }).taps[(0 : Fin 8)]).map (·.state) = some .idle ∧
    ((go (.blockBoundary quiet) (tapping engaged starving true)).taps[(0 : Fin 8)]).map (·.state) = some .recording := by
  decide +kernel

/-! ### Position -/

/-- Station 12 with the mirror of line 501 due to become STALE. -/
def stale : State :=
  { up with mirrors := [⟨412#16, .unknown, none, none⟩, ⟨501#16, .current, some (line501 .idle []), some 0⟩] }

/-- Station 12 with an ask due to be given up. -/
def unanswered : State := { up with pendingAsks := [⟨4#8, 501#16, .take, 1, 1, false, 19#6, 0⟩] }

theorem witness_handset_settings : bound.loaded = true ∧ bound.panelAnswers = true ∧ (0#8 : Octet).toNat = (0 : Fin 2).val ∧
    ((bound.handsets[(0 : Fin 2)]).bindings[(0#8 : Octet).toNat]?) = some ⟨.line 501#16, 72, 0⟩ ∧
    ((go (.hookOff 1#8) up).handsets[(1 : Fin 2)]).onHook = false ∧ (go (.hookOff 1#8) up).marks.handset[(1 : Fin 2)] = true ∧
    ((go (.mute 0#8 true) bound).handsets[(0 : Fin 2)]).muted = true ∧
    ((go (.volume 0#8 95#8) up).handsets[(0 : Fin 2)]).volume = 88 ∧
    (go (.volume 0#8 96#8) up).panelAnswer = some ⟨13#8, .badValue, []⟩ ∧
    ((go (.balance 0#8 0#8 89#8) bound).handsets[(0 : Fin 2)]).bindings = [⟨.line 501#16, 88, 0⟩] := by decide +kernel

theorem witness_balance_refusals : (95#8 : Octet).toNat ≤ 95 ∧ 95 < (96#8 : Octet).toNat ∧
    (up.handsets[(0 : Fin 2)]).bindings[(1#8 : Octet).toNat]? = none ∧
    (go (.balance 0#8 1#8 96#8) up).panelAnswer = some ⟨14#8, .badValue, []⟩ ∧
    (go (.balance 0#8 1#8 95#8) up).panelAnswer = some ⟨14#8, .notBound, []⟩ ∧
    (go (.mute 0#8 true) up).marks.handset[(0 : Fin 2)] = true ∧ (go (.mute 0#8 false) up).marks.handset[(0 : Fin 2)] = false ∧
    (go (.volume 0#8 72#8) up).marks.handset[(0 : Fin 2)] = false ∧ (go (.volume 0#8 71#8) up).marks.handset[(0 : Fin 2)] = true ∧
    (go (.balance 0#8 0#8 71#8) bound).marks.handset[(0 : Fin 2)] = true := by decide +kernel

theorem witness_position_timers : (stale.mirrorOf 501#16).map (·.timer) = some (some 0) ∧ stale.stationState = .active ∧
    (up.mirrorOf 501#16).map (·.timer) = some (some 500) ∧
    unanswered.pendingAsks = [] ++ ⟨4#8, 501#16, .take, 1, 1, false, 19#6, 0⟩ :: [] ∧ up.pendingAsks = [] ∧
    ((go (.stalenessTimerExpiry 501#16) stale).mirrorOf 501#16).map (·.state) = some .stale ∧
    (go (.pendingAskExpiry 4#8) unanswered).notices = [⟨.askNoAnswer 501#16 .take (.handset 1), 4005#32⟩] ∧
    (go (.pendingAskExpiry 4#8) unanswered).pendingAsks = [] := by decide +kernel

/-- A placed call of handset B in slot 3. -/
def placed : Slot :=
  ⟨.offering, some .caller, some ⟨12#6, 3⟩, some (.party ⟨19#6, .handset 0⟩), some ⟨19#6, .handset 0⟩, none, some 1, some 9⟩

/-- Station 12 with handset B off hook and placing it. -/
def placing : State :=
  { up with slots := up.slots.set 3 placed, handsets := up.handsets.set 1 ⟨false, [], 72, false⟩ }

theorem witness_hook_on : up.loaded = true ∧ (up.handsets[(0 : Fin 2)]).onHook = true ∧
    (bound.handsets[(0 : Fin 2)]).onHook = false ∧
    (bound.handsets[(0 : Fin 2)]).bindings = [⟨.line 501#16, 72, 0⟩] ∧ bound.homeOf 501#16 = some 19#6 ∧
    (∀ i : Fin 4, (bound.slots[i]).handset ≠ some 0) ∧ (placing.slots[(3 : Fin 4)]).takesPlace 1 = true ∧
    has (go (.hookOn 0#8) (lineless bound)) 19#6 (askFrame 501#16 .drop (.handset 0) (.handset 0) false 0#8) = true ∧
    (go (.hookOn 1#8) (lineless placing)).slots[(3 : Fin 4)] = Slot.empty := by decide +kernel

/-- A station without line records has none for any line. -/
theorem witness_hook_on_lineless : ∀ line : LineNo, (lineless bound).recordFor line = none := fun _ => rfl

/-- Handset A off hook with nothing bound. -/
def offHook : State := { up with handsets := up.handsets.set 0 ⟨false, [], 72, false⟩ }

theorem witness_line_key : offHook.stationState = .active ∧ (1#8 : Octet).toNat = (1 : Fin 128).val ∧
    offHook.cfg.appearance[(1 : Fin 128)] = 501#16 ∧ (offHook.mirrorOf 501#16).map (·.state) = some .current ∧
    (offHook.handsets[(0 : Fin 2)]).onHook = false ∧ offHook.placesTaken 0 = 0 ∧ offHook.homeOf 501#16 = some 19#6 ∧
    offHook.pendingAsks.length < 4 ∧ offHook.heldEntry 501#16 = none ∧
    has (go (.lineKey 1#8 0#8) offHook) 19#6 (.ask ⟨501#16, some .take, .handset 0, .handset 0, false, 0#8⟩) = true ∧
    (go (.lineKey 1#8 0#8) offHook).pendingAsks = [⟨0#8, 501#16, .take, 0, 0, false, 19#6, 51⟩] ∧
    has (go (.lineKey 1#8 0#8) { offHook with held := [⟨501#16, 1, 0⟩] }) 19#6
      (.ask ⟨501#16, some .resume, .handset 1, .handset 0, false, 0#8⟩) = true ∧
    (go (.lineKey 0#8 0#8) offHook).panelAnswer = some ⟨7#8, .noLine, []⟩ ∧
    (go (.lineKey 1#8 0#8) up).panelAnswer = some ⟨7#8, .hookOn, []⟩ ∧
    (go (.lineKey 1#8 0#8) bound).panelAnswer = some ⟨7#8, .done, []⟩ ∧
    (go (.lineKey 1#8 1#8) { bound with handsets := bound.handsets.set 1 ⟨false, [], 72, false⟩ }).panelAnswer =
      some ⟨7#8, .busy, []⟩ := by decide +kernel

/-- Handset A off hook with two bindings. -/
def twoBound : State :=
  { up with handsets := up.handsets.set 0 ⟨false, [⟨.line 7#16, 72, 0⟩, ⟨.line 8#16, 72, 0⟩], 72, false⟩ }

theorem witness_line_key_full : twoBound.placesTaken 0 = 2 ∧
    (go (.lineKey 1#8 0#8) twoBound).panelAnswer = some ⟨7#8, .fullHandset, []⟩ ∧
    (go (.lineKey 1#8 0#8) { offHook with pendingAsks := List.replicate 4 ⟨4#8, 9#16, .ring, 1, 1, false, 19#6, 40⟩ }).panelAnswer =
      some ⟨7#8, .busy, []⟩ := by decide +kernel

theorem witness_bound_lines : bound.stationState = .active ∧ bound.panelAnswers = true ∧
    (bound.handsets[(0 : Fin 2)]).bindings[(0#8 : Octet).toNat]? = some ⟨.line 501#16, 72, 0⟩ ∧ bound.homeOf 501#16 = some 19#6 ∧
    (19#6 : Station) ≠ bound.cfg.station ∧ (∀ a ∈ bound.pendingAsks, a.line ≠ 501#16) ∧ bound.heldPlaces = 0 ∧
    bound.firstLine 0 = some 501#16 ∧
    has (go (.release 0#8 0#8) bound) 19#6 (.ask ⟨501#16, some .drop, .handset 0, .handset 0, false, 0#8⟩) = true ∧
    ((go (.release 0#8 0#8) bound).handsets[(0 : Fin 2)]).bindings = [] ∧
    has (go (.hold 0#8 0#8) bound) 19#6 (.ask ⟨501#16, some .hold, .handset 0, .handset 0, false, 0#8⟩) = true ∧
    (go (.hold 0#8 0#8) { bound with held := List.replicate 8 ⟨9#16, 1, 0⟩ }).panelAnswer = some ⟨9#8, .heldFull, []⟩ ∧
    has (go (.ring 0#8) bound) 19#6 (.ask ⟨501#16, some .ring, .handset 0, .handset 0, false, 0#8⟩) = true ∧
    has (go (.privacy 0#8 true) bound) 19#6 (.ask ⟨501#16, some .privacy, .handset 0, .handset 0, true, 0#8⟩) = true := by
  decide +kernel

/-- Station 12, handset A off hook, the mirror of its own line 412 CURRENT. -/
def home (r : LineRecord) : State :=
  { upWith r with
    mirrors := [⟨412#16, .current, some (up.lineStatus 0 r), none⟩, ⟨501#16, .unknown, none, none⟩]
    handsets := up.handsets.set 0 ⟨false, [], 72, false⟩ }

/-- Its record with handset A as its one member, ACTIVE or HELD, and the station with the binding, the held entry or
channel 3 that goes with it. -/
def taken : LineRecord := { idle with state := .engaged, members := [member 12#6 0 .active] }
def parked : LineRecord := { idle with state := .held, members := [member 12#6 0 .held] }
def heardBy : LineRecord := { idle with listeners := [⟨⟨12#6, .speakerCh 3⟩, 7#32⟩] }
def homeTaken (r : LineRecord) : State := { home r with handsets := up.handsets.set 0 ⟨false, [⟨.line 412#16, 72, 0⟩], 72, false⟩ }
def homeParked : State := { home parked with held := [⟨412#16, 0, 0⟩] }
def homeHeard : State := { home heardBy with channels := up.channels.set 3 ⟨.line 412#16, 72, 0, false, [], none, 0⟩ }

theorem ownLine_of (s : State) (r : LineRecord) (settled : r.Settled (s.portCfg 0) (s.outCause 0 r) (s.ports[(0 : Fin 8)]).alarms)
    (h : s.stationState = .active ∧ s.panelAnswers = true ∧ s.homeOf 412#16 = some s.cfg.station ∧ s.recordFor 412#16 = some 0 ∧
      s.records[(0 : Fin 8)] = some r ∧ (∀ a ∈ s.pendingAsks, a.line ≠ 412#16) ∧
      (r.members.map (·.party)).Nodup ∧ (r.listeners.map (·.party)).Nodup)
    (members : ∀ m ∈ r.members, m.party.station = s.cfg.station → ∃ h : Fin 2, m.party.port = .handset h ∧
      (m.mode = .active → ∃ b ∈ (s.handsets[h]).bindings, b.circuit = .line 412#16) ∧
      (m.mode = .held → ∃ e ∈ s.held, e.line = 412#16 ∧ e.handset = h))
    (bindings : ∀ h : Fin 2, ∀ b ∈ (s.handsets[h]).bindings, b.circuit = .line 412#16 →
      ∃ m ∈ r.members, m.party = s.own (.handset h) ∧ m.mode = .active)
    (held : ∀ e ∈ s.held, e.line = 412#16 → ∃ m ∈ r.members, m.party = s.own (.handset e.handset) ∧ m.mode = .held)
    (listeners : ∀ l ∈ r.listeners, l.party.station = s.cfg.station → ∃ c : Fin 8, l.party.port = .speakerCh c ∧
      (s.channels[c]).binding = .line 412#16)
    (channels : ∀ c : Fin 8, (s.channels[c]).binding = .line 412#16 →
      (s.channels[c]).wait = none ∧ ∃ l ∈ r.listeners, l.party = s.own (.speakerCh c)) : s.OwnLine 412#16 0 r :=
  ⟨h.1, h.2.1, h.2.2.1, h.2.2.2.1, h.2.2.2.2.1, settled, h.2.2.2.2.2.1, h.2.2.2.2.2.2, members, bindings, held, listeners,
    channels⟩

theorem witness_own_lines : (home idle).OwnLine 412#16 0 idle ∧ (homeTaken taken).OwnLine 412#16 0 taken ∧
    homeParked.OwnLine 412#16 0 parked ∧ homeHeard.OwnLine 412#16 0 heardBy ∧
    (home (shared 3)).OwnLine 412#16 0 (shared 3) ∧ (home closed).OwnLine 412#16 0 closed :=
  ⟨ownLine_of _ _ settled_idle (by decide +kernel) (by decide +kernel) (by decide +kernel) (by decide +kernel) (by decide +kernel) (by decide +kernel),
    ownLine_of _ _ ⟨by decide, by decide, by decide, by decide, by decide⟩ (by decide +kernel) (by decide +kernel) (by decide +kernel) (by decide +kernel) (by decide +kernel) (by decide +kernel),
    ownLine_of _ _ ⟨by decide, by decide, by decide, by decide, by decide⟩ (by decide +kernel) (by decide +kernel) (by decide +kernel) (by decide +kernel) (by decide +kernel) (by decide +kernel),
    ownLine_of _ _ ⟨by decide, by decide, by decide, by decide, by decide⟩ (by decide +kernel) (by decide +kernel) (by decide +kernel) (by decide +kernel) (by decide +kernel) (by decide +kernel),
    ownLine_of _ _ settled_shared.2 (by decide +kernel) (by decide +kernel) (by decide +kernel) (by decide +kernel) (by decide +kernel) (by decide +kernel), ownLine_of _ _ settled_closed (by decide +kernel) (by decide +kernel) (by decide +kernel) (by decide +kernel) (by decide +kernel) (by decide +kernel)⟩

/-- A failed own line without parties. -/
def homeFailed : State :=
  { home failedLine with ports := up.ports.set 0 { LinePort.reset with alarms := { Alarms.clear with los := true } } }

theorem witness_failed_own_line : homeFailed.OwnLine 412#16 0 failedLine ∧ failedLine.state = .failed :=
  ⟨ownLine_of _ _ ⟨by decide, by decide, by decide, by decide, by decide⟩ (by decide +kernel) (by decide +kernel) (by decide +kernel) (by decide +kernel) (by decide +kernel) (by decide +kernel), rfl⟩

theorem witness_local_keys : (0#8 : Octet).toNat = (0 : Fin 128).val ∧ (home idle).cfg.appearance[(0 : Fin 128)] = 412#16 ∧
    ((home idle).mirrorOf 412#16).map (·.state) = some .current ∧ (home idle).placesTaken 0 = 0 ∧
    (go (.lineKey 0#8 0#8) (home idle)).boundCircuits 0 = [(.line 412#16, 72)] ∧
    ((go (.lineKey 0#8 0#8) (home idle)).records[(0 : Fin 8)]).map (·.state) = some .engaged ∧
    (go (.lineKey 0#8 0#8) (home idle)).pendingAsks = [] ∧
    (go (.lineKey 0#8 0#8) (home (shared 3))).notices = [⟨.askRefused 412#16 .take (.handset 0) (some .full), 4005#32⟩] ∧
    (go (.lineKey 0#8 0#8) (home closed)).notices = [⟨.askRefused 412#16 .take (.handset 0) (some .isPrivate), 4005#32⟩] ∧
    (go (.lineKey 0#8 0#8) homeFailed).notices = [⟨.askRefused 412#16 .take (.handset 0) (some .failed), 4005#32⟩] ∧
    homeParked.held.filter (fun x => x.line == 412#16) = [⟨412#16, 0, 0⟩] ∧ (go (.lineKey 0#8 0#8) homeParked).heldLines = [] ∧
    (go (.lineKey 0#8 0#8) homeParked).boundCircuits 0 = [(.line 412#16, 72)] := by decide +kernel

theorem witness_local_requests : ((homeTaken taken).handsets[(0 : Fin 2)]).bindings[(0#8 : Octet).toNat]? = some ⟨.line 412#16, 72, 0⟩ ∧
    (homeTaken taken).firstLine 0 = some 412#16 ∧
    ((go (.release 0#8 0#8) (homeTaken taken)).records[(0 : Fin 8)]).map (·.members) = some [] ∧
    (go (.hold 0#8 0#8) (homeTaken taken)).heldLines = [(412#16, 0)] ∧
    ((go (.hold 0#8 0#8) (homeTaken taken)).records[(0 : Fin 8)]).map (·.state) = some .held ∧
    ((go (.ring 0#8) (homeTaken taken)).records[(0 : Fin 8)]).map (·.outRing) = some (some 1001) ∧
    ((go (.privacy 0#8 true) (homeTaken taken)).records[(0 : Fin 8)]).map (·.privacy) = some true ∧
    (go (.bind 3#8 1#8 412#16) (home idle)).channelState 3 = .quiet ∧
    ((go (.bind 3#8 1#8 412#16) (home idle)).records[(0 : Fin 8)]).map (·.listeners.length) = some 1 ∧
    (go (.bind 3#8 1#8 412#16) homeFailed).notices = [⟨.askRefused 412#16 .listen (.speakerCh 3) (some .failed), 4005#32⟩] ∧
    (go (.bind 3#8 1#8 412#16) homeFailed).marks.talker[(3 : Fin 8)] = true ∧
    ((go (.unbind 3#8) homeHeard).records[(0 : Fin 8)]).map (·.listeners) = some [] := by decide +kernel

/-! ### Calls -/

theorem witness_call : offHook.stationState = .active ∧ (offHook.slots[(0 : Fin 4)]).state = .free ∧
    (19#8 : Octet).toNat ≤ 62 ∧ offHook.placesTaken 0 < 2 ∧ (71#8 : Octet).toNat = (7#6 : Station).toNat + 64 ∧
    has (go (.call 0#8 19#8 1#8) offHook) 19#6 (.call ⟨.offer, ⟨12#6, 0⟩, .handset 0, .port (.handset 1), .none⟩) = true ∧
    (go (.call 0#8 19#8 1#8) offHook).slots[(0 : Fin 4)] = ⟨.offering, some .caller, some ⟨12#6, 0⟩,
      some (.party ⟨19#6, .handset 1⟩), some ⟨19#6, .handset 1⟩, none, some 0, some 51⟩ ∧
    has (go (.call 0#8 0#8 71#8) offHook) 63#6 (.call ⟨.offer, ⟨12#6, 0⟩, .handset 0, .group 7#6, .none⟩) = true ∧
    (go (.call 0#8 63#8 1#8) offHook).panelAnswer = some ⟨15#8, .badValue, []⟩ ∧
    (go (.call 0#8 12#8 1#8) offHook).panelAnswer = some ⟨15#8, .badValue, []⟩ ∧
    (go (.call 0#8 19#8 1#8) up).panelAnswer = some ⟨15#8, .hookOn, []⟩ := by decide +kernel

/-- A CALL frame between station 19's handset B and handset A of station 12. -/
def callOf (kind : CallKind) (id : CallId) (called : Called) (reason : CallReason) : CallFrame :=
  ⟨kind, id, .handset 1, called, reason⟩

/-- Every slot taken by a call of station 3. -/
def callOf3 : Slot :=
  ⟨.alerting, some .called, some ⟨3#6, 0⟩, none, some ⟨3#6, .handset 0⟩, some (.port (.handset 0)), none, some 90⟩
def fullSlots : State := { up with slots := Vector.replicate 4 callOf3 }

theorem witness_offer :
    up.HandsOn (sentFrame 19#6 12#6 (.call (callOf .offer ⟨19#6, 2⟩ (.port (.handset 0)) .none))) 19#6 12#6 (.call (callOf .offer ⟨19#6, 2⟩ (.port (.handset 0)) .none)) ∧
    up.HandsOn (sentFrame 19#6 63#6 (.call (callOf .offer ⟨19#6, 2⟩ (.group 7#6) .none))) 19#6 63#6 (.call (callOf .offer ⟨19#6, 2⟩ (.group 7#6) .none)) ∧
    (up.calledSlot ⟨19#6, 2⟩ = none ∧ up.cfg.station ≠ Config.allStations ∧
      (∀ i : Fin 4, (up.slots[i]).target ≠ some (.party ⟨19#6, .handset 1⟩)) ∧ 7 ∈ up.cfg.groups ∧ 8 ∉ up.cfg.groups ∧
      (∀ i : Fin 4, (fullSlots.slots[i]).state ≠ .free) ∧ noPanel.cfg.panelPresent = false ∧
      has (go (heardCommand 19#6 12#6 (.call (callOf .offer ⟨19#6, 2⟩ (.port (.handset 0)) .none))) up) 19#6
        (.call (callOf .alert ⟨19#6, 2⟩ (.port (.handset 0)) .none)) = true ∧
      has (go (heardCommand 19#6 12#6 (.call (callOf .offer ⟨19#6, 2⟩ (.port (.handset 0)) .none))) fullSlots) 19#6
        (.call (callOf .decline ⟨19#6, 2⟩ (.port (.handset 0)) .busy)) = true ∧
      has (go (heardCommand 19#6 12#6 (.call (callOf .offer ⟨19#6, 2⟩ (.port (.handset 0)) .none))) noPanel) 19#6
        (.call (callOf .decline ⟨19#6, 2⟩ (.port (.handset 0)) .noAnswer)) = true ∧
      ((go (heardCommand 19#6 63#6 (.call (callOf .offer ⟨19#6, 2⟩ (.group 7#6) .none))) up).slots[(0 : Fin 4)]).state = .alerting ∧
      ((go (heardCommand 19#6 63#6 (.call (callOf .offer ⟨19#6, 2⟩ (.group 8#6) .none))) up).slots[(0 : Fin 4)]).state = .free) :=
  ⟨handsOn_of _ _ _ _ _ (by decide +kernel), handsOn_of _ _ _ _ _ (by decide +kernel), by decide +kernel⟩

/-- The frames of the called station for the call placed in slot 3. -/
def answerOf (kind : CallKind) (reason : CallReason) : CallFrame := callOf kind ⟨12#6, 3⟩ (.port (.handset 0)) reason

theorem witness_call_frames :
    placing.HandsOn (sentFrame 19#6 12#6 (.call (answerOf .alert .none))) 19#6 12#6 (.call (answerOf .alert .none)) ∧
    placing.HandsOn (sentFrame 19#6 12#6 (.call (answerOf .accept .none))) 19#6 12#6 (.call (answerOf .accept .none)) ∧
    placing.HandsOn (sentFrame 19#6 12#6 (.call (answerOf .decline .busy))) 19#6 12#6 (.call (answerOf .decline .busy)) ∧
    placing.HandsOn (sentFrame 19#6 12#6 (.call (answerOf .callEnd .glare))) 19#6 12#6 (.call (answerOf .callEnd .glare)) ∧
    (placing.slots[(3 : Fin 4)] = placed ∧ placed.role = some .caller ∧ placed.state = .offering ∧
      (up.slots[(answerOf .accept .none).id.slot]).role ≠ some .caller ∧
      busyUp.calledSlot ⟨19#6, 0⟩ = some 1 ∧ (busyUp.slots[(1 : Fin 4)]).state = .alerting ∧
      ((go (heardCommand 19#6 12#6 (.call (answerOf .alert .none))) placing).slots[(3 : Fin 4)]).timer = some 10001 ∧
      ((go (heardCommand 19#6 12#6 (.call (answerOf .accept .none))) placing).handsets[(1 : Fin 2)]).bindings =
        [⟨callCircuit ⟨12#6, 3⟩, 72, 0⟩] ∧
      (go (heardCommand 19#6 12#6 (.call (answerOf .decline .busy))) placing).notices =
        [⟨.callEnded 3 ⟨12#6, 3⟩ .busy, 4005#32⟩] ∧
      (go (heardCommand 19#6 12#6 (.call (answerOf .callEnd .glare))) placing).slots[(3 : Fin 4)] = Slot.empty ∧
      has (go (heardCommand 19#6 12#6 (.call (answerOf .accept .none))) up) 19#6 (.call (answerOf .callEnd .cleared)) = true ∧
      (go (heardCommand 19#6 12#6 (.call (callOf .callEnd ⟨19#6, 0⟩ (.port (.handset 0)) .cleared))) busyUp).notices =
        [⟨.callEnded 1 ⟨19#6, 0⟩ .cleared, 4005#32⟩]) :=
  ⟨handsOn_of _ _ _ _ _ (by decide +kernel), handsOn_of _ _ _ _ _ (by decide +kernel), handsOn_of _ _ _ _ _ (by decide +kernel),
    handsOn_of _ _ _ _ _ (by decide +kernel), by decide +kernel⟩

/-- Slots whose waits are due: an offer, a ringback and an alerting call. -/
def offerDue : Slot := { placed with id := some ⟨12#6, 0⟩, timer := some 0 }
def ringbackDue : Slot := { placed with state := .ringback, id := some ⟨12#6, 1⟩, timer := some 0 }
def alertingDue : Slot :=
  ⟨.alerting, some .called, some ⟨19#6, 0⟩, none, some ⟨19#6, .handset 0⟩, some (.port (.handset 0)), none, some 0⟩

/-- The station that holds them. -/
def waitsDue : State :=
  { up with slots := ((up.slots.set 0 offerDue).set 1 ringbackDue).set 2 alertingDue }

theorem witness_call_waits : (waitsDue.slots[(0 : Fin 4)]).state = .offering ∧ (waitsDue.slots[(0 : Fin 4)]).timer = some 0 ∧
    (waitsDue.slots[(1 : Fin 4)]).state = .ringback ∧ (waitsDue.slots[(2 : Fin 4)]).state = .alerting ∧
    (placing.slots[(3 : Fin 4)]).timer ≠ some 0 ∧ waitsDue.notices.length < 32 ∧
    (go (.alertWaitExpiry 0) waitsDue).txQueue = [] ∧ (go (.alertWaitExpiry 0) waitsDue).slots[(0 : Fin 4)] = Slot.empty ∧
    has (go (.callerAnswerWaitExpiry 1) waitsDue) 19#6
      (.call ⟨.callEnd, ⟨12#6, 1⟩, .handset 1, .port (.handset 0), .noAnswer⟩) = true ∧
    has (go (.calledAnswerWaitExpiry 2) waitsDue) 19#6
      (.call ⟨.decline, ⟨19#6, 0⟩, .handset 0, .port (.handset 0), .noAnswer⟩) = true := by decide +kernel

/-- A call alerting in slot 1, with both handsets off hook. -/
def alertingUp : State := { busyUp with handsets := Vector.replicate 2 ⟨false, [], 72, false⟩ }

theorem witness_call_requests : alertingUp.stationState = .active ∧ (alertingUp.slots[(1 : Fin 4)]).state = .alerting ∧
    (alertingUp.handsets[(0 : Fin 2)]).onHook = false ∧ alertingUp.placesTaken 0 < 2 ∧
    (placing.slots[(3 : Fin 4)]) = placed ∧ (up.slots[(0 : Fin 4)]).state = .free ∧
    has (go (.answer 1#8 0#8) alertingUp) 19#6 (.call ⟨.accept, ⟨19#6, 0⟩, .handset 0, .port (.handset 0), .none⟩) = true ∧
    ((go (.answer 1#8 0#8) alertingUp).handsets[(0 : Fin 2)]).bindings = [⟨callCircuit ⟨19#6, 0⟩, 72, 0⟩] ∧
    has (go (.reject 1#8) alertingUp) 19#6 (.call ⟨.decline, ⟨19#6, 0⟩, .handset 0, .port (.handset 0), .cleared⟩) = true ∧
    (go (.callEnd 1#8) alertingUp).slots[(1 : Fin 4)] = Slot.empty ∧
    has (go (.callEnd 3#8) placing) 19#6 (.call ⟨.callEnd, ⟨12#6, 3⟩, .handset 1, .port (.handset 0), .cleared⟩) = true ∧
    (go (.answer 0#8 0#8) up).panelAnswer = some ⟨16#8, .notBound, []⟩ ∧
    (go (.reject 0#8) up).panelAnswer = some ⟨17#8, .notBound, []⟩ ∧
    (go (.callEnd 0#8) up).panelAnswer = some ⟨18#8, .notBound, []⟩ := by decide +kernel

/-- An ALERTING slot that holds the offered call's id, behind a free one and before it. -/
def alertingCall : Slot :=
  ⟨.alerting, some .called, some ⟨19#6, 2⟩, none, some ⟨19#6, .handset 1⟩, some (.port (.handset 0)), none, some 90⟩
def again (j : Fin 4) : State := { up with slots := up.slots.set j alertingCall }

theorem witness_offer_again :
    (again 0).calledSlot ⟨19#6, 2⟩ = some 0 ∧ (again 3).calledSlot ⟨19#6, 2⟩ = some 3 ∧ ((again 3).slots[(0 : Fin 4)]).state = .free ∧
    (∀ i : Fin 4, ((again 3).slots[i]).target ≠ some (.party ⟨19#6, .handset 1⟩)) ∧
    (go (heardCommand 19#6 12#6 (.call (callOf .offer ⟨19#6, 2⟩ (.port (.handset 0)) .none))) (again 3)).notices =
      [⟨.callEnded 3 ⟨19#6, 2⟩ .cleared, 4005#32⟩,
        ⟨.callOffer 0 ⟨19#6, 2⟩ ⟨19#6, .handset 1⟩ (.port (.handset 0)), 4005#32⟩] ∧
    ((go (heardCommand 19#6 12#6 (.call (callOf .offer ⟨19#6, 2⟩ (.port (.handset 0)) .none))) (again 0)).slots[(0 : Fin 4)]).timer =
      some 10001 ∧
    (go (heardCommand 19#6 12#6 (.call (callOf .offer ⟨19#6, 2⟩ (.port .mic) .none))) up).slots = up.slots ∧
    has (go (heardCommand 19#6 63#6 (.call (callOf .offer ⟨19#6, 2⟩ (.group 7#6) .none))) up) 19#6
      (.call (callOf .alert ⟨19#6, 2⟩ (.group 7#6) .none)) = true ∧
    (go (heardCommand 19#6 63#6 (.call (callOf .offer ⟨19#6, 2⟩ (.group 8#6) .none))) (again 3)).slots[(3 : Fin 4)] = Slot.empty ∧
    (go (heardCommand 19#6 63#6 (.call (callOf .offer ⟨19#6, 2⟩ (.group 7#6) .none))) noPanel).slots = up.slots ∧
    (go (heardCommand 19#6 63#6 (.call (callOf .offer ⟨19#6, 2⟩ (.group 7#6) .none))) fullSlots).slots = fullSlots.slots := by
  decide +kernel

/-- A TALKING call of handset A in slot 1, as the called side and as the caller. -/
def talkingCall (role : Role) : State :=
  { up with
    slots := up.slots.set 1 ⟨.talking, some role, some (if role = .called then ⟨19#6, 0⟩ else ⟨12#6, 1⟩), none,
      some ⟨19#6, .handset 1⟩, if role = .called then some (.port (.handset 0)) else none, some 0, none⟩
    handsets := up.handsets.set 0
      ⟨false, [⟨callCircuit (if role = .called then ⟨19#6, 0⟩ else ⟨12#6, 1⟩), 72, 0⟩], 72, false⟩ }

theorem witness_talking_ends :
    (talkingCall .called).HandsOn (sentFrame 19#6 12#6 (.call (callOf .callEnd ⟨19#6, 0⟩ (.port (.handset 0)) .cleared))) 19#6 12#6
      (.call (callOf .callEnd ⟨19#6, 0⟩ (.port (.handset 0)) .cleared)) ∧
    (talkingCall .caller).HandsOn (sentFrame 19#6 12#6 (.call (callOf .callEnd ⟨12#6, 1⟩ (.port (.handset 0)) .cleared))) 19#6 12#6
      (.call (callOf .callEnd ⟨12#6, 1⟩ (.port (.handset 0)) .cleared)) ∧
    ((talkingCall .called).calledSlot ⟨19#6, 0⟩ = some 1 ∧
      ((go (heardCommand 19#6 12#6 (.call (callOf .callEnd ⟨19#6, 0⟩ (.port (.handset 0)) .cleared))) (talkingCall .called)).handsets[(0 :
        Fin 2)]).bindings = [] ∧
      ((go (heardCommand 19#6 12#6 (.call (callOf .callEnd ⟨12#6, 1⟩ (.port (.handset 0)) .cleared))) (talkingCall .caller)).handsets[(0 :
        Fin 2)]).bindings = []) :=
  ⟨handsOn_of _ _ _ _ _ (by decide +kernel), handsOn_of _ _ _ _ _ (by decide +kernel), by decide +kernel⟩

/-- A hunt call of handset B in slot 3: offering, ringing back, or talking to station 19. -/
def hunting (state : SlotState) (peer : Option Party) : State :=
  { placing with
    slots := up.slots.set 3 ⟨state, some .caller, some ⟨12#6, 3⟩, some (.group 7#6), peer, none, some 1, some 9⟩ }

/-- A frame of station 19 or 20 for it. -/
def huntFrame (kind : CallKind) (reason : CallReason) : Body := .call ⟨kind, ⟨12#6, 3⟩, .handset 1, .port (.handset 0), reason⟩

theorem witness_hunt :
    (hunting .offering none).HandsOn (sentFrame 19#6 12#6 (huntFrame .alert .none)) 19#6 12#6 (huntFrame .alert .none) ∧
    (hunting .ringback none).HandsOn (sentFrame 19#6 12#6 (huntFrame .accept .none)) 19#6 12#6 (huntFrame .accept .none) ∧
    ((((go (heardCommand 19#6 12#6 (huntFrame .alert .none)) (hunting .offering none)).slots[(3 : Fin 4)]).state = .ringback) ∧
      (go (heardCommand 19#6 12#6 (huntFrame .decline .busy)) (hunting .ringback none)).slots = (hunting .ringback none).slots ∧
      (go (heardCommand 19#6 12#6 (huntFrame .callEnd .cleared)) (hunting .ringback none)).slots = (hunting .ringback none).slots ∧
      ((go (heardCommand 19#6 12#6 (huntFrame .accept .none)) (hunting .ringback none)).handsets[(1 : Fin 2)]).bindings =
        [⟨.call 51, 72, 0⟩] ∧
      has (go (heardCommand 19#6 12#6 (huntFrame .accept .none)) (hunting .ringback none)) 63#6
        (.call ⟨.callEnd, ⟨12#6, 3⟩, .handset 1, .group 7#6, .answeredElsewhere⟩) = true ∧
      has (go (heardCommand 19#6 12#6 (huntFrame .accept .none)) (hunting .talking (some ⟨3#6, .handset 0⟩))) 19#6
        (.call ⟨.callEnd, ⟨12#6, 3⟩, .handset 1, .group 7#6, .answeredElsewhere⟩) = true) :=
  ⟨handsOn_of _ _ _ _ _ (by decide +kernel), handsOn_of _ _ _ _ _ (by decide +kernel), by decide +kernel⟩

/-- Station 12 as the caller of handset A at station 19, answered on handset B there. -/
def answeredElsewhere : State :=
  { talkingCall .caller with
    slots := up.slots.set 1 ⟨.talking, some .caller, some ⟨12#6, 1⟩, some (.party ⟨19#6, .handset 0⟩), some ⟨19#6, .handset 1⟩, none,
      some 0, none⟩ }

theorem witness_call_ends :
    ((go (.callEnd 1#8) answeredElsewhere).handsets[(0 : Fin 2)]).bindings = [] ∧
    (go (.callEnd 1#8) answeredElsewhere).slots[(1 : Fin 4)] = Slot.empty ∧ (go (.callEnd 1#8) answeredElsewhere).notices = [] ∧
    has (go (.callEnd 1#8) answeredElsewhere) 19#6 (.call ⟨.callEnd, ⟨12#6, 1⟩, .handset 0, .port (.handset 0), .cleared⟩) = true ∧
    has (go (.callEnd 1#8) (talkingCall .called)) 19#6
      (.call ⟨.callEnd, ⟨19#6, 0⟩, .handset 1, .port (.handset 0), .cleared⟩) = true ∧
    ((go (.callEnd 1#8) (talkingCall .called)).handsets[(0 : Fin 2)]).bindings = [] ∧
    has (go (.callEnd 3#8) (hunting .offering none)) 63#6
      (.call ⟨.callEnd, ⟨12#6, 3⟩, .handset 1, .group 7#6, .cleared⟩) = true ∧
    has (go (.callEnd 3#8) (hunting .talking (some ⟨3#6, .handset 0⟩))) 3#6
      (.call ⟨.callEnd, ⟨12#6, 3⟩, .handset 1, .group 7#6, .cleared⟩) = true := by decide +kernel

/-- Station 12 as a talking member of a hunt call of station 19. -/
def huntMember : State :=
  { talkingCall .called with
    slots := up.slots.set 1
      ⟨.talking, some .called, some ⟨19#6, 0⟩, none, some ⟨19#6, .handset 1⟩, some (.group 7#6), some 0, none⟩ }

theorem witness_hunt_member :
    huntMember.HandsOn (sentFrame 19#6 63#6 (.call (callOf .callEnd ⟨19#6, 0⟩ (.group 7#6) .answeredElsewhere))) 19#6 63#6
      (.call (callOf .callEnd ⟨19#6, 0⟩ (.group 7#6) .answeredElsewhere)) ∧
    (huntMember.calledSlot ⟨19#6, 0⟩ = some 1 ∧
      ((go (heardCommand 19#6 63#6 (.call (callOf .callEnd ⟨19#6, 0⟩ (.group 7#6) .answeredElsewhere))) huntMember).slots[(1 :
        Fin 4)]).state = .talking ∧
      ((go (heardCommand 19#6 63#6 (.call (callOf .callEnd ⟨19#6, 0⟩ (.group 7#6) .cleared))) huntMember).handsets[(0 : Fin 2)]).bindings
        = [] ∧
      (go (heardCommand 19#6 12#6 (.call (callOf .callEnd ⟨19#6, 0⟩ (.group 7#6) .answeredElsewhere))) huntMember).slots[(1 : Fin 4)]
        = Slot.empty) :=
  ⟨handsOn_of _ _ _ _ _ (by decide +kernel), by decide +kernel⟩

/-- Station 12's own call of handset B to handset B of a station, in slot 3 (station 3 present too). -/
def crossing (st : Station) : State :=
  { placing with
    slots := up.slots.set 3 { placed with target := some (.party ⟨st, .handset 1⟩), peer := some ⟨st, .handset 1⟩ }
    peers := up.peers.set 3 ⟨.present, none, some 90⟩ }

theorem witness_glare :
    (crossing 19#6).HandsOn (sentFrame 19#6 12#6 (.call (callOf .offer ⟨19#6, 2⟩ (.port (.handset 1)) .none))) 19#6 12#6
      (.call (callOf .offer ⟨19#6, 2⟩ (.port (.handset 1)) .none)) ∧
    (crossing 3#6).HandsOn (sentFrame 3#6 12#6 (.call (callOf .offer ⟨3#6, 2⟩ (.port (.handset 1)) .none))) 3#6 12#6
      (.call (callOf .offer ⟨3#6, 2⟩ (.port (.handset 1)) .none)) ∧
    ((crossing 3#6).calledSlot ⟨3#6, 2⟩ = none ∧ ((crossing 3#6).slots[(0 : Fin 4)]).state = .free ∧
      (crossing 3#6).cfg.station.toNat < (19#6 : Station).toNat ∧ (3#6 : Station).toNat < (crossing 3#6).cfg.station.toNat ∧
      has (go (heardCommand 19#6 12#6 (.call (callOf .offer ⟨19#6, 2⟩ (.port (.handset 1)) .none))) (crossing 19#6)) 19#6
        (.call (callOf .decline ⟨19#6, 2⟩ (.port (.handset 1)) .glare)) = true ∧
      (go (heardCommand 19#6 12#6 (.call (callOf .offer ⟨19#6, 2⟩ (.port (.handset 1)) .none))) (crossing 19#6)).slots =
        (crossing 19#6).slots ∧
      ((go (heardCommand 3#6 12#6 (.call (callOf .offer ⟨3#6, 2⟩ (.port (.handset 1)) .none))) (crossing 3#6)).slots[(0 : Fin 4)]).state
        = .talking ∧
      (go (heardCommand 3#6 12#6 (.call (callOf .offer ⟨3#6, 2⟩ (.port (.handset 1)) .none))) (crossing 3#6)).notices =
        [⟨.callEnded 3 ⟨12#6, 3⟩ .glare, 4005#32⟩] ∧
      has (go (heardCommand 3#6 12#6 (.call (callOf .offer ⟨3#6, 2⟩ (.port (.handset 1)) .none))) (crossing 3#6)) 3#6
        (.call (callOf .accept ⟨3#6, 2⟩ (.port (.handset 1)) .none)) = true) :=
  ⟨handsOn_of _ _ _ _ _ (by decide +kernel), handsOn_of _ _ _ _ _ (by decide +kernel), by decide +kernel⟩

theorem witness_call_indexes : up.stationState = .active ∧ 3 < (4#8 : Octet).toNat ∧ 1 < (2#8 : Octet).toNat ∧
    (go (.answer 4#8 0#8) up).panelAnswer = some ⟨16#8, .badIndex, []⟩ ∧
    (go (.answer 0#8 2#8) up).panelAnswer = some ⟨16#8, .badIndex, []⟩ ∧
    (go (.reject 4#8) up).panelAnswer = some ⟨17#8, .badIndex, []⟩ ∧
    (go (.callEnd 4#8) up).panelAnswer = some ⟨18#8, .badIndex, []⟩ := by decide +kernel

/-! ### Signals -/

/-- Station 12 that talks on channel 3, with station 19 a supervisor. -/
def supervised : State :=
  { talking with peers := up.peers.set 19 ⟨.present, some { card19 with supervisor := true }, some 150⟩ }

theorem witness_signals :
    up.HandsOn (sentFrame 19#6 12#6 (.signal ⟨true, 16#8⟩)) 19#6 12#6 (.signal ⟨true, 16#8⟩) ∧
    supervised.HandsOn (sentFrame 19#6 12#6 (.signal ⟨true, 11#8⟩)) 19#6 12#6 (.signal ⟨true, 11#8⟩) ∧
    up.HandsOn (sentFrame 19#6 12#6 (.signal ⟨false, 15#8⟩)) 19#6 12#6 (.signal ⟨false, 15#8⟩) ∧
    (supervised.peerIsSupervisor 19#6 = true ∧ talking.peerIsSupervisor 19#6 = false ∧ up.signalWord.getLsbD 3 = false ∧
      up.buzzMasked.getLsbD 3 = false ∧ up.buzzMasked.getLsbD 4 = true ∧ supervised.talk = some 3 ∧
      (go (heardCommand 19#6 12#6 (.signal ⟨true, 3#8⟩)) up).notices = [⟨.buzz 3 (some 19#6), 4005#32⟩] ∧
      (go (heardCommand 19#6 12#6 (.signal ⟨true, 4#8⟩)) up).notices = [] ∧
      (go (heardCommand 19#6 12#6 (.signal ⟨true, 16#8⟩)) up).signalWord = 0#16 ∧
      (go (heardCommand 19#6 12#6 (.signal ⟨true, 11#8⟩)) supervised).talk = none ∧
      (go (heardCommand 19#6 12#6 (.signal ⟨true, 11#8⟩)) talking).live.signalIgnored = 1#16 ∧
      (go (heardCommand 19#6 12#6 (.signal ⟨false, 15#8⟩)) { up with signalWord := 0x8001#16 }).signalWord = 1#16) :=
  ⟨handsOn_of _ _ _ _ _ (by decide +kernel), handsOn_of _ _ _ _ _ (by decide +kernel), handsOn_of _ _ _ _ _ (by decide +kernel),
    by decide +kernel⟩

theorem witness_buzz : up.loaded = true ∧ up.panelAnswers = true ∧ State.reset.loaded = false ∧ (2#8 : Octet).toNat = (2 : Fin 8).val ∧
    up.cfg.buzzTargets[(2 : Fin 8)] = (19#6, 4) ∧ up.cfg.buzzTargets[(7 : Fin 8)] = (0#6, 0) ∧
    (go (.buzzMask 0x81#8) up).buzzMasked = 0xF1#8 ∧
    (go (.buzzUnmask 0x30#8) { up with signalWord := 0x30#16 }).notices = [⟨.buzz 4 none, 4005#32⟩, ⟨.buzz 5 none, 4005#32⟩] ∧
    (go (.buzzClear 0x30#8) { up with signalWord := 0x130#16 }).signalWord = 0x100#16 ∧
    (go (.buzzMask 1#8) State.reset).panelAnswer = some ⟨19#8, .notActive, []⟩ ∧
    has (go (.buzz 2#8) up) 19#6 (.signal ⟨true, 4#8⟩) = true ∧ has (go (.buzzOff 2#8) up) 19#6 (.signal ⟨false, 4#8⟩) = true ∧
    (go (.buzz 7#8) up).panelAnswer = some ⟨22#8, .badValue, []⟩ ∧ (go (.buzz 8#8) up).panelAnswer = some ⟨22#8, .badIndex, []⟩ ∧
    (go (.buzzOff 2#8) left).panelAnswer = some ⟨23#8, .notActive, []⟩ ∧
    has (go (.remoteMute 63#8 7#8 true) up) 63#6 (.signal ⟨true, 15#8⟩) = true ∧
    (go (.remoteMute 12#8 7#8 true) up).panelAnswer = some ⟨24#8, .badValue, []⟩ ∧
    (go (.remoteMute 64#8 0#8 true) up).panelAnswer = some ⟨24#8, .badValue, []⟩ ∧
    (go (.remoteMute 1#8 8#8 true) up).panelAnswer = some ⟨24#8, .badIndex, []⟩ ∧
    (go (.remoteMute 1#8 0#8 true) left).panelAnswer = some ⟨24#8, .notActive, []⟩ := by decide +kernel

/-! ### Speaker channels -/

/-- Channel 7 waiting for line 501. -/
def waitingUp (timer : Nat) : State :=
  { up with channels := up.channels.set 7 ⟨.line 501#16, 72, 0, false, [], some ⟨4#8, 19#6, timer⟩, 0⟩ }

theorem witness_channels :
    (waitingUp 9).HandsOn (sentFrame 19#6 12#6 (.reply granted)) 19#6 12#6 (.reply granted) ∧
    (waitingUp 9).HandsOn (sentFrame 19#6 12#6 (.reply refused)) 19#6 12#6 (.reply refused) ∧
    (up.panelAnswers = true ∧ (7#8 : Octet).toNat = (7 : Fin 8).val ∧ (up.channels[(7 : Fin 8)]).binding = .unbound ∧
      up.talk = none ∧ up.homeOf 501#16 = some 19#6 ∧ up.homeOf 1023#16 = none ∧
      ((waitingUp 0).channels[(7 : Fin 8)]).wait = some ⟨4#8, 19#6, 0⟩ ∧ (waitingUp 9).pendingAsks = [] ∧
      ((go (.bind 7#8 2#8 127#16) up).channels[(7 : Fin 8)]).binding = .hoot 127 ∧
      (go (.bind 7#8 2#8 127#16) up).channelState 7 = .quiet ∧
      (go (.bind 7#8 2#8 128#16) up).panelAnswer = some ⟨25#8, .badValue, []⟩ ∧
      (go (.bind 7#8 1#8 501#16) up).channelState 7 = .waiting ∧
      has (go (.bind 7#8 1#8 501#16) up) 19#6 (.ask ⟨501#16, some .listen, .speakerCh 7, .handset 0, false, 0#8⟩) = true ∧
      (go (.bind 7#8 1#8 1023#16) up).panelAnswer = some ⟨25#8, .noLine, []⟩ ∧
      (go (.unbind 7#8) up).panelAnswer = some ⟨26#8, .done, []⟩ ∧ (go (.unbind 3#8) talking).talk = none ∧
      (go (.unbind 3#8) talking).channelState 3 = .off) :=
  ⟨handsOn_of _ _ _ _ _ (by decide +kernel), handsOn_of _ _ _ _ _ (by decide +kernel), by decide +kernel⟩

theorem witness_channel_waits : (go (.listenWaitExpiry 7) (waitingUp 0)).channelState 7 = .off ∧
    (go (.listenWaitExpiry 7) (waitingUp 0)).notices = [⟨.askNoAnswer 501#16 .listen (.speakerCh 7), 4005#32⟩] ∧
    (go (.listenWaitExpiry 7) (waitingUp 9)).channelState 7 = .waiting ∧
    (go (heardCommand 19#6 12#6 (.reply granted)) (waitingUp 9)).channelState 7 = .quiet ∧
    (go (heardCommand 19#6 12#6 (.reply refused)) (waitingUp 9)).notices =
      [⟨.askRefused 501#16 .listen (.speakerCh 7) (some .full), 4005#32⟩] := by decide +kernel

/-- Channel 4 on hoot 6 beside the talk on channel 3, with four talkers. -/
def hooted : State :=
  { talking with
    sequences := [⟨.hoot 5, .mic, 9#8⟩]
    channels := talking.channels.set 4 ⟨.hoot 6, 72, 0, false,
      (List.range 4).map fun i => ⟨⟨BitVec.ofNat 6 (20 + i), .mic⟩, 0, 500 + i⟩, none, 0⟩ }

theorem witness_talk : hooted.stationState = .active ∧ hooted.panelAnswers = true ∧ (hooted.channels[(4 : Fin 8)]).binding = .hoot 6 ∧
    (hooted.channels[(4 : Fin 8)]).wait = none ∧ hooted.signalWord.getLsbD (8 + 4) = false ∧ hooted.talk = some 3 ∧
    (hooted.channels[(3 : Fin 8)]).binding = .hoot 5 ∧ (up.channels[(0 : Fin 8)]).binding = .unbound ∧
    ((waitingUp 9).channels[(7 : Fin 8)]).binding = .line 501#16 ∧ left.stationState ≠ .active ∧
    (go (.talk 4#8) hooted).talk = some 4 ∧ (go (.talk 4#8) hooted).sequences = [] ∧ (go (.talkUp 3#8) hooted).talk = none ∧
    (go (.talkUp 4#8) hooted).talk = some 3 ∧
    (go (.talk 0#8) up).panelAnswer = some ⟨28#8, .notBound, []⟩ ∧
    (go (.talk 7#8) (waitingUp 9)).panelAnswer = some ⟨28#8, .listenOnly, []⟩ ∧
    (go (.talk 4#8) { hooted with signalWord := 0x1000#16 }).panelAnswer = some ⟨28#8, .muted, []⟩ ∧
    (go (.talkers 5#8) up).panelAnswer = some ⟨27#8, .badValue, []⟩ ∧
    (go (.talkers 0#8) up).panelAnswer = some ⟨27#8, .badValue, []⟩ ∧
    ((go (.talkers 1#8) hooted).channels[(4 : Fin 8)]).talkers.map (·.level) = [503] := by decide +kernel

theorem witness_talkers : ((hooted.channels[(4 : Fin 8)]).talkers.map (·.party)).Nodup ∧ (1#8 : Octet).toNat = 1 ∧
    ((go (.talkers 2#8) hooted).channels[(4 : Fin 8)]).talkers.map (·.level) = [502, 503] ∧
    ((go (.talkers 4#8) hooted).channels[(4 : Fin 8)]).talkers.length = 4 ∧
    ((go (.talkers 1#8) { hooted with channels := hooted.channels.set 4 { hooted.channels[(4 : Fin 8)] with
      talkers := [⟨⟨20#6, .mic⟩, 0, 500⟩, ⟨⟨21#6, .mic⟩, 0, 500⟩] } }).channels[(4 : Fin 8)]).talkers.map (·.party.station) = [20#6] ∧
    (go (.talk 8#8) hooted).panelAnswer = some ⟨28#8, .badIndex, []⟩ ∧
    (go (.talkUp 8#8) hooted).panelAnswer = some ⟨29#8, .badIndex, []⟩ := by decide +kernel

theorem witness_speaker_settings : up.panelAnswers = true ∧ State.reset.loaded = false ∧ (7#8 : Octet).toNat = (7 : Fin 8).val ∧
    (1#8 : Octet).toNat = (1 : Fin 2).val ∧ ((go (.channelVolume 7#8 95#8) up).channels[(7 : Fin 8)]).volume = 88 ∧
    (go (.channelVolume 7#8 96#8) up).panelAnswer = some ⟨30#8, .badValue, []⟩ ∧
    ((go (.channelOutput 7#8 1#8) up).channels[(7 : Fin 8)]).output = 1 ∧
    (go (.channelOutput 7#8 2#8) up).panelAnswer = some ⟨31#8, .badValue, []⟩ ∧
    ((go (.channelMute 7#8 true) up).channels[(7 : Fin 8)]).muted = true ∧
    (go (.channelMute 8#8 true) up).panelAnswer = some ⟨32#8, .badIndex, []⟩ ∧
    (go (.master 1#8 88#8) up).masters[(1 : Fin 2)] = 88 ∧ (go (.master 2#8 88#8) up).panelAnswer = some ⟨33#8, .badIndex, []⟩ ∧
    (go (.master 1#8 96#8) up).panelAnswer = some ⟨33#8, .badValue, []⟩ ∧
    (go (.master 1#8 88#8) State.reset).panelAnswer = some ⟨33#8, .notActive, []⟩ := by decide +kernel

end Sys2Proof.Tests
end

section
/-! SUPPORT. BUZZ and BUZZ_OFF (R131): their refusals, the frame a request that passes offers, and what it leaves alone. -/

namespace Sys2Proof.Machine

/-- BUZZ and BUZZ_OFF are one panel request with two codes; they differ in the kind of SIGNAL alone. -/
theorem exec_buzzRequest {c : Instr} {o kind : Octet} {on : Bool} (s : State)
    (h : c = .buzz o ∧ kind = 22#8 ∧ on = true ∨ c = .buzzOff o ∧ kind = 23#8 ∧ on = false) :
    ∃ code : Nat, octet code = kind ∧
      exec c s = .next (s.panelRequest code (s.buzzRefusal o) [] (State.onIndex o (State.sendBuzz on))) := by
  obtain ⟨rfl, rfl, rfl⟩ | ⟨rfl, rfl, rfl⟩ := h
  · exact ⟨22, rfl, rfl⟩
  · exact ⟨23, rfl, rfl⟩

theorem buzzRefusal_notActive (o : Octet) (s : State) (h : s.stationState ≠ .active) :
    s.buzzRefusal o = some .notActive := by
  simp [State.buzzRefusal, State.isActive, h]

theorem buzzRefusal_badIndex (o : Octet) (s : State) (ha : s.stationState = .active) (ho : 7 < o.toNat) :
    s.buzzRefusal o = some .badIndex := by
  simp [State.buzzRefusal, State.isActive, ha, outOf_ge o ho]

/-- In ACTIVE a request that names an entry is judged by the entry's target station alone. -/
theorem buzzRefusal_target (o : Octet) (n : Fin 8) (s : State) (ha : s.stationState = .active) (ho : o.toNat = n.val) :
    s.buzzRefusal o =
      if (s.cfg.buzzTargets[n]).1 = 0#6 ∨ (s.cfg.buzzTargets[n]).1 = s.cfg.station then some .badValue else none := by
  simp [State.buzzRefusal, State.isActive, ha, outOf_val o n ho, atIndex_val o n ho]

/-- A frame offered and a panel answer given change only what an offer changes, besides that answer. -/
theorem alikeButQueue_answered (s t : State) (a : Option Answer) (h : s.alikeButQueue t) :
    State.alikeButQueue { s with panelAnswer := a } { t with panelAnswer := a } := by
  unfold State.alikeButQueue at h ⊢
  rw [h]

/-- A panel answer given leaves the queue's frames where they are. -/
theorem carries_answered (t : State) (a : Option Answer) (target : Station) (b : Body) (h : t.carries target b) :
    State.carries { t with panelAnswer := a } target b := h

/-- Settles O58: the refusals are judged in their order, and what passes is one `State.send` of the target's SIGNAL. -/
theorem buzzRequestsSignalTheirTarget : Obligations.BuzzRequestsSignalTheirTarget := by
  unfold Obligations.BuzzRequestsSignalTheirTarget
  intro s o c kind on hanswers hc
  obtain ⟨code, rfl, hexec⟩ := exec_buzzRequest s hc
  rw [hexec]
  have refused (v : Verdict) (hv : s.buzzRefusal o = some v) :
      (.next (s.panelRequest code (s.buzzRefusal o) [] (State.onIndex o (State.sendBuzz on))) : Result) =
        .next { s with panelAnswer := some ⟨octet code, v, []⟩ } :=
    congrArg Host.Outcome.next (panelRequest_refused code v _ [] _ s hanswers hv)
  refine ⟨fun hidle => refused _ (buzzRefusal_notActive o s hidle),
    fun hactive hout => refused _ (buzzRefusal_badIndex o s hactive hout), ?_⟩
  intro n target bit hactive hn hentry
  have hjudged := buzzRefusal_target o n s hactive hn
  rw [hentry] at hjudged
  refine ⟨fun hbad => refused _ (hjudged.trans (if_pos hbad)), fun hzero hown => ?_⟩
  have hpass : s.buzzRefusal o = none := hjudged.trans (if_neg (not_or.mpr ⟨hzero, hown⟩))
  have hsend : s.onIndex o (State.sendBuzz on) = s.send target (.signal ⟨on, octet bit.val⟩) := by
    rw [onIndex_val o n hn, State.sendBuzz, hentry]
  refine ⟨_, rfl, ?_⟩
  rw [panelRequest_pass code _ [] _ s hanswers hpass, hsend]
  exact ⟨alikeButQueue_answered _ _ _ (send_alike _ _ s),
    fun hroom => carries_answered _ _ _ _ (send_carries _ _ s hactive hroom ⟨nofun, nofun⟩)⟩

end Sys2Proof.Machine
end

section
/-! SUPPORT. Gain and scaling: the gain table and the rounding of one scaled sample (R162, R163). -/

namespace Sys2Proof.Machine

/-! ### The factor of a gain code (R162) -/

@[simp] theorem gainFactor_zero : gainFactor 0 = 0 := rfl

theorem gainFactor_of_pos {c : Nat} (h : 1 ≤ c) : gainFactor c = (8 + c % 8) * 2 ^ (c / 8) :=
  if_neg (Nat.ne_of_gt h)

/-- One code up, the factor rises by one unit of its octave; from the octave's last code to the next octave's first, from
15 units to 16. -/
theorem gainFactor_lt_succ (c : Nat) : gainFactor c < gainFactor (c + 1) := by
  obtain rfl | hc := Nat.eq_zero_or_pos c
  · decide
  rw [gainFactor_of_pos hc, gainFactor_of_pos (Nat.le_add_left 1 c)]
  have hunit : 0 < 2 ^ (c / 8) := Nat.two_pow_pos _
  obtain hlast | hinside : c % 8 = 7 ∨ c % 8 < 7 := by omega
  · have hrem : (c + 1) % 8 = 0 := by omega
    have hquot : (c + 1) / 8 = c / 8 + 1 := by omega
    rw [hlast, hrem, hquot, Nat.pow_succ]
    omega
  · have hrem : (c + 1) % 8 = c % 8 + 1 := by omega
    have hquot : (c + 1) / 8 = c / 8 := by omega
    rw [hrem, hquot]
    exact Nat.mul_lt_mul_of_pos_right (by omega) hunit

theorem gainFactor_strictMono : StrictMono gainFactor := strictMono_nat_of_lt_succ gainFactor_lt_succ

theorem gainFactor_le_of_le_88 {c : Nat} (h : c ≤ 88) : gainFactor c ≤ 16384 := gainFactor_strictMono.monotone h

/-! ### One scaled sample (R163) -/

/-- The scaled value is the one integer n whose multiple of 4096 is the last not above the product plus 2048. -/
theorem scale_eq_iff {x n : Int} {c : Nat} :
    scale x c = n ↔ 4096 * n ≤ x * gainFactor c + 2048 ∧ x * gainFactor c + 2048 < 4096 * (n + 1) := by
  unfold scale
  omega

/-- A product half way between two multiples of 4096 goes to the upper one. -/
theorem scale_half {n x : Int} {c : Nat} (h : 2 * (x * gainFactor c) = (2 * n + 1) * 4096) : scale x c = n + 1 :=
  scale_eq_iff.mpr (by omega)

theorem scale_unity (x : Int) : scale x 72 = x := by
  have hunity : gainFactor 72 = 4096 := rfl
  rw [scale_eq_iff, hunity]
  omega

theorem scale_off (x : Int) : scale x 0 = 0 := by simp [scale_eq_iff]

/-- The product is monotone in the sample, so its bounds are those of the outermost samples at the greatest factor. -/
theorem product_bounds {x : Int} {c : Nat} (hlow : -32768 ≤ x) (hhigh : x ≤ 32768) (hc : c ≤ 88) :
    -(2 ^ 29) ≤ x * gainFactor c ∧ x * gainFactor c ≤ 2 ^ 29 := by
  have hpos : (0 : Int) ≤ gainFactor c := Int.natCast_nonneg _
  have hfactor : (gainFactor c : Int) ≤ 16384 := by exact_mod_cast gainFactor_le_of_le_88 hc
  have hbelow : -32768 * (gainFactor c : Int) ≤ x * gainFactor c := Int.mul_le_mul_of_nonneg_right hlow hpos
  have habove : x * (gainFactor c : Int) ≤ 32768 * gainFactor c := Int.mul_le_mul_of_nonneg_right hhigh hpos
  omega

theorem scale_bounds {x : Int} {c : Nat} (hlow : -(2 ^ 29) ≤ x * gainFactor c) (hhigh : x * gainFactor c ≤ 2 ^ 29) :
    -131072 ≤ scale x c ∧ scale x c ≤ 131072 := by
  obtain ⟨hfloor, hceil⟩ := scale_eq_iff.mp (Eq.refl (scale x c))
  omega

/-- Settles O12: the table rises code by code, and the rest reads off the integer that R163's division brackets. -/
theorem scalingRoundsToTheNearest : Obligations.ScalingRoundsToTheNearest := by
  unfold Obligations.ScalingRoundsToTheNearest
  refine ⟨⟨gainFactor_zero, fun _ => gainFactor_of_pos, rfl, rfl, rfl, fun _ _ h => gainFactor_strictMono h⟩,
    fun x c => scale_eq_iff.mp rfl, fun _ _ _ => scale_half, fun x => ⟨scale_unity x, scale_off x⟩, ?_⟩
  intro x c hlow hhigh hc
  obtain ⟨hmin, hmax⟩ := product_bounds hlow hhigh hc
  exact ⟨hmin, hmax, scale_bounds hmin hmax⟩

end Sys2Proof.Machine
end

section
/-! SUPPORT. What every step keeps, said once for each operation: the queue of commands, sound tables and settled line
records. An operation that leaves a line's inputs alone is `Steady`; the few that change them are judged on their own. -/

namespace Sys2Proof.Machine

/-! ### Records -/

/-- Whether a record has a party or a listener left. -/
abbrev LineRecord.inUse (r : LineRecord) : Prop := ¬(r.members = [] ∧ r.listeners = [])

/-- A record on its way to its next state that still carries the hold-over of a FAILED line with parties (R87). -/
def LineRecord.HeldOver (before : LineState) (r : LineRecord) : Prop := before = .failed → r.inUse → r.holdOver.isSome

theorem LineRecord.Settled.heldOver {c : PortSettings} {out : Bool} {a : Alarms} {r : LineRecord}
    (h : r.Settled c out a) : r.HeldOver r.state := fun hf hu => h.holdOver_failed.mpr ⟨hf, hu⟩

/-- A change that keeps the hold-over and brings in nobody keeps a record held over. -/
theorem LineRecord.HeldOver.of_le {r r' : LineRecord} {before : LineState} (h : r.HeldOver before)
    (hh : r'.holdOver = r.holdOver) (hu : r'.inUse → r.inUse) : r'.HeldOver before :=
  fun hf hu' => hh ▸ h hf (hu hu')

theorem derive_congr {r r' : LineRecord} (out : Bool) (a : Alarms)
    (hm : r'.members.map (·.mode) = r.members.map (·.mode)) (hf : r'.farSignalling = r.farSignalling) :
    r'.derive out a = r.derive out a := by
  have hany (p : Mode → Bool) (l : List Member) : (l.any fun m => p m.mode) = (l.map (·.mode)).any p := by
    simp [List.any_map, Function.comp_def]
  unfold LineRecord.derive
  rw [hany (· == .active), hany (· == .active), hany (· == .held), hany (· == .held), hm, hf]

/-- Settling brings a record to the state and the consequences its inputs give (R66 to R68, R87, R88). -/
theorem settle_settled (before : LineState) (c : PortSettings) (out : Bool) (a : Alarms) (n : Nat) (r : LineRecord)
    (h : r.HeldOver before) : (r.settle before c out a n).Settled c out a := by
  have hderive : (r.settle before c out a n).state = (if out then r.emptied else r).derive out a := rfl
  constructor
  · exact hderive.trans (derive_congr out a rfl rfl).symm
  · rintro rfl; exact ⟨rfl, rfl⟩
  · intro hne; exact if_neg hne
  · intro hm; exact if_pos hm
  · cases out with
    | true =>
      constructor
      · intro hs; simp [LineRecord.settle, LineRecord.derive] at hs
      · rintro ⟨hf, -⟩; simp [LineRecord.settle, LineRecord.derive] at hf
    | false =>
      show Option.isSome (if r.derive false a = .failed ∧ r.inUse then
        if before = .failed then r.holdOver else some n else none) = true ↔ r.derive false a = .failed ∧ r.inUse
      by_cases hp : r.derive false a = .failed ∧ r.inUse
      · rw [if_pos hp]
        by_cases hb : before = .failed
        · rw [if_pos hb]; exact ⟨fun _ => hp, fun _ => h hb hp.2⟩
        · rw [if_neg hb]; exact ⟨fun _ => hp, fun _ => rfl⟩
      · rw [if_neg hp]; exact ⟨nofun, fun hp' => absurd hp' hp⟩

/-- What a settled record's judgement looks at, timers by whether they run. -/
theorem LineRecord.Settled.congr {c : PortSettings} {out : Bool} {a : Alarms} {r r' : LineRecord}
    (h : r.Settled c out a) (hs : r'.state = r.state) (hm : r'.members.map (·.mode) = r.members.map (·.mode))
    (hl : r'.listeners = r.listeners) (hp : r'.privacy = r.privacy) (ho : r'.outRing.isSome = r.outRing.isSome)
    (hf : r'.farSignalling = r.farSignalling) (hh : r'.holdOver.isSome = r.holdOver.isSome) : r'.Settled c out a := by
  have hnil : r'.members = [] ↔ r.members = [] := by
    rw [← List.map_eq_nil_iff (f := Member.mode), hm, List.map_eq_nil_iff]
  constructor
  · rw [hs, derive_congr out a hm hf]; exact h.state_derived
  · intro ht; rw [hnil, hl]; exact h.out_empty ht
  · intro hne
    have hr := h.ring_engaged (hs ▸ hne)
    rw [hr] at ho
    exact Option.isNone_iff_eq_none.mp (by cases hx : r'.outRing <;> simp_all)
  · intro ht; rw [hp]; exact h.privacy_default (hnil.mp ht)
  · rw [hh, hs, hnil, hl]; exact h.holdOver_failed

/-- Out of service, a record's judgement does not look at the alarms. -/
theorem LineRecord.Settled.out_alarms {c : PortSettings} {a a' : Alarms} {r : LineRecord} (h : r.Settled c true a) :
    r.Settled c true a' :=
  ⟨h.state_derived, h.out_empty, h.ring_engaged, h.privacy_default, h.holdOver_failed⟩

theorem LineRecord.Settled.out_state {c : PortSettings} {a : Alarms} {r : LineRecord} (h : r.Settled c true a) :
    r.state = .outOfService := h.state_derived

/-! ### Steady operations -/

/-- The record of one line port is settled, if it has one. -/
def State.SettledAt (s : State) (k : Fin 8) : Prop :=
  ∀ r : LineRecord, s.records[k] = some r → r.Settled (s.portCfg k) (s.outCause k r) (s.ports[k]).alarms

/-- The record of one line port is held over while its line is FAILED with parties, if it has one. -/
def State.HeldAt (s : State) (k : Fin 8) : Prop := ∀ r : LineRecord, s.records[k] = some r → r.HeldOver r.state

theorem State.SettledAt.heldAt {s : State} {k : Fin 8} (h : s.SettledAt k) : s.HeldAt k :=
  fun r hr => (h r hr).heldOver

/-- What a line's state is judged by, its record apart. -/
def State.lineInputs (s : State) (k : Fin 8) : PortSettings × Bool × Alarms × Bool :=
  (s.portCfg k, (s.ports[k]).out, (s.ports[k]).alarms, s.awayFromFloor)

/-- What every command keeps: the queue of commands, sound tables and settled lines. -/
structure State.Keeps (s t : State) : Prop where
  pending : t.pending = s.pending
  sound : s.TablesSound → t.TablesSound
  settled : s.LinesSettled → t.LinesSettled

theorem State.Keeps.refl (s : State) : s.Keeps s := ⟨rfl, id, id⟩
theorem State.Keeps.trans {s t u : State} (h : s.Keeps t) (h' : t.Keeps u) : s.Keeps u :=
  ⟨h'.pending.trans h.pending, h'.sound ∘ h.sound, h'.settled ∘ h.settled⟩

/-- An operation that keeps commands and tables, changes no line's inputs, and leaves each settled record settled. -/
structure State.Steady (s t : State) : Prop where
  pending : t.pending = s.pending
  sound : s.TablesSound → t.TablesSound
  inputs : ∀ k, t.lineInputs k = s.lineInputs k
  settled : ∀ k, s.SettledAt k → t.SettledAt k
  held : ∀ k, s.HeldAt k → t.HeldAt k

theorem State.Steady.refl (s : State) : s.Steady s := ⟨rfl, id, fun _ => rfl, fun _ => id, fun _ => id⟩
theorem State.Steady.trans {s t u : State} (h : s.Steady t) (h' : t.Steady u) : s.Steady u :=
  ⟨h'.pending.trans h.pending, h'.sound ∘ h.sound, fun k => (h'.inputs k).trans (h.inputs k),
    fun k => h'.settled k ∘ h.settled k, fun k => h'.held k ∘ h.held k⟩
theorem State.Steady.keeps {s t : State} (h : s.Steady t) : s.Keeps t :=
  ⟨h.pending, h.sound, fun hs k => h.settled k (hs k)⟩

theorem foldl_steady {α : Type} (f : State → α → State) (h : ∀ (s : State) (a : α), s.Steady (f s a)) (l : List α) (s : State) :
    s.Steady (l.foldl f s) :=
  foldl_preserves (fun t => s.Steady t) f (fun t a ht => ht.trans (h t a)) l s (.refl s)

theorem outCause_eq (s : State) (k : Fin 8) (r : LineRecord) :
    s.outCause k r = ((s.lineInputs k).2.1 || r.conflict.isSome || (s.lineInputs k).2.2.2) := rfl

/-- A record judged settled under the same inputs. -/
theorem settled_inputs {s t : State} {k : Fin 8} {r r' : LineRecord} (hi : t.lineInputs k = s.lineInputs k)
    (hc : r'.conflict.isSome = r.conflict.isSome)
    (h : r'.Settled (s.portCfg k) (s.outCause k r) (s.ports[k]).alarms) :
    r'.Settled (t.portCfg k) (t.outCause k r') (t.ports[k]).alarms := by
  rw [outCause_eq, hi, hc, show t.portCfg k = (t.lineInputs k).1 from rfl,
    show (t.ports[k]).alarms = (t.lineInputs k).2.2.1 from rfl, hi]
  exact h

theorem SettledAt_of_record {s t : State} {k : Fin 8} (hi : t.lineInputs k = s.lineInputs k)
    (hr : t.records[k] = s.records[k]) (h : s.SettledAt k) : t.SettledAt k :=
  fun r hk => settled_inputs hi rfl (h r (hr ▸ hk))

theorem HeldAt_of_record {s t : State} {k : Fin 8} (hr : t.records[k] = s.records[k]) (h : s.HeldAt k) : t.HeldAt k :=
  fun r hk => h r (hr ▸ hk)

theorem sound_congr {s t : State} (hq : t.txQueue = s.txQueue) (ht : t.transmitting = s.transmitting)
    (hn : t.notices = s.notices) (hw : t.clashWindow = s.clashWindow) (h : s.TablesSound) : t.TablesSound := by
  obtain ⟨h1, h2, h3, h4⟩ := h
  constructor
  · rwa [hq]
  · unfold State.waiting at *; rwa [hq, ht]
  · rwa [hn]
  · rwa [hw]

/-- The fields that decide whether tables are sound and lines are settled. -/
def State.judged (s : State) :=
  (s.pending, s.stationState, s.cfg, s.ports, s.clashWindow, s.records, s.txQueue, s.transmitting, s.notices)

theorem State.Steady.of_judged {s t : State} (h : t.judged = s.judged) : s.Steady t := by
  simp only [State.judged, Prod.mk.injEq] at h
  obtain ⟨hp, hst, hc, hports, hw, hr, hq, ht, hn⟩ := h
  have hi : ∀ k, t.lineInputs k = s.lineInputs k := fun k => by
    simp only [State.lineInputs, State.portCfg, State.awayFromFloor, hst, hc, hports]
  exact ⟨hp, sound_congr hq ht hn hw, hi, fun k => SettledAt_of_record (hi k) (by rw [hr]),
    fun k => HeldAt_of_record (by rw [hr])⟩

theorem inputs_of_base {s t : State} (hb : t.base = s.base) (k : Fin 8) : t.lineInputs k = s.lineInputs k := by
  show (t.base.cfg.ports[k], (t.base.ports[k]).out, (t.base.ports[k]).alarms,
    t.base.stationState == .left || t.base.stationState == .clashed) = _
  rw [hb]; rfl

theorem pending_of_base {s t : State} (hb : t.base = s.base) : t.pending = s.pending := congrArg Base.pending hb

/-- An operation on the transmit queue or the notices alone. -/
theorem State.Steady.of_base {s t : State} (hb : t.base = s.base) (hr : t.records = s.records)
    (h : s.TablesSound → t.TablesSound) : s.Steady t :=
  ⟨pending_of_base hb, h, inputs_of_base hb, fun k => SettledAt_of_record (inputs_of_base hb k) (by rw [hr]),
    fun k => HeldAt_of_record (by rw [hr])⟩

/-! ### Notices and counters -/

theorem notify_steady (e : Event) (s : State) : s.Steady (s.notify e) := by
  refine .of_base (notify_base e s) (notify_records e s) fun h => ?_
  unfold State.notify
  split
  · next hroom =>
    exact ⟨h.queue_bound, h.queue_order, by simpa using hroom, h.window_bound⟩
  · exact ⟨h.queue_bound, h.queue_order, h.notice_bound, h.window_bound⟩

theorem notifyAll_steady (es : List Event) (s : State) : s.Steady (s.notifyAll es) :=
  foldl_steady _ (fun s e => notify_steady e s) es s

theorem count_steady (f : Counters → Counters) (s : State) : s.Steady (s.count f) := .of_judged rfl
theorem answerPanel_steady (o : Octet) (v : Verdict) (l : List Octet) (s : State) : s.Steady (s.answerPanel o v l) :=
  .of_judged rfl

/-! ### The transmit queue -/

theorem inTransmission_waiting_length (s : State) : s.inTransmission.length + s.waiting.length = s.txQueue.length := by
  unfold State.inTransmission State.waiting
  cases s.transmitting <;> cases s.txQueue <;> simp; omega

/-- The queue behind the entry in transmission replaced by one in class order with room. -/
theorem setWaiting_sound {s : State} {q : List TxEntry} (h : s.TablesSound) (hl : s.inTransmission.length + q.length ≤ 24)
    (hq : q.Pairwise fun a b => a.cls ≤ b.cls) : (s.setWaiting q).TablesSound := by
  refine ⟨by simpa [State.setWaiting, Config.queueCapacity] using hl, ?_, h.notice_bound, h.window_bound⟩
  unfold State.waiting State.setWaiting State.inTransmission
  cases ht : s.transmitting with
  | false => simpa using hq
  | true =>
    cases s.txQueue with
    | nil => simpa using hq.sublist (List.tail_sublist q)
    | cons e t => simpa using hq

theorem findBusy_steady (s : State) : s.Steady s.findBusy := .of_judged rfl

theorem beginFrame_sound {s : State} (h : s.TablesSound) : s.beginFrame.TablesSound := by
  refine ⟨h.queue_bound, ?_, h.notice_bound, h.window_bound⟩
  refine h.queue_order.sublist ?_
  unfold State.waiting State.beginFrame
  cases s.transmitting
  · exact List.tail_sublist _
  · exact .refl _

theorem seizeMedium_sound {s : State} (h : s.TablesSound) : s.seizeMedium.TablesSound := by
  have hlook : ({ s with mediumLooks := s.mediumLooks + 1 } : State).TablesSound := sound_congr (s := s) rfl rfl rfl rfl h
  unfold State.seizeMedium
  simp only
  split
  · exact (findBusy_steady _).sound hlook
  · exact beginFrame_sound hlook

theorem acceptEntry_sound {s : State} (e : TxEntry) (h : s.TablesSound) (hroom : s.txQueue.length < 24) :
    (s.acceptEntry e).TablesSound := by
  have hplaced : (s.setWaiting (placeEntry e s.waiting)).TablesSound := by
    refine setWaiting_sound h ?_ (placeEntry_sorted e _ h.queue_order)
    have := inTransmission_waiting_length s
    rw [placeEntry_length]; omega
  unfold State.acceptEntry
  simp only
  split
  · exact seizeMedium_sound hplaced
  · exact hplaced

theorem acceptEntry_records (e : TxEntry) (s : State) : (s.acceptEntry e).records = s.records := by
  unfold State.acceptEntry State.seizeMedium
  simp only
  repeat' split
  all_goals rfl

theorem acceptEntry_steady (e : TxEntry) (s : State) (hroom : s.txQueue.length < 24) : s.Steady (s.acceptEntry e) :=
  .of_base (acceptEntry_base e s) (acceptEntry_records e s) fun h => acceptEntry_sound e h hroom

/-- Replacement in place keeps every entry's class (R9, R14). -/
theorem replaceIn_classes (b : Body) (life : Nat) (q q' : List TxEntry) (h : replaceIn b life q = some q') :
    q'.map TxEntry.cls = q.map TxEntry.cls := by
  have hkind (x : TxEntry) (hx : b.replaces x.body = true) : (b.replacing x.body).kind.cls = x.body.kind.cls := by
    revert hx; cases b <;> cases x.body <;> simp [Body.replaces, Body.replacing, Body.kind]
  induction q generalizing q' with
  | nil => cases h
  | cons x t ih =>
    unfold replaceIn at h
    cases hr : replaceIn b life t with
    | some t' => rw [hr] at h; cases h; simp [ih t' hr]
    | none =>
      rw [hr] at h
      by_cases hx : b.replaces x.body = true
      · simp [hx] at h; subst h; simp [TxEntry.cls, hkind x hx]
      · simp [hx] at h

theorem sorted_of_classes {q q' : List TxEntry} (h : q'.map TxEntry.cls = q.map TxEntry.cls)
    (hq : q.Pairwise fun a b => a.cls ≤ b.cls) : q'.Pairwise fun a b => a.cls ≤ b.cls := by
  rw [← List.pairwise_map (f := TxEntry.cls) (R := fun a b => a ≤ b)] at hq ⊢
  rwa [h]

theorem evictVoice_sublist (q q' : List TxEntry) (h : evictVoice q = some q') : q'.Sublist q := by
  induction q generalizing q' with
  | nil => cases h
  | cons x t ih =>
    unfold evictVoice at h
    by_cases hx : x.isVoice = true
    · simp [hx] at h; subst h; exact List.sublist_cons_self x t
    · simp [hx] at h
      obtain ⟨t', ht, rfl⟩ := h
      exact (ih t' ht).cons_cons x

theorem offerAllowed_sound {s : State} (t : Station) (b : Body) (h : s.TablesSound) : (s.offerAllowed t b).1.TablesSound := by
  have hsplit := inTransmission_waiting_length s
  have hbound : s.txQueue.length ≤ 24 := h.queue_bound
  unfold State.offerAllowed
  split
  · next q hq =>
    have := replaceIn_length _ _ _ _ hq
    exact setWaiting_sound h (by omega) (sorted_of_classes (replaceIn_classes _ _ _ _ hq) h.queue_order)
  · split
    · next hroom => exact acceptEntry_sound _ h hroom
    · split
      · exact sound_congr (s := s) rfl rfl rfl rfl h
      · split
        · next q hq =>
          have hlen := evictVoice_length _ _ hq
          have hset := setWaiting_sound h (q := q) (by omega) (h.queue_order.sublist (evictVoice_sublist _ _ hq))
          refine acceptEntry_sound _ ((count_steady _ _).sound hset) ?_
          show (s.inTransmission ++ q).length < 24
          rw [List.length_append]; omega
        · exact sound_congr (s := s) rfl rfl rfl rfl h

theorem send_records (t : Station) (b : Body) (s : State) : (s.send t b).records = s.records := by
  rw [send_alike t b s]

theorem send_steady (t : Station) (b : Body) (s : State) : s.Steady (s.send t b) := by
  refine .of_base (send_base t b s) (send_records t b s) fun h => ?_
  unfold State.send State.offer
  split
  · exact offerAllowed_sound t b h
  · exact h

theorem flushQueue_steady (s : State) : s.Steady s.flushQueue :=
  .of_base rfl rfl fun h => setWaiting_sound h (by
    have := inTransmission_waiting_length s
    have : s.txQueue.length ≤ 24 := h.queue_bound
    simp only [List.length_nil]; omega) .nil

end Sys2Proof.Machine
end

section
/-! SUPPORT. The operations of taps, streams, position, speaker and line controller are steady: they change no line's
inputs, and a record they change is settled anew. -/

namespace Sys2Proof.Machine

/-! ### Recording -/

theorem setTap_steady (k : Fin 8) (t : Tap) (s : State) : s.Steady (s.setTap k t) := .of_judged rfl
theorem openSegment_steady (k : Fin 8) (t : Tap) (i : Fin 64) (s : State) : s.Steady (s.openSegment k t i) :=
  .of_judged rfl
theorem starve_steady (k : Fin 8) (t : Tap) (s : State) : s.Steady (s.starve k t) :=
  (setTap_steady k _ s).trans (notify_steady _ _)
theorem claim_steady {s s' : State} {i : Fin 64} (h : s.claim = some (i, s')) : s.Steady s' := by
  unfold State.claim at h
  split at h
  · obtain ⟨-, rfl⟩ := Prod.mk.injEq .. ▸ Option.some.inj h
    exact .of_judged rfl
  · cases h
theorem claimOrStarve_steady (k : Fin 8) (t : Tap) (s : State) : s.Steady (s.claimOrStarve k t) := by
  unfold State.claimOrStarve
  split
  · next h => exact (claim_steady h).trans (openSegment_steady ..)
  · exact starve_steady k t s
theorem closeSegment_steady (t : Tap) (last : Bool) (s : State) : s.Steady (s.closeSegment t last) := by
  unfold State.closeSegment
  split
  · exact .of_judged rfl
  · exact .refl s
theorem beginRecording_steady (s : State) (t : Tap) : s.Steady (s.beginRecording t).2 := .of_judged rfl
theorem tapStart_steady (k : Fin 8) (t : Tap) (s : State) : s.Steady (s.tapStart k t) := by
  unfold State.tapStart
  split
  · exact (beginRecording_steady s { t with lostPairs := 0#16 }).trans (claimOrStarve_steady ..)
  · exact setTap_steady ..
  · exact .refl s
  · exact .refl s
theorem tapPartyChange_steady (k : Fin 8) (t : Tap) (s : State) : s.Steady (s.tapPartyChange k t) := by
  unfold State.tapPartyChange
  split
  · exact (closeSegment_steady ..).trans (claimOrStarve_steady ..)
  · exact .refl s
theorem tapEnd_steady (k : Fin 8) (t : Tap) (s : State) : s.Steady (s.tapEnd k t) := by
  unfold State.tapEnd
  split
  · exact (closeSegment_steady ..).trans (setTap_steady ..)
  · exact setTap_steady ..
  · exact .refl s
  · exact .refl s
theorem tapEvent_steady (k : Fin 8) (old : List (Party × Mode)) (s : State) : s.Steady (s.tapEvent k old) := by
  unfold State.tapEvent
  repeat' split
  · exact .refl s
  · exact .refl s
  · exact tapStart_steady ..
  · exact tapEnd_steady ..
  · exact tapPartyChange_steady ..
theorem markAlarm_steady (k : Fin 8) (s : State) : s.Steady (s.markAlarm k) := by
  unfold State.markAlarm
  split
  · exact .of_judged rfl
  · exact .refl s
theorem tapAppend_steady (k : Fin 8) (near far : Block) (gap : Bool) (s : State) : s.Steady (s.tapAppend k near far gap) := by
  unfold State.tapAppend
  split
  · split
    · dsimp only
      split
      · exact .of_judged rfl
      · refine .trans ?_ ((closeSegment_steady ..).trans (claimOrStarve_steady ..))
        exact .of_judged rfl
    · exact .refl s
  · exact .refl s
theorem loseBoundary_steady (k : Fin 8) (t : Tap) (s : State) : s.Steady (s.loseBoundary k t) := .of_judged rfl
theorem writeOwedLast_steady (k : Fin 8) (t : Tap) (i : Fin 64) (s : State) : s.Steady (s.writeOwedLast k t i) :=
  .of_judged rfl
theorem countOwed_steady (k : Fin 8) (t : Tap) (s : State) : s.Steady (s.countOwed k t).2 := by
  unfold State.countOwed
  split
  · split
    · exact .refl s
    · exact count_steady ..
  · exact .refl s
theorem afterOwedLast_steady (k : Fin 8) (t : Tap) (s : State) : s.Steady (s.afterOwedLast k t) := by
  unfold State.afterOwedLast
  split
  · exact setTap_steady ..
  · next c _ =>
    refine (beginRecording_steady s { t with lostPairs := c, owedStart := none }).trans ?_
    dsimp only
    split
    · exact setTap_steady ..
    · exact starve_steady ..
theorem closingBoundary_steady (k : Fin 8) (t : Tap) (s : State) : s.Steady (s.closingBoundary k t) := by
  unfold State.closingBoundary
  split
  · next h =>
    exact (claim_steady h).trans ((writeOwedLast_steady ..).trans
      ((countOwed_steady ..).trans (afterOwedLast_steady ..)))
  · exact (countOwed_steady ..).trans (setTap_steady ..)
theorem tapBoundary_steady (k : Fin 8) (near far : Block) (gap : Bool) (s : State) :
    s.Steady (s.tapBoundary k near far gap) := by
  unfold State.tapBoundary
  split
  · exact .refl s
  · split
    · exact .refl s
    · exact tapAppend_steady ..
    · split
      · next h => exact (claim_steady h).trans ((openSegment_steady ..).trans (tapAppend_steady ..))
      · exact loseBoundary_steady ..
    · exact closingBoundary_steady ..

/-! ### Streams and views -/

theorem mapTalkers_steady (f : Fin 8 → Channel → List Talker) (s : State) : s.Steady (s.mapTalkers f) :=
  .of_judged (by simp only [State.judged, State.mapTalkers, State.markTalkers])
theorem announceEnds_steady (l : List StreamEntry) (s : State) : s.Steady (s.announceEnds l) := by
  unfold State.announceEnds
  split
  · exact .refl s
  · exact mapTalkers_steady ..
theorem removeStreams_steady (p : StreamEntry → Bool) (s : State) : s.Steady (s.removeStreams p) := by
  unfold State.removeStreams
  refine .trans ?_ (announceEnds_steady ..)
  exact .of_judged (by simp only [State.judged])
theorem syncStreams_steady (s : State) : s.Steady s.syncStreams := by
  refine (removeStreams_steady (fun e => (s.interest e.circuit).isNone) s).trans ?_
  exact .of_judged (by simp only [State.judged, State.syncStreams])
theorem setStream_steady (i : Fin 32) (e : StreamEntry) (s : State) : s.Steady (s.setStream i e) := .of_judged rfl
theorem takeVoice_steady (st : Station) (v : Voice) (s : State) : s.Steady (s.takeVoice st v) := by
  unfold State.takeVoice
  split
  · exact .refl s
  · dsimp only
    split
    · split
      · exact (setStream_steady ..).trans (count_steady ..)
      · exact .refl s
    · split
      · exact setStream_steady ..
      · split
        · exact (setStream_steady ..).trans ((announceEnds_steady ..).trans (count_steady ..))
        · exact count_steady ..
theorem yieldStreams_steady (s : State) : s.Steady s.yieldStreams :=
  .of_judged (by simp only [State.judged, State.yieldStreams, State.count])
theorem setHandset_steady (h : Fin 2) (x : Handset) (s : State) : s.Steady (s.setHandset h x) :=
  .of_judged (by simp only [State.judged, State.setHandset])
theorem setChannel_steady (k : Fin 8) (c : Channel) (s : State) : s.Steady (s.setChannel k c) :=
  .of_judged (by simp only [State.judged, State.setChannel, State.markTalkers])
theorem setTalk_steady (t : Option (Fin 8)) (s : State) : s.Steady (s.setTalk t) :=
  .of_judged (by simp only [State.judged, State.setTalk, State.markTalkers])
theorem markLamps_steady (l : LineNo) (s : State) : s.Steady (s.markLamps l) :=
  .of_judged (by simp only [State.judged, State.markLamps])
theorem takeTag_steady (s : State) : s.Steady s.takeTag := .of_judged rfl
theorem setMirror_steady (old new : Mirror) (s : State) : s.Steady (s.setMirror old new) := by
  unfold State.setMirror
  extract_lets s1 s2
  have h1 : s.Steady s1 := .of_judged (by simp only [s1, State.judged])
  have h2 : s.Steady s2 := by
    unfold s2
    split
    · exact h1
    · exact h1.trans (markLamps_steady ..)
  split
  · exact h2
  · exact h2.trans (notify_steady ..)
theorem dropSequence_steady (c : Circuit) (p : Port) (s : State) : s.Steady (s.dropSequence c p) := .of_judged rfl
theorem setBindings_steady (h : Fin 2) (bs : List Binding) (s : State) : s.Steady (s.setBindings h bs) :=
  (setHandset_steady h _ s).trans (syncStreams_steady _)
theorem addBinding_steady (h : Fin 2) (c : Circuit) (s : State) : s.Steady (s.addBinding h c) := setBindings_steady ..
theorem removeBinding_steady (h : Fin 2) (c : Circuit) (s : State) : s.Steady (s.removeBinding h c) :=
  (dropSequence_steady c _ s).trans (setBindings_steady ..)

/-! ### STATE frames and homes at the position and speaker controllers -/

theorem mirrorTakes_steady (b : LineStatus) (s : State) : s.Steady (s.mirrorTakes b) := by
  unfold State.mirrorTakes
  split
  · exact .refl s
  · exact (setMirror_steady ..).trans (notifyAll_steady ..)
theorem lostBindings_steady (b : LineStatus) (h : Fin 2) (s : State) : s.Steady (s.lostBindings b h) := by
  have hcounts (hs : Vector Handset 2) : s.Steady { s with handsets := hs } := .of_judged (by simp only [State.judged])
  unfold State.lostBindings
  dsimp only
  split
  · exact (hcounts _).trans ((removeBinding_steady ..).trans (notify_steady ..))
  · exact hcounts _
theorem setHeld_steady (hs : List HeldLine) (s : State) : s.Steady { s with held := hs } :=
  .of_judged (by simp only [State.judged])
theorem setAsks_steady (as : List PendingAsk) (s : State) : s.Steady { s with pendingAsks := as } :=
  .of_judged (by simp only [State.judged])
theorem lostHeld_steady (b : LineStatus) (s : State) : s.Steady (s.lostHeld b) :=
  (setHeld_steady _ s).trans (notifyAll_steady _ _)
theorem positionTakes_steady (st : Station) (b : LineStatus) (s : State) : s.Steady (s.positionTakes st b).1 := by
  unfold State.positionTakes
  split
  · exact (mirrorTakes_steady b s).trans ((lostBindings_steady ..).trans ((lostBindings_steady ..).trans
      (lostHeld_steady ..)))
  · exact .refl s
theorem turnOff_steady (k : Fin 8) (s : State) : s.Steady (s.turnOff k) :=
  (setChannel_steady k _ s).trans (syncStreams_steady _)
theorem lostChannel_steady (b : LineStatus) (s : State) (k : Fin 8) : s.Steady (s.lostChannel b k) := by
  unfold State.lostChannel
  split
  · dsimp only
    split
    · exact (turnOff_steady k s).trans (notify_steady ..)
    · exact setChannel_steady ..
  · exact .refl s
theorem speakerTakes_steady (st : Station) (b : LineStatus) (s : State) : s.Steady (s.speakerTakes st b).1 := by
  have hkept (s : State) (k : Fin 8) : s.Steady
      (if s.listensTo b.line k then s.setChannel k { s.channels[k] with misses := 0 } else s) := by
    split
    · exact setChannel_steady ..
    · exact .refl s
  unfold State.speakerTakes
  split
  · split
    · dsimp only; exact foldl_steady _ hkept allPorts s
    · dsimp only; exact foldl_steady _ (lostChannel_steady b) allPorts s
  · exact .refl s
theorem staleMirror_steady (l : LineNo) (s : State) : s.Steady (s.staleMirror l) := by
  unfold State.staleMirror
  repeat' split
  · exact setMirror_steady ..
  · exact .refl s
  · exact .refl s
theorem loseLine_steady (l : LineNo) (s : State) : s.Steady (s.loseLine l) := by
  have hbindings (s : State) (h : Fin 2) : s.Steady (if s.isBound h (lineCircuit l) then
      (s.removeBinding h (lineCircuit l)).notify (.lineLost l (.handset h)) else s) := by
    split
    · exact (removeBinding_steady ..).trans (notify_steady ..)
    · exact .refl s
  unfold State.loseLine
  extract_lets s1 s2
  have h1 : s.Steady s1 := foldl_steady _ hbindings bothHandsets s
  have h2 : s1.Steady s2 := (setHeld_steady _ s1).trans (notifyAll_steady _ _)
  exact h1.trans (h2.trans ((setAsks_steady _ s2).trans (notifyAll_steady _ _)))
theorem loseChannels_steady (l : LineNo) (s : State) : s.Steady (s.loseChannels l) := by
  refine foldl_steady _ (fun s k => ?_) _ s
  repeat' split
  · exact (turnOff_steady k s).trans (notify_steady ..)
  · exact (turnOff_steady k s).trans (notify_steady ..)
  · exact .refl s
theorem homeChanged_steady (o : Option Station) (l : LineNo) (s : State) : s.Steady (s.homeChanged o l) := by
  unfold State.homeChanged
  dsimp only
  split
  · exact (staleMirror_steady l s).trans ((loseLine_steady ..).trans (loseChannels_steady ..))
  · exact staleMirror_steady l s
theorem followHomes_steady (s before : State) : s.Steady (s.followHomes before) := by
  refine foldl_steady _ (fun t l => ?_) _ s
  split
  · exact .refl t
  · exact homeChanged_steady ..
theorem positionLeaves_steady (s : State) : s.Steady s.positionLeaves := by
  unfold State.positionLeaves
  extract_lets s1 s2
  have h1 : s.Steady s1 := foldl_steady _ (fun s m => setMirror_steady _ _ s) _ s
  have h2 : s1.Steady s2 :=
    foldl_steady _ (fun s h => foldl_steady _ (fun s b => removeBinding_steady _ _ s) _ s) _ s1
  exact h1.trans (h2.trans ((setHeld_steady [] s2).trans (setAsks_steady [] _)))
theorem speakerLeaves_steady (s : State) : s.Steady s.speakerLeaves := by
  unfold State.speakerLeaves
  extract_lets s1
  have h1 : s.Steady s1 := setTalk_steady none s
  have h2 (t : State) (q : List SeqCount) : t.Steady { t with sequences := q } := .of_judged (by simp only [State.judged])
  exact h1.trans ((foldl_steady _ (fun s k => turnOff_steady k s) allPorts s1).trans (h2 _ _))

/-! ### Line records -/

theorem commitRecord_records (k : Fin 8) (r : LineRecord) (s : State) :
    (s.commitRecord k r).records = s.records.set k (some (r.settle
      (match s.records[k] with | some o => o.state | none => r.state) (s.portCfg k) (s.outCause k r) (s.ports[k]).alarms
      (s.blocks 10000))) := by
  have hsync (s : State) : s.syncStreams.records = s.records := by
    unfold State.syncStreams State.removeStreams State.announceEnds
    dsimp only
    split <;> rfl
  have hclaim (k : Fin 8) (t : Tap) (s : State) : (s.claimOrStarve k t).records = s.records := by
    unfold State.claimOrStarve State.claim State.starve
    split
    · next h =>
      split at h
      · obtain ⟨rfl, rfl⟩ := Prod.mk.injEq .. ▸ Option.some.inj h; rfl
      · cases h
    · rw [notify_records]; rfl
  have htap (old : List (Party × Mode)) (s : State) : (s.tapEvent k old).records = s.records := by
    unfold State.tapEvent State.tapStart State.tapEnd State.tapPartyChange State.closeSegment State.beginRecording
    dsimp only
    repeat' split
    any_goals rfl
    all_goals rw [hclaim]
  unfold State.commitRecord
  rw [hsync, htap]
  rfl

/-- A record put in place is settled, whatever the inputs were before; its line must be held over (R66 to R68, R87). -/
theorem commitRecord_settledAt {k : Fin 8} {r old : LineRecord} {s : State} (ho : s.records[k] = some old)
    (h : r.HeldOver old.state) : (s.commitRecord k r).SettledAt k := by
  intro r' hr'
  rw [commitRecord_records, ho] at hr'
  simp only [Fin.getElem_fin, Vector.getElem_set_self, Option.some.injEq] at hr'
  refine settled_inputs (r := r) (inputs_of_base (commitRecord_base k r s) k) ?_ ?_
  · subst hr'; cases s.outCause k r <;> rfl
  · subst hr'; exact settle_settled _ _ _ _ _ _ h

theorem records_set_other {v : Vector (Option LineRecord) 8} {k j : Fin 8} {r : Option LineRecord} (h : j ≠ k) :
    (v.set k r)[j] = v[j] := by
  simp only [Fin.getElem_fin]
  exact Vector.getElem_set_ne _ _ fun e => h (Fin.ext e.symm)

theorem commitRecord_other {k j : Fin 8} {r : LineRecord} {s : State} (h : j ≠ k) :
    (s.commitRecord k r).records[j] = s.records[j] := by
  rw [commitRecord_records]; exact records_set_other h

theorem commitRecord_sound (k : Fin 8) (r : LineRecord) (s : State) (h : s.TablesSound) :
    (s.commitRecord k r).TablesSound := by
  unfold State.commitRecord
  refine (syncStreams_steady _).sound ((tapEvent_steady k _ _).sound ?_)
  exact sound_congr (s := s) rfl rfl rfl rfl h

/-- A change of a record that brings in nobody while the line is held over is steady. -/
theorem commitRecord_steady {k : Fin 8} {r old : LineRecord} {s : State} (ho : s.records[k] = some old)
    (h : old.HeldOver old.state → r.HeldOver old.state) : s.Steady (s.commitRecord k r) := by
  have hi := inputs_of_base (commitRecord_base k r s)
  have hk (hold : s.HeldAt k) : (s.commitRecord k r).SettledAt k := commitRecord_settledAt ho (h (hold old ho))
  refine ⟨pending_of_base (commitRecord_base k r s), commitRecord_sound k r s, hi, fun j hj => ?_, fun j hj => ?_⟩
  · by_cases hjk : j = k
    · subst hjk; exact hk hj.heldAt
    · exact SettledAt_of_record (hi j) (commitRecord_other hjk) hj
  · by_cases hjk : j = k
    · subst hjk; exact (hk hj).heldAt
    · exact HeldAt_of_record (commitRecord_other hjk) hj

theorem changeRecord_steady {k : Fin 8} {f : LineRecord → LineRecord} {s : State}
    (h : ∀ r, s.records[k] = some r → r.HeldOver r.state → (f r).HeldOver r.state) : s.Steady (s.changeRecord k f) := by
  unfold State.changeRecord
  split
  · next r hr => exact commitRecord_steady hr (h r hr)
  · exact .refl s

/-- A record replaced by one whose judgement is the same. -/
theorem setRecord_steady {k : Fin 8} {r old : LineRecord} {s : State} (ho : s.records[k] = some old)
    (hc : r.conflict.isSome = old.conflict.isSome) (hh : old.HeldOver old.state → r.HeldOver r.state)
    (h : ∀ (c : PortSettings) (out : Bool) (a : Alarms), old.Settled c out a → r.Settled c out a) :
    s.Steady (s.setRecord k r) := by
  have hset : (s.setRecord k r).records[k] = some r := by simp [State.setRecord]
  have hother {j : Fin 8} (hjk : j ≠ k) : (s.setRecord k r).records[j] = s.records[j] := records_set_other hjk
  refine ⟨rfl, sound_congr (s := s) rfl rfl rfl rfl, fun _ => rfl, fun j hj r' hr' => ?_, fun j hj r' hr' => ?_⟩
  all_goals by_cases hjk : j = k
  · subst hjk
    cases hset.symm.trans hr'
    exact settled_inputs (s := s) rfl hc (h _ _ _ (hj old ho))
  · exact settled_inputs (s := s) rfl rfl (hj r' ((hother hjk).symm.trans hr'))
  · subst hjk
    cases hset.symm.trans hr'
    exact hh (hj old ho)
  · exact hj r' ((hother hjk).symm.trans hr')

/-! ### Operations on a line -/

theorem granted_holdOver (x : LineContext) (q : LineRequest) (r : LineRecord) :
    (r.granted x q).holdOver = r.holdOver := by
  unfold LineRecord.granted LineRecord.takeGranted LineRecord.listenGranted
  repeat' split
  all_goals rfl

/-- A granted request brings nobody to a FAILED line (R73, R75 to R86). -/
theorem granted_inUse {x : LineContext} {q : LineRequest} {r : LineRecord} (h : r.refusal x q = none)
    (hf : r.state = .failed) (hu : (r.granted x q).inUse) : r.inUse := by
  contrapose! hu
  obtain ⟨hm, hl⟩ := hu
  unfold LineRecord.refusal at h
  split at h
  · cases h
  · unfold LineRecord.granted
    cases hop : q.op <;> rw [hop] at h <;> dsimp only at h ⊢
    case take => simp [LineRecord.takeRefusal, hf] at h
    case listen => simp [LineRecord.listenRefusal, hf] at h
    all_goals simp [LineRecord.dropped, LineRecord.unlistened, LineRecord.holdGranted, LineRecord.resumeGranted, hm, hl]

theorem granted_heldOver {x : LineContext} {q : LineRequest} {r : LineRecord} (h : r.refusal x q = none)
    (ho : r.HeldOver r.state) : (r.granted x q).HeldOver r.state :=
  fun hf => ho.of_le (granted_holdOver x q r) (granted_inUse h hf) hf

theorem takeRequest_steady (l : LineNo) (q : LineRequest) (s : State) : s.Steady (s.takeRequest l q) := by
  unfold State.takeRequest
  split
  · next k hn hk =>
    refine changeRecord_steady fun r hr => granted_heldOver ?_
    simpa [State.requestRefusal, hk, hr] using hn
  · exact .refl s
theorem restartRefresh_steady (k : Fin 8) (s : State) : s.Steady (s.restartRefresh k) := by
  unfold State.restartRefresh
  split
  · next r hr =>
    split
    · exact setRecord_steady hr rfl id fun _ _ _ h => h.congr rfl rfl rfl rfl rfl rfl rfl
    · exact .refl s
  · exact .refl s
theorem dropLocally_steady (f : Fin 8 → State → State) (hf : ∀ (k : Fin 8) (s : State), s.Steady (f k s)) (l : LineNo)
    (s : State) (p : Port) : s.Steady (s.dropLocally f l p) := by
  unfold State.dropLocally
  split
  · dsimp only
    split
    · exact (takeTag_steady s).trans (takeRequest_steady ..)
    · exact (takeTag_steady s).trans ((takeRequest_steady ..).trans (hf ..))
  · exact takeTag_steady s
theorem handOver_steady (f : Fin 8 → State → State) (hf : ∀ (k : Fin 8) (s : State), s.Steady (f k s)) (b : LineStatus)
    (s : State) : s.Steady (s.handOver f b) := by
  rw [handOver_eq]
  split
  · exact (positionTakes_steady ..).trans ((speakerTakes_steady ..).trans
      (foldl_steady _ (fun s p => dropLocally_steady f hf b.line s p) _ _))
  · exact .refl s
theorem announceWithin_steady (n : Nat) (k : Fin 8) (s : State) : s.Steady (s.announceWithin n k) := by
  induction n generalizing k s with
  | zero => exact .refl s
  | succ n ih =>
    unfold State.announceWithin
    split
    · exact (send_steady ..).trans ((restartRefresh_steady ..).trans (handOver_steady _ (fun k s => ih k s) _ _))
    · exact .refl s
theorem announce_steady (k : Fin 8) (s : State) : s.Steady (s.announce k) := announceWithin_steady ..
theorem announceChange_steady (s before : State) (k : Fin 8) : s.Steady (s.announceChange before k) := by
  unfold State.announceChange
  split
  · exact .refl s
  · exact announce_steady k s
theorem reply_steady (st : Station) (a : Ask) (r : Option AskReason) (s : State) : s.Steady (s.reply st a r) :=
  send_steady ..
theorem takeAsk_steady (st : Station) (a : Ask) (s : State) : s.Steady (s.takeAsk st a) := by
  unfold State.takeAsk
  split
  · split
    · exact reply_steady ..
    · exact .refl s
  · dsimp only
    split
    · exact (takeRequest_steady ..).trans ((reply_steady ..).trans (announceChange_steady ..))
    · exact (takeRequest_steady ..).trans (reply_steady ..)
theorem sightConflict_steady (k : Fin 8) (p : Station) (s : State) : s.Steady (s.sightConflict k p) := by
  unfold State.sightConflict
  split
  · exact .refl s
  · next r hr =>
    split
    · next c hc => exact setRecord_steady hr (by simp [hc]) id fun _ _ _ h => h.congr rfl rfl rfl rfl rfl rfl rfl
    · have hyield := commitRecord_steady (r := { r with conflict := some ⟨p, s.blocks 1000⟩ }) hr fun h => h.of_le rfl id
      exact hyield.trans ((notify_steady ..).trans (announce_steady ..))
theorem sightCard_steady (p : Station) (s : State) : s.Steady (s.sightCard p) := by
  unfold State.sightCard
  split
  · refine foldl_steady _ (fun s k => ?_) _ s
    split
    · exact sightConflict_steady ..
    · exact .refl s
  · exact .refl s
theorem sightState_steady (p : Station) (l : LineNo) (s : State) : s.Steady (s.sightState p l) := by
  unfold State.sightState
  repeat' split
  · exact sightConflict_steady ..
  · exact .refl s
  · exact .refl s
theorem returnToService_steady (k : Fin 8) (s : State) : s.Steady (s.returnToService k) := by
  unfold State.returnToService
  split
  · next r hr =>
    split
    · exact commitRecord_steady hr id
    · exact commitRecord_steady hr fun h => h.of_le rfl id
  · exact .refl s
theorem linesLosePeer_steady (p : Station) (s : State) : s.Steady (s.linesLosePeer p) := by
  refine foldl_steady _ (fun s k => ?_) _ s
  split
  · next r hr =>
    split
    · refine .trans ?_ (announceChange_steady _ s k)
      refine commitRecord_steady hr fun h => h.of_le rfl ?_
      rintro hu ⟨hm, hl⟩
      exact hu ⟨by simp [hm], by simp [hl]⟩
    · exact .refl s
  · exact .refl s

end Sys2Proof.Machine
end

section
/-! SUPPORT. Asks, calls, mixes, admission and the requests of position, call and speaker controller are steady. -/

namespace Sys2Proof.Machine

/-! ### Asks and channel bindings -/

theorem takeOutcome_steady (a : PendingAsk) (refused : Bool) (reason : Option AskReason) (s : State) :
    s.Steady (s.takeOutcome a refused reason) := by
  unfold State.takeOutcome
  split
  · exact notify_steady ..
  · cases a.op with
    | take => exact addBinding_steady ..
    | resume => exact (setHeld_steady _ s).trans (addBinding_steady ..)
    | hold => exact (removeBinding_steady a.handset _ s).trans (setHeld_steady _ _)
    | _ => exact .refl s
theorem askLocally_steady (a : PendingAsk) (s : State) : s.Steady (s.askLocally a) := by
  have h (q : LineRequest) (refused : Bool) (reason : Option AskReason) :
      s.Steady ((s.takeTag.takeRequest a.line q).takeOutcome a refused reason) :=
    (takeTag_steady s).trans ((takeRequest_steady ..).trans (takeOutcome_steady ..))
  unfold State.askLocally
  dsimp only
  split
  · exact (h ..).trans (announceChange_steady ..)
  · exact h ..
theorem sendAsk_steady (op : AskOp) (l : LineNo) (h old : Fin 2) (w : Bool) (s : State) :
    s.Steady (s.sendAsk op l h old w) := by
  unfold State.sendAsk
  split
  · exact .refl s
  · dsimp only
    split
    · exact askLocally_steady ..
    · exact (takeTag_steady s).trans ((setAsks_steady _ _).trans (send_steady ..))
theorem sendPlain_steady (op : AskOp) (l : LineNo) (p : Port) (s : State) : s.Steady (s.sendPlain op l p) := by
  have h (q : LineRequest) : s.Steady (s.takeTag.takeRequest l q) := (takeTag_steady s).trans (takeRequest_steady ..)
  unfold State.sendPlain
  split
  · exact .refl s
  · split
    · dsimp only
      split
      · exact (h _).trans (announceChange_steady ..)
      · exact h _
    · exact (takeTag_steady s).trans (send_steady ..)
theorem takeStateFrame_steady (st : Station) (b : LineStatus) (s : State) : s.Steady (s.takeStateFrame st b) := by
  have hdrop (ps : List Port) (s : State) : s.Steady (ps.foldl (fun s p => s.sendPlain .drop b.line p) s) :=
    foldl_steady _ (fun s p => sendPlain_steady _ _ p s) ps s
  rw [takeStateFrame_eq]
  exact (positionTakes_steady ..).trans ((hdrop ..).trans ((speakerTakes_steady ..).trans (hdrop ..)))
theorem listenOutcome_steady (k : Fin 8) (l : LineNo) (refused : Bool) (reason : Option AskReason) (s : State) :
    s.Steady (s.listenOutcome k l refused reason) := by
  unfold State.listenOutcome
  split
  · exact (turnOff_steady k s).trans (notify_steady ..)
  · exact (setChannel_steady k _ s).trans (syncStreams_steady _)
theorem applyBinding_steady (k : Fin 8) (b : ChannelBinding) (s : State) : s.Steady (s.applyBinding k b) := by
  unfold State.applyBinding
  cases b with
  | unbound => exact .refl s
  | hoot n => exact (setChannel_steady k _ s).trans (syncStreams_steady _)
  | line l =>
    dsimp only
    split
    · exact notify_steady ..
    · have hw (c : Channel) : s.Steady (s.takeTag.setChannel k c) := (takeTag_steady s).trans (setChannel_steady k c _)
      have hl (c : Channel) (q : LineRequest) (refused : Bool) (reason : Option AskReason) :
          s.Steady (((s.takeTag.setChannel k c).takeRequest l q).listenOutcome k l refused reason) :=
        (hw c).trans ((takeRequest_steady ..).trans (listenOutcome_steady ..))
      split
      · split
        · exact (hl ..).trans (announceChange_steady ..)
        · exact hl ..
      · exact (hw _).trans (send_steady ..)
theorem dropMic_steady (k : Fin 8) (s : State) : s.Steady (s.dropMic k) := by
  unfold State.dropMic
  split
  · exact dropSequence_steady ..
  · exact .refl s
theorem endTalk_steady (s : State) : s.Steady s.endTalk := by
  unfold State.endTalk
  split
  · exact (dropMic_steady _ s).trans (setTalk_steady ..)
  · exact .refl s
theorem startTalk_steady (k : Fin 8) (s : State) : s.Steady (s.startTalk k) := by
  unfold State.startTalk
  split
  · next j _ =>
    split
    · exact .refl s
    · split
      · exact setTalk_steady ..
      · exact (dropMic_steady j s).trans (setTalk_steady ..)
  · exact setTalk_steady ..
theorem giveUp_steady (k : Fin 8) (s : State) : s.Steady (s.giveUp k) := by
  unfold State.giveUp
  extract_lets s1
  have h1 : s.Steady s1 := by
    unfold s1
    split
    · exact endTalk_steady s
    · exact .refl s
  split
  · exact h1.trans ((turnOff_steady k s1).trans (sendPlain_steady ..))
  · exact h1.trans (turnOff_steady k s1)
theorem remoteMuted_steady (k : Fin 8) (s : State) : s.Steady (s.remoteMuted k) := by
  unfold State.remoteMuted
  split
  · exact (endTalk_steady s).trans (notify_steady ..)
  · exact .refl s
theorem takeReply_steady (st : Station) (r : Reply) (s : State) : s.Steady (s.takeReply st r) := by
  unfold State.takeReply
  split
  · exact (setAsks_steady _ s).trans (takeOutcome_steady ..)
  · split
    · exact listenOutcome_steady ..
    · exact .refl s

/-! ### Calls and signals -/

theorem setSlot_steady (i : Fin 4) (x : Slot) (s : State) : s.Steady (s.setSlot i x) := .of_judged rfl
theorem sendSlotFrame_steady (st : Station) (k : CallKind) (r : CallReason) (x : Slot) (s : State) :
    s.Steady (s.sendSlotFrame st k r x) := send_steady ..
theorem freeCall_steady (i : Fin 4) (s : State) : s.Steady (s.freeCall i) := by
  unfold State.freeCall
  dsimp only
  split
  · exact (setSlot_steady i _ s).trans (removeBinding_steady ..)
  · exact setSlot_steady ..
theorem endCall_steady (i : Fin 4) (r : CallReason) (s : State) : s.Steady (s.endCall i r) :=
  (freeCall_steady i s).trans (notify_steady ..)
theorem hangUp_steady (i : Fin 4) (s : State) : s.Steady (s.hangUp i) :=
  (sendSlotFrame_steady ..).trans (freeCall_steady ..)
theorem releaseCall_steady (h : Fin 2) (c : Circuit) (s : State) : s.Steady (s.releaseCall h c) := by
  unfold State.releaseCall
  split
  · exact hangUp_steady ..
  · exact removeBinding_steady ..
theorem connect_steady (i : Fin 4) (x : Slot) (h : Fin 2) (s : State) : s.Steady (s.connect i x h) :=
  (setSlot_steady i _ s).trans (addBinding_steady ..)
theorem takeAlert_steady (st : Station) (f : CallFrame) (s : State) : s.Steady (s.takeAlert st f) := by
  unfold State.takeAlert
  dsimp only
  repeat' split
  · exact setSlot_steady ..
  · exact .refl s
  · exact .refl s
theorem takeAccept_steady (st : Station) (f : CallFrame) (s : State) : s.Steady (s.takeAccept st f) := by
  unfold State.takeAccept
  split
  · split
    · dsimp only
      split
      · split
        · exact sendSlotFrame_steady ..
        · exact .refl s
      · split
        · split
          · exact (connect_steady ..).trans (sendSlotFrame_steady ..)
          · exact connect_steady ..
        · exact .refl s
      · exact .refl s
    · exact send_steady ..
  · exact .refl s
theorem takeDecline_steady (st : Station) (f : CallFrame) (s : State) : s.Steady (s.takeDecline st f) := by
  unfold State.takeDecline
  dsimp only
  repeat' split
  · exact endCall_steady ..
  · exact .refl s
  · exact .refl s
theorem takeEnd_steady (st t : Station) (f : CallFrame) (s : State) : s.Steady (s.takeEnd st t f) := by
  unfold State.takeEnd
  split
  · split
    · split
      · split
        · exact endCall_steady ..
        · exact .refl s
      · exact .refl s
    · exact .refl s
  · split
    · split
      · exact endCall_steady ..
      · exact .refl s
    · exact .refl s
theorem answerOffer_steady (f : CallFrame) (k : CallKind) (r : CallReason) (s : State) : s.Steady (s.answerOffer f k r) :=
  send_steady ..
theorem alertOn_steady (i : Fin 4) (f : CallFrame) (s : State) : s.Steady (s.alertOn i f) :=
  (setSlot_steady i _ s).trans ((answerOffer_steady ..).trans (notify_steady ..))
theorem supersede_steady (f : CallFrame) (s : State) : s.Steady (s.supersede f) := by
  unfold State.supersede
  split
  · exact endCall_steady ..
  · exact .refl s
theorem settleGlare_steady (i : Fin 4) (h : Fin 2) (f : CallFrame) (s : State) : s.Steady (s.settleGlare i h f) := by
  unfold State.settleGlare
  split
  · exact answerOffer_steady ..
  · extract_lets s1
    have h1 : s.Steady s1 := (sendSlotFrame_steady ..).trans (endCall_steady ..)
    split
    · exact h1.trans ((send_steady ..).trans (connect_steady ..))
    · exact h1
theorem takePointOffer_steady (f : CallFrame) (s : State) : s.Steady (s.takePointOffer f) := by
  have h1 := supersede_steady f s
  unfold State.takePointOffer
  split
  · dsimp only
    split
    · exact h1.trans (settleGlare_steady ..)
    · split
      · exact h1.trans (answerOffer_steady ..)
      · split
        · exact h1.trans (alertOn_steady ..)
        · exact h1.trans (answerOffer_steady ..)
  · exact .refl s
theorem takeHuntOffer_steady (f : CallFrame) (s : State) : s.Steady (s.takeHuntOffer f) := by
  have h1 := supersede_steady f s
  unfold State.takeHuntOffer
  dsimp only
  split
  · split
    · exact h1.trans (alertOn_steady ..)
    · exact h1
  · exact h1
theorem takeCall_steady (st t : Station) (f : CallFrame) (s : State) : s.Steady (s.takeCall st t f) := by
  unfold State.takeCall State.takeOffer
  cases f.kind with
  | offer =>
    dsimp only
    repeat' split
    · exact .refl s
    · exact takeHuntOffer_steady ..
    · exact takePointOffer_steady ..
  | alert => exact takeAlert_steady ..
  | accept => exact takeAccept_steady ..
  | decline => exact takeDecline_steady ..
  | callEnd => exact takeEnd_steady ..
theorem callsLosePeer_steady (p : Station) (s : State) : s.Steady (s.callsLosePeer p) := by
  refine foldl_steady _ (fun s i => ?_) _ s
  repeat' split
  · exact endCall_steady ..
  · exact .refl s
  · exact .refl s
theorem setSignals_steady (w : BitVec 16) (x : Vector (Option Station) 16) (s : State) :
    s.Steady { s with signalWord := w, setters := x } := .of_judged rfl
theorem setBuzz_steady (n : Fin 8) (st : Station) (s : State) : s.Steady (s.setBuzz n st) := by
  unfold State.setBuzz
  dsimp only
  split
  · exact (setSignals_steady _ _ s).trans (notify_steady ..)
  · exact setSignals_steady _ _ s
theorem setRemoteMute_steady (k : Fin 8) (st : Station) (s : State) : s.Steady (s.setRemoteMute k st) := by
  unfold State.setRemoteMute
  split
  · dsimp only
    split
    · exact setSignals_steady _ _ s
    · exact (setSignals_steady _ _ s).trans (remoteMuted_steady ..)
  · exact count_steady ..
theorem takeSignal_steady (st : Station) (g : Signal) (s : State) : s.Steady (s.takeSignal st g) := by
  unfold State.takeSignal
  dsimp only
  split
  · exact .refl s
  · split
    · split
      · exact setBuzz_steady ..
      · split
        · exact setRemoteMute_steady ..
        · exact .refl s
    · exact .of_judged rfl
theorem callsLeave_steady (s : State) : s.Steady s.callsLeave := .of_judged rfl

/-! ### Peers and frames handed on -/

theorem setPeer_steady (st : Station) (p : Peer) (s : State) : s.Steady (s.setPeer st p) := .of_judged rfl
theorem peerTakes_steady (st : Station) (b : Body) (s : State) : s.Steady (s.peerTakes st b) := by
  unfold State.peerTakes
  repeat' split
  all_goals exact setPeer_steady ..
theorem peerLost_steady (s before : State) (st : Station) : s.Steady (s.peerLost before st) :=
  (linesLosePeer_steady st s).trans ((followHomes_steady _ before).trans ((callsLosePeer_steady st _).trans
    ((mapTalkers_steady _ _).trans (removeStreams_steady _ _))))
theorem cardHeard_steady (s before : State) (st : Station) : s.Steady (s.cardHeard before st) :=
  (sightCard_steady st s).trans (followHomes_steady _ before)
theorem peerEvents_steady (s before : State) (st : Station) (b : Body) : s.Steady (s.peerEvents before st b) := by
  unfold State.peerEvents
  split
  · exact cardHeard_steady ..
  · exact (followHomes_steady s before).trans (cardHeard_steady ..)
  · exact followHomes_steady ..
  · exact peerLost_steady ..
  · exact .refl s
theorem silencePeer_steady (st : Station) (s : State) : s.Steady (s.silencePeer st) :=
  (setPeer_steady st _ s).trans (peerLost_steady _ s st)
theorem handOn_steady (st t : Station) (b : Body) (s : State) : s.Steady (s.handOn st t b) := by
  cases b with
  | voice v => exact takeVoice_steady ..
  | state l => exact (takeStateFrame_steady st l s).trans (sightState_steady ..)
  | ask a => exact takeAsk_steady ..
  | reply r => exact takeReply_steady ..
  | call f => exact takeCall_steady ..
  | signal g => exact takeSignal_steady ..
  | beacon _ => exact .refl s
theorem takeOther_steady (st t : Station) (b : Body) (s : State) : s.Steady (s.takeOther st t b) := by
  have h1 : s.Steady ((s.peerTakes st b).peerEvents s st b) := (peerTakes_steady st b s).trans (peerEvents_steady _ s st b)
  unfold State.takeOther
  dsimp only
  split
  · exact h1.trans (handOn_steady ..)
  · exact h1

/-! ### The block boundary, the ports apart -/

theorem updateLocalLevels_steady (io : AudioIn) (s : State) : s.Steady (s.updateLocalLevels io) :=
  .of_judged (by simp only [State.judged, State.updateLocalLevels])
theorem mix_steady (io : AudioIn) (ys : List Yielded) (s : State) : s.Steady (s.mix io ys) :=
  .of_judged (by simp only [State.judged, State.mix, State.count])
theorem sendVoices_steady (io : AudioIn) (s : State) : s.Steady (s.sendVoices io) := by
  have hseq (q : List SeqCount) (s : State) : s.Steady { s with sequences := q } := .of_judged (by simp only [State.judged])
  have hsend (s : State) (x : Sending) : s.Steady (s.sendVoice x) := (hseq _ s).trans (send_steady ..)
  exact (hseq _ s).trans (foldl_steady _ hsend _ _)
theorem recordTaps_steady (ys : List Yielded) (s : State) : s.Steady (s.recordTaps ys) :=
  foldl_steady _ (fun s k => tapBoundary_steady k _ _ _ s) _ s
theorem tick_settled {c : PortSettings} {out : Bool} {a : Alarms} {r : LineRecord} (h : r.Settled c out a) :
    r.tick.Settled c out a :=
  h.congr rfl (by simp [LineRecord.tick]) rfl rfl (by simp [LineRecord.tick, Timer.tick]) rfl
    (by simp [LineRecord.tick, Timer.tick])
/-- A change of the queue's entries that keeps their classes. -/
theorem waiting_map_classes {s t : State} (f : TxEntry → TxEntry) (hf : ∀ e, (f e).cls = e.cls)
    (hq : t.txQueue = s.txQueue.map f) (ht : t.transmitting = s.transmitting) :
    t.waiting.map TxEntry.cls = s.waiting.map TxEntry.cls := by
  have hc : TxEntry.cls ∘ f = TxEntry.cls := funext hf
  unfold State.waiting
  rw [hq, ht]
  cases s.transmitting <;> simp [List.map_tail, hc]
theorem reachBoundary_records (s : State) (k : Fin 8) :
    s.reachBoundary.records[k] = (s.records[k]).map LineRecord.tick := by
  simp [State.reachBoundary, State.tickTimers, mapTable]
theorem reachBoundary_steady (s : State) : s.Steady s.reachBoundary := by
  refine ⟨rfl, fun h => ⟨?_, ?_, h.notice_bound, ?_⟩, fun _ => rfl, fun k hk r hr => ?_, fun k hk r hr => ?_⟩
  · simpa [State.reachBoundary, State.tickTimers] using h.queue_bound
  · exact sorted_of_classes (waiting_map_classes (fun e => { e with life := e.life - 1 }) (fun _ => rfl) rfl rfl) h.queue_order
  · simpa [State.reachBoundary, State.tickTimers] using h.window_bound
  · obtain ⟨r0, hr0, rfl⟩ := Option.map_eq_some_iff.mp ((reachBoundary_records s k).symm.trans hr)
    exact settled_inputs (s := s) rfl (by simp [LineRecord.tick]) (tick_settled (hk r0 hr0))
  · obtain ⟨r0, hr0, rfl⟩ := Option.map_eq_some_iff.mp ((reachBoundary_records s k).symm.trans hr)
    intro hf hu
    simpa [LineRecord.tick, Timer.tick] using hk r0 hr0 hf (by simpa [LineRecord.inUse, LineRecord.tick] using hu)

/-! ### Requests of position, call and speaker controller -/

theorem dropBinding_steady (h : Fin 2) (l : LineNo) (s : State) : s.Steady (s.dropBinding h l) :=
  (removeBinding_steady h _ s).trans (sendPlain_steady ..)
theorem clearHandset_steady (h : Fin 2) (s : State) : s.Steady (s.clearHandset h) := by
  have hplaced (s : State) (i : Fin 4) : s.Steady (if (s.slots[i]).takesPlace h then s.hangUp i else s) := by
    split
    · exact hangUp_steady ..
    · exact .refl s
  exact (setAsks_steady _ s).trans ((foldl_steady _ (fun s l => dropBinding_steady h l s) _ _).trans
    ((foldl_steady _ (fun s (b : Binding) => releaseCall_steady h b.circuit s) _ _).trans (foldl_steady _ hplaced _ _)))
theorem setSequences_steady (q : List SeqCount) (s : State) : s.Steady { s with sequences := q } :=
  .of_judged (by simp only [State.judged])
theorem setMute_steady (h : Fin 2) (on : Bool) (s : State) : s.Steady (s.setMute h on) := by
  unfold State.setMute
  dsimp only
  split
  · exact (setHandset_steady h _ s).trans (setSequences_steady ..)
  · exact setHandset_steady ..
theorem pressKey_steady (l : LineNo) (h : Fin 2) (s : State) : s.Steady (s.pressKey l h) := by
  unfold State.pressKey
  repeat' split
  · exact .refl s
  · exact sendAsk_steady ..
  · exact sendAsk_steady ..
theorem releaseBinding_steady (h : Fin 2) (b : Binding) (s : State) : s.Steady (s.releaseBinding h b) := by
  unfold State.releaseBinding
  split
  · exact (removeBinding_steady h _ s).trans ((setAsks_steady _ _).trans (sendPlain_steady ..))
  · exact releaseCall_steady ..
theorem askFirstLine_steady (op : AskOp) (h : Octet) (w : Bool) (s : State) : s.Steady (s.askFirstLine op h w) := by
  unfold State.askFirstLine
  split
  · exact sendAsk_steady ..
  · exact .refl s
theorem placeCall_steady (h : Fin 2) (t : CallTarget) (s : State) : s.Steady (s.placeCall h t) := by
  unfold State.placeCall
  split
  · exact (setSlot_steady _ _ s).trans (sendSlotFrame_steady ..)
  · exact .refl s
theorem answerSlot_steady (i : Fin 4) (h : Fin 2) (s : State) : s.Steady (s.answerSlot i h) :=
  (send_steady _ _ s).trans (connect_steady ..)
theorem rejectSlot_steady (i : Fin 4) (s : State) : s.Steady (s.rejectSlot i) :=
  (sendSlotFrame_steady ..).trans (freeCall_steady ..)
theorem bindChannel_steady (k : Fin 8) (b : ChannelBinding) (s : State) : s.Steady (s.bindChannel k b) := by
  unfold State.bindChannel
  split
  · exact .refl s
  · exact (giveUp_steady k s).trans (applyBinding_steady ..)
theorem setTalkerLimit_steady (n : Nat) (s : State) : s.Steady (s.setTalkerLimit n) := by
  have hlimit : s.Steady { s with talkerLimit := n } := .of_judged rfl
  exact hlimit.trans (mapTalkers_steady ..)

end Sys2Proof.Machine
end

section
/-! SUPPORT. The operations that change a line's inputs: a port's work, its marks, leaving and coming back. What they
unsettle is settled before they end. -/

namespace Sys2Proof.Machine

/-! ### The OUT mark under a port's work -/

@[simp] theorem setDefect_out (d : Defect) (v : Bool) (w : PortWork) : (w.setDefect d v).port.out = w.port.out := by
  unfold PortWork.setDefect; split <;> rfl
theorem enterHunt_out (p : LinePort) : p.enterHunt.out = p.out := rfl
@[simp] theorem stepLos_out (whole : Bool) (w : PortWork) : (w.stepLos whole).port.out = w.port.out := by
  unfold PortWork.stepLos
  dsimp only
  repeat' split
  all_goals simp [PortWork.onPort]
@[simp] theorem stepLol_out (c : PortSettings) (ooa : Bool) (w : PortWork) : (w.stepLol c ooa).port.out = w.port.out := by
  unfold PortWork.stepLol
  dsimp only
  repeat' split
  all_goals simp [PortWork.onPort, PortWork.declareLol, LinePort.emptyStore]
@[simp] theorem endPeriod_out (c : PortSettings) (whole : Bool) (w : PortWork) : (w.endPeriod c whole).port.out = w.port.out := by
  unfold PortWork.endPeriod
  dsimp only
  repeat' split
  all_goals simp [PortWork.onPort]
@[simp] theorem completeLabel_out (c : PortSettings) (l : Label) (w : PortWork) : (w.completeLabel c l).port.out = w.port.out := by
  unfold PortWork.completeLabel
  dsimp only
  repeat' split
  all_goals simp [PortWork.onPort]
@[simp] theorem takeLabel_out (c : PortSettings) (mf : Bool) (o : Octet) (w : PortWork) : (w.takeLabel c mf o).port.out = w.port.out := by
  unfold PortWork.takeLabel
  dsimp only
  repeat' split
  all_goals simp [PortWork.onPort]
@[simp] theorem stepDegrade_out (c : PortSettings) (w : PortWork) : (w.stepDegrade c).port.out = w.port.out := by
  unfold PortWork.stepDegrade
  dsimp only
  repeat' split
  all_goals simp [PortWork.onPort]
@[simp] theorem takeRd_out (rd : Bool) (w : PortWork) : (w.takeRd rd).port.out = w.port.out := by
  unfold PortWork.takeRd
  dsimp only
  repeat' split
  all_goals simp [PortWork.onPort]
@[simp] theorem writeStore_out (b : Block) (w : PortWork) : (w.writeStore b).port.out = w.port.out := by
  unfold PortWork.writeStore
  dsimp only
  repeat' split
  all_goals simp [PortWork.onPort]
@[simp] theorem evaluate_out (c : PortSettings) (w : PortWork) : (w.evaluate c).port.out = w.port.out := by
  simp [PortWork.evaluate, PortWork.takeSignalling, PortWork.takeParity, PortWork.onPort]
@[simp] theorem endFrame_out (c : PortSettings) (w : PortWork) : (w.endFrame c).port.out = w.port.out := by
  unfold PortWork.endFrame
  dsimp only
  repeat' split
  all_goals simp [PortWork.onPort]
@[simp] theorem huntOctet_out (c : PortSettings) (o : Octet) (w : PortWork) : (w.huntOctet c o).port.out = w.port.out := by
  unfold PortWork.huntOctet
  dsimp only
  repeat' split
  all_goals simp [PortWork.onPort]
@[simp] theorem innerOctet_out (c : PortSettings) (o : Octet) (w : PortWork) : (w.innerOctet c o).port.out = w.port.out := by
  unfold PortWork.innerOctet
  dsimp only
  repeat' split
  all_goals simp [PortWork.onPort]
@[simp] theorem confirmOctet_out (c : PortSettings) (o : Octet) (w : PortWork) : (w.confirmOctet c o).port.out = w.port.out := by
  unfold PortWork.confirmOctet PortWork.onPort
  dsimp only
  repeat' split
  all_goals rfl
@[simp] theorem alignedOctet_out (c : PortSettings) (o : Octet) (w : PortWork) : (w.alignedOctet c o).port.out = w.port.out := by
  unfold PortWork.alignedOctet PortWork.onPort
  dsimp only
  repeat' split
  all_goals rfl
theorem takeOctet_out (c : PortSettings) (o : Octet) (w : PortWork) : (w.takeOctet c o).port.out = w.port.out := by
  unfold PortWork.takeOctet
  repeat' split
  all_goals simp
@[simp] theorem takeCarrierFall_out (c : PortSettings) (w : PortWork) : (w.takeCarrierFall c).port.out = w.port.out := by
  unfold PortWork.takeCarrierFall
  dsimp only
  repeat' split
  all_goals simp [PortWork.onPort, enterHunt_out]
@[simp] theorem readStore_out (w : PortWork) : (w.readStore).port.out = w.port.out := by
  unfold PortWork.readStore
  dsimp only
  repeat' split
  all_goals simp [PortWork.onPort]

/-! ### Lines unsettled and settled again -/

theorem away_of_inputs {s t : State} {k : Fin 8} (h : t.lineInputs k = s.lineInputs k) :
    t.awayFromFloor = s.awayFromFloor := congrArg (fun x => x.2.2.2) h

/-- An operation that keeps commands, tables and hold-overs but may unsettle lines. -/
structure State.Loosens (s t : State) : Prop where
  pending : t.pending = s.pending
  sound : s.TablesSound → t.TablesSound
  held : ∀ k, s.HeldAt k → t.HeldAt k

theorem State.Steady.loosens {s t : State} (h : s.Steady t) : s.Loosens t := ⟨h.pending, h.sound, h.held⟩
theorem State.Loosens.trans {s t u : State} (h : s.Loosens t) (h' : t.Loosens u) : s.Loosens u :=
  ⟨h'.pending.trans h.pending, h'.sound ∘ h.sound, fun k => h'.held k ∘ h.held k⟩
theorem State.Loosens.of_fields {s t : State} (hp : t.pending = s.pending) (hq : t.txQueue = s.txQueue)
    (ht : t.transmitting = s.transmitting) (hn : t.notices = s.notices) (hw : t.clashWindow = s.clashWindow)
    (hr : t.records = s.records) : s.Loosens t :=
  ⟨hp, sound_congr hq ht hn hw, fun _ => HeldAt_of_record (by rw [hr])⟩

/-- An operation that may unsettle one line alone. -/
structure State.Disturbs (k : Fin 8) (s t : State) : Prop extends State.Loosens s t where
  others : ∀ j, j ≠ k → s.SettledAt j → t.SettledAt j

theorem State.Steady.disturbs {s t : State} (k : Fin 8) (h : s.Steady t) : s.Disturbs k t :=
  ⟨h.loosens, fun j _ => h.settled j⟩
theorem State.Disturbs.trans {k : Fin 8} {s t u : State} (h : s.Disturbs k t) (h' : t.Disturbs k u) : s.Disturbs k u :=
  ⟨h.toLoosens.trans h'.toLoosens, fun j hj => h'.others j hj ∘ h.others j hj⟩

/-- An operation that settles one line anew. -/
structure State.Resettles (k : Fin 8) (s t : State) : Prop extends State.Disturbs k s t where
  resettled : s.HeldAt k → t.SettledAt k

theorem State.Resettles.steady {k : Fin 8} {s t u : State} (h : s.Resettles k t) (h' : t.Steady u) : s.Resettles k u :=
  ⟨h.toDisturbs.trans (h'.disturbs k), fun hk => h'.settled k (h.resettled hk)⟩

/-- What was disturbed at a line is settled there. -/
theorem State.Disturbs.keeps {k : Fin 8} {s t u : State} (h : s.Disturbs k t) (h' : t.Resettles k u) : s.Keeps u := by
  refine ⟨h'.pending.trans h.pending, h'.sound ∘ h.sound, fun hs j => ?_⟩
  by_cases hj : j = k
  · subst hj
    exact h'.resettled (h.held j (State.SettledAt.heldAt (hs j)))
  · exact h'.others j hj (h.others j hj (hs j))

theorem mem_allPorts (k : Fin 8) : k ∈ allPorts := by revert k; decide

theorem resettle_foldl (f : State → Fin 8 → State) (hf : ∀ (s : State) (k : Fin 8), s.Resettles k (f s k))
    (l : List (Fin 8)) (s : State) :
    s.Loosens (l.foldl f s) ∧
      ((∀ j, s.HeldAt j) → ∀ j, j ∈ l ∨ s.SettledAt j → (l.foldl f s).SettledAt j) := by
  induction l generalizing s with
  | nil => exact ⟨(State.Steady.refl s).loosens, fun _ j hj => hj.resolve_left (by simp)⟩
  | cons k l ih =>
    obtain ⟨ih1, ih2⟩ := ih (f s k)
    refine ⟨(hf s k).toLoosens.trans ih1, fun hh j hj => ih2 (fun i => (hf s k).held i (hh i)) j ?_⟩
    by_cases hjk : j = k
    · subst hjk; exact .inr ((hf s j).resettled (hh j))
    · rcases hj with hj | hj
      · exact .inl ((List.mem_cons.mp hj).resolve_left hjk)
      · exact .inr ((hf s k).others j hjk hj)

/-- Settling every line anew makes up for whatever unsettled them. -/
theorem resettle_all {s t : State} (f : State → Fin 8 → State) (hf : ∀ (s : State) (k : Fin 8), s.Resettles k (f s k))
    (h : s.Loosens t) : s.Keeps (allPorts.foldl f t) := by
  obtain ⟨h1, h2⟩ := resettle_foldl f hf allPorts t
  exact ⟨h1.pending.trans h.pending, h1.sound ∘ h.sound,
    fun hs j => h2 (fun i => h.held i (State.SettledAt.heldAt (hs i))) j (.inl (mem_allPorts j))⟩

theorem commitRecord_resettles {k : Fin 8} {r old : LineRecord} {s : State} (ho : s.records[k] = some old)
    (h : old.HeldOver old.state → r.HeldOver old.state) : s.Resettles k (s.commitRecord k r) :=
  ⟨(commitRecord_steady ho h).disturbs k, fun hk => commitRecord_settledAt ho (h (hk old ho))⟩

theorem resettles_none {k : Fin 8} {s : State} (h : s.records[k] = none) : s.Resettles k s :=
  ⟨(State.Steady.refl s).disturbs k, fun _ r hr => by rw [h] at hr; cases hr⟩

theorem returnToService_resettles (k : Fin 8) (s : State) : s.Resettles k (s.returnToService k) := by
  unfold State.returnToService
  split
  · next r hr =>
    split
    · exact commitRecord_resettles hr id
    · exact commitRecord_resettles hr fun h => h.of_le rfl id
  · next h => exact resettles_none h

theorem changeRecord_resettles {k : Fin 8} {f : LineRecord → LineRecord} (s : State)
    (h : ∀ r : LineRecord, r.HeldOver r.state → (f r).HeldOver r.state) : s.Resettles k (s.changeRecord k f) := by
  unfold State.changeRecord
  split
  · next r hr => exact commitRecord_resettles hr (h r)
  · next h => exact resettles_none h

/-! ### A port replaced -/

theorem setPort_inputs {k j : Fin 8} (p : LinePort) (s : State) (h : j ≠ k) :
    (s.setPort k p).lineInputs j = s.lineInputs j := by
  have hj : (s.setPort k p).ports[j] = s.ports[j] := by
    simp only [setPort_ports, Fin.getElem_fin]
    exact Vector.getElem_set_ne _ _ fun e => h (Fin.ext e.symm)
  simp only [State.lineInputs, hj]
  rfl

theorem setPort_at (k : Fin 8) (p : LinePort) (s : State) : (s.setPort k p).ports[k] = p := by simp

theorem setPort_loosens (k : Fin 8) (p : LinePort) (s : State) : s.Loosens (s.setPort k p) :=
  .of_fields rfl rfl rfl rfl rfl rfl

theorem setPort_disturbs (k : Fin 8) (p : LinePort) (s : State) : s.Disturbs k (s.setPort k p) :=
  ⟨setPort_loosens k p s, fun _ hj => SettledAt_of_record (setPort_inputs p s hj) rfl⟩

/-- A port whose OUT mark and alarms stay settles nothing and unsettles nothing. -/
theorem setPort_steady {k : Fin 8} {p : LinePort} {s : State} (ho : p.out = (s.ports[k]).out)
    (ha : p.alarms = (s.ports[k]).alarms) : s.Steady (s.setPort k p) := by
  have hi (j : Fin 8) : (s.setPort k p).lineInputs j = s.lineInputs j := by
    by_cases hj : j = k
    · subst hj
      simp only [State.lineInputs, setPort_at, ho, ha]
      rfl
    · exact setPort_inputs p s hj
  exact ⟨rfl, (setPort_loosens k p s).sound, hi, fun j => SettledAt_of_record (hi j) rfl, (setPort_loosens k p s).held⟩

/-! ### A port's work put in place -/

/-- A station after a port's work, its line record not yet changed: counters, LINE_ALARM notices and the ALARM mark. -/
def State.portWorked (k : Fin 8) (w : PortWork) (s : State) : State :=
  let s1 := ((s.setPort k w.port).count (·.addLine k w.parityErrors w.ooaPeriods w.lineSlips)).notifyAll
    (w.notices.map fun (n : Defect × Bool) => Event.lineAlarm (s.portCfg k).line k n.1 n.2)
  if (s.ports[k]).alarms.declaresMore w.port.alarms then s1.markAlarm k else s1

theorem commitPort_eq (k : Fin 8) (w : PortWork) (s : State) :
    s.commitPort k w = match (s.portWorked k w).records[k] with
      | some r =>
        if (s.ports[k]).accepted = w.port.accepted ∧ (s.ports[k]).alarms = w.port.alarms then s.portWorked k w
        else ((s.portWorked k w).commitRecord k
          (r.takePort ((s.portWorked k w).outCause k r) (s.ports[k]).accepted w.port)).announceChange s k
      | none => s.portWorked k w := rfl

theorem portWorked_steady (k : Fin 8) (w : PortWork) (s : State) : (s.setPort k w.port).Steady (s.portWorked k w) := by
  have h : (s.setPort k w.port).Steady _ := (count_steady (·.addLine k w.parityErrors w.ooaPeriods w.lineSlips) _).trans
    (notifyAll_steady (w.notices.map fun (n : Defect × Bool) => Event.lineAlarm (s.portCfg k).line k n.1 n.2) _)
  unfold State.portWorked
  dsimp only
  split
  · exact h.trans (markAlarm_steady ..)
  · exact h

theorem takePort_heldOver (out : Bool) (b : Signalling) (p : LinePort) {r : LineRecord} {before : LineState}
    (h : r.HeldOver before) : (r.takePort out b p).HeldOver before := by
  unfold LineRecord.takePort
  split
  · exact h
  · exact h.of_le rfl id

/-- A port's work keeps commands, tables and settled lines (R57, R81, R87). -/
theorem commitPort_keeps {k : Fin 8} {w : PortWork} {s : State} (ho : w.port.out = (s.ports[k]).out) :
    s.Keeps (s.commitPort k w) := by
  have hw := portWorked_steady k w s
  have hd : s.Disturbs k (s.portWorked k w) := (setPort_disturbs k w.port s).trans (hw.disturbs k)
  rw [commitPort_eq]
  split
  · next r hr =>
    split
    · next hsame => exact ((setPort_steady ho hsame.2.symm).trans hw).keeps
    · exact hd.keeps ((commitRecord_resettles hr fun h => takePort_heldOver _ _ _ h).steady (announceChange_steady ..))
  · next hr => exact hd.keeps (resettles_none hr)

theorem commitPort_loosens (k : Fin 8) (w : PortWork) (s : State) :
    s.Loosens (s.commitPort k w) ∧ (s.commitPort k w).awayFromFloor = s.awayFromFloor := by
  have hw := portWorked_steady k w s
  have hl : s.Loosens (s.portWorked k w) := (setPort_loosens k w.port s).trans hw.loosens
  have ha : (s.portWorked k w).awayFromFloor = s.awayFromFloor := away_of_inputs (s := s.setPort k w.port) (hw.inputs k)
  rw [commitPort_eq]
  split
  · next r hr =>
    split
    · exact ⟨hl, ha⟩
    · have hc := (commitRecord_steady hr (takePort_heldOver ((s.portWorked k w).outCause k r) (s.ports[k]).accepted
        w.port)).trans (announceChange_steady _ s k)
      exact ⟨hl.trans hc.loosens, (away_of_inputs (hc.inputs k)).trans ha⟩
  · exact ⟨hl, ha⟩

theorem workPort_keeps {k : Fin 8} {f : PortSettings → PortWork → PortWork} {s : State}
    (h : ∀ c w, (f c w).port.out = w.port.out) : s.Keeps (s.workPort k f) := by
  unfold State.workPort
  split
  · exact commitPort_keeps (h _ _)
  · exact .refl s

/-- Commands of a port that change the pins before its work. -/
theorem setCarrier_steady (v : Vector Bool 8) (s : State) : s.Steady { s with carrier := v } := .of_judged rfl
theorem fallCarrier_keeps (k : Fin 8) (s : State) : s.Keeps (s.fallCarrier k) := by
  unfold State.fallCarrier
  split
  · exact (setCarrier_steady _ s).keeps.trans (workPort_keeps takeCarrierFall_out)
  · exact .refl s
theorem raiseCarrier_keeps (k : Fin 8) (s : State) : s.Keeps (s.raiseCarrier k) := by
  unfold State.raiseCarrier
  split
  · exact .refl s
  · exact (setCarrier_steady _ s).keeps.trans (workPort_keeps fun c w => endPeriod_out c false w)
theorem takeLineOctet_keeps (k : Fin 8) (o : Octet) (s : State) : s.Keeps (s.takeLineOctet k o) := by
  unfold State.takeLineOctet
  split
  · exact workPort_keeps fun c w => takeOctet_out c o w
  · exact .refl s

theorem foldl_keepsAll {α : Type} (f : State → α → State) (h : ∀ (s : State) (a : α), s.Keeps (f s a)) (l : List α)
    (s : State) : s.Keeps (l.foldl f s) :=
  foldl_preserves (fun t => s.Keeps t) f (fun t a ht => ht.trans (h t a)) l s (.refl s)

theorem standInPeriods_keeps (s : State) : s.Keeps s.standInPeriods := by
  refine foldl_keepsAll _ (fun s k => ?_) _ s
  split
  · exact .refl s
  · exact workPort_keeps fun c w => endPeriod_out c false w
theorem readStores_keeps (s : State) : s.Keeps s.readStores :=
  foldl_keepsAll _ (fun _ _ => workPort_keeps fun _ w => readStore_out w) _ s
theorem buildFrames_steady (s : State) : s.Steady s.buildFrames := by
  refine foldl_steady _ (fun s k => ?_) _ s
  split
  · exact setPort_steady rfl rfl
  · exact .refl s
theorem boundary_keeps (io : AudioIn) (s : State) : s.Keeps (s.boundary io) := by
  unfold State.boundary
  split
  · refine (reachBoundary_steady s).keeps.trans ((standInPeriods_keeps _).trans ((readStores_keeps _).trans ?_))
    exact ((yieldStreams_steady _).trans ((updateLocalLevels_steady io _).trans ((mapTalkers_steady _ _).trans
      ((mix_steady io _ _).trans ((buildFrames_steady _).trans ((sendVoices_steady io _).trans
        ((recordTaps_steady _ _).trans (removeStreams_steady _ _)))))))).keeps
  · exact (reachBoundary_steady s).keeps

/-! ### LINE_PORT and conflicts -/

theorem takePortOut_keeps (k : Fin 8) (s : State) : s.Keeps (s.takePortOut k) := by
  unfold State.takePortOut
  split
  · exact .refl s
  · exact (setPort_disturbs k _ s).keeps ((changeRecord_resettles _ fun _ => id).steady (announceChange_steady ..))
theorem takePortIn_keeps (k : Fin 8) (s : State) : s.Keeps (s.takePortIn k) := by
  unfold State.takePortIn
  split
  · exact (setPort_disturbs k _ s).keeps ((returnToService_resettles ..).steady (announceChange_steady ..))
  · exact .refl s
theorem forceHunt_judged (p : LinePort) : p.forceHunt.out = p.out ∧ p.forceHunt.alarms = p.alarms := by
  unfold LinePort.forceHunt
  split <;> exact ⟨rfl, rfl⟩
theorem setRecord_disturbs {k : Fin 8} {r old : LineRecord} {s : State} (ho : s.records[k] = some old)
    (hh : old.HeldOver old.state → r.HeldOver r.state) : s.Disturbs k (s.setRecord k r) := by
  refine ⟨⟨rfl, sound_congr (s := s) rfl rfl rfl rfl, fun j hj => ?_⟩, fun j hjk =>
    SettledAt_of_record (s := s) rfl (records_set_other hjk)⟩
  by_cases hjk : j = k
  · subst hjk
    intro r' hr'
    have hset : (s.setRecord j r).records[j] = some r := by simp [State.setRecord]
    cases hset.symm.trans hr'
    exact hh (hj old ho)
  · exact HeldAt_of_record (s := s) (records_set_other hjk) hj
theorem judgeConflict_keeps {k : Fin 8} {r : LineRecord} {c : Conflict} {s : State} (hr : s.records[k] = some r)
    (hc : r.conflict = some c) : s.Keeps (s.judgeConflict k r c) := by
  unfold State.judgeConflict
  split
  · refine State.Steady.keeps ?_
    exact setRecord_steady hr (by simp [hc]) id fun _ _ _ h => h.congr rfl rfl rfl rfl rfl rfl rfl
  · exact (setRecord_disturbs (r := { r with conflict := none }) hr id).keeps
      ((returnToService_resettles ..).steady (announce_steady ..))

/-! ### Leaving and coming back -/

/-- Away from the floor a line's record does not look at its port's alarms (R67). -/
theorem setPort_away {k : Fin 8} {p : LinePort} {s : State} (ha : s.awayFromFloor = true) :
    s.Keeps (s.setPort k p) := by
  refine ⟨rfl, (setPort_loosens k p s).sound, fun hs j r hr => ?_⟩
  have hout (t : State) (ht : t.awayFromFloor = true) : t.outCause j r = true := by simp [State.outCause, ht]
  have h := hs j r hr
  rw [hout s ha] at h
  rw [hout (s.setPort k p) ha]
  exact h.out_alarms

theorem portsLeave_away {s : State} (ha : s.awayFromFloor = true) : s.Keeps s.portsLeave := by
  refine (foldl_preserves (fun t => s.Keeps t ∧ t.awayFromFloor = true) _ (fun t k ht => ?_) allPorts s
    ⟨.refl s, ha⟩).1
  obtain ⟨hk, hta⟩ := ht
  split
  · exact ⟨hk.trans (setPort_away hta), hta⟩
  · exact ⟨hk, hta⟩

theorem leaveBlocks_keeps {s t : State} (h : s.Loosens t) (ha : t.awayFromFloor = true) : s.Keeps t.leaveBlocks := by
  have hlines : s.Keeps t.linesLeave :=
    resettle_all _ (fun s _ => changeRecord_resettles s fun _ hr => hr.of_le rfl id) h
  have haway : t.linesLeave.awayFromFloor = true := (away_of_inputs (k := 0) (inputs_of_base (linesLeave_base t) 0)).trans ha
  exact hlines.trans ((portsLeave_away haway).trans ((callsLeave_steady _).trans ((positionLeaves_steady _).trans
    ((speakerLeaves_steady _).trans (removeStreams_steady _ _)))).keeps)

theorem setStationTimers_steady (a b : Timer) (s : State) : s.Steady { s with beaconTimer := a, listenTimer := b } :=
  .of_judged rfl
theorem enter_loosens (st : StationState) (s : State) : s.Loosens (s.enter st) := .of_fields rfl rfl rfl rfl rfl rfl
theorem enter_steady {st : StationState} {s : State} (h : (s.enter st).awayFromFloor = s.awayFromFloor) :
    s.Steady (s.enter st) := by
  have hi (k : Fin 8) : (s.enter st).lineInputs k = s.lineInputs k := by
    simp only [State.lineInputs, h]; rfl
  exact ⟨rfl, (enter_loosens st s).sound, hi, fun k => SettledAt_of_record (hi k) rfl, (enter_loosens st s).held⟩

theorem leaveFloor_keeps (s : State) : s.Keeps s.leaveFloor := by
  have h1 : s.Loosens (s.flushQueue.stopStationTimers.enter .left) :=
    (flushQueue_steady s).loosens.trans ((setStationTimers_steady none none _).loosens.trans (enter_loosens ..))
  have hroom : (s.flushQueue.stopStationTimers.enter .left).txQueue.length < 24 := by
    show s.flushQueue.txQueue.length < 24
    unfold State.flushQueue State.setWaiting State.inTransmission
    cases s.transmitting <;> cases s.txQueue <;> simp
  unfold State.leaveFloor
  dsimp only
  split
  · have hs := acceptEntry_steady ((s.flushQueue.stopStationTimers.enter .left).newEntry Config.allStations
      (.beacon ((s.flushQueue.stopStationTimers.enter .left).card true))) _ hroom
    exact leaveBlocks_keeps (h1.trans hs.loosens) (away_of_inputs (k := 0) (hs.inputs 0))
  · exact leaveBlocks_keeps h1 rfl

theorem declareClashed_keeps (s : State) : s.Keeps s.declareClashed := by
  have hwindow (t : State) : t.Loosens { t with clashWindow := [] } :=
    ⟨rfl, fun h => ⟨h.queue_bound, h.queue_order, h.notice_bound, by simp [Config.clashWindowCapacity]⟩,
      fun _ => HeldAt_of_record rfl⟩
  have hn := notify_steady .clashed ({ s.flushQueue.stopStationTimers with clashWindow := [] }.enter .clashed)
  refine leaveBlocks_keeps ?_ (away_of_inputs (k := 0) (hn.inputs 0))
  exact (flushQueue_steady s).loosens.trans ((setStationTimers_steady none none _).loosens.trans
    ((hwindow _).trans ((enter_loosens ..).trans hn.loosens)))

theorem setClashWindow_steady (w : List Nat) (s : State)
    (h : s.clashWindow.length ≤ Config.clashWindowCapacity → w.length ≤ Config.clashWindowCapacity) :
    s.Steady { s with clashWindow := w } :=
  ⟨rfl, fun hs => ⟨hs.queue_bound, hs.queue_order, hs.notice_bound, h hs.window_bound⟩, fun _ => rfl,
    fun _ => SettledAt_of_record (s := s) rfl rfl, fun _ => HeldAt_of_record (s := s) rfl⟩

theorem takeClash_keeps (s : State) : s.Keeps s.takeClash := by
  have hcount := count_steady (fun c => { c with clashEvents := c.clashEvents.add 1 }) s
  unfold State.takeClash
  dsimp only
  split
  · split
    · exact hcount.keeps.trans (declareClashed_keeps _)
    · next hroom =>
      refine hcount.keeps.trans (setClashWindow_steady _ _ fun _ => ?_).keeps
      simp only [List.length_append, List.length_singleton, Config.clashWindowCapacity] at hroom ⊢
      omega
  · exact hcount.keeps

end Sys2Proof.Machine
end

section
/-! SUPPORT. The medium, entering and loading, and every command: each answers a next state and keeps the queue of
commands, sound tables and settled lines. -/

namespace Sys2Proof.Machine

/-! ### The medium -/

/-- A station whose transmit queue and medium marks alone have changed. -/
theorem setQueue_steady {s t : State} (hb : t.base = s.base) (hr : t.records = s.records)
    (hn : t.notices = s.notices) (hl : t.txQueue.length ≤ s.txQueue.length)
    (hq : (s.waiting.Pairwise fun a b => a.cls ≤ b.cls) → t.waiting.Pairwise fun a b => a.cls ≤ b.cls) :
    s.Steady t := by
  have hw : t.clashWindow = s.clashWindow := congrArg Base.clashWindow hb
  exact .of_base hb hr fun h => ⟨hl.trans h.queue_bound, hq h.queue_order, hn ▸ h.notice_bound, hw ▸ h.window_bound⟩

theorem takeMediumIdle_steady (s : State) : s.Steady s.takeMediumIdle := by
  unfold State.takeMediumIdle
  split
  · exact .refl s
  · next htx =>
    have hwait : s.waiting = s.txQueue := by simp [State.waiting, htx]
    have hdrop : (s.txQueue.dropWhile TxEntry.ended).Sublist s.txQueue := List.dropWhile_sublist _
    rw [dropStale_eq]
    dsimp only
    split
    · exact setQueue_steady rfl rfl rfl hdrop.length_le fun h => by
        rw [hwait] at h
        simpa [State.waiting, State.count, htx] using h.sublist hdrop
    · exact setQueue_steady rfl rfl rfl hdrop.length_le fun h => by
        rw [hwait] at h
        exact h.sublist ((List.tail_sublist _).trans hdrop)

/-- The entry that lost contention leaves a queue in class order (R4, R7). -/
theorem replaceLoser_sorted (e : TxEntry) (q : List TxEntry) (h : q.Pairwise fun a b => a.cls ≤ b.cls) :
    (replaceLoser e q).Pairwise fun a b => a.cls ≤ b.cls := by
  have htake (x : TxEntry) (hx : x ∈ q.takeWhile fun x => decide (x.cls < e.cls)) : x.cls < e.cls := by
    simpa using List.mem_takeWhile_imp hx
  have hdrop : ∀ x ∈ q.dropWhile (fun x => decide (x.cls < e.cls)), e.cls ≤ x.cls := by
    have hs := h.sublist (List.dropWhile_sublist fun x => decide (x.cls < e.cls))
    cases hq : q.dropWhile (fun x => decide (x.cls < e.cls)) with
    | nil => simp
    | cons y t =>
      have hy : e.cls ≤ y.cls := by
        have := List.head_dropWhile_not (fun x => decide (x.cls < e.cls)) (l := q) (by simp [hq])
        simpa [hq] using this
      rw [hq, List.pairwise_cons] at hs
      intro x hx
      rcases List.mem_cons.mp hx with rfl | hx
      · exact hy
      · exact hy.trans (hs.1 x hx)
  rw [replaceLoser_eq, List.pairwise_append, List.pairwise_cons]
  refine ⟨h.sublist (List.takeWhile_sublist _), ⟨hdrop, h.sublist (List.dropWhile_sublist _)⟩, fun x hx y hy => ?_⟩
  rcases List.mem_cons.mp hy with rfl | hy
  · exact (htake x hx).le
  · exact (htake x hx).le.trans (hdrop y hy)

theorem replaceLoser_length (e : TxEntry) (q : List TxEntry) : (replaceLoser e q).length = q.length + 1 := by
  induction q with
  | nil => rfl
  | cons x t ih => unfold replaceLoser; split <;> simp [ih]

theorem loseContention_steady (s : State) : s.Steady s.loseContention := by
  unfold State.loseContention
  split
  · next e t htx hq =>
    have hlen := replaceLoser_length { e with stale := e.ended } t
    refine setQueue_steady rfl rfl rfl (by rw [hq]; simp [State.count, hlen]) fun h => ?_
    simp only [State.waiting, htx, hq, if_true, List.tail_cons] at h
    simpa [State.waiting, State.count] using replaceLoser_sorted _ t h
  · exact .refl s

theorem endTransmission_steady (s : State) : s.Steady s.endTransmission := by
  unfold State.endTransmission
  split
  · next htx =>
    refine setQueue_steady rfl rfl rfl (by simp) fun h => ?_
    simpa [State.waiting, htx] using h
  · exact .refl s

theorem mapAt_map {α β : Type} (g : α → β) (f : α → α) (hf : ∀ a, g (f a) = g a) (l : List α) (i : Nat) :
    (mapAt f l i).map g = l.map g := by
  induction l generalizing i with
  | nil => rfl
  | cons a t ih => cases i <;> simp [mapAt, hf, ih]

theorem expireEntry_steady (i : Nat) (s : State) : s.Steady (s.expireEntry i) := by
  unfold State.expireEntry
  split
  · exact .refl s
  · have hcls (e : TxEntry) : (if e.life = 0 then { e with stale := true } else e).cls = e.cls := by split <;> rfl
    have hmap := mapAt_map TxEntry.cls _ hcls s.txQueue i
    refine setQueue_steady rfl rfl rfl (by simpa using (congrArg List.length hmap).le) (sorted_of_classes ?_)
    unfold State.waiting
    dsimp only
    split
    · rw [List.map_tail, hmap, List.map_tail]
    · exact hmap

/-! ### Between the station's states -/

theorem setListenTimer_steady (t : Timer) (s : State) : s.Steady { s with listenTimer := t } := .of_judged rfl
theorem setBeaconTimer_steady (t : Timer) (s : State) : s.Steady { s with beaconTimer := t } := .of_judged rfl
theorem startBeacon_steady (s : State) : s.Steady s.startBeacon :=
  (send_steady _ _ s).trans (setBeaconTimer_steady _ _)

theorem enterListening_keeps (s : State) : s.Keeps s.enterListening := by
  have hwindow (t : State) : t.Steady { t with clashWindow := [] } := setClashWindow_steady [] t fun _ => by simp
  have h1 : s.Loosens { s.enter .listening with clashWindow := [], listenTimer := some (s.blocks 300) } :=
    (enter_loosens ..).trans ((hwindow _).trans (setListenTimer_steady _ _)).loosens
  have h2 := h1.trans (followHomes_steady _ s).loosens
  unfold State.enterListening State.linesReturn
  exact resettle_all (fun t k => (t.returnToService k).announceChange t k)
    (fun t k => (returnToService_resettles k t).steady (announceChange_steady _ t k)) h2

theorem enterDuplicate_keeps {s : State} (h : s.stationState = .listening) : s.Keeps s.enterDuplicate := by
  refine ((setListenTimer_steady none s).trans ?_).keeps
  refine (enter_steady ?_).trans ((notify_steady ..).trans (followHomes_steady _ s))
  simp only [State.awayFromFloor, enter_stationState, h]
  rfl

theorem startMirrorTimers_steady (s : State) : s.Steady s.startMirrorTimers :=
  .of_judged (by simp only [State.judged, State.startMirrorTimers])
theorem announceAll_steady (s : State) : s.Steady s.announceAll := foldl_steady _ (fun s k => announce_steady k s) _ s
theorem sightStoredCards_steady (s : State) : s.Steady s.sightStoredCards :=
  foldl_steady _ (fun s p => sightCard_steady p s) _ s
theorem applyDefaults_steady (s : State) : s.Steady s.applyDefaults :=
  foldl_steady _ (fun s k => applyBinding_steady k _ s) _ s
theorem enterActive_keeps {s : State} (h : s.stationState = .listening) : s.Keeps s.enterActive := by
  refine ((setListenTimer_steady none s).trans ?_).keeps
  refine (enter_steady ?_).trans ((startMirrorTimers_steady _).trans ((announceAll_steady _).trans
    ((sightStoredCards_steady _).trans ((applyDefaults_steady _).trans (startBeacon_steady _)))))
  simp only [State.awayFromFloor, enter_stationState, h]
  rfl

/-! ### Loading -/

/-- A record that comes into being on the floor is settled (R64). -/
theorem makeRecords_settled {s : State} (h : s.awayFromFloor = false) : s.makeRecords.LinesSettled := by
  intro k r hr
  simp only [State.makeRecords, Fin.getElem_fin, Vector.getElem_ofFn] at hr
  split at hr
  · cases hr
    have hs := settle_settled .idle (s.portCfg k) (s.ports[k]).out (s.ports[k]).alarms 0
      { state := .idle, members := [], listeners := [], privacy := (s.portCfg k).privacyDefault, outRing := none
        farSignalling := .idle, conflict := none, holdOver := none, refresh := none } nofun
    have hout : s.makeRecords.outCause k (s.newRecord k) = (s.ports[k]).out := by
      have hc : (s.newRecord k).conflict = none := by
        unfold State.newRecord
        cases (s.ports[k]).out <;> rfl
      have haway : s.makeRecords.awayFromFloor = false := h
      simp only [State.outCause, hc, haway]
      simp [State.makeRecords]
    rw [show (⟨k.val, k.isLt⟩ : Fin 8) = k from rfl, hout]
    exact hs
  · cases hr

theorem startPorts_loosens (s : State) : s.Loosens s.startPorts ∧ s.startPorts.awayFromFloor = s.awayFromFloor := by
  refine foldl_preserves (fun t => s.Loosens t ∧ t.awayFromFloor = s.awayFromFloor) _ (fun t k ht => ?_) allPorts s
    ⟨(State.Steady.refl s).loosens, rfl⟩
  unfold State.workPort
  split
  · obtain ⟨h1, h2⟩ := commitPort_loosens k ((PortWork.start t.ports[k]).startPort t.carrier[k]) t
    exact ⟨ht.1.trans h1, h2.trans ht.2⟩
  · exact ht

/-- A completed load makes every record anew (R64). -/
theorem completeLoad_keeps (w : SettingWords) (s : State) : s.Keeps (s.completeLoad w) := by
  have hload : s.completeLoad w = ({ (s.takeSettings (checkSettings w).1 (checkSettings w).2).enter .listening with
      clashWindow := [], listenTimer := some (s.blocks 300),
      panelAnswer := if (checkSettings w).1.panelPresent then s.panelAnswer else none } : State).startPorts.makeRecords := rfl
  rw [hload]
  generalize hm : ({ (s.takeSettings (checkSettings w).1 (checkSettings w).2).enter .listening with
      clashWindow := [], listenTimer := some (s.blocks 300),
      panelAnswer := if (checkSettings w).1.panelPresent then s.panelAnswer else none } : State) = m
  obtain ⟨h1, h2⟩ := startPorts_loosens m
  have hpending : m.pending = s.pending := by subst hm; rfl
  have hsound (h : s.TablesSound) : m.TablesSound := by
    subst hm; exact ⟨h.queue_bound, h.queue_order, h.notice_bound, by simp [Config.clashWindowCapacity]⟩
  have haway : m.awayFromFloor = false := by subst hm; rfl
  exact ⟨h1.pending.trans hpending, fun h => sound_congr (s := m.startPorts) rfl rfl rfl rfl (h1.sound (hsound h)),
    fun _ => makeRecords_settled (h2.trans haway)⟩

theorem load_keeps (m : List Octet) (w : SettingWords) {s : State} (h : s.stationState = .loading) :
    s.Keeps (s.load m w) := by
  unfold State.load
  split
  · exact completeLoad_keeps w s
  · exact (enter_steady (by simp only [State.awayFromFloor, enter_stationState, h]; rfl)).keeps

theorem reset_sound : State.reset.TablesSound := ⟨by decide, .nil, by decide, by decide⟩
theorem reset_settled : State.reset.LinesSettled := by
  intro k r hr
  simp [State.reset] at hr

/-! ### Frames heard -/

theorem takeOwnNumber_keeps (b : Body) (s : State) : s.Keeps (s.takeOwnNumber b) := by
  unfold State.takeOwnNumber
  split
  · exact .refl s
  · split
    · next h => exact enterDuplicate_keeps h
    · exact takeClash_keeps s
    · exact .refl s

theorem hear_keeps (o : List Octet) (s : State) : s.Keeps (s.hear o) := by
  unfold State.hear
  dsimp only
  refine (findBusy_steady s).keeps.trans ?_
  repeat' split
  · exact (count_steady _ _).keeps
  · exact takeOwnNumber_keeps ..
  · exact (takeOther_steady ..).keeps
  · exact .refl _

theorem hearAs_keeps (row : Body → Bool) (o : List Octet) (s : State) : s.Keeps (s.hearAs row o) := by
  unfold State.hearAs
  repeat' split
  · exact hear_keeps o s
  · exact .refl s
  · exact hear_keeps o s

/-! ### Requests -/

theorem panelRequest_keeps (kind : Nat) (v : Option Verdict) (l : List Octet) {f : State → State} {s : State}
    (h : s.Keeps (f s)) : s.Keeps (s.panelRequest kind v l f) := by
  unfold State.panelRequest
  split
  · split
    · exact (answerPanel_steady ..).keeps
    · exact h.trans (answerPanel_steady ..).keeps
  · exact .refl s
theorem panelRequest_steady (kind : Nat) (v : Option Verdict) (l : List Octet) {f : State → State} {s : State}
    (h : s.Steady (f s)) : s.Keeps (s.panelRequest kind v l f) := panelRequest_keeps kind v l h.keeps
theorem recorderRequest_keeps (kind : Nat) (v : Option Verdict) (l : List Octet) {f : State → State} {s : State}
    (h : s.Steady (f s)) : s.Keeps (s.recorderRequest kind v l f) := by
  have hanswer (o : Octet) (v : Verdict) (l : List Octet) (t : State) : t.Steady (t.answerRecorder o v l) := .of_judged rfl
  unfold State.recorderRequest
  split
  · exact (hanswer ..).keeps
  · exact (h.trans (hanswer ..)).keeps
theorem onIndex_keeps {n : Nat} (o : Octet) {f : Fin n → State → State} {s : State} (h : ∀ i, s.Keeps (f i s)) :
    s.Keeps (s.onIndex o f) := by
  unfold State.onIndex
  split
  · exact h _
  · exact .refl s
theorem onIndex_steady {n : Nat} (o : Octet) {f : Fin n → State → State} {s : State} (h : ∀ i, s.Steady (f i s)) :
    s.Steady (s.onIndex o f) := by
  unfold State.onIndex
  split
  · exact h _
  · exact .refl s
theorem ifDecided_keeps (k : Fin 8) (p : LinePort → LinePort → Bool) {s t : State} (h : s.Keeps t) :
    s.Keeps (s.ifDecided k p t) := by
  unfold State.ifDecided
  split
  · exact h
  · exact .refl s
theorem onRecord_keeps {k : Fin 8} {f : LineRecord → State → State} {s : State}
    (h : ∀ r, s.records[k] = some r → s.Keeps (f r s)) : s.Keeps (s.onRecord k f) := by
  unfold State.onRecord
  split
  · next r hr => exact h r hr
  · exact .refl s
theorem takeSnapshot_steady (s : State) : s.Steady s.takeSnapshot := .of_judged rfl
theorem stimulate_keeps (k : Fin 8) (x : FramerStimulus) (s : State) : s.Keeps (s.stimulate k x) := by
  cases x with
  | octet o => exact takeLineOctet_keeps k o s
  | carrierFall => exact fallCarrier_keeps k s
  | carrierRise => exact raiseCarrier_keeps k s
  | boundary io => exact boundary_keeps io s
theorem recalled_settled {time : Nat} {i : Nat} {c : PortSettings} {out : Bool} {a : Alarms} {r : LineRecord}
    (h : r.Settled c out a) : ({ r with members := mapAt (Member.recalled time) r.members i } : LineRecord).Settled c out a :=
  h.congr rfl (mapAt_map (·.mode) (Member.recalled time) (fun _ => rfl) r.members i) rfl rfl rfl rfl rfl
theorem mapAt_nil {α : Type} (f : α → α) (l : List α) (i : Nat) : mapAt f l i = [] ↔ l = [] := by
  cases l <;> cases i <;> simp [mapAt]

/-- A command that may be due: taken or not, what it does is kept. -/
theorem ite_keeps {p : Prop} [Decidable p] {s t : State} (h : p → s.Keeps t) : s.Keeps (if p then t else s) := by
  split
  · next hp => exact h hp
  · exact .refl s

end Sys2Proof.Machine
end

section
/-! PROOFS. Every command completes and keeps the queue behind it, sound tables and settled lines (O5 to O9). -/

namespace Sys2Proof.Machine

/-- Every command answers a next state and keeps the queue behind it, sound tables and settled lines. -/
theorem exec_keeps (c : Instr) (s : State) : ∃ t, exec c s = .next t ∧ s.Keeps t := by
  cases c with
  | fullReset =>
    exact ⟨_, rfl, rfl, fun _ => sound_congr (s := .reset) rfl rfl rfl rfl reset_sound, fun _ k => by
      intro r hr; exact reset_settled k r hr⟩
  | loadComplete m w => exact ⟨_, rfl, ite_keeps fun h => load_keeps m w h⟩
  | listenPeriodExpiry => exact ⟨_, rfl, ite_keeps fun h => enterActive_keeps h.1⟩
  | join => exact ⟨_, rfl, panelRequest_keeps _ _ _ (enterListening_keeps s)⟩
  | leave =>
    refine ⟨_, rfl, panelRequest_keeps _ _ _ ?_⟩
    split
    · exact .refl s
    · exact leaveFloor_keeps s
  | mediumIdle => exact ⟨_, rfl, (takeMediumIdle_steady s).keeps⟩
  | contentionLoss => exact ⟨_, rfl, (loseContention_steady s).keeps⟩
  | frameSent => exact ⟨_, rfl, (endTransmission_steady s).keeps⟩
  | clashEvent =>
    exact ⟨_, rfl, ite_keeps fun _ => (endTransmission_steady s).keeps.trans (takeClash_keeps _)⟩
  | clashWindowExpiry =>
    exact ⟨_, rfl, (setClashWindow_steady _ s fun h => (List.erase_sublist ..).length_le.trans h).keeps⟩
  | lifetimeExpiry i => exact ⟨_, rfl, (expireEntry_steady i s).keeps⟩
  | beaconIntervalExpiry => exact ⟨_, rfl, ite_keeps fun _ => (startBeacon_steady s).keeps⟩
  | voiceReceived _ _ | stateReceived _ _ | replyReceived _ _ | beaconReceived _ _ | askTake _ _ | askDrop _ _
  | askHold _ _ | askResume _ _ | askRing _ _ | askPrivacy _ _ | askListen _ _ | askUnlisten _ _ | offer _ _
  | alert _ _ | accept _ _ | decline _ _ | endReceived _ _ | signalSet _ _ | signalClear _ _
  | askUnknownOperation _ _ _ => exact ⟨_, rfl, hearAs_keeps ..⟩
  | peerSilenceExpiry st => exact ⟨_, rfl, ite_keeps fun _ => (silencePeer_steady st s).keeps⟩
  | outRingExpiry k =>
    refine ⟨_, rfl, onRecord_keeps fun r hr => ite_keeps fun _ => State.Steady.keeps ?_⟩
    refine .trans ?_ (announceChange_steady _ s k)
    exact commitRecord_steady hr fun h => h.of_le rfl id
  | recallTimerExpiry k i =>
    refine ⟨_, rfl, onRecord_keeps fun r hr => ite_keeps fun _ => State.Steady.keeps ?_⟩
    refine .trans ?_ (announce_steady k _)
    refine setRecord_steady hr rfl (fun h => h.of_le rfl ?_) fun _ _ _ => recalled_settled
    simp [LineRecord.inUse, mapAt_nil]
  | holdOverExpiry k =>
    refine ⟨_, rfl, onRecord_keeps fun r hr => ite_keeps fun _ => State.Steady.keeps ?_⟩
    refine .trans ?_ (announceChange_steady _ s k)
    exact commitRecord_steady hr fun _ _ hu => absurd ⟨rfl, rfl⟩ hu
  | refreshExpiry k => exact ⟨_, rfl, onRecord_keeps fun r hr => ite_keeps fun _ => (announce_steady k s).keeps⟩
  | conflictTimerExpiry k =>
    refine ⟨_, rfl, onRecord_keeps fun r hr => ?_⟩
    split
    · next c hc => exact ite_keeps fun _ => judgeConflict_keeps hr hc
    · exact .refl s
  | carrierFall k => exact ⟨_, rfl, fallCarrier_keeps k s⟩
  | carrierRise k => exact ⟨_, rfl, raiseCarrier_keeps k s⟩
  | lineOctetReceived k o => exact ⟨_, rfl, takeLineOctet_keeps k o s⟩
  | losCleared k o | alignmentConfirmed k o | alignmentLost k o | lolCleared k o | labelSettled k o
  | signallingAccepted k o | farDefectDecided k o | degradeWindowEnd k o =>
    exact ⟨_, rfl, ifDecided_keeps k _ (takeLineOctet_keeps k o s)⟩
  | lolDeclared k x => exact ⟨_, rfl, ifDecided_keeps k _ (stimulate_keeps k x s)⟩
  | linePortOut o => exact ⟨_, rfl, panelRequest_keeps _ _ _ (onIndex_keeps o fun k => takePortOut_keeps k s)⟩
  | linePortIn o => exact ⟨_, rfl, panelRequest_keeps _ _ _ (onIndex_keeps o fun k => takePortIn_keeps k s)⟩
  | forceOoa o =>
    exact ⟨_, rfl, panelRequest_steady _ _ _ (onIndex_steady o fun k =>
      setPort_steady (forceHunt_judged _).1 (forceHunt_judged _).2)⟩
  | forceRd o | forceNone o =>
    exact ⟨_, rfl, panelRequest_steady _ _ _ (onIndex_steady o fun k => setPort_steady rfl rfl)⟩
  | blockBoundary io => exact ⟨_, rfl, boundary_keeps io s⟩
  | hangoverExpiry k st p io =>
    refine ⟨_, rfl, ?_⟩
    split
    · exact ite_keeps fun _ => boundary_keeps io s
    · exact .refl s
  | segmentFull k io => exact ⟨_, rfl, ite_keeps fun _ => boundary_keeps io s⟩
  | streamSilenceExpiry i io => exact ⟨_, rfl, ite_keeps fun _ => boundary_keeps io s⟩
  | stalenessTimerExpiry l =>
    refine ⟨_, rfl, ?_⟩
    split
    · exact ite_keeps fun _ => (staleMirror_steady l s).keeps
    · exact .refl s
  | pendingAskExpiry tag =>
    refine ⟨_, rfl, ?_⟩
    split
    · exact ((setAsks_steady _ s).trans (notify_steady ..)).keeps
    · exact .refl s
  | hookOff o => exact ⟨_, rfl, panelRequest_steady _ _ _ (onIndex_steady o fun h => setHandset_steady h _ s)⟩
  | hookOn o =>
    refine ⟨_, rfl, panelRequest_steady _ _ _ (onIndex_steady o fun h => ?_)⟩
    split
    · exact .refl s
    · exact (setHandset_steady h _ s).trans (clearHandset_steady h _)
  | mute o on => exact ⟨_, rfl, panelRequest_steady _ _ _ (onIndex_steady o fun h => setMute_steady h on s)⟩
  | volume o _ | balance o _ _ =>
    exact ⟨_, rfl, panelRequest_steady _ _ _ (onIndex_steady o fun h => setHandset_steady h _ s)⟩
  | lineKey key h =>
    refine ⟨_, rfl, panelRequest_steady _ _ _ ?_⟩
    split
    · exact pressKey_steady ..
    · exact .refl s
  | release o b =>
    refine ⟨_, rfl, panelRequest_steady _ _ _ (onIndex_steady o fun h => ?_)⟩
    split
    · exact releaseBinding_steady ..
    · exact .refl s
  | hold o b =>
    refine ⟨_, rfl, panelRequest_steady _ _ _ ?_⟩
    split
    · exact sendAsk_steady ..
    · exact .refl s
  | ring o => exact ⟨_, rfl, panelRequest_steady _ _ _ (askFirstLine_steady ..)⟩
  | privacy o on => exact ⟨_, rfl, panelRequest_steady _ _ _ (askFirstLine_steady ..)⟩
  | call o st called =>
    refine ⟨_, rfl, panelRequest_steady _ _ _ (onIndex_steady o fun h => ?_)⟩
    split
    · exact placeCall_steady ..
    · exact .refl s
  | alertWaitExpiry i => exact ⟨_, rfl, ite_keeps fun _ => (endCall_steady i _ s).keeps⟩
  | callerAnswerWaitExpiry i | calledAnswerWaitExpiry i =>
    exact ⟨_, rfl, ite_keeps fun _ => ((sendSlotFrame_steady _ _ _ _ s).trans (endCall_steady i _ _)).keeps⟩
  | answer o h =>
    exact ⟨_, rfl, panelRequest_steady _ _ _ (onIndex_steady o fun i => onIndex_steady h fun j => answerSlot_steady i j s)⟩
  | reject o => exact ⟨_, rfl, panelRequest_steady _ _ _ (onIndex_steady o fun i => rejectSlot_steady i s)⟩
  | callEnd o =>
    refine ⟨_, rfl, panelRequest_steady _ _ _ (onIndex_steady o fun i => ?_)⟩
    split
    · exact rejectSlot_steady i s
    · exact hangUp_steady i s
  | buzzMask b | buzzClear b => exact ⟨_, rfl, panelRequest_steady _ _ _ (.of_judged rfl)⟩
  | buzzUnmask b =>
    have hmask : s.Steady { s with buzzMasked := s.buzzMasked &&& ~~~b } := .of_judged rfl
    exact ⟨_, rfl, panelRequest_steady _ _ _ (hmask.trans (notifyAll_steady ..))⟩
  | buzz o | buzzOff o => exact ⟨_, rfl, panelRequest_steady _ _ _ (onIndex_steady o fun n => send_steady _ _ s)⟩
  | remoteMute st k on => exact ⟨_, rfl, panelRequest_steady _ _ _ (send_steady _ _ s)⟩
  | bind o kind n =>
    refine ⟨_, rfl, panelRequest_steady _ _ _ (onIndex_steady o fun k => ?_)⟩
    split
    · exact bindChannel_steady ..
    · exact .refl s
  | unbind o =>
    refine ⟨_, rfl, panelRequest_steady _ _ _ (onIndex_steady o fun k => ?_)⟩
    split
    · exact .refl s
    · exact giveUp_steady k s
  | listenWaitExpiry k =>
    refine ⟨_, rfl, ?_⟩
    split
    · exact ite_keeps fun _ => ((turnOff_steady k s).trans (notify_steady ..)).keeps
    · exact .refl s
  | talkers n => exact ⟨_, rfl, panelRequest_steady _ _ _ (setTalkerLimit_steady ..)⟩
  | talk o => exact ⟨_, rfl, panelRequest_steady _ _ _ (onIndex_steady o fun k => startTalk_steady k s)⟩
  | talkUp o =>
    refine ⟨_, rfl, panelRequest_steady _ _ _ (onIndex_steady o fun k => ?_)⟩
    split
    · exact endTalk_steady s
    · exact .refl s
  | channelVolume o _ | channelMute o _ =>
    exact ⟨_, rfl, panelRequest_steady _ _ _ (onIndex_steady o fun k => setChannel_steady k _ s)⟩
  | channelOutput o p =>
    exact ⟨_, rfl, panelRequest_steady _ _ _ (onIndex_steady o fun k => onIndex_steady p fun q => setChannel_steady k _ s)⟩
  | master o _ => exact ⟨_, rfl, panelRequest_steady _ _ _ (onIndex_steady o fun _ => .of_judged rfl)⟩
  | status | readDescriptor _ | readAudio _ _ _ => exact ⟨_, rfl, recorderRequest_keeps _ _ _ (.refl s)⟩
  | returnDescriptor o => exact ⟨_, rfl, recorderRequest_keeps _ _ _ (onIndex_steady o fun _ => .of_judged rfl)⟩
  | malformedMessage recorder o =>
    have hanswer (o : Octet) (v : Verdict) (l : List Octet) : s.Steady (s.answerRecorder o v l) := .of_judged rfl
    refine ⟨_, rfl, ?_⟩
    repeat' split
    · exact .refl s
    · exact (hanswer ..).keeps
    · exact (answerPanel_steady ..).keeps
    · exact .refl s
  | readEvent =>
    refine ⟨_, rfl, panelRequest_keeps _ _ _ (State.Steady.keeps (.of_base rfl rfl fun h => ?_))⟩
    exact ⟨h.queue_bound, h.queue_order, (List.length_tail ▸ Nat.sub_le ..).trans h.notice_bound, h.window_bound⟩
  | eventMask _ _ | conditionMask _ _ => exact ⟨_, rfl, panelRequest_steady _ _ _ (.of_judged rfl)⟩
  | readChanges => exact ⟨_, rfl, panelRequest_steady _ _ _ (.of_judged (by simp only [State.judged]))⟩
  | snapshot => exact ⟨_, rfl, panelRequest_steady _ _ _ (takeSnapshot_steady s)⟩
  | monitorIntervalExpiry => exact ⟨_, rfl, ite_keeps fun _ => (takeSnapshot_steady s).keeps⟩
  | readCounters _ _ => exact ⟨_, rfl, panelRequest_steady _ _ _ (.refl s)⟩

/-- Settles O5. -/
theorem stepTakesTheFrontCommand : Obligations.StepTakesTheFrontCommand := by
  intro s c rest h
  simp [step, h]

theorem step_keeps (s : State) :
    ∃ t, step s = .next t ∧ t.pending = s.pending.tail ∧ (s.TablesSound → t.TablesSound) ∧
      (s.LinesSettled → t.LinesSettled) := by
  cases hp : s.pending with
  | nil =>
    have hpass : s.Steady s.passSample := by
      unfold State.passSample
      split
      · exact .refl s
      · exact .of_judged rfl
    exact ⟨s.passSample, by simp [step, hp], by simp [hpass.pending, hp], hpass.keeps.sound, hpass.keeps.settled⟩
  | cons c rest =>
    obtain ⟨t, ht, hk⟩ := exec_keeps c { s with pending := rest }
    refine ⟨t, (stepTakesTheFrontCommand s c rest hp).trans ht, hk.pending, fun h => hk.sound ?_, fun h => hk.settled ?_⟩
    · exact sound_congr (s := s) rfl rfl rfl rfl h
    · exact fun k r hr => h k r hr

/-- Settles O6. -/
theorem queueIsTakenInOrder : Obligations.QueueIsTakenInOrder := by
  refine ⟨fun s => ?_, fun s hs => by simp only [step, hs, State.passSample, State.phase]⟩
  obtain ⟨t, ht, hp, -, -⟩ := step_keeps s
  exact ⟨t, ht, hp⟩

/-- Settles O7. -/
theorem resetMeetsTheInvariants : Obligations.ResetMeetsTheInvariants := ⟨reset_sound, reset_settled⟩

/-- Settles O8: no operation lengthens a table past its bound or puts a frame out of class order. -/
theorem tablesStaySound : Obligations.TablesStaySound := by
  intro s t hs ht
  obtain ⟨u, hu, -, hsound, -⟩ := step_keeps s
  cases ht.symm.trans hu
  exact hsound hs

/-- Settles O9: each operation either leaves a line's inputs alone or settles the line anew. -/
theorem linesStaySettled : Obligations.LinesStaySettled := by
  intro s t hs ht
  obtain ⟨u, hu, -, -, hsettled⟩ := step_keeps s
  cases ht.symm.trans hu
  exact hsettled hs

end Sys2Proof.Machine
end

section
/-! PROOFS. Reset values, the states of a line, counters and the recorder port (O1, O4, O10, O14). -/

namespace Sys2Proof.Machine

/-! ### FULL_RESET -/

/-- Settles O14. -/
theorem fullResetLeavesTheResetValues : Obligations.FullResetLeavesTheResetValues := by
  intro s
  refine ⟨_, rfl, rfl, rfl, rfl, rfl, rfl, rfl, ⟨rfl, rfl, rfl, rfl, rfl⟩, ?_, ?_, ⟨rfl, rfl, rfl, rfl⟩, ?_, ?_,
    ⟨rfl, rfl, ?_⟩, fun k => ?_, rfl, ?_, ?_, rfl, rfl, ⟨rfl, rfl, rfl, rfl⟩, fun e => ?_, ⟨?_, ?_⟩, rfl, rfl, rfl, rfl⟩
  case refine_6 => simp [State.channelState, Channel.state, State.reset]
  case refine_9 => cases e <;> simp [Marks.has, State.reset]
  all_goals simp [State.reset, Peer.absent, Descriptor.empty]

/-! ### Line states -/

theorem derive_state (out : Bool) (a : Alarms) (r : LineRecord) :
    (r.derive out a = .outOfService → out = true) ∧
    (r.derive out a = .idle ∨ r.derive out a = .ringingIn → r.members = []) ∧
    (r.derive out a = .engaged → ∃ m ∈ r.members, m.mode = .active) ∧
    (r.derive out a = .held → (∃ m ∈ r.members, m.mode = .held) ∧ ∀ m ∈ r.members, m.mode = .held) ∧
    (r.derive out a = .ringingIn ↔ out = false ∧ a.failing = false ∧ r.members = [] ∧ r.farSignalling = .ring) := by
  have hempty (ha : ¬(r.members.any fun m => m.mode == .active) = true)
      (hh : ¬(r.members.any fun m => m.mode == .held) = true) : r.members = [] := by
    refine List.eq_nil_iff_forall_not_mem.mpr fun m hm => ?_
    cases hmode : m.mode with
    | active => exact ha (List.any_eq_true.mpr ⟨m, hm, by simp [hmode]⟩)
    | held => exact hh (List.any_eq_true.mpr ⟨m, hm, by simp [hmode]⟩)
  unfold LineRecord.derive
  split
  · next ho => simp [ho]
  · split
    · next hf => simp [hf]
    · split
      · next ha =>
        obtain ⟨m, hm, hmode⟩ := List.any_eq_true.mp ha
        have hmode : m.mode = .active := by simpa using hmode
        have hne : r.members ≠ [] := List.ne_nil_of_mem hm
        simp only [reduceCtorEq, false_implies, or_self, true_and, forall_const, hne, false_and, and_false, iff_self, and_true]
        exact ⟨m, hm, hmode⟩
      · next ha =>
        split
        · next hh =>
          obtain ⟨m, hm, hmode⟩ := List.any_eq_true.mp hh
          have hmode : m.mode = .held := by simpa using hmode
          have hne : r.members ≠ [] := List.ne_nil_of_mem hm
          simp only [reduceCtorEq, false_implies, or_self, true_and, forall_const, hne, false_and, and_false, iff_self, and_true]
          refine ⟨⟨m, hm, hmode⟩, fun x hx => ?_⟩
          cases hx' : x.mode with
          | held => rfl
          | active => exact absurd (List.any_eq_true.mpr ⟨x, hx, by simp [hx']⟩) ha
        · next ho hf hh =>
          have hnil := hempty ha hh
          split
          · next hr => simp_all
          · next hr => simp_all

/-- Settles O10. -/
theorem lineStateSaysWhoIsOnTheLine : Obligations.LineStateSaysWhoIsOnTheLine := by
  intro c out a r h
  obtain ⟨hout, hempty, hengaged, hheld, hringing⟩ := derive_state out a r
  rw [← h.state_derived] at hout hempty hengaged hheld hringing
  refine ⟨fun hs => h.out_empty (hout hs), hempty, hengaged, hheld, fun hs hnone => ?_, ?_⟩
  · by_contra hu
    have := h.holdOver_failed.mpr ⟨hs, hu⟩
    rw [hnone] at this; cases this
  · rw [hringing]
    simp only [Alarms.failing, Bool.or_eq_false_iff]
    tauto

/-! ### Counters -/

theorem octet_eq (o : Octet) (n : Nat) (h : o.toNat = n) : o = BitVec.ofNat 8 n := by
  subst h; simp

/-- Settles O4. -/
theorem countersAreCopiedAndRead : Obligations.CountersAreCopiedAndRead := by
  refine ⟨fun s => ⟨fun ha => ?_, fun h => ?_, fun h => ?_⟩, fun s port ha => ⟨fun g hg h1 => ?_, fun k hk => ?_, fun hp => ?_,
    fun g hg => ?_⟩⟩
  · exact congrArg _ (panelRequest_pass _ _ _ _ s ha rfl)
  · exact congrArg _ (if_pos h)
  · exact congrArg _ (if_neg h)
  · have hgroup : g ≠ 1#8 := fun e => h1 (by rw [e]; rfl)
    refine ⟨s.snapshots.group g port, congrArg _ (panelRequest_pass _ _ _ _ s ha ?_), ?_⟩
    · simp [hgroup, outOf_lt g (show g.toNat < 6 by omega)]
    · unfold Counters.group
      refine ⟨?_, ?_, ?_, ?_, ?_⟩ <;> (intro h; simp only [h])
  · have hpass := panelRequest_pass 39 (firstVerdict [((1#8 == 1#8) && outOf 8 port, .badIndex), (outOf 6 1#8, .badValue)])
      (octets32 s.snapshotTime ++ (s.snapshots.group 1#8 port).flatMap octets16) id s ha
      (by rw [outOf_val port k hk]; rfl)
    refine (congrArg _ hpass).trans ?_
    simp [Counters.group, indexOf_val port k hk, LineCounters.list]
    rfl
  · exact congrArg _ (panelRequest_refused _ .badIndex _ _ _ s ha (by simp [outOf_ge port (show 8 ≤ port.toNat by omega)]))
  · have hgroup : g ≠ 1#8 := fun e => by rw [e] at hg; exact absurd hg (by decide)
    exact congrArg _ (panelRequest_refused _ .badValue _ _ _ s ha
      (by simp [hgroup, outOf_ge g (show 6 ≤ g.toNat by omega)]))

/-! ### Recorder port -/

theorem recorderRequest_pass (kind : Nat) (refusal : Option Verdict) (fields : List Octet) (f : State → State) (s : State)
    (hr : refusal = none) :
    s.recorderRequest kind refusal fields f = { f s with recorderAnswer := some ⟨octet kind, .done, fields⟩ } := by
  subst hr; rfl
theorem recorderRequest_refused (kind : Nat) (v : Verdict) (refusal : Option Verdict) (fields : List Octet)
    (f : State → State) (s : State) (hr : refusal = some v) :
    s.recorderRequest kind refusal fields f = { s with recorderAnswer := some ⟨octet kind, v, []⟩ } := by
  subst hr; rfl

theorem readyOutput_iff (s : State) : s.readyOutput = true ↔ ∃ i : Fin 64, (s.ring[i]).owner = .ready := by
  unfold State.readyOutput
  rw [List.any_eq_true]
  constructor
  · rintro ⟨d, hd, ho⟩
    obtain ⟨i, hi, rfl⟩ := Vector.mem_iff_getElem.mp (Vector.mem_toList_iff.mp hd)
    exact ⟨⟨i, hi⟩, by simpa using ho⟩
  · rintro ⟨i, ho⟩
    exact ⟨s.ring[i], Vector.mem_toList_iff.mpr (Vector.getElem_mem i.isLt), by simpa using ho⟩

/-- The places of the ring from the claim index on. -/
def State.ringOrder (s : State) : List (Fin 64) := (List.finRange 64).map fun n => s.claimIndex + n

theorem firstReady_eq (s : State) : s.firstReady = s.ringOrder.find? fun i => (s.ring[i]).owner == .ready := by
  have h : (List.range 64).map (fun n => (⟨n % 64, Nat.mod_lt _ (by decide)⟩ : Fin 64)) = List.finRange 64 := by decide
  unfold State.firstReady State.ringOrder
  rw [← h, List.map_map]
  rfl

theorem firstReady_none (s : State) (h : ∀ i : Fin 64, (s.ring[i]).owner ≠ .ready) : s.firstReady = none := by
  rw [firstReady_eq, List.find?_eq_none]
  exact fun i _ => by simpa using h i

theorem firstReady_some (s : State) (i : Fin 64) (hi : (s.ring[s.claimIndex + i]).owner = .ready)
    (hj : ∀ j : Fin 64, j < i → (s.ring[s.claimIndex + j]).owner ≠ .ready) :
    s.firstReady = some (s.claimIndex + i) := by
  rw [firstReady_eq, State.ringOrder, List.find?_map, Option.map_eq_some_iff]
  refine ⟨i, ?_, rfl⟩
  rw [List.find?_eq_some_iff_getElem]
  refine ⟨by simpa using hi, i.val, by simp, by simp, fun j hj' => ?_⟩
  have hlt : j < 64 := hj'.trans i.isLt
  simpa using hj ⟨j, hlt⟩ hj'

/-- The ports of the taps in STARVED or CLOSING. -/
def State.strainedPorts (s : State) : List (Fin 8) :=
  allPorts.filter fun k => match s.taps[k] with
    | some x => x.state == .starved || x.state == .closing
    | none => false

theorem mem_strainedPorts (s : State) (k : Fin 8) :
    k ∈ s.strainedPorts ↔ ∃ x : Tap, s.taps[k] = some x ∧ (x.state = .starved ∨ x.state = .closing) := by
  simp only [State.strainedPorts, List.mem_filter, mem_allPorts, true_and]
  cases hx : s.taps[k] <;> simp

theorem strainedTaps_octets (s : State) (f : Fin 8 → Tap → List Octet) (l : List (Fin 8)) :
    ((l.filterMap fun k => match s.taps[k] with
      | some t => if t.state = .starved ∨ t.state = .closing then some (k, t) else none
      | none => none).flatMap fun e => f e.1 e.2) =
    (l.filter fun k => match s.taps[k] with
      | some x => x.state == .starved || x.state == .closing
      | none => false).flatMap fun k => match s.taps[k] with
        | some x => f k x
        | none => [] := by
  induction l with
  | nil => rfl
  | cons k l ih =>
    cases hx : s.taps[k] with
    | none => simp [-Fin.getElem_fin, hx, ih]
    | some x =>
      by_cases hs : x.state = .starved ∨ x.state = .closing
      · simp [-Fin.getElem_fin, hx, hs, ih]
      · simp [-Fin.getElem_fin, hx, hs, ih]

theorem strainedPorts_sorted (s : State) : s.strainedPorts.Pairwise (· < ·) :=
  List.Pairwise.filter _ (by decide : allPorts.Pairwise (· < ·))

theorem strainedTaps_length (s : State) : s.strainedTaps.length = s.strainedPorts.length := by
  unfold State.strainedTaps State.strainedPorts
  induction allPorts with
  | nil => rfl
  | cons k l ih =>
    cases hx : s.taps[k] with
    | none => simp [-Fin.getElem_fin, hx, ih]
    | some x =>
      by_cases hs : x.state = .starved ∨ x.state = .closing
      · simp [-Fin.getElem_fin, hx, hs, ih]
      · simp [-Fin.getElem_fin, hx, hs, ih]

theorem status_answered (s : State) : ∃ fields : List Octet,
    exec .status s = .next { s with recorderAnswer := some ⟨1#8, .done, fields⟩ } ∧
    fields[0]? = some (BitVec.ofNat 8 (s.ring.toList.countP fun d => d.owner == .ready)) ∧
    fields[2]? = some (BitVec.ofNat 8 (s.ring.toList.countP fun d => d.owner == .filling)) ∧
    ((∀ i : Fin 64, (s.ring[i]).owner ≠ .ready) → fields[1]? = some 255#8) ∧
    (∀ i : Fin 64, (s.ring[s.claimIndex + i]).owner = .ready →
      (∀ j : Fin 64, j < i → (s.ring[s.claimIndex + j]).owner ≠ .ready) →
      fields[1]? = some (BitVec.ofNat 8 (s.claimIndex + i).val)) ∧
    ∃ strained : List (Fin 8), strained.Pairwise (· < ·) ∧
      (∀ k : Fin 8, k ∈ strained ↔ ∃ x : Tap, s.taps[k] = some x ∧ (x.state = .starved ∨ x.state = .closing)) ∧
      fields.drop 3 = BitVec.ofNat 8 strained.length :: strained.flatMap fun k =>
        match s.taps[k] with
        | some x => [BitVec.ofNat 8 k.val, if x.state = .starved then 2#8 else 3#8] ++ octets16 x.lostPairs
        | none => [] := by
  have hcount (o : Owner) : s.countOwner o = s.ring.toList.countP fun d => d.owner == o := List.countP_eq_length_filter.symm
  refine ⟨s.statusFields, rfl, ?_, ?_, fun h => ?_, fun i hi hj => ?_, s.strainedPorts, strainedPorts_sorted s,
    mem_strainedPorts s, ?_⟩
  · simp [State.statusFields, hcount, octet]
  · simp [State.statusFields, hcount, octet]
  · simp [State.statusFields, firstReady_none s h]
  · simp [State.statusFields, firstReady_some s i hi hj, octet]
  · have hoctets := strainedTaps_octets s (fun k x => [octet k.val, octet x.state.code] ++ octets16 x.lostPairs) allPorts
    have hdrop : s.statusFields.drop 3 = octet s.strainedTaps.length :: s.strainedTaps.flatMap fun e =>
        [octet e.1.val, octet e.2.state.code] ++ octets16 e.2.lostPairs := rfl
    rw [hdrop, strainedTaps_length]
    refine congrArg _ (hoctets.trans (List.flatMap_congr fun k hk => ?_))
    obtain ⟨x, hx, hs⟩ := (mem_strainedPorts s k).mp hk
    rw [hx]
    rcases hs with hs | hs <;> simp [hs, TapState.code, octet]

/-- What a request that names a descriptor is answered before its own checks. -/
theorem descriptorRefusal_ready (s : State) (index : Octet) (i : Fin 64) (h : index.toNat = i.val)
    (ho : (s.ring[i]).owner = .ready) (more : List (Bool × Verdict)) : s.descriptorRefusal index more = firstVerdict more := by
  simp [State.descriptorRefusal, outOf_val index i h, State.readyAt, atIndex_val index i h, -Fin.getElem_fin, ho]
theorem descriptorRefusal_out (s : State) (index : Octet) (h : 63 < index.toNat) (more : List (Bool × Verdict)) :
    s.descriptorRefusal index more = some .badRange := by
  simp [State.descriptorRefusal, outOf_ge index (show 64 ≤ index.toNat by omega)]
theorem descriptorRefusal_notReady (s : State) (index : Octet) (i : Fin 64) (h : index.toNat = i.val)
    (ho : (s.ring[i]).owner ≠ .ready) (more : List (Bool × Verdict)) :
    s.descriptorRefusal index more = some .notReady := by
  simp [State.descriptorRefusal, outOf_val index i h, State.readyAt, atIndex_val index i h, -Fin.getElem_fin, ho]
theorem descriptorAt_val (s : State) (index : Octet) (i : Fin 64) (h : index.toNat = i.val) :
    s.descriptorAt index = s.ring[i] := by
  unfold State.descriptorAt; rw [indexOf_val index i h]

/-- Settles O1. -/
theorem recorderRequestsAreAnswered : Obligations.RecorderRequestsAreAnswered := by
  refine ⟨fun s => ⟨readyOutput_iff s, status_answered s⟩, fun s index i h ho => ?_, fun s index offset count => ⟨fun h => ?_,
    fun i h ho => ?_⟩⟩
  · have hready := descriptorRefusal_ready s index i h ho
    have hat := descriptorAt_val s index i h
    refine ⟨?_, fun offset count h0 hle => ?_, fun offset count hbad => ?_, ?_⟩
    · exact congrArg _ ((recorderRequest_pass _ _ _ _ s (hready [])).trans (by rw [hat]; rfl))
    · refine congrArg _ ((recorderRequest_pass _ _ _ _ s ((hready _).trans ?_)).trans (by rw [hat]; rfl))
      have hne : count ≠ 0#16 := fun e => by rw [e] at h0; exact absurd h0 (by decide)
      simp [hat, Descriptor.badRange, hne]
      omega
    · refine congrArg _ (recorderRequest_refused _ .badRange _ _ _ s ((hready _).trans ?_))
      have hbad' : (s.ring[i]).badRange offset count = true := by
        rcases hbad with h0 | hgt
        · simp [Descriptor.badRange, BitVec.eq_of_toNat_eq (show count.toNat = (0#16).toNat by simpa using h0)]
        · simp [Descriptor.badRange]; right; exact hgt
      simp only [hat, firstVerdict_cons, hbad', if_true]
    · refine congrArg _ ((recorderRequest_pass _ _ _ _ s (hready [])).trans ?_)
      rw [onIndex_val index i h]; rfl
  · have hout := descriptorRefusal_out s index h
    exact ⟨congrArg _ (recorderRequest_refused _ _ _ _ _ s (hout _)), congrArg _ (recorderRequest_refused _ _ _ _ _ s (hout _)),
      congrArg _ (recorderRequest_refused _ _ _ _ _ s (hout _))⟩
  · have hnot := descriptorRefusal_notReady s index i h ho
    exact ⟨congrArg _ (recorderRequest_refused _ _ _ _ _ s (hnot _)), congrArg _ (recorderRequest_refused _ _ _ _ _ s (hnot _)),
      congrArg _ (recorderRequest_refused _ _ _ _ _ s (hnot _))⟩

end Sys2Proof.Machine
end

section
/-! PROOFS. Request messages: written and read (O3). -/

namespace Sys2Proof.Machine

/-! ### Octets and numbers -/

theorem word16_toNat (h l : Octet) : (word16 h l).toNat = 256 * h.toNat + l.toNat := by
  unfold word16
  rw [BitVec.toNat_append, ← Nat.shiftLeft_add_eq_or_of_lt l.isLt, Nat.shiftLeft_eq]; omega
theorem word16_octets (w : BitVec 16) : word16 ((w >>> 8).setWidth 8) (w.setWidth 8) = w := by
  apply BitVec.eq_of_toNat_eq
  rw [word16_toNat, BitVec.toNat_setWidth, BitVec.toNat_setWidth, BitVec.toNat_ushiftRight, Nat.shiftRight_eq_div_pow]
  have := w.isLt
  omega
theorem octets16_word (h l : Octet) : octets16 (word16 h l) = [h, l] := by
  have hh := h.isLt
  have hl := l.isLt
  have e1 : (word16 h l >>> 8).setWidth 8 = h := BitVec.eq_of_toNat_eq (by
    rw [BitVec.toNat_setWidth, BitVec.toNat_ushiftRight, word16_toNat, Nat.shiftRight_eq_div_pow]; omega)
  have e2 : (word16 h l).setWidth 8 = l := BitVec.eq_of_toNat_eq (by rw [BitVec.toNat_setWidth, word16_toNat]; omega)
  rw [octets16, e1, e2]

/-! ### Fields -/

theorem noFields_iff (c d : Instr) (l : List Octet) : noFields c l = some d ↔ l = [] ∧ c = d := by
  cases l <;> simp [noFields]
theorem oneField_iff (f : Octet → Instr) (d : Instr) (l : List Octet) :
    oneField f l = some d ↔ ∃ a, l = [a] ∧ f a = d := by
  unfold oneField; split <;> simp_all
theorem twoFields_iff (f : Octet → Octet → Instr) (d : Instr) (l : List Octet) :
    twoFields f l = some d ↔ ∃ a b, l = [a, b] ∧ f a b = d := by
  unfold twoFields; split <;> simp_all
theorem threeFields_iff (f : Octet → Octet → Octet → Instr) (d : Instr) (l : List Octet) :
    threeFields f l = some d ↔ ∃ a b c, l = [a, b, c] ∧ f a b c = d := by
  unfold threeFields; split <;> simp_all
theorem markOfOctet_iff (o : Octet) (m : Bool) : markOfOctet o = some m ↔ o = octetOfBool m := by
  unfold markOfOctet
  split
  · next h =>
    have : o = 0#8 := BitVec.eq_of_toNat_eq h
    subst this; cases m <;> simp [octetOfBool]
  · next h =>
    have : o = 1#8 := BitVec.eq_of_toNat_eq h
    subst this; cases m <;> simp [octetOfBool]
  · next h0 h1 =>
    simp only [reduceCtorEq, false_iff]
    rintro rfl
    cases m <;> simp [octetOfBool] at h0 h1
theorem fieldAndMark_iff (f : Octet → Bool → Instr) (d : Instr) (l : List Octet) :
    fieldAndMark f l = some d ↔ ∃ a m, l = [a, octetOfBool m] ∧ f a m = d := by
  unfold fieldAndMark
  split
  · simp only [Option.map_eq_some_iff, markOfOctet_iff]; aesop
  · simp_all
theorem readLineForce_iff (d : Instr) (l : List Octet) :
    readLineForce l = some d ↔ ∃ p, l = [p, 0#8] ∧ d = .forceOoa p ∨ l = [p, 1#8] ∧ d = .forceRd p ∨
      l = [p, 2#8] ∧ d = .forceNone p := by
  have hval (o : Octet) (n : Nat) (h : o.toNat = n) : o = BitVec.ofNat 8 n := by subst h; simp
  unfold readLineForce
  split
  · next p form =>
    split
    · next h => cases hval form 0 h; simp; aesop
    · next h => cases hval form 1 h; simp; aesop
    · next h => cases hval form 2 h; simp; aesop
    · next h0 h1 h2 =>
      simp only [reduceCtorEq, List.cons.injEq, and_true, false_iff, not_exists, not_or, not_and]
      exact fun q => ⟨fun h => absurd (by rw [h.2]; rfl) h0, fun h => absurd (by rw [h.2]; rfl) h1,
        fun h => absurd (by rw [h.2]; rfl) h2⟩
  · next hl =>
    simp only [reduceCtorEq, false_iff, not_exists, not_or, not_and]
    exact fun p => ⟨fun h => absurd h (hl p _), fun h => absurd h (hl p _), fun h => absurd h (hl p _)⟩
theorem readRemoteMute_iff (d : Instr) (l : List Octet) :
    readRemoteMute l = some d ↔ ∃ st k m, l = [st, k, octetOfBool m] ∧ d = .remoteMute st k m := by
  unfold readRemoteMute
  split
  · simp only [Option.map_eq_some_iff, markOfOctet_iff]; aesop
  · simp_all
theorem readBind_iff (d : Instr) (l : List Octet) :
    readBind l = some d ↔ ∃ k kind n, l = [k, kind] ++ octets16 n ∧ d = .bind k kind n := by
  unfold readBind
  split
  · next k kind h lo =>
    constructor
    · intro e; cases e; exact ⟨k, kind, _, by simp [octets16_word], rfl⟩
    · rintro ⟨k', kind', n, hl, rfl⟩
      simp only [octets16, List.cons_append, List.nil_append, List.cons.injEq, and_true] at hl
      obtain ⟨rfl, rfl, rfl, rfl⟩ := hl
      rw [word16_octets]
  · next hl =>
    simp only [reduceCtorEq, false_iff, not_exists, not_and]
    exact fun k kind n h => absurd h (hl k kind _ _)
theorem readEventMask_iff (d : Instr) (l : List Octet) :
    readEventMask l = some d ↔ ∃ n m, l = octets16 n ++ [octetOfBool m] ∧ d = .eventMask n m := by
  unfold readEventMask
  split
  · next h lo mark =>
    simp only [Option.map_eq_some_iff, markOfOctet_iff]
    constructor
    · rintro ⟨m, rfl, rfl⟩; exact ⟨_, m, by simp [octets16_word], rfl⟩
    · rintro ⟨n, m, hl, rfl⟩
      simp only [octets16, List.cons_append, List.nil_append, List.cons.injEq, and_true] at hl
      obtain ⟨rfl, rfl, rfl⟩ := hl
      exact ⟨m, rfl, by rw [word16_octets]⟩
  · next hl =>
    simp only [reduceCtorEq, false_iff, not_exists, not_and]
    exact fun n m h => absurd h (hl _ _ _)
theorem readReadAudio_iff (d : Instr) (l : List Octet) :
    readReadAudio l = some d ↔ ∃ i o n, l = i :: octets16 o ++ octets16 n ∧ d = .readAudio i o n := by
  unfold readReadAudio
  split
  · next i o1 o2 n1 n2 =>
    constructor
    · intro e; cases e; exact ⟨i, _, _, by simp [octets16_word], rfl⟩
    · rintro ⟨i', o, n, hl, rfl⟩
      simp only [octets16, List.cons_append, List.nil_append, List.cons.injEq, and_true] at hl
      obtain ⟨rfl, rfl, rfl, rfl, rfl⟩ := hl
      rw [word16_octets, word16_octets]
  · next hl =>
    simp only [reduceCtorEq, false_iff, not_exists, not_and]
    exact fun i o n h => absurd h (hl i _ _ _ _)


/-! ### Kinds -/

/-- The request that is written so is read from the kind and the fields of a panel message. -/
theorem panelFields_read (kind : Nat) (l : List Octet) (c : Instr) (h : panelFields c = some (kind, l)) :
    readPanelRequest kind l = some c := by
  cases c <;> cases h
  case bind k kind n => exact (readBind_iff ..).mpr ⟨k, kind, n, rfl, rfl⟩
  case eventMask n m => exact (readEventMask_iff ..).mpr ⟨n, m, rfl, rfl⟩
  case privacy a m | mute a m | channelMute a m | conditionMask a m => cases m <;> rfl
  case remoteMute st k m => cases m <;> rfl
  all_goals rfl

/-- A panel message's kind and fields are read as the request that is written so. -/
theorem readPanelRequest_fields (kind : Nat) (l : List Octet) (c : Instr) (h : readPanelRequest kind l = some c) :
    panelFields c = some (kind, l) := by
  unfold readPanelRequest at h
  split at h
  case h_3 =>
    obtain ⟨p, m, rfl, rfl⟩ := (fieldAndMark_iff ..).mp h
    cases m <;> rfl
  case h_4 => obtain ⟨p, ⟨rfl, rfl⟩ | ⟨rfl, rfl⟩ | ⟨rfl, rfl⟩⟩ := (readLineForce_iff ..).mp h <;> rfl
  case h_1 | h_2 | h_34 | h_36 | h_38 => obtain ⟨rfl, rfl⟩ := (noFields_iff ..).mp h; rfl
  case h_5 | h_6 | h_10 | h_17 | h_18 | h_19 | h_20 | h_21 | h_22 | h_23 | h_26 | h_27 | h_28 | h_29 =>
    obtain ⟨a, rfl, rfl⟩ := (oneField_iff ..).mp h; rfl
  case h_7 | h_8 | h_9 | h_13 | h_16 | h_30 | h_31 | h_33 | h_39 =>
    obtain ⟨a, b, rfl, rfl⟩ := (twoFields_iff ..).mp h; rfl
  case h_14 | h_15 => obtain ⟨a, b, c, rfl, rfl⟩ := (threeFields_iff ..).mp h; rfl
  case h_11 | h_12 | h_32 | h_37 => obtain ⟨a, m, rfl, rfl⟩ := (fieldAndMark_iff ..).mp h; rfl
  case h_24 => obtain ⟨st, k, m, rfl, rfl⟩ := (readRemoteMute_iff ..).mp h; rfl
  case h_25 => obtain ⟨k, kind, n, rfl, rfl⟩ := (readBind_iff ..).mp h; rfl
  case h_35 => obtain ⟨n, m, rfl, rfl⟩ := (readEventMask_iff ..).mp h; rfl
  case h_40 => cases h

theorem readPanelRequest_iff (kind : Nat) (l : List Octet) (c : Instr) :
    readPanelRequest kind l = some c ↔ panelFields c = some (kind, l) :=
  ⟨readPanelRequest_fields kind l c, panelFields_read kind l c⟩

theorem readRecorderRequest_iff (kind : Nat) (l : List Octet) (c : Instr) :
    readRecorderRequest kind l = some c ↔ recorderFields c = some (kind, l) := by
  constructor <;> intro h
  · unfold readRecorderRequest at h
    split at h
    case h_1 => obtain ⟨rfl, rfl⟩ := (noFields_iff ..).mp h; rfl
    case h_2 | h_4 => obtain ⟨a, rfl, rfl⟩ := (oneField_iff ..).mp h; rfl
    case h_3 => obtain ⟨i, o, n, rfl, rfl⟩ := (readReadAudio_iff ..).mp h; rfl
    case h_5 => cases h
  · cases c <;> cases h
    case mpr.readAudio.refl i o n => exact (readReadAudio_iff ..).mpr ⟨i, o, n, rfl, rfl⟩
    all_goals rfl

/-- A kind is one octet, and no request has more than five octets of fields. -/
theorem requestFields_small (recorder : Bool) (c : Instr) (kind : Nat) (l : List Octet)
    (h : (if recorder then recorderFields c else panelFields c) = some (kind, l)) : kind < 256 ∧ l.length ≤ 5 := by
  cases recorder <;> cases c <;> cases h
  all_goals exact ⟨by decide, by simp [octets16]⟩

/-! ### Messages -/

theorem readRequest_message (recorder : Bool) (l1 l2 kind : Octet) (fields : List Octet) :
    readRequest recorder (l1 :: l2 :: kind :: fields) =
      if (word16 l1 l2).toNat = fields.length + 1 then
        if recorder then readRecorderRequest kind.toNat fields else readPanelRequest kind.toNat fields
      else none := rfl

/-- Settles O3: kind by kind, what a message is read as is what is written as it. -/
theorem requestMessagesAreReadAsWritten : Obligations.RequestMessagesAreReadAsWritten := by
  intro recorder c octets
  have hread (kind : Nat) (l : List Octet) :
      (if recorder then readRecorderRequest kind l else readPanelRequest kind l) = some c ↔
        (if recorder then recorderFields c else panelFields c) = some (kind, l) := by
    cases recorder
    · exact readPanelRequest_iff kind l c
    · exact readRecorderRequest_iff kind l c
  unfold requestMessage
  rw [Option.map_eq_some_iff]
  constructor
  · rintro ⟨⟨kind, l⟩, hf, rfl⟩
    obtain ⟨hk, hl⟩ := requestFields_small recorder c kind l hf
    have hkind : (octet kind).toNat = kind := by simp [octet]; omega
    show readRequest recorder (_ :: _ :: octet kind :: l) = some c
    rw [readRequest_message, word16_octets, if_pos (by simp; omega), hkind]
    exact (hread kind l).mpr hf
  · intro h
    unfold readRequest at h
    split at h
    · next l1 l2 kind fields =>
      split at h
      · next hlen =>
        refine ⟨(kind.toNat, fields), (hread _ _).mp h, ?_⟩
        have hlength : BitVec.ofNat 16 (fields.length + 1) = word16 l1 l2 := by rw [← hlen]; simp
        show octets16 (BitVec.ofNat 16 (fields.length + 1)) ++ octet kind.toNat :: fields = _
        rw [hlength, octets16_word]
        simp [octet]
      · cases h
    · cases h

end Sys2Proof.Machine
end

section
/-! PROOFS. The panel port's own requests, its notices and its views (O2). -/

namespace Sys2Proof.Machine

/-! ### Malformed messages -/

theorem malformed_unread {octets : List Octet} {s : State} (h : readRequest false octets = none)
    (ha : s.panelAnswers = true) : exec (.malformedMessage false octets) s =
      .next { s with panelAnswer := some ⟨octets.getD 2 0#8, s.unreadVerdict octets, []⟩ } := by
  refine congrArg _ ((if_neg (by simp [h])).trans ?_)
  rw [if_neg (by simp), if_pos ha]
  rfl

/-- A message of a mark or form behind its other fields. -/
theorem readRequest_marked (kind v : Octet) (fields : List Octet) (h : fields.length ≤ 2) :
    readRequest false ([0#8, BitVec.ofNat 8 (fields.length + 2), kind] ++ fields ++ [v]) =
      readPanelRequest kind.toNat (fields ++ [v]) := by
  show readRequest false (0#8 :: BitVec.ofNat 8 (fields.length + 2) :: kind :: (fields ++ [v])) = _
  rw [readRequest_message, if_pos]
  · rfl
  · rw [word16_toNat, List.length_append]; simp; omega

theorem markOfOctet_uncoded (v : Octet) (h : 1 < v.toNat) : markOfOctet v = none := by
  unfold markOfOctet
  split <;> first | omega | rfl

/-- A message whose mark or form has no coding is refused by the owning rule's first checks, then BAD_VALUE. -/
theorem malformed_uncoded {kind v : Octet} {fields : List Octet} {s : State} {c : Instr} (hl : fields.length ≤ 2)
    (ha : s.panelAnswers = true) (hnone : readPanelRequest kind.toNat (fields ++ [v]) = none)
    (hsome : readPanelRequest kind.toNat (fields ++ [0#8]) = some c) :
    exec (.malformedMessage false ([0#8, BitVec.ofNat 8 (fields.length + 2), kind] ++ fields ++ [v])) s =
      .next { s with panelAnswer := some ⟨kind, s.uncodedVerdict c, []⟩ } := by
  have hread := (readRequest_marked kind v fields hl).trans hnone
  refine (malformed_unread hread ha).trans ?_
  have hdrop : ([0#8, BitVec.ofNat 8 (fields.length + 2), kind] ++ fields ++ [v]).dropLast =
      [0#8, BitVec.ofNat 8 (fields.length + 2), kind] ++ fields := List.dropLast_concat
  have huncoded : readUncoded ([0#8, BitVec.ofNat 8 (fields.length + 2), kind] ++ fields ++ [v]) = some c := by
    unfold readUncoded
    rw [if_neg (by rw [hread]; exact nofun), hdrop]
    exact (readRequest_marked kind 0#8 fields hl).trans hsome
  unfold State.unreadVerdict
  rw [huncoded]
  rfl

/-- The verdict of two checks before the value is refused. -/
theorem uncoded_verdict (taken inTable : Bool) (more : List (Bool × Verdict)) (hm : more = []) :
    (firstVerdict ([(!taken, .notActive), (!inTable, .badIndex)] ++ more)).getD .badValue =
      if taken = false then .notActive else if inTable = false then .badIndex else .badValue := by
  subst hm; cases taken <;> cases inTable <;> rfl

theorem malformed_marks (s : State) (octets : List Octet) (kind v : Octet) (fields : List Octet) (taken inTable : Bool)
    (ha : s.panelAnswers = true) (hv : 1 < v.toNat)
    (ho : octets = [0#8, BitVec.ofNat 8 (fields.length + 2), kind] ++ fields ++ [v])
    (h : (∃ h : Octet, fields = [h] ∧ inTable = decide (h.toNat ≤ 1) ∧
            (kind = 11#8 ∧ taken = decide (s.stationState = .active) ∨ kind = 12#8 ∧ taken = s.loaded)) ∨
          (∃ c : Octet, fields = [c] ∧ inTable = decide (c.toNat ≤ 7) ∧ kind = 32#8 ∧ taken = s.loaded) ∨
          (∃ st c : Octet, fields = [st, c] ∧ inTable = decide (c.toNat ≤ 7) ∧ kind = 24#8 ∧
            taken = decide (s.stationState = .active)) ∨
          (∃ views : Octet, fields = [views] ∧ inTable = decide (views.toNat ≤ 31) ∧ kind = 37#8 ∧ taken = true) ∨
          (∃ high low : Octet, fields = [high, low] ∧ inTable = true ∧ kind = 35#8 ∧ taken = true) ∨
          (∃ port : Octet, fields = [port] ∧ inTable = decide (∃ k : Fin 8, port.toNat = k.val ∧ s.used k = true) ∧
            (kind = 3#8 ∨ kind = 4#8 ∧ 2 < v.toNat) ∧ taken = s.loaded)) :
    exec (.malformedMessage false octets) s = .next { s with
      panelAnswer := some ⟨kind,
        if taken = false then .notActive else if inTable = false then .badIndex else .badValue, []⟩ } := by
  subst ho
  have hmark := markOfOctet_uncoded v hv
  have hactive : s.isActive = decide (s.stationState = .active) := rfl
  have hout (n : Nat) (o : Octet) : outOf (n + 1) o = !decide (o.toNat ≤ n) := by
    rw [Bool.eq_iff_iff, outOf, decide_eq_true_iff, Bool.not_eq_true', decide_eq_false_iff_not]; omega
  have answered {c : Instr} (hl : fields.length ≤ 2) (hnone : readPanelRequest kind.toNat (fields ++ [v]) = none)
      (hsome : readPanelRequest kind.toNat (fields ++ [0#8]) = some c)
      (hverdict : s.uncodedVerdict c = if taken = false then .notActive else if inTable = false then .badIndex
        else .badValue) := (malformed_uncoded hl ha hnone hsome).trans (by rw [hverdict])
  have marked {f : Octet → Bool → Instr} {a : Octet} : fieldAndMark f [a, v] = none := by simp [fieldAndMark, hmark]
  obtain ⟨o, rfl, rfl, ⟨rfl, rfl⟩ | ⟨rfl, rfl⟩⟩ | ⟨o, rfl, rfl, rfl, rfl⟩ | ⟨st, o, rfl, rfl, rfl, rfl⟩ |
    ⟨o, rfl, rfl, rfl, rfl⟩ | ⟨high, low, rfl, rfl, rfl, rfl⟩ | ⟨o, rfl, rfl, hkind, rfl⟩ := h
  · exact answered (c := .privacy o false) (by simp) marked rfl (by
      rw [← hactive, ← uncoded_verdict _ _ [] rfl, ← hout]; rfl)
  · exact answered (c := .mute o false) (by simp) marked rfl (by rw [← uncoded_verdict _ _ [] rfl, ← hout]; rfl)
  · exact answered (c := .channelMute o false) (by simp) marked rfl (by rw [← uncoded_verdict _ _ [] rfl, ← hout]; rfl)
  · exact answered (c := .remoteMute st o false) (by simp) (by
      show readRemoteMute [st, o, v] = none
      simp [readRemoteMute, hmark]) rfl (by rw [← hactive, ← uncoded_verdict _ _ [] rfl, ← hout]; rfl)
  · exact answered (c := .conditionMask o false) (by simp) marked rfl (by
      rw [← uncoded_verdict _ _ [] rfl, ← hout]; rfl)
  · exact answered (c := .eventMask (word16 high low) false) (by simp) (by
      show readEventMask [high, low, v] = none
      simp [readEventMask, hmark]) rfl rfl
  · have hport : atIndex o s.used = decide (∃ k : Fin 8, o.toNat = k.val ∧ s.used k = true) := by
      rw [Bool.eq_iff_iff, decide_eq_true_iff]
      unfold atIndex indexOf
      by_cases ho : o.toNat < 8
      · rw [dif_pos ho]
        exact ⟨fun h => ⟨_, rfl, h⟩, fun ⟨k, hk, h⟩ => by rwa [show (⟨o.toNat, ho⟩ : Fin 8) = k from Fin.ext hk]⟩
      · rw [dif_neg ho]
        exact ⟨nofun, fun ⟨k, hk, _⟩ => absurd (hk ▸ k.isLt) ho⟩
    have hverdict : (s.portRefusal o).getD .badValue = if s.loaded = false then .notActive else
        if decide (∃ k : Fin 8, o.toNat = k.val ∧ s.used k = true) = false then .badIndex else .badValue := by
      rw [← hport]; exact uncoded_verdict _ _ [] rfl
    obtain rfl | ⟨rfl, hv2⟩ := hkind
    · exact answered (c := .linePortIn o) (by simp)
        (marked (f := fun port out => if out then .linePortOut port else .linePortIn port)) rfl hverdict
    · refine answered (c := .forceOoa o) (by simp) ?_ rfl hverdict
      show readLineForce [o, v] = none
      unfold readLineForce
      dsimp only
      split <;> first | omega | rfl

/-! ### Notices -/

theorem overflow_next (o : Octet) :
    (if o = 255#8 then 255#8 else o + 1#8) = BitVec.ofNat 8 (min 255 (o.toNat + 1)) := by
  have := o.isLt
  split
  · next h => subst h; rfl
  · next h =>
    have hne : o.toNat ≠ 255 := fun e => h (BitVec.eq_of_toNat_eq e)
    apply BitVec.eq_of_toNat_eq
    rw [BitVec.toNat_add, BitVec.toNat_ofNat, BitVec.toNat_ofNat]
    omega

theorem readEvent_answered {s : State} (ha : s.panelAnswers = true) : exec .readEvent s = .next { s with
    notices := s.notices.tail, overflow := 0#8, panelAnswer := some ⟨34#8, .done, s.eventFields⟩ } :=
  congrArg _ (panelRequest_pass 34 none s.eventFields _ s ha rfl)

/-! ### Views -/

theorem mem_allEntries (e : ViewEntry) : e ∈ allEntries := by
  unfold allEntries
  simp only [List.mem_append, List.mem_map, List.mem_finRange, true_and, List.mem_singleton]
  cases e with
  | lamp k => exact .inl (.inl (.inl (.inl ⟨k, rfl⟩)))
  | talker k => exact .inl (.inl (.inl (.inr ⟨k, mem_allPorts k, rfl⟩)))
  | handset h => exact .inl (.inl (.inr ⟨h, by revert h; decide, rfl⟩))
  | alarm k => exact .inl (.inr ⟨k, mem_allPorts k, rfl⟩)
  | station => exact .inr rfl

/-- The number of the view of an entry. -/
def ViewEntry.viewNumber : ViewEntry → Nat
  | .lamp _ => 0 | .talker _ => 1 | .handset _ => 2 | .alarm _ => 3 | .station => 4

theorem any_id_iff {n : Nat} (v : Vector Bool n) : v.toList.any id = true ↔ ∃ i : Fin n, v[i] = true := by
  rw [List.any_eq_true]
  constructor
  · rintro ⟨b, hb, hid⟩
    obtain ⟨i, hi, rfl⟩ := Vector.mem_iff_getElem.mp (Vector.mem_toList_iff.mp hb)
    exact ⟨⟨i, hi⟩, hid⟩
  · rintro ⟨i, hi⟩
    exact ⟨v[i], Vector.mem_toList_iff.mpr (Vector.getElem_mem i.isLt), hi⟩

theorem view_iff (m : Marks) (n : Nat) : m.view n = true ↔ ∃ e : ViewEntry, e.viewNumber = n ∧ m.has e = true := by
  unfold Marks.view
  split
  · exact (any_id_iff _).trans ⟨fun ⟨i, h⟩ => ⟨.lamp i, rfl, h⟩, fun ⟨e, hn, h⟩ => by cases e <;> cases hn; exact ⟨_, h⟩⟩
  · exact (any_id_iff _).trans ⟨fun ⟨i, h⟩ => ⟨.talker i, rfl, h⟩, fun ⟨e, hn, h⟩ => by cases e <;> cases hn; exact ⟨_, h⟩⟩
  · exact (any_id_iff _).trans ⟨fun ⟨i, h⟩ => ⟨.handset i, rfl, h⟩, fun ⟨e, hn, h⟩ => by cases e <;> cases hn; exact ⟨_, h⟩⟩
  · exact (any_id_iff _).trans ⟨fun ⟨i, h⟩ => ⟨.alarm i, rfl, h⟩, fun ⟨e, hn, h⟩ => by cases e <;> cases hn; exact ⟨_, h⟩⟩
  · exact ⟨fun h => ⟨.station, rfl, h⟩, fun ⟨e, hn, h⟩ => by cases e <;> cases hn; exact h⟩
  · next h0 h1 h2 h3 h4 =>
    refine ⟨nofun, fun ⟨e, hn, _⟩ => ?_⟩
    subst hn
    cases e <;> contradiction

theorem interrupt_iff (s : State) : s.interrupt = true ↔ s.panelAnswers = true ∧
    ((∃ n ∈ s.notices, s.eventMasked.getLsbD n.event.code = false) ∨
      ∃ e : ViewEntry, s.marks.has e = true ∧ s.viewMasked.getLsbD e.viewNumber = false) := by
  unfold State.interrupt
  rw [Bool.and_eq_true, Bool.or_eq_true, List.any_eq_true, List.any_eq_true]
  simp only [Bool.not_eq_true', Bool.and_eq_true, view_iff]
  refine and_congr_right fun _ => or_congr_right ⟨?_, ?_⟩
  · rintro ⟨v, -, ⟨e, rfl, he⟩, hv⟩; exact ⟨e, he, hv⟩
  · rintro ⟨e, he, hv⟩
    exact ⟨e.viewNumber, by cases e <;> simp [ViewEntry.viewNumber], ⟨e, rfl, he⟩, hv⟩

theorem readChanges_taken (s : State) (ha : s.panelAnswers = true) : ∃ (taken : List ViewEntry) (marks : Marks),
    exec .readChanges s = .next { s with
      marks := marks
      panelAnswer := some ⟨36#8, .done, BitVec.ofNat 8 taken.length :: taken.flatMap s.entryOctets⟩ } ∧
    taken.length ≤ 16 ∧ taken <+: allEntries.filter s.marks.has ∧
    (taken.length < 16 → ∀ e : ViewEntry, marks.has e = false) ∧
    ∀ e : ViewEntry, marks.has e = (s.marks.has e && !taken.contains e) := by
  refine ⟨s.changedEntries, s.changedEntries.foldl Marks.clear s.marks,
    congrArg _ (panelRequest_pass _ _ _ _ s ha rfl), ?_, List.take_prefix .., fun hlen e => ?_, fun e => has_clears ..⟩
  · unfold State.changedEntries; simp
  · have hall : s.changedEntries = allEntries.filter s.marks.has := by
      unfold State.changedEntries at hlen ⊢
      refine List.take_of_length_le ?_
      rw [List.length_take] at hlen; omega
    rw [has_clears, hall]
    cases hm : s.marks.has e with
    | false => rfl
    | true => simp [mem_allEntries, hm]

theorem outOf_views (views : Octet) : outOf 32 views = true ↔ ∃ v : Fin 8, v.val > 4 ∧ views.getLsbD v.val = true := by
  unfold outOf
  rw [decide_eq_true_iff]
  revert views
  decide +revert

theorem conditionMask_answered (s : State) (views : Octet) (masked : Bool) (ha : s.panelAnswers = true) :
    ((∃ v : Fin 8, v.val > 4 ∧ views.getLsbD v.val = true) →
      exec (.conditionMask views masked) s = .next { s with panelAnswer := some ⟨37#8, .badIndex, []⟩ }) ∧
    ((∀ v : Fin 8, v.val > 4 → views.getLsbD v.val = false) → ∃ marks : BitVec 8,
      exec (.conditionMask views masked) s =
        .next { s with viewMasked := marks, panelAnswer := some ⟨37#8, .done, []⟩ } ∧
      ∀ v : Fin 8, marks.getLsbD v.val = if views.getLsbD v.val then masked else s.viewMasked.getLsbD v.val) := by
  refine ⟨fun h => ?_, fun h => ⟨applyMask s.viewMasked views masked, ?_, fun v => applyMask_bit _ _ _ _ v.isLt⟩⟩
  · exact congrArg _ (panelRequest_refused _ .badIndex _ _ _ s ha (by simp [(outOf_views views).mpr h]))
  · have hin : outOf 32 views = false := by
      rw [Bool.eq_false_iff, Ne, outOf_views]
      rintro ⟨v, hv, hb⟩
      rw [h v hv] at hb; cases hb
    exact congrArg _ (panelRequest_pass _ _ _ _ s ha (by simp [hin]))

theorem eventMask_answered (s : State) (kinds : BitVec 16) (masked : Bool) (ha : s.panelAnswers = true) :
    (kinds.getLsbD 0 = true →
      exec (.eventMask kinds masked) s = .next { s with panelAnswer := some ⟨35#8, .badValue, []⟩ }) ∧
    (kinds.getLsbD 0 = false → ∃ marks : BitVec 16,
      exec (.eventMask kinds masked) s =
        .next { s with eventMasked := marks, panelAnswer := some ⟨35#8, .done, []⟩ } ∧
      ∀ c : Fin 16, marks.getLsbD c.val = if kinds.getLsbD c.val then masked else s.eventMasked.getLsbD c.val) := by
  refine ⟨fun h => ?_, fun h => ⟨applyMask s.eventMasked kinds masked, ?_, fun c => applyMask_bit _ _ _ _ c.isLt⟩⟩
  · exact congrArg _ (panelRequest_refused _ .badValue _ _ _ s ha (by simp only [firstVerdict_cons, h, if_true]))
  · refine congrArg _ (panelRequest_pass _ _ _ _ s ha ?_)
    simp only [firstVerdict_cons, firstVerdict_nil, h]; rfl

/-- Settles O2. -/
theorem panelPortNoticesAndViews : Obligations.PanelPortNoticesAndViews := by
  refine ⟨⟨fun s octets => ⟨fun h => ?_, fun h hu ha => ?_, fun ha => ?_, fun recorder h => ?_, ?_⟩,
    fun s ha => ⟨fun n rest h => ?_, fun h => ?_⟩, eventMask_answered⟩, ⟨readChanges_taken, conditionMask_answered⟩,
    fun s => ⟨fun e => ⟨notify_room e s, fun h => ?_⟩, ?_⟩⟩
  · exact congrArg _ ((if_neg (by simp [h])).trans (if_pos rfl))
  · refine (malformed_unread h ha).trans ?_
    unfold State.unreadVerdict
    rw [hu]
  · refine congrArg Host.Outcome.next ?_
    split
    · rfl
    · rw [if_neg (by simp), if_neg (by simp [ha])]
  · exact congrArg _ (if_pos (Option.isSome_iff_ne_none.mpr h))
  · exact fun kind v fields taken inTable => malformed_marks s octets kind v fields taken inTable
  · refine (readEvent_answered ha).trans ?_
    simp [State.eventFields, h, Notice.octets, octet]
  · refine (readEvent_answered ha).trans ?_
    simp [State.eventFields, h]
  · rw [notify_full e s h, overflow_next]
  · refine (interrupt_iff s).trans (and_congr_right fun _ => or_congr_right (exists_congr fun e => ?_))
    cases e <;> rfl

end Sys2Proof.Machine
end

section
/-! PROOFS. The settings of an image lie in their ranges (O16). -/

namespace Sys2Proof.Machine

theorem clampWord_range {lo hi default : Nat} (h : lo ≤ default ∧ default ≤ hi) (w : BitVec 16) :
    lo ≤ (clampWord lo hi default w).1 ∧ (clampWord lo hi default w).1 ≤ hi := by
  unfold clampWord
  repeat' split
  all_goals simp; omega

/-- A numeric setting in its range is taken as it is. -/
theorem clampWord_in {lo hi default : Nat} {w : BitVec 16} (hw : w ≠ Config.unsetWord) (hl : lo ≤ w.toNat)
    (hh : w.toNat ≤ hi) : (clampWord lo hi default w).1 = w.toNat := by
  unfold clampWord
  rw [if_neg hw, if_neg (by omega), if_neg (by omega)]

theorem clampLine_range (w : BitVec 16) : (clampLine w).1.toNat ≤ 1023 := by
  have h := (clampWord_range (lo := 0) (hi := 1023) (default := 0) (by omega) w).2
  unfold clampLine
  simp only [BitVec.toNat_ofNat]
  omega

theorem clampRecall_range (w : BitVec 16) :
    (clampRecall w).1 = 0 ∨ 10 ≤ (clampRecall w).1 ∧ (clampRecall w).1 ≤ 600 := by
  unfold clampRecall
  split
  · exact .inl rfl
  · exact .inr (clampWord_range (by omega) w)

theorem clampGain_range {d : Nat} (hd : d ≤ 88) (w : BitVec 16) : (clampGain d w).1 ≤ 88 :=
  (clampWord_range (lo := 0) ⟨Nat.zero_le _, hd⟩ w).2

theorem values_get {α : Type} {n : Nat} (t : Vector (Checked α) n) (i : Fin n) : (values t)[i] = (t[i]).1 := by
  simp [values, mapTable]

theorem mapTable_get {α β : Type} {n : Nat} (v : Vector α n) (f : Fin n → α → β) (i : Fin n) :
    (mapTable v f)[i] = f i v[i] := by simp [mapTable]

/-! ### Ports -/

theorem checkSettings_port (w : SettingWords) (k : Fin 8) :
    ((checkSettings w).1.ports[k]) = (checkPortAt w.ports k).1 := by
  show (values (mapTable w.ports fun k _ => checkPortAt w.ports k))[k] = _
  rw [values_get, mapTable_get]

theorem checkPortAt_line (ports : Vector PortWords 8) (k : Fin 8) :
    (checkPortAt ports k).1.line = if repeatsLine ports k then 0#16 else (clampLine ports[k].lineNumber).1 := by
  unfold checkPortAt
  dsimp only
  split <;> rfl

/-- A line number that a port keeps stands on no lower port (R31). -/
theorem checkPortAt_alone (ports : Vector PortWords 8) {j k : Fin 8} (hjk : j < k)
    (hk : (checkPortAt ports k).1.line ≠ 0#16) : (checkPortAt ports j).1.line ≠ (checkPortAt ports k).1.line := by
  intro he
  rw [checkPortAt_line] at hk he
  rw [checkPortAt_line] at he
  split at hk
  · exact hk rfl
  · next hrep =>
    rw [if_neg hrep] at he
    split at he
    · exact hk he.symm
    · refine hrep ?_
      unfold repeatsLine
      simp only [Bool.and_eq_true, bne_iff_ne, ne_eq, List.any_eq_true, decide_eq_true_eq, beq_iff_eq]
      exact ⟨hk, j, mem_allPorts j, hjk, he⟩

theorem checkPortAt_ranges (ports : Vector PortWords 8) (k : Fin 8) (p : PortSettings) (hp : p = (checkPortAt ports k).1) :
    p.line.toNat ≤ 1023 ∧ 1 ≤ p.shareLimit ∧ p.shareLimit ≤ 6 ∧ 1 ≤ p.degradeThreshold ∧ p.degradeThreshold ≤ 500 ∧
      (p.holdRecall = 0 ∨ 10 ≤ p.holdRecall ∧ p.holdRecall ≤ 600) ∧ 1 ≤ p.alignEnter ∧ p.alignEnter ≤ 15 ∧
      1 ≤ p.alignExit ∧ p.alignExit ≤ 15 ∧ 1 ≤ p.lolSet ∧ p.lolSet ≤ 63 ∧ 1 ≤ p.lolReset ∧ p.lolReset ≤ 63 ∧
      1 ≤ p.lolClear ∧ p.lolClear ≤ 63 := by
  have hline : p.line.toNat ≤ 1023 := by
    rw [hp, checkPortAt_line]
    split
    · simp
    · exact clampLine_range _
  have hrest : p = { (checkPort ports[k]).1 with line := p.line } := by
    rw [hp]; unfold checkPortAt; dsimp only; split <;> rfl
  rw [hrest]
  have hrange {lo hi d : Nat} (h : lo ≤ d ∧ d ≤ hi) (w : BitVec 16) := clampWord_range h w
  obtain ⟨s1, s2⟩ := hrange (lo := 1) (hi := 6) (d := 4) (by omega) (ports[k]).shareLimit
  obtain ⟨d1, d2⟩ := hrange (lo := 1) (hi := 500) (d := 50) (by omega) (ports[k]).degradeThreshold
  obtain ⟨e1, e2⟩ := hrange (lo := 1) (hi := 15) (d := 3) (by omega) (ports[k]).alignEnter
  obtain ⟨x1, x2⟩ := hrange (lo := 1) (hi := 15) (d := 4) (by omega) (ports[k]).alignExit
  obtain ⟨t1, t2⟩ := hrange (lo := 1) (hi := 63) (d := 24) (by omega) (ports[k]).lolSet
  obtain ⟨r1, r2⟩ := hrange (lo := 1) (hi := 63) (d := 8) (by omega) (ports[k]).lolReset
  obtain ⟨c1, c2⟩ := hrange (lo := 1) (hi := 63) (d := 50) (by omega) (ports[k]).lolClear
  exact ⟨hline, s1, s2, d1, d2, clampRecall_range _, e1, e2, x1, x2, t1, t2, r1, r2, c1, c2⟩

/-! ### Channels and groups -/

theorem checkBinding_range (kind number : BitVec 16) :
    (∀ n, (checkBinding kind number).1 = .hoot n → 1 ≤ n ∧ n ≤ 127) ∧
    ∀ n, (checkBinding kind number).1 = .line n → 1 ≤ n.toNat ∧ n.toNat ≤ 1023 := by
  have hhoot := clampWord_range (lo := 1) (hi := 127) (default := 1) (by omega) number
  have hline := clampWord_range (lo := 1) (hi := 1023) (default := 1) (by omega) number
  unfold checkBinding
  dsimp only
  repeat' split
  · exact ⟨nofun, nofun⟩
  · exact ⟨nofun, nofun⟩
  · refine ⟨fun n hn => ?_, nofun⟩
    cases hn; exact hhoot
  · refine ⟨nofun, fun n hn => ?_⟩
    cases hn
    rw [BitVec.toNat_ofNat]; omega
  · refine ⟨nofun, fun n hn => ?_⟩
    cases hn
    rw [BitVec.toNat_ofNat]; omega

theorem checkGroups_range (count : BitVec 16) (entries : Vector (BitVec 16) 8) :
    (checkGroups count entries).1.length ≤ 8 ∧ ∀ g ∈ (checkGroups count entries).1, 1 ≤ g ∧ g ≤ 63 := by
  unfold checkGroups
  dsimp only
  constructor
  · rw [List.length_map, List.length_map]
    refine (List.length_filter_le ..).trans ?_
    simp
  · intro g hg
    obtain ⟨c, hc, rfl⟩ := List.mem_map.mp hg
    obtain ⟨w, -, rfl⟩ := List.mem_map.mp hc
    exact clampWord_range (by omega) w

/-- Settles O16. -/
theorem loadedSettingsAreInRange : Obligations.LoadedSettingsAreInRange := by
  intro w c hc
  have hports (k : Fin 8) : c.ports[k] = (checkPortAt w.ports k).1 := hc ▸ checkSettings_port w k
  obtain ⟨i1, i2⟩ := clampWord_range (lo := 1) (hi := 60) (default := 1) (by omega) w.monitorInterval
  obtain ⟨t1, t2⟩ := clampWord_range (lo := 1) (hi := 4) (default := 3) (by omega) w.talkers
  obtain ⟨h1, h2⟩ := clampWord_range (lo := 1) (hi := 1000) (default := 100) (by omega) w.hangover
  have hgate := clampWord_range (lo := 0) (hi := 32768) (default := 200) (by omega) w.gate
  obtain ⟨g1, g2⟩ := checkGroups_range w.groupCount w.groups
  have hchannel (k : Fin 8) : c.channels[k] = (checkChannel w.channels[k]).1 := by
    rw [hc]
    show (values (mapTable w.channels fun _ x => checkChannel x))[k] = _
    rw [values_get, mapTable_get]
  have hg : c.gate = (clampWord 0 32768 200 w.gate).1 := hc ▸ rfl
  refine ⟨⟨hc ▸ i1, hc ▸ i2, hc ▸ t1, hc ▸ t2, hg ▸ hgate.2, hc ▸ h1, hc ▸ h2, ?_, ?_, ?_, fun o => ?_, hc ▸ g1, hc ▸ g2⟩,
    fun k => checkPortAt_ranges w.ports k _ (hports k), fun j k hjk hj he => ?_, fun i => ?_, fun k => ?_,
    fun h => ?_, fun hne h => ?_, fun h => ?_⟩
  · rw [hc]; exact clampGain_range (by omega) _
  · rw [hc]; exact clampGain_range (by omega) _
  · rw [hc]; exact clampGain_range (by omega) _
  · rw [hc]
    show (values (mapTable w.speakerMaster fun _ x => clampGain 72 x))[o] ≤ 88
    rw [values_get, mapTable_get]
    exact clampGain_range (by omega) _
  · rw [hports, hports] at he
    rw [hports] at hj
    rcases lt_or_gt_of_ne hjk with h | h
    · exact checkPortAt_alone w.ports h (he ▸ hj) he
    · exact checkPortAt_alone w.ports h hj he.symm
  · rw [hc]
    show ((values (mapTable w.appearance fun _ x => clampLine x))[i]).toNat ≤ 1023
    rw [values_get, mapTable_get]
    exact clampLine_range _
  · rw [hchannel]
    exact ⟨clampGain_range (by omega) _, checkBinding_range _ _⟩
  · rw [hg, clampWord_in (fun e => ?_) (Nat.zero_le _) h]
    rw [e] at h; exact absurd h (by decide)
  · rw [hg]
    unfold clampWord
    rw [if_neg (show w.gate ≠ Config.unsetWord from hne), if_neg (by omega), if_pos h]
  · rw [hg, h]; rfl

end Sys2Proof.Machine
end

section
/-! PROOFS. LOAD_COMPLETE: the image's sum, CONFIG_FAULT, and what a completed load brings into being (O15). -/

namespace Sys2Proof.Machine

/-! ### The image -/

theorem getD_toNat {α : Type} (f : α → Nat) (d : α) (l : List α) (n : Nat) (h : l.length ≤ n) :
    ((List.range n).map fun i => f (l.getD i d)).sum = (l.map f).sum + (n - l.length) * f d := by
  induction l generalizing n with
  | nil => simp
  | cons a l ih =>
    obtain ⟨m, rfl⟩ : ∃ m, n = m + 1 := ⟨n - 1, by simp at h; omega⟩
    have hm : l.length ≤ m := by simpa using h
    rw [List.range_succ_eq_map]
    simp only [List.map_cons, List.map_map, List.sum_cons, List.length_cons, Nat.add_sub_add_right]
    have := ih m hm
    simp only [Function.comp_def, List.getD_cons_succ, List.getD_cons_zero] at this ⊢
    rw [this]; omega

theorem memoryWords_get (memory : List Octet) (i : Nat) :
    (memoryWords memory).getD i Config.unsetWord = word16 (memory.getD (2 * i) 0xFF#8) (memory.getD (2 * i + 1) 0xFF#8) := by
  induction memory using memoryWords.induct generalizing i with
  | case1 => simp [memoryWords]; rfl
  | case2 high =>
    cases i with
    | zero => rfl
    | succ n =>
      show Config.unsetWord = word16 (([] : List Octet).getD (2 * n + 1) 0xFF#8) (([] : List Octet).getD (2 * n + 2) 0xFF#8)
      simp; rfl
  | case3 high low rest ih =>
    cases i with
    | zero => rfl
    | succ i => exact ih i

theorem foldl_add_toNat (l : List (BitVec 16)) (a : BitVec 16) :
    (l.foldl (· + ·) a).toNat = (a.toNat + (l.map BitVec.toNat).sum) % 65536 := by
  induction l generalizing a with
  | nil => have := a.isLt; simp; omega
  | cons b l ih =>
    rw [List.foldl_cons, ih, BitVec.toNat_add, List.map_cons, List.sum_cons]
    omega

theorem imageSum_toNat (memory : List Octet) : (imageSum memory).toNat = ((List.range 2048).map fun i =>
    256 * (memory.getD (2 * i) 0xFF#8).toNat + (memory.getD (2 * i + 1) 0xFF#8).toNat).sum % 65536 := by
  have hlen : (imageOf memory).length ≤ 2048 := List.length_take_le ..
  have hget (i : Nat) (hi : i < 2048) : ((imageOf memory).getD i Config.unsetWord).toNat =
      256 * (memory.getD (2 * i) 0xFF#8).toNat + (memory.getD (2 * i + 1) 0xFF#8).toNat := by
    have htake : (imageOf memory).getD i Config.unsetWord = (memoryWords memory).getD i Config.unsetWord := by
      unfold imageOf
      rw [List.getD_eq_getElem?_getD, List.getD_eq_getElem?_getD, List.getElem?_take_of_lt (show i < Config.imageWords from hi)]
    rw [htake, memoryWords_get, word16_toNat]
  have hsum : ((List.range 2048).map fun i =>
      256 * (memory.getD (2 * i) 0xFF#8).toNat + (memory.getD (2 * i + 1) 0xFF#8).toNat) =
      (List.range 2048).map fun i => ((imageOf memory).getD i Config.unsetWord).toNat :=
    List.map_congr_left fun i hi => (hget i (List.mem_range.mp hi)).symm
  rw [hsum, getD_toNat _ _ _ _ hlen]
  unfold imageSum
  rw [foldl_add_toNat, BitVec.toNat_ofNat]
  show ((2048 - _) * 65535 % 65536 + _) % 65536 = (_ + (2048 - _) * 65535) % 65536
  omega

/-! ### Ports started -/

theorem count_zero (c : Count) : c.add 0 = c := by
  have := c.isLt
  unfold Count.add
  apply BitVec.eq_of_toNat_eq
  rw [BitVec.toNat_ofNat]; omega

theorem addLine_zero (k : Fin 8) (c : Counters) : c.addLine k 0 0 0 = c := by
  unfold Counters.addLine modifyAt
  simp only [count_zero]
  show { c with lines := c.lines.set k c.lines[k] } = c
  simp

theorem count_id {f : Counters → Counters} {s : State} (h : f s.live = s.live) : s.count f = s := by
  unfold State.count; rw [h]

/-- A port that has taken LOS from carrier-present (R40). -/
def LinePort.started (p : LinePort) (carrier : Bool) : LinePort :=
  { p with alarms := { p.alarms with los := !carrier } }

theorem startPort_port (p : LinePort) (carrier : Bool) :
    ((PortWork.start p).startPort carrier).port = p.started carrier := by
  unfold PortWork.startPort PortWork.setDefect PortWork.start LinePort.started Alarms.holds Alarms.put
  dsimp only
  split
  · next h => simp [← h]
  · rfl

/-- The notices of a port's start: LOS, where it changes. -/
def LinePort.startNotices (line : LineNo) (k : Fin 8) (p : LinePort) (carrier : Bool) : List Event :=
  if p.alarms.los = !carrier then [] else [.lineAlarm line k .los !carrier]

theorem startPort_work (p : LinePort) (carrier : Bool) :
    (PortWork.start p).startPort carrier =
      ⟨p.started carrier, if p.alarms.los = !carrier then [] else [(.los, !carrier)], 0, 0, 0⟩ := by
  unfold PortWork.startPort PortWork.setDefect PortWork.start LinePort.started Alarms.holds Alarms.put Alarms.suppresses
  dsimp only
  split
  · next h => simp [← h]
  · rfl

/-- A port's start where no record and no tap stands: the port, the notice and the alarm view's mark. -/
theorem startPort_commit {s : State} {k : Fin 8} (hr : s.records[k] = none) (ht : s.taps[k] = none) :
    s.commitPort k ((PortWork.start s.ports[k]).startPort s.carrier[k]) =
      (s.setPort k ((s.ports[k]).started s.carrier[k])).notifyAll
        ((s.ports[k]).startNotices (s.portCfg k).line k s.carrier[k]) := by
  have hcount : (s.setPort k ((s.ports[k]).started s.carrier[k])).count (·.addLine k 0 0 0) =
      s.setPort k ((s.ports[k]).started s.carrier[k]) :=
    count_id (addLine_zero k _)
  have hnotices : ((if (s.ports[k]).alarms.los = !s.carrier[k] then [] else [(Defect.los, !s.carrier[k])]).map
      fun (n : Defect × Bool) => Event.lineAlarm (s.portCfg k).line k n.1 n.2) =
      (s.ports[k]).startNotices (s.portCfg k).line k s.carrier[k] := by
    unfold LinePort.startNotices; split <;> rfl
  have hmark (t : State) (h : t.taps[k] = none) : t.markAlarm k = t := by unfold State.markAlarm; rw [h]
  have htaps (es : List Event) (t : State) : (t.notifyAll es).taps = t.taps :=
    foldl_keeps State.taps _ (fun s e => notify_taps e s) es t
  have hrecords (es : List Event) (t : State) : (t.notifyAll es).records = t.records :=
    foldl_keeps State.records _ (fun s e => notify_records e s) es t
  have hworked : s.portWorked k ((PortWork.start s.ports[k]).startPort s.carrier[k]) =
      (s.setPort k ((s.ports[k]).started s.carrier[k])).notifyAll
        ((s.ports[k]).startNotices (s.portCfg k).line k s.carrier[k]) := by
    rw [startPort_work]
    unfold State.portWorked
    dsimp only
    rw [hcount, hnotices, hmark _ (by rw [htaps]; exact ht), ite_self]
  rw [commitPort_eq, hworked, show (State.notifyAll _ _).records[k] = none by rw [hrecords]; exact hr]

/-- A notice joins the queue or is counted; nothing else changes. -/
theorem notify_alike (e : Event) (s : State) :
    s.notify e = { s with notices := (s.notify e).notices, overflow := (s.notify e).overflow } := by
  unfold State.notify; split <;> rfl

theorem notify_notices (e : Event) (s : State) :
    s.notices <+: (s.notify e).notices ∧ (s.notify e).notices.length ≤ s.notices.length + 1 := by
  unfold State.notify
  split
  · simp
  · simp

/-- What starting some ports changes: their LOS, and with it notices and marks. -/
structure State.StartsPorts (s t : State) (l : List (Fin 8)) : Prop where
  alike : t = { s with ports := t.ports, marks := t.marks, notices := t.notices, overflow := t.overflow }
  station : t.marks.station = s.marks.station
  started : ∀ k : Fin 8, t.ports[k] = if k ∈ l ∧ s.used k = true then (s.ports[k]).started s.carrier[k] else s.ports[k]
  notices : s.notices <+: t.notices ∧ t.notices.length ≤ s.notices.length + l.length
  alarms : ∀ k ∈ l, s.used k = true → s.carrier[k] = false → (s.ports[k]).alarms.los = false →
    s.notices.length + l.length ≤ 32 → ⟨.lineAlarm (s.portCfg k).line k .los true, s.stationTime⟩ ∈ t.notices

theorem startsPorts_one {s : State} {k : Fin 8} (hr : s.records[k] = none) (ht : s.taps[k] = none) :
    s.StartsPorts (s.workPort k fun _ w => w.startPort s.carrier[k]) [k] := by
  unfold State.workPort
  split
  · next hu =>
    rw [startPort_commit hr ht]
    have hports (j : Fin 8) : (s.setPort k ((s.ports[k]).started s.carrier[k])).ports[j] =
        if j ∈ [k] ∧ s.used j = true then (s.ports[j]).started s.carrier[j] else s.ports[j] := by
      by_cases hj : j = k
      · subst hj; rw [setPort_at, if_pos ⟨List.mem_singleton_self j, hu⟩]
      · rw [if_neg fun h => hj (List.mem_singleton.mp h.1)]
        simp only [setPort_ports, Fin.getElem_fin]
        exact Vector.getElem_set_ne _ _ fun e => hj (Fin.ext e.symm)
    unfold LinePort.startNotices
    split
    · next hsame =>
      refine ⟨rfl, rfl, hports, ⟨List.prefix_rfl, Nat.le_add_right ..⟩, fun j hj _ hc hl _ => ?_⟩
      rw [List.mem_singleton.mp hj] at hc hl
      rw [hc, hl] at hsame; cases hsame
    · next hdiff =>
      show s.StartsPorts (State.notify _ _) [k]
      have ha := notify_alike (.lineAlarm (s.portCfg k).line k .los !s.carrier[k])
        (s.setPort k ((s.ports[k]).started s.carrier[k]))
      have hn := notify_notices (.lineAlarm (s.portCfg k).line k .los !s.carrier[k])
        (s.setPort k ((s.ports[k]).started s.carrier[k]))
      refine ⟨?_, by rw [ha]; rfl, fun j => by rw [ha]; exact hports j, by simpa using hn, fun j hj _ hc _ hroom => ?_⟩
      · rw [ha]; rfl
      · rw [List.mem_singleton.mp hj] at hc ⊢
        rw [notify_room _ _ (by simpa using hroom), hc]
        simp
  · next hu =>
    refine ⟨rfl, rfl, fun j => ?_, ⟨List.prefix_rfl, by simp⟩, fun j hj hu' => ?_⟩
    · rw [if_neg]
      rintro ⟨hj, hu'⟩
      rw [List.mem_singleton.mp hj] at hu'; exact hu hu'
    · rw [List.mem_singleton.mp hj] at hu'; exact absurd hu' hu

theorem StartsPorts_cons {s t u : State} {k : Fin 8} {l : List (Fin 8)} (hk : k ∉ l) (h : s.StartsPorts t [k])
    (h' : t.StartsPorts u l) : s.StartsPorts u (k :: l) := by
  have hcfg : t.cfg = s.cfg := by rw [h.alike]
  have hused (j : Fin 8) : t.used j = s.used j := by
    have hst : t.stationState = s.stationState := by rw [h.alike]
    simp only [State.used, State.loaded, State.portCfg, hcfg, hst]
  have hcarrier : t.carrier = s.carrier := by rw [h.alike]
  have htime : t.stationTime = s.stationTime := by rw [h.alike]
  refine ⟨?_, h'.station.trans h.station, fun j => ?_, ⟨h.notices.1.trans h'.notices.1, ?_⟩, fun j hj hu hc hl hroom => ?_⟩
  · rw [h'.alike, h.alike]
  · rw [h'.started j, hused, hcarrier, h.started j]
    by_cases hjk : j = k
    · subst hjk; simp [hk]
    · simp [hjk]
  · have h1 := h.notices.2
    have h2 := h'.notices.2
    simp only [List.length_cons, List.length_nil] at h1 ⊢
    omega
  · rcases List.mem_cons.mp hj with rfl | hj
    · exact h'.notices.1.subset (h.alarms j (List.mem_singleton_self j) hu hc hl (by simp at hroom ⊢; omega))
    · have hjk : j ∉ [k] := fun e => hk (List.mem_singleton.mp e ▸ hj)
      have hport : t.ports[j] = s.ports[j] := by rw [h.started j, if_neg fun e => hjk e.1]
      have := h'.alarms j hj (by rw [hused]; exact hu) (by rw [hcarrier]; exact hc) (by rw [hport]; exact hl) (by
        have := h.notices.2; simp at this hroom ⊢; omega)
      rw [htime] at this
      unfold State.portCfg at this ⊢
      rwa [hcfg] at this

theorem startsPorts_foldl (l : List (Fin 8)) (hl : l.Nodup) (s : State)
    (hr : ∀ k : Fin 8, s.records[k] = none ∧ s.taps[k] = none) :
    s.StartsPorts (l.foldl (fun s k => s.workPort k fun _ w => w.startPort s.carrier[k]) s) l := by
  induction l generalizing s with
  | nil =>
    exact ⟨rfl, rfl, fun k => by simp, ⟨List.prefix_rfl, by simp⟩, fun k hk => by cases hk⟩
  | cons k l ih =>
    obtain ⟨hk, hl⟩ := List.nodup_cons.mp hl
    have h1 := startsPorts_one (hr k).1 (hr k).2
    refine StartsPorts_cons hk h1 (ih hl _ fun j => ?_)
    rw [h1.alike]
    exact hr j

/-! ### What a completed load brings into being -/

theorem mem_distinct {α : Type} [DecidableEq α] (l : List α) (a : α) : a ∈ distinct l ↔ a ∈ l := by
  have h (l acc : List α) : a ∈ l.foldl (fun acc a => if a ∈ acc then acc else acc ++ [a]) acc ↔ a ∈ acc ∨ a ∈ l := by
    induction l generalizing acc with
    | nil => simp
    | cons b l ih =>
      rw [List.foldl_cons, ih]
      by_cases hb : b ∈ acc
      · rw [if_pos hb, List.mem_cons]
        constructor
        · rintro (h | h)
          · exact .inl h
          · exact .inr (.inr h)
        · rintro (h | rfl | h)
          · exact .inl h
          · exact .inl hb
          · exact .inr h
      · rw [if_neg hb]; simp [or_assoc]
  exact (h l []).trans (by simp)

theorem newRecord_fresh (s : State) (k : Fin 8) : (s.newRecord k).members = [] ∧ (s.newRecord k).listeners = [] ∧
    (s.newRecord k).outRing = none ∧ (s.newRecord k).farSignalling = .idle ∧ (s.newRecord k).conflict = none ∧
    (s.newRecord k).privacy = (s.portCfg k).privacyDefault ∧
    (s.newRecord k).Settled (s.portCfg k) (s.ports[k]).out (s.ports[k]).alarms := by
  have hs := settle_settled .idle (s.portCfg k) (s.ports[k]).out (s.ports[k]).alarms 0
    { state := .idle, members := [], listeners := [], privacy := (s.portCfg k).privacyDefault, outRing := none
      farSignalling := .idle, conflict := none, holdOver := none, refresh := none } nofun
  refine ⟨?_, ?_, ?_, ?_, ?_, ?_, hs⟩
  all_goals
    unfold State.newRecord LineRecord.settle
    cases (s.ports[k]).out <;> simp [LineRecord.emptied]

/-- The station in the moment between the settings taken into use and its ports started (R28). -/
def State.configured (c : Settings) (clamps : Nat) (s : State) : State :=
  { (s.takeSettings c clamps).enter .listening with
    clashWindow := []
    listenTimer := some (s.blocks 300)
    panelAnswer := if c.panelPresent then s.panelAnswer else none }

theorem completeLoad_eq (w : SettingWords) (s : State) :
    s.completeLoad w = (s.configured (checkSettings w).1 (checkSettings w).2).startPorts.makeRecords := rfl

theorem configured_mirrors (c : Settings) (n : Nat) (s : State) : (s.configured c n).mirrors =
    (distinct (c.appearance.toList.filter (· != 0#16))).map fun line => ⟨line, .unknown, none, none⟩ := rfl

theorem load_refused (s : State) (memory : List Octet) (w : SettingWords) (hl : s.stationState = .loading)
    (h : imageSum memory ≠ 0#16 ∨ w.stationNumber.toNat = 0 ∨ 62 < w.stationNumber.toNat) :
    exec (.loadComplete memory w) s =
      .next { s with stationState := .configFault, marks := { s.marks with station := true } } := by
  have hbad : ¬(imageSum memory = 0#16 ∧ stationNumberGood w.stationNumber = true) := by
    rintro ⟨hs, hg⟩
    simp only [stationNumberGood, Bool.and_eq_true, decide_eq_true_eq] at hg
    obtain ⟨hlow, hhigh⟩ := hg
    have hhigh : w.stationNumber.toNat ≤ 62 := hhigh
    rcases h with h | h | h
    · exact h hs
    · omega
    · omega
  refine congrArg Host.Outcome.next ((if_pos hl).trans ?_)
  unfold State.load
  rw [if_neg hbad]
  simp [State.enter, hl]

theorem load_completes (s : State) (memory : List Octet) (w : SettingWords) (hl : s.stationState = .loading)
    (hsum : imageSum memory = 0#16) (h1 : 1 ≤ w.stationNumber.toNat) (h62 : w.stationNumber.toNat ≤ 62) :
    exec (.loadComplete memory w) s = .next (s.configured (checkSettings w).1 (checkSettings w).2).startPorts.makeRecords := by
  have hgood : stationNumberGood w.stationNumber = true := by
    simp [stationNumberGood, Config.lastStation, h1, h62]
  refine congrArg Host.Outcome.next ((if_pos hl).trans ?_)
  unfold State.load
  rw [if_pos ⟨hsum, hgood⟩, completeLoad_eq]

/-- What stands once the records and taps of started ports are made. -/
structure State.Loaded (c : Settings) (s t : State) : Prop where
  cfg : t.cfg = c
  records : ∀ k : Fin 8, t.records[k] = if ((c.ports[k]).line != 0#16) = true then some (t.newRecord k) else none
  taps : ∀ k : Fin 8, t.taps[k] = if ((c.ports[k]).line != 0#16 && (c.ports[k]).recorded) = true then some Tap.new else none
  ports : ∀ k : Fin 8, t.ports[k] = if ((c.ports[k]).line != 0#16) = true then (s.ports[k]).started s.carrier[k] else s.ports[k]

theorem makeRecords_loaded {m u : State} (hl : m.loaded = true) (h : m.StartsPorts u allPorts) :
    State.Loaded m.cfg m u.makeRecords := by
  have hcfg : u.cfg = m.cfg := by rw [h.alike]
  have hst : u.stationState = m.stationState := by rw [h.alike]
  have hused (k : Fin 8) : u.used k = ((m.cfg.ports[k]).line != 0#16) := by
    have hloaded : u.loaded = true := by rw [← hl]; simp only [State.loaded, hst]
    simp only [State.used, State.portCfg, hcfg, hloaded, Bool.true_and]
  have hmused (k : Fin 8) : m.used k = ((m.cfg.ports[k]).line != 0#16) := by
    simp only [State.used, State.portCfg, hl, Bool.true_and]
  refine ⟨hcfg, fun k => ?_, fun k => ?_, fun k => ?_⟩
  · simp only [State.makeRecords, Fin.getElem_fin, Vector.getElem_ofFn]
    rw [show (⟨k.val, k.isLt⟩ : Fin 8) = k from rfl, hused]
    rfl
  · simp only [State.makeRecords, Fin.getElem_fin, Vector.getElem_ofFn]
    rw [show (⟨k.val, k.isLt⟩ : Fin 8) = k from rfl, hused, State.portCfg, hcfg]
    rfl
  · refine (h.started k).trans ?_
    rw [hmused]
    simp only [mem_allPorts, true_and]

/-- What a completed load with checked settings leaves. -/
theorem configured_loads (c : Settings) (n : Nat) (s t : State) (hl : s.stationState = .loading)
    (hnone : ∀ k : Fin 8, s.records[k] = none ∧ s.taps[k] = none)
    (ht : t = (s.configured c n).startPorts.makeRecords) :
    t = { s with
      stationState := .listening, cfg := c, configClamps := BitVec.ofNat 16 (min 65535 n)
      listenTimer := some (s.blocks 300), clashWindow := [], masters := c.speakerMaster
      talkerLimit := c.talkers, handsets := t.handsets, channels := t.channels
      mirrors := t.mirrors, ports := t.ports, records := t.records, taps := t.taps, marks := t.marks
      notices := t.notices, overflow := t.overflow
      panelAnswer := if c.panelPresent then s.panelAnswer else none } ∧
    t.cfg = c ∧ t.marks.station = true ∧
    (∀ h : Fin 2, t.handsets[h] = { s.handsets[h] with volume := c.handsetVolume }) ∧
    (∀ k : Fin 8, t.channels[k] =
      { s.channels[k] with volume := (c.channels[k]).volume, output := (c.channels[k]).output }) ∧
    (∀ line : LineNo, (∃ i : Fin 128, line = c.appearance[i] ∧ line ≠ 0#16) ↔ ∃ m ∈ t.mirrors, m.line = line) ∧
    (∀ m ∈ t.mirrors, m.state = .unknown) ∧
    ∀ k : Fin 8,
      ((c.ports[k]).line = 0#16 → t.records[k] = none ∧ t.taps[k] = none ∧ t.ports[k] = s.ports[k]) ∧
      ((c.ports[k]).line ≠ 0#16 →
        t.ports[k] = { s.ports[k] with alarms := { (s.ports[k]).alarms with los := !s.carrier[k] } } ∧
        (s.carrier[k] = false → (s.ports[k]).alarms.los = false → s.notices.length < 25 →
          ⟨.lineAlarm (c.ports[k]).line k .los true, s.stationTime⟩ ∈ t.notices) ∧
        t.taps[k] = (if (c.ports[k]).recorded then some ⟨.idle, none, 0#16, none, 0#16, none⟩ else none) ∧
        ∃ r : LineRecord, t.records[k] = some r ∧ r.members = [] ∧ r.listeners = [] ∧ r.outRing = none ∧
          r.farSignalling = .idle ∧ r.conflict = none ∧ r.privacy = (c.ports[k]).privacyDefault ∧
          r.Settled (c.ports[k]) (s.ports[k]).out (t.ports[k]).alarms) := by
  subst ht
  have h : (s.configured c n).StartsPorts (s.configured c n).startPorts allPorts :=
    startsPorts_foldl allPorts (by decide) (s.configured c n) hnone
  generalize (s.configured c n).startPorts = u at h
  obtain ⟨hcfg, hrecord, htap, hport⟩ := makeRecords_loaded (m := s.configured c n) rfl h
  have hload : State.Loaded c s u.makeRecords := ⟨hcfg, hrecord, htap, hport⟩
  clear hcfg hrecord htap hport
  have hcfg : u.makeRecords.cfg = c := hload.cfg
  have hrecord := hload.records
  have htap := hload.taps
  have hport := hload.ports
  have hmirrors : u.makeRecords.mirrors =
      (distinct (c.appearance.toList.filter (· != 0#16))).map fun line => ⟨line, .unknown, none, none⟩ := by
    exact (congrArg State.mirrors h.alike).trans (configured_mirrors c n s)
  have hcfgk (k : Fin 8) : u.makeRecords.portCfg k = c.ports[k] := by unfold State.portCfg; rw [hcfg]
  refine ⟨?_, hcfg, ?_, ?_, ?_, ?_, ?_, fun k => ⟨fun hline => ?_, fun hline => ?_⟩⟩
  · exact congrArg (fun x : State => { x with
      records := u.makeRecords.records, taps := u.makeRecords.taps
      handsets := u.handsets, channels := u.channels, mirrors := u.mirrors }) h.alike
  · refine h.station.trans ?_
    simp [State.configured, State.enter, State.takeSettings, hl]
  · intro i
    have hu : u.handsets = mapTable s.handsets fun _ h => { h with volume := c.handsetVolume } :=
      congrArg State.handsets h.alike
    show u.handsets[i] = _
    rw [hu, mapTable_get]
  · intro k
    have hu : u.channels = mapTable s.channels fun k x =>
        { x with volume := (c.channels[k]).volume, output := (c.channels[k]).output } := congrArg State.channels h.alike
    show u.channels[k] = _
    rw [hu, mapTable_get]
  · intro line
    rw [hmirrors]
    simp only [List.mem_map, mem_distinct, List.mem_filter, exists_exists_and_eq_and, exists_eq_right, bne_iff_ne, ne_eq]
    rw [Vector.mem_toList_iff, Vector.mem_iff_getElem]
    constructor
    · rintro ⟨i, rfl, hne⟩; exact ⟨⟨i, i.isLt, rfl⟩, hne⟩
    · rintro ⟨⟨i, hi, rfl⟩, hne⟩; exact ⟨⟨i, hi⟩, rfl, hne⟩
  · rw [hmirrors]
    intro m hm
    obtain ⟨line, -, rfl⟩ := List.mem_map.mp hm
    rfl
  · rw [hrecord, htap, hport, hline]
    exact ⟨rfl, rfl, rfl⟩
  · have hline' : ((c.ports[k]).line != 0#16) = true := by simpa using hline
    refine ⟨?_, fun hc hlos hroom => ?_, ?_, u.makeRecords.newRecord k, ?_, ?_⟩
    · rw [hport, if_pos hline']; rfl
    · exact h.alarms k (mem_allPorts k) hline' hc hlos (by
        show s.notices.length + 8 ≤ 32
        omega)
    · rw [htap, hline', Bool.true_and]; rfl
    · rw [hrecord, if_pos hline']
    · obtain ⟨hm, hl, ho, hf, hc, hp, hs⟩ := newRecord_fresh u.makeRecords k
      have hout : (u.makeRecords.ports[k]).out = (s.ports[k]).out := by
        rw [hport, if_pos hline']; rfl
      rw [hcfgk] at hp hs
      rw [hout] at hs
      exact ⟨hm, hl, ho, hf, hc, hp, hs⟩

/-- Settles O15. -/
theorem loadCompleteJudgesTheImage : Obligations.LoadCompleteJudgesTheImage := by
  refine ⟨imageSum_toNat, fun s memory w => ⟨load_refused s memory w, fun hl => ?_⟩,
    fun s memory w hl hsum h1 h62 hnone => ?_⟩
  · exact congrArg Host.Outcome.next (if_neg hl)
  have hstation : (checkSettings w).1.station.toNat = w.stationNumber.toNat := by
    show (w.stationNumber.setWidth 6).toNat = _
    rw [BitVec.toNat_setWidth]; omega
  have hexec := load_completes s memory w hl hsum h1 h62
  generalize (checkSettings w).1 = c at hstation hexec ⊢
  obtain ⟨halike, hcfg, hrest⟩ := configured_loads c (checkSettings w).2 s _ hl hnone rfl
  exact ⟨_, hexec, halike, by rw [hcfg]; exact hstation, by rw [hcfg]; exact hrest⟩

end Sys2Proof.Machine
end

section
/-! PROOFS. Refutations of the statements that let an offered STATE or BEACON wait addressed to all stations. R9 and R14
have such an offer replace the body of a waiting entry in place, and the entry keeps the target it was accepted with;
the premises of these statements leave the queue free to hold one that is addressed to a single station. -/

namespace Sys2Proof.Machine

/-- An entry that waits addressed to station 19. -/
def misaddressed (b : Body) : TxEntry := ⟨19#6, b, 0#32, 5, false⟩

/-- A line record with nothing on the line. -/
def quietRecord : LineRecord := ⟨.idle, [], [], false, none, .idle, none, none, some 0⟩

/-- A record that one handset of station 19 holds in conversation. -/
def busyRecord : LineRecord := { quietRecord with
  state := .engaged, members := [⟨⟨19#6, .handset 0⟩, .active, 0#32, none, false⟩] }

/-- Station 12 in ACTIVE, home of line 412, with station 19 PRESENT and one entry that waits addressed to station 19. -/
def misaddressing (r : LineRecord) (b : Body) : State := { State.reset with
  stationState := .active
  beaconTimer := some 0
  cfg := { Settings.unloaded with
    station := 12#6, ports := Settings.unloaded.ports.set 0 { PortSettings.default with line := 412#16 } }
  peers := State.reset.peers.set 19 ⟨.present, none, some 100⟩
  records := State.reset.records.set 0 (some r)
  txQueue := [misaddressed b] }

/-- The waiting STATE of line 412. -/
def waitingState : Body := .state ⟨412#16, .idle, false, false, .idle, Alarms.clear, [], []⟩

/-- No entry of the queue is addressed to all stations. -/
def State.callsNobody (s : State) : Bool := s.txQueue.all fun e => e.target != Config.allStations

/-- Whether an answer is a next state that passes a test. -/
def leaves (p : State → Bool) : Result → Bool
  | .next t => p t
  | _ => false

theorem leaves_next {p : State → Bool} {r : Result} {t : State} (h : leaves p r = true) (ht : r = .next t) :
    p t = true := by rw [ht] at h; exact h

theorem not_carries_all {t : State} (h : t.callsNobody = true) (b : Body) : ¬ t.carries Config.allStations b := by
  rintro ⟨e, he, target, -, -⟩
  have hne := List.all_eq_true.mp h e he
  simp [target] at hne

theorem not_announcing {t : State} (h : t.callsNobody = true) (k : Fin 8) (r : LineRecord) : ¬ t.announcing k r := by
  rintro ⟨b, carried, -⟩
  exact not_carries_all h _ carried

/-- Refutes O20: BEACON_INTERVAL_EXPIRY puts the fresh card into the waiting BEACON entry, which stays addressed to
station 19. -/
theorem not_mediumQueueTimersAndClashes : ¬ Obligations.MediumQueueTimersAndClashes := by
  unfold Obligations.MediumQueueTimersAndClashes
  rintro ⟨⟨-, timers⟩, -⟩
  let s := misaddressing quietRecord (.beacon ⟨12#6, false, false, false, false, []⟩)
  obtain ⟨t, ht, -, carried⟩ := (timers s).2.1 rfl rfl
  have nobody : t.callsNobody = true := leaves_next (p := State.callsNobody) (by decide +kernel) ht
  exact not_carries_all nobody _ (carried (by decide))

/-- Refutes O33: REFRESH_EXPIRY puts the new STATE into the waiting STATE entry of the line, which stays addressed to
station 19. -/
theorem not_conflictsAndLineTimersAct : ¬ Obligations.ConflictsAndLineTimersAct := by
  unfold Obligations.ConflictsAndLineTimersAct
  rintro ⟨-, ⟨-, timers⟩, -⟩
  let s := misaddressing quietRecord waitingState
  have foreign : quietRecord.foreign s.cfg.station := ⟨List.forall_mem_nil _, List.forall_mem_nil _⟩
  obtain ⟨t, ht, -, -, announced⟩ := ((timers s 0 quietRecord rfl).2.2 foreign).2 rfl rfl
  have nobody : t.callsNobody = true := leaves_next (p := State.callsNobody) (by decide +kernel) ht
  exact not_announcing nobody _ _ (announced (by decide))

/-- An ASK of handset 0 of station 19 for line 412. -/
def askOf19 (op : AskOp) : Ask := ⟨412#16, some op, .handset 0, .handset 0, true, 3#8⟩

/-- The octets of that ASK before its CRC. -/
def askUnit (op : AskOp) : List Octet := sentUnit 19#6 12#6 (.ask (askOf19 op))

/-- The CRC of that ASK. -/
def askCrc (op : AskOp) : List Octet := octets32 (crc32 (askUnit op))

theorem busyRecord_settled : busyRecord.Settled { PortSettings.default with line := 412#16 } false Alarms.clear :=
  ⟨rfl, nofun, (absurd rfl ·), nofun, by decide⟩

theorem quietRecord_settled : quietRecord.Settled { PortSettings.default with line := 412#16 } false Alarms.clear :=
  ⟨rfl, nofun, fun _ => rfl, fun _ => rfl, by decide⟩

/-- The ASK is heard at the home of line 412. -/
theorem misaddressing_asksHome (op : AskOp) (r : LineRecord) (b : Body)
    (good : readFrame (askUnit op ++ askCrc op) = some ⟨19#6, 12#6, .ask (askOf19 op)⟩)
    (clear : r.conflict = none) (settled : r.Settled { PortSettings.default with line := 412#16 } false Alarms.clear)
    (foreign : r.foreign 12#6) :
    (misaddressing r b).AsksHome (askUnit op ++ askCrc op) 19#6 op (askOf19 op) 0 r where
  handed := ⟨rfl, good, (by decide : (19#6 : Station) ≠ 12#6), rfl, .inl rfl⟩
  asks := rfl
  found := rfl
  stands := rfl
  settled := by
    have inService : (misaddressing r b).outCause 0 r = false := by simp [State.outCause, clear]; exact ⟨rfl, rfl⟩
    rw [inService]; exact settled
  foreign := foreign

/-- Refutes O30: the STATE that follows a granted TAKE takes the place of the waiting STATE entry of the line, which
stays addressed to station 19. -/
theorem not_grantedTakesAndDropsChangeTheRecord : ¬ Obligations.GrantedTakesAndDropsChangeTheRecord := by
  unfold Obligations.GrantedTakesAndDropsChangeTheRecord
  rintro ⟨takes, -⟩
  have asked := misaddressing_asksHome .take quietRecord waitingState (by decide +kernel) rfl quietRecord_settled
    ⟨List.forall_mem_nil _, List.forall_mem_nil _⟩
  obtain ⟨t, r', ht, grants, -⟩ := (takes _ _ _ _ _ _ _ asked rfl).1 (.inl rfl)
  have nobody : t.callsNobody = true := leaves_next (p := State.callsNobody) (by decide +kernel) ht
  have changed : (misaddressing quietRecord waitingState).statusOf 0 ≠ t.statusOf 0 := of_decide_eq_true <|
    leaves_next (p := fun t => (misaddressing quietRecord waitingState).statusOf 0 ≠ t.statusOf 0) (by decide +kernel) ht
  exact not_announcing nobody _ _ (grants.state (by decide) changed)

/-- Refutes O31: the STATE that follows a granted PRIVACY takes the place of the waiting STATE entry of the line, which
stays addressed to station 19. -/
theorem not_grantedHoldsRingsAndListensChangeTheRecord : ¬ Obligations.GrantedHoldsRingsAndListensChangeTheRecord := by
  unfold Obligations.GrantedHoldsRingsAndListensChangeTheRecord
  rintro ⟨-, ringsAndPrivacy, -⟩
  have asked := misaddressing_asksHome .privacy busyRecord waitingState (by decide +kernel) rfl busyRecord_settled
    ⟨by decide, List.forall_mem_nil _⟩
  obtain ⟨t, r', ht, grants, -⟩ := (ringsAndPrivacy (misaddressing busyRecord waitingState) (askUnit .privacy)
    (askCrc .privacy) 19#6 (askOf19 .privacy) 0 busyRecord rfl (by decide)).2 asked
  have nobody : t.callsNobody = true := leaves_next (p := State.callsNobody) (by decide +kernel) ht
  have changed : (misaddressing busyRecord waitingState).statusOf 0 ≠ t.statusOf 0 := of_decide_eq_true <|
    leaves_next (p := fun t => (misaddressing busyRecord waitingState).statusOf 0 ≠ t.statusOf 0) (by decide +kernel) ht
  exact not_announcing nobody _ _ (grants.state (by decide) changed)

/-- Line 412 is the station's own, and none of its entries is the station's. -/
theorem misaddressing_ownLine : (misaddressing quietRecord waitingState).OwnLine 412#16 0 quietRecord where
  active := rfl
  answers := by decide
  home := by decide +kernel
  found := rfl
  stands := rfl
  settled := quietRecord_settled
  asks := List.forall_mem_nil _
  once := ⟨List.nodup_nil, List.nodup_nil⟩
  members := List.forall_mem_nil _
  bindings := by decide
  held := List.forall_mem_nil _
  listeners := List.forall_mem_nil _
  channels := by decide

/-- Refutes O51: the STATE that follows the BIND of a channel to the station's own line takes the place of the waiting
STATE entry of the line, which stays addressed to station 19. -/
theorem not_localRequestsAreTakenAtHome : ¬ Obligations.LocalRequestsAreTakenAtHome := by
  unfold Obligations.LocalRequestsAreTakenAtHome
  intro local'
  obtain ⟨-, -, channels⟩ := local' _ _ _ _ misaddressing_ownLine
  obtain ⟨t, r', ht, acts, -⟩ := ((channels 0#8 0 rfl nofun).1 rfl rfl (by decide) (by decide)).1
    nofun nofun (by decide) (.inl rfl)
  have nobody : t.callsNobody = true := leaves_next (p := State.callsNobody) (by decide +kernel) ht
  have changed : (misaddressing quietRecord waitingState).statusOf 0 ≠ t.statusOf 0 := of_decide_eq_true <|
    leaves_next (p := fun t => (misaddressing quietRecord waitingState).statusOf 0 ≠ t.statusOf 0) (by decide +kernel) ht
  exact not_announcing nobody _ _ (acts.state (by decide) changed)

end Sys2Proof.Machine
end

section
/-! PROOFS. Signals and buzz marks (R129 to R132): a SIGNAL frame at the word it changes, the mask requests, and
REMOTE_MUTE. -/

namespace Sys2Proof.Machine

/-- A frame handed on is taken by the row it belongs to. -/
theorem hearAs_handsOn {octets : List Octet} {source target : Station} {b : Body} {s : State} (row : Body → Bool)
    (h : s.HandsOn octets source target b) (hr : row b = true) (hb : b.kind ≠ .beacon) :
    s.hearAs row octets = (s.havingHeard source).handOn source target b :=
  (hearAs_row row octets _ s h.good hr).trans (hear_handsOn octets source target b s h hb)

/-- A request that passes answers DONE. -/
theorem request_done {code : Nat} {refusal : Option Verdict} {f : State → State} {s : State}
    (ha : s.panelAnswers = true) (hr : refusal = none) :
    (.next (s.panelRequest code refusal [] f) : Result) =
      .next { f s with panelAnswer := some ⟨octet code, .done, []⟩ } :=
  congrArg Host.Outcome.next (panelRequest_pass code refusal [] f s ha hr)

/-- A refused request answers its verdict. -/
theorem request_refused {code : Nat} {refusal : Option Verdict} {f : State → State} {s : State} (v : Verdict)
    (ha : s.panelAnswers = true) (hr : refusal = some v) :
    (.next (s.panelRequest code refusal [] f) : Result) =
      .next { s with panelAnswer := some ⟨octet code, v, []⟩ } :=
  congrArg Host.Outcome.next (panelRequest_refused code v refusal [] f s ha hr)

theorem isActive_iff (s : State) : s.isActive = true ↔ s.stationState = .active := by simp [State.isActive]

theorem isActive_of_ne {s : State} (h : s.stationState ≠ .active) : s.isActive = false := by simp [State.isActive, h]

/-! ### The signal word -/

theorem bitWord_getLsbD (n : Nat) (j : Fin 16) : (bitWord n).getLsbD j.val = decide (j.val = n) := by
  have hj := j.isLt
  simp only [bitWord, BitVec.getLsbD_shiftLeft, BitVec.getLsbD_one, hj, decide_true, Bool.true_and]
  by_cases h : j.val = n
  · simp [h]
  · simp [h]
    omega

theorem setBit_getLsbD (w : BitVec 16) (n j : Fin 16) :
    (w ||| bitWord n.val).getLsbD j.val = (decide (j = n) || w.getLsbD j.val) := by
  rw [BitVec.getLsbD_or, bitWord_getLsbD n.val j, Bool.or_comm]
  simp [Fin.ext_iff]

theorem clearBit_getLsbD (w : BitVec 16) (n j : Fin 16) :
    (w &&& ~~~(bitWord n.val)).getLsbD j.val = (decide (j ≠ n) && w.getLsbD j.val) := by
  rw [BitVec.getLsbD_and, BitVec.getLsbD_not, bitWord_getLsbD n.val j, Bool.and_comm]
  simp [Fin.ext_iff]

/-- A SET of a bit number above 15 is discarded (R129). -/
theorem takeSignal_beyond (source : Station) (g : Signal) (s : State) (h : 15 < g.bit.toNat) :
    s.takeSignal source g = s := if_pos h

/-- A SET of a buzz bit (R130). -/
theorem takeSignal_buzz (source : Station) (bit : Octet) (m : Fin 8) (s : State) (h : bit.toNat = m.val) :
    s.takeSignal source ⟨true, bit⟩ = s.setBuzz m source := by
  have hm := m.isLt
  have bound : ¬ bit.toNat ≥ 16 := by omega
  have low : bit.toNat < 8 := by omega
  simp only [State.takeSignal]
  rw [if_neg bound, if_pos trivial, dif_pos low]
  simp only [h]

/-- A SET of a remote-mute bit (R132). -/
theorem takeSignal_mute (source : Station) (bit : Octet) (m : Fin 8) (s : State) (h : bit.toNat = 8 + m.val) :
    s.takeSignal source ⟨true, bit⟩ = s.setRemoteMute m source := by
  have hm := m.isLt
  simp [State.takeSignal, h]
  omega

/-- A CLEAR of a bit (R129, R132). -/
theorem takeSignal_clear (source : Station) (bit : Octet) (n : Fin 16) (s : State) (h : bit.toNat = n.val) :
    s.takeSignal source ⟨false, bit⟩ = s.clearSignal n.val := by
  have hn := n.isLt
  simp [State.takeSignal, h]

/-- The word with bit `n` set by a station. -/
def State.signalled (n : Fin 16) (source : Station) (s : State) : State :=
  { s with signalWord := s.signalWord ||| bitWord n.val, setters := s.setters.set n (some source) }

theorem setBuzz_eq (m : Fin 8) (source : Station) (s : State) : s.setBuzz m source =
    if s.signalWord.getLsbD m.val = false ∧ s.buzzMasked.getLsbD m.val = false then
      (s.signalled ⟨m.val, by omega⟩ source).notify (.buzz m (some source))
    else s.signalled ⟨m.val, by omega⟩ source := by
  unfold State.setBuzz
  simp only [Bool.and_eq_true, Bool.not_eq_true']
  rfl

theorem setRemoteMute_eq (m : Fin 8) (source : Station) (s : State) (h : s.peerIsSupervisor source = true) :
    s.setRemoteMute m source =
      if s.signalWord.getLsbD (8 + m.val) = false ∧ s.talk = some m then
        ((s.signalled ⟨8 + m.val, by omega⟩ source).endTalk).notify (.talkStopped m)
      else s.signalled ⟨8 + m.val, by omega⟩ source := by
  unfold State.setRemoteMute
  rw [if_pos h]
  by_cases set : s.signalWord.getLsbD (8 + m.val) = true
  · simp only [set, if_true, Bool.true_eq_false, false_and, if_false]
    rfl
  · simp only [Bool.not_eq_true] at set
    simp only [set, Bool.false_eq_true, if_false, true_and]
    rfl

/-- The end of a talk: no channel is TALKING, the microphone's count goes, and the view is marked (R145). -/
theorem endTalk_eq (s : State) (k : Fin 8) (h : s.talk = some k) :
    ∃ (q : List SeqCount) (m : Marks), s.endTalk = { s with talk := none, sequences := q, marks := m } := by
  unfold State.endTalk State.dropMic
  rw [h]
  dsimp only
  split <;> exact ⟨_, _, rfl⟩

theorem peerIsSupervisor_havingHeard (s : State) (source : Station) :
    (s.havingHeard source).peerIsSupervisor source = s.peerIsSupervisor source := by
  simp [State.peerIsSupervisor, State.peer, State.havingHeard]

/-- The SET of a bit that is honoured. -/
theorem signalSet_honoured (s : State) (source : Station) (bit : Octet) (n : Fin 16) (hn : bit.toNat = n.val)
    (honoured : n.val < 8 ∨ s.peerIsSupervisor source = true) (u : State)
    (hu : u = s.takeSignal source ⟨true, bit⟩) :
    (∀ j : Fin 16, u.signalWord.getLsbD j.val = (decide (j = n) || s.signalWord.getLsbD j.val)) ∧
    u.setters = s.setters.set n (some source) ∧ u.live = s.live ∧
    (∀ m : Fin 8, m.val = n.val → s.signalWord.getLsbD n.val = false → s.buzzMasked.getLsbD n.val = false →
      s.notices.length < 32 →
      u.notices = s.notices ++ [⟨.buzz m (some source), s.stationTime⟩] ∧ u.talk = s.talk) ∧
    (n.val < 8 → s.signalWord.getLsbD n.val = true ∨ s.buzzMasked.getLsbD n.val = true →
      u.notices = s.notices ∧ u.talk = s.talk) ∧
    (∀ m : Fin 8, n.val = 8 + m.val → s.signalWord.getLsbD n.val = false →
      (s.talk = some m → u.talk = none ∧ (s.notices.length < 32 →
        u.notices = s.notices ++ [⟨.talkStopped m, s.stationTime⟩])) ∧
      (s.talk ≠ some m → u.talk = s.talk ∧ u.notices = s.notices)) := by
  by_cases low : n.val < 8
  case pos =>
    have taken := takeSignal_buzz source bit ⟨n.val, low⟩ s hn
    rw [taken, setBuzz_eq] at hu
    simp only at hu
    split at hu
    case isTrue h =>
      obtain ⟨unset, unmasked⟩ := h
      subst hu
      refine ⟨fun j => by rw [notify_signalWord]; exact setBit_getLsbD _ n j, by rw [notify_setters]; rfl,
        by rw [notify_live]; rfl, ?_, ?_, fun m hm => by omega⟩
      · rintro m hm - - room
        rw [notify_room _ _ (show (s.signalled _ source).notices.length < 32 from room)]
        have same : (⟨n.val, low⟩ : Fin 8) = m := Fin.ext hm.symm
        simp only [same]
        exact ⟨rfl, rfl⟩
      · rintro - (h | h) <;> simp_all
    case isFalse h =>
      subst hu
      refine ⟨fun j => setBit_getLsbD _ n j, rfl, rfl, ?_, fun _ _ => ⟨rfl, rfl⟩,
        fun m hm => by omega⟩
      intro m hm unset unmasked
      exact absurd ⟨unset, unmasked⟩ h
  case neg =>
    have hlt := n.isLt
    let m : Fin 8 := ⟨n.val - 8, by omega⟩
    have hm : n.val = 8 + m.val := by simp only [m]; omega
    have same : (⟨8 + m.val, by omega⟩ : Fin 16) = n := Fin.ext hm.symm
    rw [takeSignal_mute source bit m s (hn.trans hm), setRemoteMute_eq m source s (honoured.resolve_left low), same,
      ← hm] at hu
    split at hu
    case isTrue h =>
      obtain ⟨unset, talking⟩ := h
      obtain ⟨q, marks, ended⟩ := endTalk_eq (s.signalled n source) m talking
      rw [ended] at hu
      subst hu
      refine ⟨fun j => by rw [notify_signalWord]; exact setBit_getLsbD _ n j, by rw [notify_setters]; rfl,
        by rw [notify_live]; rfl, fun m' hm' => by omega, fun h => absurd h low, ?_⟩
      intro m' hm' _
      have again : m' = m := Fin.ext (by omega)
      subst again
      refine ⟨fun _ => ⟨by simp, fun room => ?_⟩, fun h => absurd talking h⟩
      rw [notify_room _ _ (by exact room)]
      rfl
    case isFalse h =>
      subst hu
      refine ⟨fun j => setBit_getLsbD _ n j, rfl, rfl, fun m' hm' => by omega,
        fun h => absurd h low, ?_⟩
      intro m' hm' unset
      have again : m' = m := Fin.ext (by omega)
      subst again
      exact ⟨fun talking => absurd ⟨unset, talking⟩ h, fun _ => ⟨rfl, rfl⟩⟩

/-! ### Mask requests -/

/-- Notices queued in order where there is room for them all. -/
theorem notifyAll_room (es : List Event) (s : State) (h : s.notices.length + es.length ≤ 32) :
    s.notifyAll es = { s with notices := s.notices ++ es.map fun e => ⟨e, s.stationTime⟩ } := by
  induction es generalizing s with
  | nil => simp [State.notifyAll]
  | cons e es ih =>
    simp only [List.length_cons] at h
    show (s.notify e).notifyAll es = _
    rw [notify_room e s (by omega), ih _ (by simp; omega)]
    simp

/-- Notices queued change the notice queue and the overflow count alone. -/
theorem notifyAll_frame (es : List Event) (s : State) :
    ∃ (n : List Notice) (o : Octet), s.notifyAll es = { s with notices := n, overflow := o } := by
  induction es generalizing s with
  | nil => exact ⟨_, _, rfl⟩
  | cons e es ih =>
    obtain ⟨n, o, rest⟩ := ih (s.notify e)
    refine ⟨n, o, rest.trans ?_⟩
    unfold State.notify
    split <;> rfl

theorem notifyAll_alike (es : List Event) (s : State) :
    s.notifyAll es = { s with notices := (s.notifyAll es).notices, overflow := (s.notifyAll es).overflow } := by
  obtain ⟨n, o, h⟩ := notifyAll_frame es s
  rw [h]

theorem not_and_getLsbD (a b : BitVec 8) (j : Fin 8) :
    (a &&& ~~~b).getLsbD j.val = (a.getLsbD j.val && !b.getLsbD j.val) := by
  simp

theorem afterLoad_loaded (s : State) (h : s.loaded = true) : s.afterLoad = none := by simp [State.afterLoad, h]

/-! ### Remote mute -/

/-- The answer of a REMOTE_MUTE in the order of its checks (R132). -/
def State.remoteMuteRefusal (station channel : Octet) (s : State) : Option Verdict :=
  firstVerdict [
    (!s.isActive, .notActive),
    (outOf 8 channel, .badIndex),
    (station == 0#8 || station.toNat ≥ 64 || station == stationOctet s.cfg.station, .badValue)]

theorem exec_remoteMute (station channel : Octet) (on : Bool) (s : State) : exec (.remoteMute station channel on) s =
    .next (s.panelRequest 24 (s.remoteMuteRefusal station channel) []
      fun s => s.send (station.setWidth 6) (.signal ⟨on, octet (8 + channel.toNat)⟩)) := rfl

theorem stationOctet_toNat (st : Station) : (stationOctet st).toNat = st.toNat := by
  have := st.isLt
  simp [stationOctet]
  omega

theorem remoteMute_badStation (station : Octet) (s : State) :
    (station == 0#8 || decide (station.toNat ≥ 64) || station == stationOctet s.cfg.station) = true ↔
      station.toNat = 0 ∨ 63 < station.toNat ∨ station.toNat = s.cfg.station.toNat := by
  have zero : station = 0#8 ↔ station.toNat = 0 := by rw [← BitVec.toNat_inj]; rfl
  have own : station = stationOctet s.cfg.station ↔ station.toNat = s.cfg.station.toNat := by
    rw [← BitVec.toNat_inj, stationOctet_toNat]
  simp only [Bool.or_eq_true, beq_iff_eq, decide_eq_true_eq, zero, own, or_assoc]
  omega

/-- Settles O57: each SIGNAL is one change of its bit, each mask request one masking of its word. -/
theorem signalsAndBuzzMarksChangeTheirBits : Obligations.SignalsAndBuzzMarksChangeTheirBits := by
  unfold Obligations.SignalsAndBuzzMarksChangeTheirBits
  refine ⟨fun s unit crc source target bit => ⟨fun handed => ?_, fun handed => ?_⟩, fun s bits answers => ?_,
    fun s o station on answers => ?_⟩
  · have heard : exec (.signalSet unit crc) s = .next ((s.havingHeard source).takeSignal source ⟨true, bit⟩) :=
      congrArg Host.Outcome.next (hearAs_handsOn _ handed rfl nofun)
    refine ⟨fun beyond => heard.trans (congrArg _ (takeSignal_beyond _ _ _ beyond)), fun n hn honoured => ?_,
      fun m hm unsupervised => heard.trans (congrArg _ ?_)⟩
    · rw [← peerIsSupervisor_havingHeard] at honoured
      exact ⟨_, heard, signalSet_honoured (s.havingHeard source) source bit n hn honoured _ rfl⟩
    · rw [takeSignal_mute source bit m _ hm, State.setRemoteMute,
        if_neg (by rw [peerIsSupervisor_havingHeard, unsupervised]; decide)]
      rfl
  · have heard : exec (.signalClear unit crc) s = .next ((s.havingHeard source).takeSignal source ⟨false, bit⟩) :=
      congrArg Host.Outcome.next (hearAs_handsOn _ handed rfl nofun)
    refine ⟨fun beyond => heard.trans (congrArg _ (takeSignal_beyond _ _ _ beyond)), fun n hn =>
      ⟨s.signalWord &&& ~~~(bitWord n.val), ?_, ?_⟩⟩
    · exact heard.trans (congrArg _ (takeSignal_clear source bit n _ hn))
    · exact clearBit_getLsbD s.signalWord n
  · refine ⟨fun unloaded c kind hc => ?_, fun loaded => ⟨⟨_, request_done answers (afterLoad_loaded s loaded), ?_⟩, ?_,
      _, request_done answers (afterLoad_loaded s loaded), ?_⟩⟩
    · have refused : s.afterLoad = some .notActive := by simp [State.afterLoad, unloaded]
      obtain ⟨rfl, rfl⟩ | ⟨rfl, rfl⟩ | ⟨rfl, rfl⟩ := hc
      all_goals exact request_refused _ answers refused
    · exact fun j => BitVec.getLsbD_or
    · refine ⟨s.buzzMasked &&& ~~~bits, _, request_done answers (afterLoad_loaded s loaded), ?_, fun j => ?_, fun room => ?_⟩
      · obtain ⟨n, o, h⟩ := notifyAll_frame (s.unmaskedBuzzes bits) { s with buzzMasked := s.buzzMasked &&& ~~~bits }
        simp only [h]
        rfl
      · exact not_and_getLsbD _ _ j
      · have few : (s.unmaskedBuzzes bits).length ≤ 8 := by
          rw [State.unmaskedBuzzes, List.length_map]
          exact List.length_filter_le _ allPorts
        have queued := notifyAll_room (s.unmaskedBuzzes bits) { s with buzzMasked := s.buzzMasked &&& ~~~bits }
          (by simp only; omega)
        simp only [queued]
        simp [State.unmaskedBuzzes, allPorts, List.map_map, Function.comp_def]
    · intro j
      simp
  · rw [exec_remoteMute]
    refine ⟨fun idle => request_refused _ answers (by simp [State.remoteMuteRefusal, isActive_of_ne idle]),
      fun active beyond => request_refused _ answers (by
        simp [State.remoteMuteRefusal, State.isActive, active, outOf_ge o (show 8 ≤ o.toNat from beyond)]),
      fun active within bad => request_refused _ answers ?_, fun active within positive below other => ?_⟩
    · simp only [State.remoteMuteRefusal, State.isActive, active, outOf_lt o (show o.toNat < 8 by omega)]
      simp only [firstVerdict_cons, remoteMute_badStation, firstVerdict_nil]
      rw [if_neg (by decide), if_neg (by decide), if_pos bad]
    · have passes : s.remoteMuteRefusal station o = none := by
        simp only [State.remoteMuteRefusal, State.isActive, active, outOf_lt o (show o.toNat < 8 by omega)]
        simp only [firstVerdict_cons, remoteMute_badStation, firstVerdict_nil]
        rw [if_neg (by decide), if_neg (by decide), if_neg (by omega)]
      exact ⟨_, request_done answers passes, alikeButQueue_answered _ _ _ (send_alike _ _ s),
        fun room => carries_answered _ _ _ _ (send_carries _ _ s active room ⟨nofun, nofun⟩)⟩

end Sys2Proof.Machine
end

section
/-! PROOFS. Talk, talkers and the gains of the speaker outputs (R142, R144, R145, R147, R170). -/

namespace Sys2Proof.Machine

/-! ### Trimming a talker set -/

/-- The talker that leaves first stands where no other has a lower level, and none behind it its own (R141, R142). -/
theorem lowestTalker_split {set : List Talker} {low : Talker} (h : lowestTalker set = some low) :
    ∃ pre post : List Talker, set = pre ++ low :: post ∧ (∀ x ∈ pre, low.level ≤ x.level) ∧
      ∀ x ∈ post, low.level < x.level := by
  induction set generalizing low with
  | nil => cases h
  | cons t ts ih =>
    unfold lowestTalker at h
    cases rest : lowestTalker ts with
    | none =>
      simp only [rest, Option.some.injEq] at h
      subst h
      cases ts with
      | nil => exact ⟨[], [], rfl, nofun, nofun⟩
      | cons u us =>
        unfold lowestTalker at rest
        split at rest
        · cases rest
        · split at rest <;> cases rest
    | some u =>
      obtain ⟨pre, post, rfl, before, behind⟩ := ih rest
      simp only [rest] at h
      by_cases first : t.level < u.level
      · simp only [first, if_true, Option.some.injEq] at h
        subst h
        refine ⟨[], pre ++ u :: post, rfl, nofun, fun x hx => ?_⟩
        simp only [List.mem_append, List.mem_cons] at hx
        obtain hx | rfl | hx := hx
        · have := before x hx; omega
        · exact first
        · have := behind x hx; omega
      · simp only [first, if_false, Option.some.injEq] at h
        subst h
        refine ⟨t :: pre, post, rfl, fun x hx => ?_, behind⟩
        obtain rfl | hx := List.mem_cons.mp hx
        · omega
        · exact before x hx

theorem lowestTalker_some {set : List Talker} (h : set ≠ []) : ∃ low, lowestTalker set = some low := by
  cases set with
  | nil => exact absurd rfl h
  | cons t ts =>
    unfold lowestTalker
    split
    · exact ⟨_, rfl⟩
    · split <;> exact ⟨_, rfl⟩

/-- In a set of distinct parties one talker leaves alone. -/
theorem withoutTalker_split {pre post : List Talker} {low : Talker}
    (h : ((pre ++ low :: post).map (·.party)).Nodup) : withoutTalker low.party (pre ++ low :: post) = pre ++ post := by
  simp only [List.map_append, List.map_cons, List.nodup_append, List.nodup_cons, List.mem_map, List.mem_cons] at h
  obtain ⟨-, ⟨notBehind, -⟩, apart⟩ := h
  have before : ∀ x ∈ pre, x.party ≠ low.party := fun x hx => apart _ ⟨x, hx, rfl⟩ _ (.inl rfl)
  have behind : ∀ x ∈ post, x.party ≠ low.party := fun x hx same => notBehind ⟨x, hx, same⟩
  simp only [withoutTalker, List.filter_append, List.filter_cons, bne_self_eq_false, Bool.false_eq_true, if_false]
  rw [List.filter_eq_self.mpr (by simpa using before), List.filter_eq_self.mpr (by simpa using behind)]

/-- Trimming removes entries and moves none. -/
theorem trimTalkers_sublist (limit n : Nat) (set : List Talker) : (trimTalkers limit n set).Sublist set := by
  induction n generalizing set with
  | zero => exact List.Sublist.refl _
  | succ n ih =>
    unfold trimTalkers
    split
    · exact List.Sublist.refl _
    · split
      · exact (ih _).trans List.filter_sublist
      · exact List.Sublist.refl _

theorem trimTalkers_short (limit n : Nat) (set : List Talker) (h : set.length ≤ limit) :
    trimTalkers limit n set = set := by
  cases n with
  | zero => rfl
  | succ n => exact if_pos h

/-- A set of distinct parties that is too long is trimmed to the limit; no talker that left had a higher level than one
that stays, or stood before one of its own level (R142). -/
theorem trimTalkers_order (limit n : Nat) (set : List Talker) (distinct : (set.map (·.party)).Nodup)
    (fuel : set.length ≤ n) :
    (trimTalkers limit n set).length = min limit set.length ∧
    ∀ x ∈ set, x ∉ trimTalkers limit n set → ∀ y ∈ trimTalkers limit n set,
      x.level ≤ y.level ∧ ([x, y].Sublist set → x.level < y.level) := by
  induction n generalizing set with
  | zero =>
    obtain rfl : set = [] := List.length_eq_zero_iff.mp (by omega)
    exact ⟨by simp [trimTalkers], nofun⟩
  | succ n ih =>
    by_cases short : set.length ≤ limit
    · rw [trimTalkers_short _ _ _ short]
      exact ⟨by omega, fun x hx gone => absurd hx gone⟩
    obtain ⟨low, hlow⟩ := lowestTalker_some (set := set) (by rintro rfl; simp at short)
    obtain ⟨pre, post, rfl, before, behind⟩ := lowestTalker_split hlow
    have step : trimTalkers limit (n + 1) (pre ++ low :: post) = trimTalkers limit n (pre ++ post) := by
      rw [trimTalkers, if_neg short, hlow]
      simp only [withoutTalker_split distinct]
    have fewer : (pre ++ post).Sublist (pre ++ low :: post) :=
      List.Sublist.append_left (List.sublist_cons_self low post) pre
    simp only [List.length_append, List.length_cons] at fuel short
    obtain ⟨count, order⟩ := ih (pre ++ post) (distinct.sublist (fewer.map _)) (by simp; omega)
    rw [step]
    refine ⟨by rw [count]; simp; omega, fun x hx gone y hy => ?_⟩
    have hy' : y ∈ pre ++ post := (trimTalkers_sublist limit n _).subset hy
    by_cases left : x ∈ pre ++ post
    · obtain ⟨le, lt⟩ := order x left gone y hy
      refine ⟨le, fun inOrder => lt ?_⟩
      have kept := inOrder.filter fun t => t.party != low.party
      have stays (z : Talker) (hz : z ∈ pre ++ post) : (z.party != low.party) = true := by
        have hz' := withoutTalker_split distinct ▸ hz
        exact (List.mem_filter.mp hz').2
      simp only [List.filter_cons, stays x left, stays y hy', if_true, List.filter_nil] at kept
      exact withoutTalker_split distinct ▸ kept
    · have same : x = low := by
        simp only [List.mem_append, List.mem_cons] at hx left
        tauto
      subst same
      have apart : x ∉ pre := fun h => left (List.mem_append_left _ h)
      refine ⟨?_, fun inOrder => behind y ?_⟩
      · obtain h | h := List.mem_append.mp hy'
        · exact before y h
        · exact Nat.le_of_lt (behind y h)
      · obtain ⟨l₁, l₂, split, sub₁, sub₂⟩ := List.sublist_append_iff.mp inOrder
        cases l₁ with
        | nil =>
          obtain rfl : [x, y] = l₂ := split
          exact (List.singleton_sublist).mp (List.cons_sublist_cons.mp sub₂)
        | cons z l₁ =>
          obtain ⟨rfl, -⟩ := List.cons.inj split
          exact absurd (sub₁.subset (List.mem_cons_self ..)) apart

/-- The order of leaving, by places in the set. -/
theorem trimTalkers_places (limit : Nat) (set : List Talker) (distinct : (set.map (·.party)).Nodup) (m n : Nat)
    (x y : Talker) (hx : set[m]? = some x) (hy : set[n]? = some y) (gone : x ∉ trimTalkers limit set.length set)
    (stays : y ∈ trimTalkers limit set.length set) : x.level < y.level ∨ x.level = y.level ∧ n < m := by
  obtain ⟨-, order⟩ := trimTalkers_order limit set.length set distinct (le_refl _)
  obtain ⟨le, lt⟩ := order x (List.mem_of_getElem? hx) gone y stays
  obtain ⟨hm, rfl⟩ := List.getElem?_eq_some_iff.mp hx
  obtain ⟨hn, rfl⟩ := List.getElem?_eq_some_iff.mp hy
  rcases lt_trichotomy m n with h | rfl | h
  · refine .inl (lt ?_)
    have ordered : [set[m], set[n]] = [⟨m, hm⟩, ⟨n, hn⟩].map fun i : Fin set.length => set[i] := rfl
    rw [ordered]
    exact List.map_getElem_sublist (by simpa using h)
  · exact absurd stays gone
  · omega

/-! ### What the requests check -/

theorem channelActive_idle (s : State) (o : Octet) (more : List (Bool × Verdict)) (h : s.stationState ≠ .active) :
    s.channelActiveRefusal o more = some .notActive := by
  simp [State.channelActiveRefusal, isActive_of_ne h]

theorem channelActive_beyond (s : State) (o : Octet) (more : List (Bool × Verdict)) (h : s.stationState = .active)
    (beyond : 7 < o.toNat) : s.channelActiveRefusal o more = some .badIndex := by
  simp [State.channelActiveRefusal, State.isActive, h, outOf_ge o (show 8 ≤ o.toNat from beyond)]

theorem channelActive_named (s : State) (o : Octet) (k : Fin 8) (more : List (Bool × Verdict))
    (h : s.stationState = .active) (ho : o.toNat = k.val) : s.channelActiveRefusal o more = firstVerdict more := by
  simp [State.channelActiveRefusal, State.isActive, h, outOf_val o k ho]

theorem channelRefusal_named (s : State) (o : Octet) (k : Fin 8) (more : List (Bool × Verdict))
    (h : s.loaded = true) (ho : o.toNat = k.val) : s.channelRefusal o more = firstVerdict more := by
  simp [State.channelRefusal, h, outOf_val o k ho]

theorem channelRefusal_unloaded (s : State) (o : Octet) (more : List (Bool × Verdict)) (h : s.loaded = false) :
    s.channelRefusal o more = some .notActive := by
  simp [State.channelRefusal, h]

theorem channelRefusal_beyond (s : State) (o : Octet) (more : List (Bool × Verdict)) (h : s.loaded = true)
    (beyond : 7 < o.toNat) : s.channelRefusal o more = some .badIndex := by
  simp [State.channelRefusal, h, outOf_ge o (show 8 ≤ o.toNat from beyond)]

/-! ### Talk -/

/-- What a TALK checks behind the channel index (R144). -/
theorem talk_answered (s : State) (o : Octet) (k : Fin 8) (ha : s.panelAnswers = true) (ho : o.toNat = k.val)
    (active : s.stationState = .active) :
    ((s.channels[k]).binding = .unbound →
      exec (.talk o) s = .next { s with panelAnswer := some ⟨28#8, .notBound, []⟩ }) ∧
    (∀ n : LineNo, (s.channels[k]).binding = .line n →
      exec (.talk o) s = .next { s with panelAnswer := some ⟨28#8, .listenOnly, []⟩ }) ∧
    ∀ n : Nat, (s.channels[k]).binding = .hoot n →
      (s.signalWord.getLsbD (8 + k.val) = true →
        exec (.talk o) s = .next { s with panelAnswer := some ⟨28#8, .muted, []⟩ }) ∧
      (s.signalWord.getLsbD (8 + k.val) = false →
        exec (.talk o) s = .next { s.startTalk k with panelAnswer := some ⟨28#8, .done, []⟩ }) := by
  have judged : s.channelActiveRefusal o [
      (atIndex o fun (k : Fin 8) => (s.channels[k]).binding == .unbound, .notBound),
      (atIndex o fun (k : Fin 8) => (s.channels[k]).binding.isLine, .listenOnly),
      (atIndex o fun (k : Fin 8) => s.signalWord.getLsbD (8 + k.val), .muted)] =
    firstVerdict [((s.channels[k]).binding == .unbound, .notBound), ((s.channels[k]).binding.isLine, .listenOnly),
      (s.signalWord.getLsbD (8 + k.val), .muted)] := by
    rw [channelActive_named s o k _ active ho, atIndex_val o k ho, atIndex_val o k ho, atIndex_val o k ho]
  refine ⟨fun bound => request_refused _ ha (judged.trans ?_), fun n bound => request_refused _ ha (judged.trans ?_),
    fun n bound => ⟨fun muted => request_refused _ ha (judged.trans ?_), fun open' => ?_⟩⟩
  · rw [bound]; rfl
  · rw [bound]; rfl
  · rw [bound, muted]; rfl
  · refine (request_done ha (judged.trans ?_)).trans ?_
    · rw [bound, open']; rfl
    · rw [onIndex_val o k ho]; rfl

/-- A talk begun on a hoot channel: the channel named is TALKING, and the microphone's count on another channel's circuit
goes with its talk (R144, R145). -/
theorem startTalk_eq (s : State) (k : Fin 8) (n : Nat) (bound : (s.channels[k]).binding = .hoot n) :
    ∃ (q : List SeqCount) (m : Marks), s.startTalk k = { s with talk := some k, sequences := q, marks := m } ∧
      (s.talk = some k → q = s.sequences) ∧
      ∀ (j : Fin 8) (c : Nat), s.talk = some j → j ≠ k → (s.channels[j]).binding = .hoot c →
        q = if c = n then s.sequences
          else s.sequences.filter fun x => !(x.circuit == .hoot c && x.port == .mic) := by
  unfold State.startTalk
  cases talking : s.talk with
  | none => exact ⟨_, _, rfl, nofun, nofun⟩
  | some i =>
    simp only
    by_cases same : i = k
    · subst same
      simp only [if_true]
      exact ⟨s.sequences, s.marks, by rw [← talking], fun _ => rfl,
        fun j c hj other => absurd (Option.some.inj hj).symm other⟩
    · simp only [same, if_false]
      by_cases circuit : s.channelCircuit i = s.channelCircuit k
      · simp only [circuit, if_true]
        refine ⟨_, _, rfl, fun h => absurd (Option.some.inj h) same, fun j c hj _ hc => ?_⟩
        obtain rfl := Option.some.inj hj
        simp only [State.channelCircuit, bound, hc, ChannelBinding.circuit, Option.some.injEq, Circuit.hoot.injEq]
          at circuit
        rw [if_pos circuit]
      · simp only [circuit, if_false]
        refine ⟨(s.dropMic i).sequences, ((s.dropMic i).setTalk (some k)).marks, ?_,
          fun h => absurd (Option.some.inj h) same, fun j c hj _ hc => ?_⟩
        · unfold State.dropMic
          split <;> rfl
        · obtain rfl := Option.some.inj hj
          simp only [State.channelCircuit, bound, hc, ChannelBinding.circuit, Option.some.injEq, Circuit.hoot.injEq]
            at circuit
          rw [if_neg circuit]
          simp only [State.dropMic, State.channelCircuit, hc, ChannelBinding.circuit, State.dropSequence]

theorem channelState_talking (s : State) (k : Fin 8) (bound : (s.channels[k]).binding ≠ .unbound)
    (wait : (s.channels[k]).wait = none) (talk : s.talk = some k) : s.channelState k = .talking := by
  simp [State.channelState, Channel.state, -Fin.getElem_fin, bound, wait, talk]

/-- The talker limit set: every set is trimmed to it, and the view is marked (R142). -/
theorem setTalkerLimit_eq (limit : Nat) (s : State) :
    s.setTalkerLimit limit = { s with
      talkerLimit := limit, channels := (s.setTalkerLimit limit).channels, marks := (s.setTalkerLimit limit).marks } ∧
    ∀ j : Fin 8, (s.setTalkerLimit limit).channels[j] = { s.channels[j] with
      talkers := trimTalkers limit (s.channels[j]).talkers.length (s.channels[j]).talkers } := by
  refine ⟨rfl, fun j => ?_⟩
  simp [State.setTalkerLimit, State.mapTalkers, State.markTalkers, mapTable]

/-- A speaker setting request that names a channel sets what it names, and the talker view shows none of it (R147). -/
theorem channelSetting_done (s : State) (o : Octet) (k : Fin 8) (code : Nat) (more : List (Bool × Verdict))
    (f : Fin 8 → State → State) (c : Channel) (ha : s.panelAnswers = true) (loaded : s.loaded = true)
    (ho : o.toNat = k.val) (pass : firstVerdict more = none) (hf : f k s = s.setChannel k c)
    (binding : c.binding = (s.channels[k]).binding) (talkers : c.talkers = (s.channels[k]).talkers)
    (wait : c.wait = (s.channels[k]).wait) :
    (.next (s.panelRequest code (s.channelRefusal o more) [] (State.onIndex o f)) : Result) =
      .next { s with channels := s.channels.set k c, panelAnswer := some ⟨octet code, .done, []⟩ } := by
  refine (request_done ha ((channelRefusal_named s o k more loaded ho).trans pass)).trans ?_
  rw [onIndex_val o k ho, hf, setChannel_same s k c binding talkers wait]

/-- The checks of MASTER (R170). -/
theorem master_answered (s : State) (o x : Octet) (v : Verdict) (ha : s.panelAnswers = true)
    (refused : firstVerdict [(!s.loaded, .notActive), (outOf 2 o, .badIndex), (badGain x, .badValue)] = some v) :
    exec (.master o x) s = .next { s with panelAnswer := some ⟨33#8, v, []⟩ } := request_refused v ha refused

/-- Settles O60: the talk requests by the talk state they leave, TALKERS by the order in which talkers leave a set, the
settings by the one field each sets. -/
theorem talkTalkersAndSpeakerSettings : Obligations.TalkTalkersAndSpeakerSettings := by
  unfold Obligations.TalkTalkersAndSpeakerSettings
  refine ⟨fun s o k ha ho => ⟨fun active => ?_, fun x active beyond => ?_, fun idle => ?_, fun limit loaded => ?_⟩,
    fun s o x on ha => ⟨fun unloaded c kind hc => ?_, fun loaded => ?_⟩⟩
  · obtain ⟨unbound, line, hoot⟩ := talk_answered s o k ha ho active
    refine ⟨fun n bound open' => ?_, unbound, line, fun n bound muted => (hoot n bound).1 muted, fun other => ?_,
      fun talking => ?_⟩
    · obtain ⟨q, m, begun, kept, dropped⟩ := startTalk_eq s k n bound
      refine ⟨_, (hoot n bound).2 open', by rw [begun], fun wait => ?_, ?_, ?_⟩
      · rw [begun]
        exact channelState_talking _ k (by simp [-Fin.getElem_fin, bound]) wait rfl
      · rw [begun]; exact kept
      · rw [begun]; exact dropped
    · refine (request_done ha (channelActive_named s o k [] active ho)).trans ?_
      rw [onIndex_val o k ho, if_neg other]; rfl
    · obtain ⟨q, m, ended⟩ := endTalk_eq s k talking
      refine ⟨_, request_done ha (channelActive_named s o k [] active ho), ?_⟩
      rw [onIndex_val o k ho, if_pos talking, ended]; rfl
  · exact ⟨request_refused _ ha (channelActive_beyond s x _ active beyond),
      request_refused _ ha (channelActive_beyond s x _ active beyond)⟩
  · exact ⟨request_refused _ ha (channelActive_idle s o _ idle),
      request_refused _ ha (channelActive_idle s o _ idle)⟩
  · refine ⟨fun bad => request_refused _ ha ?_, fun low high => ⟨_, request_done ha ?_, ?_, fun j => ?_⟩⟩
    · simp [loaded]; omega
    · simp [loaded]; omega
    · obtain ⟨alike, -⟩ := setTalkerLimit_eq limit.toNat s
      exact congrArg (fun u : State => { u with panelAnswer := some ⟨27#8, .done, []⟩ }) alike
    · obtain ⟨-, sets⟩ := setTalkerLimit_eq limit.toNat s
      have hj : (s.setTalkerLimit limit.toNat).channels[j] = _ := sets j
      simp only [hj]
      refine ⟨trivial, trimTalkers_sublist _ _ _, trimTalkers_short _ _ _, fun distinct => ⟨?_, ?_⟩⟩
      · exact (trimTalkers_order _ _ _ distinct (le_refl _)).1
      · exact fun m n x y hx hy gone stays => trimTalkers_places _ _ distinct m n x y hx hy gone stays
  · obtain ⟨rfl, rfl⟩ | ⟨rfl, rfl⟩ | ⟨rfl, rfl⟩ | ⟨rfl, rfl⟩ := hc
    · exact request_refused _ ha (channelRefusal_unloaded s o _ unloaded)
    · exact request_refused _ ha (channelRefusal_unloaded s o _ unloaded)
    · exact request_refused _ ha (channelRefusal_unloaded s o _ unloaded)
    · exact master_answered s o x _ ha (by simp [unloaded])
  · refine ⟨fun k ho => ⟨fun low => ?_, fun high => ?_, fun out hout => ?_, fun high => ?_, ?_⟩,
      fun beyond c kind hc => ?_, fun out ho low => ?_, fun beyond => ?_, fun within high => ?_⟩
    · obtain ⟨good, taken⟩ := gain_taken x low
      rw [← taken]
      exact channelSetting_done s o k 30 _ _ _ ha loaded ho (by simp [good]) rfl rfl rfl rfl
    · exact request_refused _ ha ((channelRefusal_named s o k _ loaded ho).trans (by simp [gain_refused x high]))
    · exact channelSetting_done s o k 31 _ _ _ ha loaded ho (by simp [outOf_val x out hout])
        (onIndex_val x out hout _ s) rfl rfl rfl
    · exact request_refused _ ha ((channelRefusal_named s o k _ loaded ho).trans
        (by simp [outOf_ge x (show 2 ≤ x.toNat from high)]))
    · exact channelSetting_done s o k 32 [] _ _ ha loaded ho rfl rfl rfl rfl rfl
    · obtain ⟨rfl, rfl⟩ | ⟨rfl, rfl⟩ | ⟨rfl, rfl⟩ := hc
      all_goals exact request_refused _ ha (channelRefusal_beyond s o _ loaded beyond)
    · obtain ⟨good, taken⟩ := gain_taken x low
      refine (request_done ha (by simp [loaded, good, outOf_val o out ho])).trans ?_
      rw [onIndex_val o out ho, taken]; rfl
    · exact master_answered s o x _ ha (by simp [loaded, outOf_ge o (show 2 ≤ o.toNat from beyond)])
    · exact master_answered s o x _ ha (by
        simp [loaded, outOf_lt o (show o.toNat < 2 by omega), gain_refused x high])

end Sys2Proof.Machine
end

section
/-! SUPPORT. What the stream table's work and the bindings change of a station, said field by field: a change of the listen
interest touches streams, talker sets and marks alone. -/

namespace Sys2Proof.Machine

/-- One channel is another but for talkers that have left it. -/
def Channel.ShedsTo (a b : Channel) : Prop := ∃ l : List Talker, l.Sublist a.talkers ∧ b = { a with talkers := l }

theorem Channel.ShedsTo.refl (a : Channel) : a.ShedsTo a := ⟨_, List.Sublist.refl _, rfl⟩

theorem Channel.ShedsTo.trans {a b c : Channel} (h : a.ShedsTo b) (g : b.ShedsTo c) : a.ShedsTo c := by
  obtain ⟨l, hl, rfl⟩ := h
  obtain ⟨m, hm, rfl⟩ := g
  exact ⟨m, hm.trans hl, rfl⟩

/-- A channel without talkers sheds none. -/
theorem Channel.ShedsTo.of_silent {a b : Channel} (h : a.ShedsTo b) (silent : a.talkers = []) : b = a := by
  obtain ⟨l, hl, rfl⟩ := h
  rw [silent, List.sublist_nil] at hl
  cases a
  simp_all

theorem Channel.ShedsTo.binding {a b : Channel} (h : a.ShedsTo b) : b.binding = a.binding := by
  obtain ⟨l, -, rfl⟩ := h; rfl

theorem Channel.ShedsTo.wait {a b : Channel} (h : a.ShedsTo b) : b.wait = a.wait := by
  obtain ⟨l, -, rfl⟩ := h; rfl

/-- What a change of the listen interest does: streams, talkers that leave their sets, and marks (R141, R148, R159). -/
structure State.Retunes (s t : State) : Prop where
  alike : t = { s with streams := t.streams, channels := t.channels, marks := t.marks }
  channels : ∀ k : Fin 8, (s.channels[k]).ShedsTo t.channels[k]

theorem State.Retunes.refl (s : State) : s.Retunes s := ⟨rfl, fun _ => .refl _⟩

theorem State.Retunes.trans {s t u : State} (h : s.Retunes t) (g : t.Retunes u) : s.Retunes u := by
  obtain ⟨ht, hc⟩ := h
  obtain ⟨hu, gc⟩ := g
  refine ⟨?_, fun k => (hc k).trans (gc k)⟩
  rw [hu, ht]

theorem announceEnds_retunes (l : List StreamEntry) (s : State) : s.Retunes (s.announceEnds l) := by
  unfold State.announceEnds
  split
  · exact .refl s
  · refine ⟨rfl, fun k => ⟨(s.channels[k]).talkers.filter fun t => !(l.any fun e => e.party == t.party),
      List.filter_sublist, ?_⟩⟩
    simp [State.mapTalkers, State.markTalkers, mapTable]

theorem removeStreams_retunes (p : StreamEntry → Bool) (s : State) : s.Retunes (s.removeStreams p) := by
  obtain ⟨alike, channels⟩ := announceEnds_retunes (s.streams.toList.filterMap (Option.filter p))
    { s with streams := mapTable s.streams fun _ e =>
        match e with
        | some x => if p x then none else some x
        | none => none }
  exact ⟨alike, channels⟩

/-- The frame of a retuning, its new fields named. -/
theorem State.Retunes.fields {s t : State} (h : s.Retunes t) :
    ∃ (x : Vector (Option StreamEntry) 32) (d : Vector Channel 8) (m : Marks),
      t = { s with streams := x, channels := d, marks := m } ∧ ∀ k : Fin 8, (s.channels[k]).ShedsTo d[k] :=
  ⟨_, _, _, h.alike, h.channels⟩

theorem syncStreams_retunes (s : State) : s.Retunes s.syncStreams := by
  have removed := removeStreams_retunes (fun e => (s.interest e.circuit).isNone) s
  unfold State.syncStreams
  generalize s.removeStreams _ = u at removed ⊢
  obtain ⟨x, c, m, rfl, channels⟩ := removed.fields
  exact ⟨rfl, channels⟩

/-- A channel replaced, the listen interest followed. -/
theorem setChannel_sync (k : Fin 8) (c : Channel) (s : State) : ∃ t : State, (s.setChannel k c).syncStreams = t ∧
    t = { s with streams := t.streams, channels := t.channels, marks := t.marks } ∧ c.ShedsTo t.channels[k] ∧
    ∀ j : Fin 8, j ≠ k → (s.channels[j]).ShedsTo t.channels[j] := by
  obtain ⟨alike, channels⟩ := syncStreams_retunes (s.setChannel k c)
  refine ⟨_, rfl, alike, ?_, fun j hj => ?_⟩
  · have := channels k
    simpa [State.setChannel, State.markTalkers] using this
  · have := channels j
    have other : k.val ≠ j.val := fun h => hj (Fin.ext h.symm)
    simpa [State.setChannel, State.markTalkers, Vector.getElem_set, other] using this

/-- A channel turned OFF (R133). -/
structure State.TurnsOff (k : Fin 8) (s t : State) : Prop where
  alike : t = { s with streams := t.streams, channels := t.channels, marks := t.marks }
  off : t.channels[k] = { s.channels[k] with binding := .unbound, talkers := [], wait := none, misses := 0 }
  others : ∀ j : Fin 8, j ≠ k → (s.channels[j]).ShedsTo t.channels[j]

theorem State.TurnsOff.fields {k : Fin 8} {s t : State} (h : s.TurnsOff k t) :
    ∃ (x : Vector (Option StreamEntry) 32) (d : Vector Channel 8) (m : Marks),
      t = { s with streams := x, channels := d, marks := m } := ⟨_, _, _, h.alike⟩

theorem turnOff_turnsOff (k : Fin 8) (s : State) : s.TurnsOff k (s.turnOff k) := by
  obtain ⟨t, ht, alike, off, others⟩ := setChannel_sync k
    { s.channels[k] with binding := .unbound, talkers := [], wait := none, misses := 0 } s
  rw [State.turnOff, ht]
  exact ⟨alike, off.of_silent rfl, others⟩

theorem channelState_off (s : State) (k : Fin 8) (h : (s.channels[k]).binding = .unbound) : s.channelState k = .off := by
  simp [State.channelState, Channel.state, -Fin.getElem_fin, h]

theorem State.TurnsOff.state {k : Fin 8} {s t : State} (h : s.TurnsOff k t) : t.channelState k = .off :=
  channelState_off t k (by rw [h.off])

/-! ### Handset contexts -/

/-- What a change of a handset's bindings does besides what it does to them: it retunes the station. -/
structure State.Rebinds (h : Fin 2) (bs : List Binding) (s t : State) : Prop where
  alike : t = { s with
    handsets := s.handsets.set h { s.handsets[h] with bindings := bs }
    sequences := t.sequences, streams := t.streams, channels := t.channels, marks := t.marks }
  channels : ∀ k : Fin 8, (s.channels[k]).ShedsTo t.channels[k]

theorem setBindings_rebinds (h : Fin 2) (bs : List Binding) (s : State) : s.Rebinds h bs (s.setBindings h bs) := by
  have retuned := syncStreams_retunes (s.setHandset h { s.handsets[h] with bindings := bs })
  unfold State.setBindings
  generalize State.syncStreams _ = t at retuned ⊢
  obtain ⟨x, c, m, rfl, channels⟩ := retuned.fields
  exact ⟨rfl, channels⟩

theorem addBinding_rebinds (h : Fin 2) (c : Circuit) (s : State) :
    s.Rebinds h ((s.handsets[h]).bindings ++ [⟨c, 72, 0⟩]) (s.addBinding h c) := setBindings_rebinds h _ s

theorem removeBinding_rebinds (h : Fin 2) (c : Circuit) (s : State) :
    s.Rebinds h ((s.handsets[h]).bindings.filter fun b => b.circuit != c) (s.removeBinding h c) := by
  obtain ⟨alike, channels⟩ := setBindings_rebinds h ((s.handsets[h]).bindings.filter fun b => b.circuit != c)
    (s.dropSequence c (.handset h))
  exact ⟨alike, channels⟩

theorem otherHandset_ne (h : Fin 2) : 1 - h ≠ h := by decide +revert

namespace State.Rebinds

variable {h : Fin 2} {bs : List Binding} {s t : State}

theorem bindings (r : s.Rebinds h bs t) : t.handsets[h] = { s.handsets[h] with bindings := bs } := by
  rw [r.alike]; simp

theorem others (r : s.Rebinds h bs t) (x : Fin 2) (hx : x ≠ h) : t.handsets[x] = s.handsets[x] := by
  have apart : h.val ≠ x.val := fun e => hx (Fin.ext e.symm)
  rw [r.alike]
  simp [apart]

theorem other (r : s.Rebinds h bs t) : t.handsets[1 - h] = s.handsets[1 - h] := r.others _ (otherHandset_ne h)

theorem base (r : s.Rebinds h bs t) : t.base = s.base := by rw [r.alike]; rfl

theorem txQueue (r : s.Rebinds h bs t) : t.txQueue = s.txQueue := by rw [r.alike]

theorem notices (r : s.Rebinds h bs t) : t.notices = s.notices := by rw [r.alike]

theorem records (r : s.Rebinds h bs t) : t.records = s.records := by rw [r.alike]

theorem held (r : s.Rebinds h bs t) : t.held = s.held := by rw [r.alike]

theorem pendingAsks (r : s.Rebinds h bs t) : t.pendingAsks = s.pendingAsks := by rw [r.alike]

theorem mirrors (r : s.Rebinds h bs t) : t.mirrors = s.mirrors := by rw [r.alike]

theorem carries {target : Station} {b : Body} (r : s.Rebinds h bs t) (c : s.carries target b) : t.carries target b := by
  unfold State.carries
  rw [r.txQueue]
  exact c

end State.Rebinds

end Sys2Proof.Machine
end

section
/-! PROOFS. Speaker channels bound and unbound (R135 to R137). -/

namespace Sys2Proof.Machine

theorem sent_fields (target : Station) (b : Body) (s : State) : s.send target b = { s with
    txQueue := (s.send target b).txQueue, transmitting := (s.send target b).transmitting
    mediumIdle := (s.send target b).mediumIdle, mediumLooks := (s.send target b).mediumLooks
    live := (s.send target b).live } := send_alike target b s

theorem send_channels (target : Station) (b : Body) (s : State) : (s.send target b).channels = s.channels :=
  (congrArg State.channels (sent_fields target b s)).trans rfl

theorem send_handsets (target : Station) (b : Body) (s : State) : (s.send target b).handsets = s.handsets :=
  (congrArg State.handsets (sent_fields target b s)).trans rfl

theorem send_notices (target : Station) (b : Body) (s : State) : (s.send target b).notices = s.notices :=
  (congrArg State.notices (sent_fields target b s)).trans rfl

theorem send_pendingAsks (target : Station) (b : Body) (s : State) : (s.send target b).pendingAsks = s.pendingAsks :=
  (congrArg State.pendingAsks (sent_fields target b s)).trans rfl

theorem send_held (target : Station) (b : Body) (s : State) : (s.send target b).held = s.held :=
  (congrArg State.held (sent_fields target b s)).trans rfl

theorem send_slots (target : Station) (b : Body) (s : State) : (s.send target b).slots = s.slots :=
  (congrArg State.slots (sent_fields target b s)).trans rfl

theorem send_mirrors (target : Station) (b : Body) (s : State) : (s.send target b).mirrors = s.mirrors :=
  (congrArg State.mirrors (sent_fields target b s)).trans rfl

theorem channelState_of (s : State) (k : Fin 8) (c : Channel) (h : s.channels[k] = c) :
    s.channelState k = c.state s.talk k := by rw [State.channelState, h]

/-- The checks of a BIND behind the channel index (R135). -/
theorem bind_answered (s : State) (o kind : Octet) (k : Fin 8) (n : BitVec 16) (b : ChannelBinding)
    (active : s.stationState = .active) (ha : s.panelAnswers = true) (ho : o.toNat = k.val)
    (hb : bindingOf kind n = some b) :
    exec (.bind o kind n) s =
      if s.noHome (some b) then .next { s with panelAnswer := some ⟨25#8, .noLine, []⟩ }
      else .next { s.bindChannel k b with panelAnswer := some ⟨25#8, .done, []⟩ } := by
  have judged : s.channelActiveRefusal o [((bindingOf kind n).isNone, .badValue), (s.noHome (bindingOf kind n), .noLine)] =
      if s.noHome (some b) then some .noLine else none := by
    rw [channelActive_named s o k _ active ho, hb]
    rfl
  split
  · next noHome => exact request_refused _ ha (judged.trans (if_pos noHome))
  · next home =>
    refine (request_done ha (judged.trans (if_neg home))).trans ?_
    rw [onIndex_val o k ho, hb]
    rfl

theorem bindingOf_hoot (n : BitVec 16) (low : 1 ≤ n.toNat) (high : n.toNat ≤ 127) :
    bindingOf 2#8 n = some (.hoot n.toNat) := by
  simp [bindingOf, low, high]

theorem bindingOf_line (n : BitVec 16) (low : 1 ≤ n.toNat) (high : n.toNat ≤ 1023) :
    bindingOf 1#8 n = some (.line n) := by
  simp [bindingOf, low, high]

/-- A channel that is OFF and not TALKING gives up nothing (R135). -/
theorem giveUp_unbound (s : State) (k : Fin 8) (unbound : (s.channels[k]).binding = .unbound) (quiet : s.talk ≠ some k) :
    s.giveUp k = s.turnOff k := by
  unfold State.giveUp
  rw [unbound, if_neg quiet]

/-- A channel that gives up a hoot ends its talk and is OFF (R135, R145). -/
theorem giveUp_hoot (s : State) (k : Fin 8) (n : Nat) (bound : (s.channels[k]).binding = .hoot n) :
    ∃ (q : List SeqCount) (m : Marks), s.giveUp k =
      { s with talk := if s.talk = some k then none else s.talk, sequences := q, marks := m }.turnOff k := by
  unfold State.giveUp
  rw [bound]
  by_cases talking : s.talk = some k
  · obtain ⟨q, m, ended⟩ := endTalk_eq s k talking
    exact ⟨q, m, by simp only [talking, if_true, ended]⟩
  · exact ⟨s.sequences, s.marks, by simp only [talking, if_false]⟩

/-- A BIND to a hoot (R136). -/
theorem bindChannel_hoot (s : State) (k : Fin 8) (n : Nat) (unbound : (s.channels[k]).binding = .unbound)
    (quiet : s.talk ≠ some k) : ∃ t : State, s.bindChannel k (.hoot n) = t ∧
      t = { s with streams := t.streams, channels := t.channels, marks := t.marks } ∧
      t.channels[k] = { s.channels[k] with binding := .hoot n, talkers := [], wait := none, misses := 0 } := by
  have bound : s.bindChannel k (.hoot n) = (s.turnOff k).applyBinding k (.hoot n) := by
    rw [State.bindChannel, if_neg (by rw [unbound]; nofun), giveUp_unbound s k unbound quiet]
  have off := turnOff_turnsOff k s
  rw [bound]
  generalize s.turnOff k = u at off ⊢
  obtain ⟨t, ht, alike, here, -⟩ := setChannel_sync k
    { u.channels[k] with binding := .hoot n, talkers := [], wait := none, misses := 0 } u
  refine ⟨t, ht, ?_, ?_⟩
  · rw [alike, off.alike]
  · rw [here.of_silent rfl, off.off]

/-- The binding of a channel to a line of another station: the LISTEN is sent and the channel waits (R137). -/
theorem applyBinding_line (s : State) (k : Fin 8) (n : LineNo) (st : Station) (home : s.homeOf n = some st)
    (other : st ≠ s.cfg.station) : s.applyBinding k (.line n) =
      (s.takeTag.setChannel k { s.channels[k] with
          binding := .line n, talkers := [], misses := 0, wait := some ⟨s.nextTag, st, s.blocks 100⟩ }).send st
        (askFrame n .listen (.speakerCh k) (.handset 0) false s.nextTag) := by
  unfold State.applyBinding
  simp only [home, if_neg other]

/-- A BIND to a line of another station (R135, R137). -/
theorem bindChannel_line (s : State) (k : Fin 8) (n : LineNo) (st : Station)
    (active : s.stationState = .active) (unbound : (s.channels[k]).binding = .unbound) (quiet : s.talk ≠ some k)
    (home : s.homeOf n = some st) (other : st ≠ s.cfg.station) :
    ∃ (t : State) (tag : Octet), s.bindChannel k (.line n) = t ∧ t.base = s.base ∧ t.records = s.records ∧
      t.channels[k] = { s.channels[k] with
        binding := .line n, talkers := [], misses := 0, wait := some ⟨tag, st, s.blocks 100⟩ } ∧
      (s.txQueue.length < 24 → t.carries st (.ask ⟨n, some .listen, .speakerCh k, .handset 0, false, tag⟩)) := by
  have off := turnOff_turnsOff k s
  rw [State.bindChannel, if_neg (by rw [unbound]; nofun), giveUp_unbound s k unbound quiet]
  generalize s.turnOff k = u at off ⊢
  obtain ⟨x, d, m, rfl⟩ : ∃ x d m, u = { s with streams := x, channels := d, marks := m } := ⟨_, _, _, off.alike⟩
  have here : d[k] = _ := off.off
  refine ⟨_, State.nextTag { s with streams := x, channels := d, marks := m }, applyBinding_line _ k n st home other,
    ?_, ?_, ?_, fun room => ?_⟩
  · rw [send_base]; rfl
  · rw [send_records]; rfl
  · rw [send_channels]
    simp only [State.setChannel, State.markTalkers, State.takeTag, Fin.getElem_fin, Vector.getElem_set_self]
    rw [Fin.getElem_fin] at here
    rw [here]
    rfl
  · exact send_carries st _ _ active room ⟨nofun, nofun⟩

/-- The end of a channel's wait without an answer (R137). -/
theorem listenWait_expired (s : State) (k : Fin 8) (n : LineNo) (w : ListenWait)
    (bound : (s.channels[k]).binding = .line n) (wait : (s.channels[k]).wait = some w) :
    exec (.listenWaitExpiry k) s = .next
      (if w.timer = 0 then (s.turnOff k).notify (.askNoAnswer n .listen (.speakerCh k)) else s) := by
  show execListenWaitExpiry k s = _
  unfold execListenWaitExpiry
  rw [wait, bound]

/-- A REPLY that answers the wait of channel `k` and no other ask (R137). -/
theorem takeReply_channel (s : State) (k : Fin 8) (n : LineNo) (w : ListenWait) (source : Station) (r : Reply)
    (bound : (s.channels[k]).binding = .line n) (wait : (s.channels[k]).wait = some w)
    (asks : ∀ a ∈ s.pendingAsks, a.tag ≠ r.tag) (tag : w.tag = r.tag) (station : w.station = source) (line : r.line = n)
    (first : ∀ (j : Fin 8) (x : ListenWait), j < k → (s.channels[j]).wait = some x → x.tag ≠ r.tag) :
    s.takeReply source r = s.listenOutcome k n r.refused r.reason := by
  have noAsk : s.pendingAsks.find? (·.answers source r) = none := by
    rw [List.find?_eq_none]
    intro a ha answers
    simp only [PendingAsk.answers, Bool.and_eq_true, beq_iff_eq] at answers
    exact asks a ha answers.1.1
  have ports : allPorts = List.finRange 8 := by decide
  have waiting : s.waitingChannel source r = some k := by
    unfold State.waitingChannel
    rw [ports, List.find?_eq_some_iff_getElem]
    refine ⟨?_, k.val, by simp, by simp, fun j hj => ?_⟩
    · simp only [State.waitsFor, bound, wait, line, tag, station, Option.isSome_some, beq_self_eq_true, Bool.and_self]
    · simp only [List.getElem_finRange, Bool.not_eq_true', Bool.and_eq_false_imp]
      intro waits
      have hj8 : j < 8 := by omega
      cases other : (s.channels[(⟨j, hj8⟩ : Fin 8)]).wait with
      | none => simp [State.waitsFor, other, -Fin.getElem_fin] at waits
      | some x =>
        have apart := first ⟨j, hj8⟩ x hj other
        simp [apart, other, -Fin.getElem_fin]
  unfold State.takeReply
  rw [noAsk, waiting, line]

/-- A channel turned OFF with a notice. -/
theorem turnOff_told (k : Fin 8) (e : Event) (s : State) :
    ((s.turnOff k).notify e).base = s.base ∧ ((s.turnOff k).notify e).records = s.records ∧
    ((s.turnOff k).notify e).txQueue = s.txQueue ∧ (s.notices.length < 32 →
      ((s.turnOff k).notify e).channelState k = .off ∧
      ((s.turnOff k).notify e).notices = s.notices ++ [⟨e, s.stationTime⟩]) := by
  have off := turnOff_turnsOff k s
  generalize s.turnOff k = u at off ⊢
  have state := off.state
  obtain ⟨x, d, m, rfl⟩ := off.fields
  refine ⟨by rw [notify_base]; rfl, by rw [notify_records], by rw [notify_txQueue], fun room => ?_⟩
  rw [notify_room _ _ (by exact room)]
  exact ⟨state, rfl⟩

/-- Settles O59: each request by the binding it leaves, the wait's end and its REPLY by the outcome they give. -/
theorem channelsAreBoundAndUnbound : Obligations.ChannelsAreBoundAndUnbound := by
  unfold Obligations.ChannelsAreBoundAndUnbound
  refine fun s o k ho => ⟨fun active ha => ⟨fun n unbound low high quiet => ?_,
    fun n st unbound low high quiet _ home other => ?_, fun n low high homeless => ?_, fun unbound => ?_,
    fun n bound => ?_⟩, fun n w bound wait => ⟨fun running => ?_, fun due room => ?_,
    fun unit crc source target r handed asks tag station line first => ?_⟩⟩
  · obtain ⟨t, rfl, alike, here⟩ := bindChannel_hoot s k n.toNat unbound quiet
    refine ⟨_, bind_answered s o _ k n _ active ha ho (bindingOf_hoot n low high), ?_, ?_, ?_, here, ?_⟩
    · exact congrArg (fun u : State => { u with panelAnswer := some ⟨25#8, .done, []⟩ }.base) alike
    · exact (congrArg State.records alike).trans rfl
    · exact (congrArg State.txQueue alike).trans rfl
    · have talk := congrArg State.talk alike
      refine (channelState_of _ k _ here).trans ?_
      simp [Channel.state, talk, quiet]
  · obtain ⟨t, tag, rfl, base, records, here, carried⟩ := bindChannel_line s k n st active unbound quiet home other
    have homed : s.noHome (some (.line n)) = false := by simp [State.noHome, home]
    refine ⟨_, tag, (bind_answered s o _ k n _ active ha ho (bindingOf_line n low high)).trans (if_neg (by simp [homed])),
      congrArg (fun x : Base => { x with panelAnswer := some ⟨25#8, .done, []⟩ }) base, records, here, ?_, carried⟩
    refine (channelState_of _ k _ here).trans ?_
    simp [Channel.state]
  · exact (bind_answered s o _ k n _ active ha ho (bindingOf_line n low high)).trans
      (if_pos (by simp [State.noHome, homeless]))
  · refine (request_done ha (channelActive_named s o k [] active ho)).trans ?_
    rw [onIndex_val o k ho, if_pos unbound]
    rfl
  · obtain ⟨q, m, given⟩ := giveUp_hoot s k n bound
    refine ⟨_, (request_done ha (channelActive_named s o k [] active ho)), ?_⟩
    rw [onIndex_val o k ho, if_neg (by rw [bound]; nofun), given]
    have off := turnOff_turnsOff k { s with
      talk := if s.talk = some k then none else s.talk, sequences := q, marks := m }
    generalize State.turnOff k _ = u at off ⊢
    have state := off.state
    have here := off.off
    obtain ⟨x, d, m', rfl⟩ := off.fields
    exact ⟨rfl, rfl, rfl, rfl, here, state⟩
  · exact (listenWait_expired s k n w bound wait).trans (congrArg _ (if_neg running))
  · obtain ⟨base, records, queue, told⟩ := turnOff_told k (.askNoAnswer n .listen (.speakerCh k)) s
    exact ⟨_, (listenWait_expired s k n w bound wait).trans (congrArg _ (if_pos due)), base, records, queue, told room⟩
  · have taken : exec (.replyReceived unit crc) s =
        .next ((s.havingHeard source).listenOutcome k n r.refused r.reason) :=
      (congrArg Host.Outcome.next (hearAs_handsOn _ handed rfl nofun)).trans (congrArg _
        (takeReply_channel _ k n w source r bound wait asks tag station line first))
    refine ⟨_, taken, ?_⟩
    unfold State.listenOutcome
    cases refused : r.refused
    case false =>
      obtain ⟨t, ht, alike, here, -⟩ := setChannel_sync k
        { (s.havingHeard source).channels[k] with binding := .line n, wait := none, misses := 0 } (s.havingHeard source)
      simp only [Bool.false_eq_true, if_false, false_implies, true_implies, and_true]
      rw [ht]
      obtain ⟨x, d, m, rfl⟩ : ∃ x d m, t = { s.havingHeard source with streams := x, channels := d, marks := m } :=
        ⟨_, _, _, alike⟩
      obtain ⟨l, -, same⟩ := here
      refine ⟨rfl, rfl, rfl, fun _ => ⟨rfl, ?_⟩⟩
      have same' : d[k] = { s.channels[k] with binding := .line n, wait := none, misses := 0, talkers := l } := same
      simp only [same', bound]
    case true =>
      obtain ⟨base, records, queue, told⟩ :=
        turnOff_told k (.askRefused n .listen (.speakerCh k) r.reason) (s.havingHeard source)
      exact ⟨base, records, queue, nofun, fun _ => told⟩

end Sys2Proof.Machine
end

section
/-! PROOFS. Calls placed, answered and ended on request and by their waits (R116 to R123). -/

namespace Sys2Proof.Machine

/-! ### Frames offered on the way -/

/-- The fields that an offer to the transmit queue may change. -/
theorem alike_fields {s t : State} (h : s.alikeButQueue t) : ∃ (q : List TxEntry) (tr mi : Bool) (ml : Nat) (lv : Counters),
    t = { s with txQueue := q, transmitting := tr, mediumIdle := mi, mediumLooks := ml, live := lv } :=
  ⟨_, _, _, _, _, h⟩

theorem alike_setSlot {s t : State} (i : Fin 4) (x : Slot) (h : s.alikeButQueue t) :
    State.alikeButQueue { s with slots := s.slots.set i x } (t.setSlot i x) := by
  obtain ⟨q, tr, mi, ml, lv, rfl⟩ := alike_fields h
  rfl

theorem alike_told {s t : State} (e : Event) (room : s.notices.length < 32) (h : s.alikeButQueue t) :
    State.alikeButQueue { s with notices := s.notices ++ [⟨e, s.stationTime⟩] } (t.notify e) := by
  obtain ⟨q, tr, mi, ml, lv, rfl⟩ := alike_fields h
  rw [notify_room _ _ (by exact room)]
  rfl

theorem carries_of_queue {s t : State} {target : Station} {b : Body} (h : t.txQueue = s.txQueue)
    (c : s.carries target b) : t.carries target b := by
  unfold State.carries
  rw [h]
  exact c

/-- A CALL frame offered in ACTIVE with room waits in the queue. -/
theorem send_call (s : State) (target : Station) (f : CallFrame) (active : s.stationState = .active)
    (room : s.txQueue.length < 24) : (s.send target (.call f)).carries target (.call f) :=
  send_carries target (.call f) s active room ⟨nofun, nofun⟩

/-! ### Slots -/

theorem allSlots_eq : allSlots = List.finRange 4 := by decide

/-- The lowest FREE slot (R116). -/
theorem freeSlot_lowest (s : State) (i : Fin 4) (free : (s.slots[i]).state = .free)
    (below : ∀ j : Fin 4, j < i → (s.slots[j]).state ≠ .free) : s.freeSlot = some i := by
  unfold State.freeSlot
  rw [allSlots_eq, List.find?_eq_some_iff_getElem]
  refine ⟨by simpa using free, i.val, by simp, by simp, fun j hj => ?_⟩
  simpa using below ⟨j, by omega⟩ hj

/-- A slot that is not in TALKING is freed alone (R123). -/
theorem freeCall_silent (s : State) (i : Fin 4) (h : (s.slots[i]).state ≠ .talking) :
    s.freeCall i = s.setSlot i Slot.empty := by
  unfold State.freeCall
  dsimp only
  split
  · next talking _ => exact absurd talking h
  · rfl

/-- A slot in TALKING goes with its binding (R123, R128). -/
theorem freeCall_talking (s : State) (i : Fin 4) (h : Fin 2) (state : (s.slots[i]).state = .talking)
    (handset : (s.slots[i]).handset = some h) :
    s.freeCall i = (s.setSlot i Slot.empty).removeBinding h (callCircuit (s.slots[i]).callId) := by
  unfold State.freeCall
  dsimp only
  rw [state, handset]

theorem callId_some {x : Slot} {id : CallId} (h : x.id = some id) : x.callId = id := by rw [Slot.callId, h]; rfl

theorem peerStation_some {x : Slot} {p : Party} (h : x.peer = some p) : x.peerStation = p.station := by
  rw [Slot.peerStation, h]

theorem peerStation_none {x : Slot} (h : x.peer = none) : x.peerStation = Config.allStations := by
  rw [Slot.peerStation, h]

theorem callerPort_caller {x : Slot} {h : Fin 2} (role : x.role = some .caller) (handset : x.handset = some h) :
    x.callerPort = .handset h := by rw [Slot.callerPort, role, handset]

theorem callerPort_called {x : Slot} {p : Party} (role : x.role = some .called) (peer : x.peer = some p) :
    x.callerPort = p.port := by rw [Slot.callerPort, role, peer]

theorem calledField_target {x : Slot} {t : CallTarget} (h : x.target = some t) : x.calledField = t.called := by
  rw [Slot.calledField, h]

theorem calledField_called {x : Slot} {c : Called} (target : x.target = none) (called : x.called = some c) :
    x.calledField = c := by rw [Slot.calledField, target, called]

/-- The frame a slot offers, its fields given (R117). -/
theorem sendSlotFrame_eq (s : State) (target : Station) (kind : CallKind) (reason : CallReason) (x : Slot) (id : CallId)
    (port : Port) (called : Called) (hid : x.callId = id) (hport : x.callerPort = port)
    (hcalled : x.calledField = called) :
    s.sendSlotFrame target kind reason x = s.send target (.call ⟨kind, id, port, called, reason⟩) := by
  rw [State.sendSlotFrame, hid, hport, hcalled]

/-! ### CALL -/

theorem called_handset (called : Octet) (x : Fin 2) (h : called.toNat = x.val) :
    Called.ofOctet called = some (.port (.handset x)) := by
  have : called = BitVec.ofNat 8 x.val := BitVec.eq_of_toNat_eq (by simp [h]; omega)
  subst this
  fin_cases x <;> rfl

theorem called_group (called : Octet) (g : Station) (positive : g ≠ 0#6) (h : called.toNat = g.toNat + 64) :
    Called.ofOctet called = some (.group g) := by
  have : called = BitVec.ofNat 8 (g.toNat + 64) := BitVec.eq_of_toNat_eq (by simp [h]; omega)
  subst this
  revert positive
  clear h
  revert g
  decide

/-- The target of a CALL to a station's handset (R118). -/
theorem callTarget_party (s : State) (st called : Octet) (x : Fin 2) (h : called.toNat = x.val) (low : 1 ≤ st.toNat)
    (high : st.toNat ≤ 62) (other : st.toNat ≠ s.cfg.station.toNat) :
    s.callTarget st called = some (.party ⟨st.setWidth 6, .handset x⟩) := by
  have apart : st ≠ stationOctet s.cfg.station := fun e => other (by rw [e, stationOctet_toNat])
  unfold State.callTarget
  rw [called_handset called x h]
  exact if_pos ⟨low, high, apart⟩

theorem callTarget_group (s : State) (called : Octet) (g : Station) (positive : g ≠ 0#6)
    (h : called.toNat = g.toNat + 64) : s.callTarget 0#8 called = some (.group g) := by
  unfold State.callTarget
  rw [called_group called g positive h]
  rfl

theorem callTarget_bad (s : State) (st called : Octet) (nonzero : st ≠ 0#8)
    (bad : 62 < st.toNat ∨ st.toNat = s.cfg.station.toNat) : s.callTarget st called = none := by
  unfold State.callTarget
  split
  · refine if_neg ?_
    rintro ⟨low, high, apart⟩
    have high' : st.toNat ≤ 62 := high
    obtain h | h := bad
    · omega
    · exact apart (BitVec.eq_of_toNat_eq (by rw [h, stationOctet_toNat]))
  · exact if_neg nonzero
  · rfl

/-- The checks of a CALL on a handset while a slot is FREE (R118). -/
theorem callRefusal_judged (s : State) (ho st called : Octet) (h : Fin 2) (i : Fin 4) (active : s.stationState = .active)
    (hh : ho.toNat = h.val) (free : s.freeSlot = some i) : s.callRefusal ho st called =
      if (s.callTarget st called).isNone then some .badValue
      else if (s.handsets[h]).onHook then some .hookOn
      else if 2 ≤ s.placesTaken h then some .fullHandset
      else none := by
  simp only [State.callRefusal, State.isActive, active, outOf_val ho h hh, atIndex_val ho h hh, free, firstVerdict_cons,
    firstVerdict_nil]
  simp [Config.handsetPlaces]

/-- A CALL that passes (R118). -/
theorem call_placed (s : State) (ho st called : Octet) (h : Fin 2) (i : Fin 4) (target : CallTarget)
    (active : s.stationState = .active) (ha : s.panelAnswers = true) (hh : ho.toNat = h.val)
    (free : s.freeSlot = some i) (ht : s.callTarget st called = some target) (off : (s.handsets[h]).onHook = false)
    (places : s.placesTaken h < 2) (x : Slot) (hx : x = s.offeringSlot i h target) :
    exec (.call ho st called) s = .next { (s.setSlot i x).send x.peerStation
        (.call ⟨.offer, ⟨s.cfg.station, i⟩, .handset h, target.called, .none⟩) with
      panelAnswer := some ⟨15#8, .done, []⟩ } := by
  have passes : s.callRefusal ho st called = none := by
    rw [callRefusal_judged s ho st called h i active hh free, ht, off, if_neg nofun, if_neg nofun, if_neg (by omega)]
  refine (request_done ha passes).trans ?_
  rw [onIndex_val ho h hh, ht]
  simp only [State.placeCall, free, ← hx]
  rw [sendSlotFrame_eq _ _ .offer .none x ⟨s.cfg.station, i⟩ (.handset h) target.called (by rw [hx]; rfl)
    (by rw [hx]; rfl) (by rw [hx]; rfl)]
  rfl

/-- Settles O52: a CALL that passes sets one slot and makes one offer. -/
theorem callOffersFromTheLowestFreeSlot : Obligations.CallOffersFromTheLowestFreeSlot := by
  unfold Obligations.CallOffersFromTheLowestFreeSlot
  intro s ho st called h i active ha hh free below
  have lowest := freeSlot_lowest s i free below
  have judged := callRefusal_judged s ho st called h i active hh lowest
  refine ⟨fun x low high other hx => ?_, fun g zero positive hg off places => ?_, fun nonzero bad => ?_⟩
  · have target := callTarget_party s st called x hx low high other
    rw [target] at judged
    refine ⟨fun on => request_refused _ ha ?_, fun off full => request_refused _ ha ?_, fun off places p hp => ?_⟩
    · rw [judged, on]; rfl
    · rw [judged, off, if_neg nofun, if_neg nofun, if_pos full]
    · subst hp
      exact ⟨_, call_placed s ho st called h i _ active ha hh lowest target off places _ rfl,
        alikeButQueue_answered _ _ _ (send_alike _ _ (s.setSlot i _)),
        fun room => carries_answered _ _ _ _ (send_call _ _ _ active room)⟩
  · subst zero
    have target := callTarget_group s called g positive hg
    exact ⟨_, call_placed s ho 0#8 called h i _ active ha hh lowest target off places _ rfl,
      alikeButQueue_answered _ _ _ (send_alike _ _ (s.setSlot i _)),
      fun room => carries_answered _ _ _ _ (send_call _ _ _ active room)⟩
  · refine request_refused _ ha ?_
    rw [judged, callTarget_bad s st called nonzero bad]
    rfl

end Sys2Proof.Machine
end

section
/-! PROOFS. The waits of a call slot, ANSWER, REJECT and CALL_END (R119, R122, R123). -/

namespace Sys2Proof.Machine

/-- A call that is not TALKING ends with its notice (R119, R123). -/
theorem endCall_silent (s : State) (i : Fin 4) (reason : CallReason) (id : CallId) (hid : (s.slots[i]).id = some id)
    (silent : (s.slots[i]).state ≠ .talking) (room : s.notices.length < 32) :
    s.endCall i reason = { s with
      slots := s.slots.set i Slot.empty, notices := s.notices ++ [⟨.callEnded i id reason, s.stationTime⟩] } := by
  rw [State.endCall, freeCall_silent s i silent, callId_some hid, notify_room _ _ (by exact room)]
  rfl

theorem send_slot (target : Station) (b : Body) (s : State) (i : Fin 4) : (s.send target b).slots[i] = s.slots[i] := by
  rw [send_slots]

/-- A frame offered and a call ended that is not TALKING. -/
theorem endCall_sent (s : State) (target : Station) (b : Body) (i : Fin 4) (reason : CallReason) (id : CallId)
    (hid : (s.slots[i]).id = some id) (silent : (s.slots[i]).state ≠ .talking) (room : s.notices.length < 32) :
    State.alikeButQueue { s with
      slots := s.slots.set i Slot.empty
      notices := s.notices ++ [⟨.callEnded i id reason, s.stationTime⟩] } ((s.send target b).endCall i reason) ∧
    ((s.send target b).endCall i reason).txQueue = (s.send target b).txQueue := by
  rw [endCall_silent (s.send target b) i reason id (by rw [send_slot]; exact hid) (by rw [send_slot]; exact silent)
    (by rw [send_notices]; exact room)]
  obtain ⟨q, tr, mi, ml, lv, sent⟩ := alike_fields (send_alike target b s)
  rw [sent]
  exact ⟨rfl, rfl⟩

/-- A frame offered and a slot freed that is not TALKING. -/
theorem freeCall_sent (s : State) (target : Station) (b : Body) (i : Fin 4) (silent : (s.slots[i]).state ≠ .talking) :
    State.alikeButQueue { s with slots := s.slots.set i Slot.empty } ((s.send target b).freeCall i) ∧
    ((s.send target b).freeCall i).txQueue = (s.send target b).txQueue := by
  rw [freeCall_silent (s.send target b) i (by rw [send_slot]; exact silent)]
  exact ⟨alike_setSlot i _ (send_alike target b s), rfl⟩

/-! ### Requests on slots -/

theorem slotRequest_beyond (s : State) (active : s.stationState = .active) (out : Bool) (more : List (Bool × Verdict))
    (h : out = true) : firstVerdict ((!s.isActive, .notActive) :: (out, .badIndex) :: more) = some .badIndex := by
  rw [(isActive_iff s).mpr active, h]
  rfl

theorem slotRequest_named (s : State) (active : s.stationState = .active) (out : Bool) (more : List (Bool × Verdict))
    (h : out = false) :
    firstVerdict ((!s.isActive, .notActive) :: (out, .badIndex) :: more) = firstVerdict more := by
  rw [(isActive_iff s).mpr active, h]
  rfl

theorem alerts_iff (x : Slot) : x.alerts = true ↔ x.role = some .called ∧ x.state = .alerting := by
  simp [Slot.alerts]

theorem not_alerts {x : Slot} (h : x.state ≠ .alerting) : x.alerts = false := by
  simp [Slot.alerts, h]

/-- The checks of an ANSWER that names a slot and a handset (R122). -/
theorem answerRefusal_named (s : State) (so ho : Octet) (i : Fin 4) (h : Fin 2) (active : s.stationState = .active)
    (hi : so.toNat = i.val) (hh : ho.toNat = h.val) : s.answerRefusal so ho =
      if (s.slots[i]).alerts = false then some .notBound
      else if (s.handsets[h]).onHook then some .hookOn
      else if 2 ≤ s.placesTaken h then some .fullHandset
      else none := by
  rw [State.answerRefusal, slotRequest_named s active _ _ (by rw [outOf_val so i hi, outOf_val ho h hh]; rfl),
    atIndex_val so i hi, atIndex_val ho h hh, atIndex_val ho h hh]
  simp [Config.handsetPlaces]

/-- The checks of a REJECT that names a slot (R122). -/
theorem reject_named (s : State) (so : Octet) (i : Fin 4) (active : s.stationState = .active) (ha : s.panelAnswers = true)
    (hi : so.toNat = i.val) : exec (.reject so) s =
      if (s.slots[i]).alerts = false then .next { s with panelAnswer := some ⟨17#8, .notBound, []⟩ }
      else .next { s.rejectSlot i with panelAnswer := some ⟨17#8, .done, []⟩ } := by
  have judged := slotRequest_named s active (outOf 4 so)
    [(!atIndex so fun (i : Fin 4) => (s.slots[i]).alerts, .notBound)] (outOf_val so i hi)
  split
  · next still =>
    refine request_refused _ ha (judged.trans ?_)
    rw [atIndex_val so i hi, still]
    rfl
  · next alerting =>
    refine (request_done ha (judged.trans ?_)).trans ?_
    · rw [atIndex_val so i hi, show (s.slots[i]).alerts = true by simpa using alerting]
      rfl
    · rw [onIndex_val so i hi]
      rfl

/-- The checks of a CALL_END that names a slot, and the two ways it ends a call (R123). -/
theorem callEnd_named (s : State) (so : Octet) (i : Fin 4) (active : s.stationState = .active)
    (ha : s.panelAnswers = true) (hi : so.toNat = i.val) : exec (.callEnd so) s =
      if (s.slots[i]).state = .free then .next { s with panelAnswer := some ⟨18#8, .notBound, []⟩ }
      else .next { (if (s.slots[i]).state = .alerting then s.rejectSlot i else s.hangUp i) with
        panelAnswer := some ⟨18#8, .done, []⟩ } := by
  have judged := slotRequest_named s active (outOf 4 so)
    [(atIndex so fun (i : Fin 4) => (s.slots[i]).state == .free, .notBound)] (outOf_val so i hi)
  split
  · next free =>
    refine request_refused _ ha (judged.trans ?_)
    rw [atIndex_val so i hi, free]
    rfl
  · next used =>
    refine (request_done ha (judged.trans ?_)).trans ?_
    · rw [atIndex_val so i hi]
      simp only [firstVerdict_cons, firstVerdict_nil, beq_iff_eq, used, if_false]
    · rw [onIndex_val so i hi]
      rfl

/-- What a slot that reaches TALKING changes: the slot and the handset's bindings (R120, R122, R126). -/
theorem connect_tells (s : State) (i : Fin 4) (x : Slot) (h : Fin 2) (id : CallId) (hid : x.id = some id) :
    (s.connect i x h).base =
      { s.base with slots := s.slots.set i { x with state := .talking, handset := some h, timer := none } } ∧
    ((s.connect i x h).handsets[h]).bindings = (s.handsets[h]).bindings ++ [⟨callCircuit id, 72, 0⟩] ∧
    (s.connect i x h).handsets[1 - h] = s.handsets[1 - h] ∧ (s.connect i x h).txQueue = s.txQueue ∧
    (s.connect i x h).notices = s.notices := by
  rw [State.connect, callId_some hid]
  have bound := addBinding_rebinds h (callCircuit id)
    (s.setSlot i { x with state := .talking, handset := some h, timer := none })
  exact ⟨bound.base, congrArg Handset.bindings bound.bindings, bound.other, bound.txQueue, bound.notices⟩

/-- What a TALKING slot that is freed changes: the slot and its handset's bindings (R123). -/
theorem freeCall_tells (s : State) (i : Fin 4) (h : Fin 2) (id : CallId) (state : (s.slots[i]).state = .talking)
    (handset : (s.slots[i]).handset = some h) (hid : (s.slots[i]).id = some id) :
    (s.freeCall i).base = { s.base with slots := s.slots.set i Slot.empty } ∧
    ((s.freeCall i).handsets[h]).bindings = (s.handsets[h]).bindings.filter (fun b => b.circuit != callCircuit id) ∧
    (s.freeCall i).handsets[1 - h] = s.handsets[1 - h] ∧ (s.freeCall i).txQueue = s.txQueue ∧
    (s.freeCall i).notices = s.notices := by
  rw [freeCall_talking s i h state handset, callId_some hid]
  have bound := removeBinding_rebinds h (callCircuit id) (s.setSlot i Slot.empty)
  exact ⟨bound.base, congrArg Handset.bindings bound.bindings, bound.other, bound.txQueue, bound.notices⟩

/-- An ALERTING slot rejected (R122, R123). -/
theorem rejectSlot_declines (s : State) (i : Fin 4) (id : CallId) (p : Party) (c : Called)
    (active : s.stationState = .active) (state : (s.slots[i]).state = .alerting) (role : (s.slots[i]).role = some .called)
    (hid : (s.slots[i]).id = some id) (peer : (s.slots[i]).peer = some p) (target : (s.slots[i]).target = none)
    (called : (s.slots[i]).called = some c) :
    State.alikeButQueue { s with slots := s.slots.set i Slot.empty } (s.rejectSlot i) ∧
    (s.txQueue.length < 24 → (s.rejectSlot i).carries id.station (.call ⟨.decline, id, p.port, c, .cleared⟩)) := by
  have rejected : s.rejectSlot i =
      (s.send id.station (.call ⟨.decline, id, p.port, c, .cleared⟩)).freeCall i := by
    rw [State.rejectSlot, callId_some hid, sendSlotFrame_eq _ _ _ _ _ id p.port c (callId_some hid)
      (callerPort_called role peer) (calledField_called target called)]
  rw [rejected]
  obtain ⟨alike, queue⟩ := freeCall_sent s id.station (.call ⟨.decline, id, p.port, c, .cleared⟩) i
    (by rw [state]; nofun)
  exact ⟨alike, fun room => carries_of_queue queue (send_call _ _ _ active room)⟩

/-- A call hung up (R123). -/
theorem hangUp_eq (s : State) (i : Fin 4) (id : CallId) (station : Station) (port : Port) (called : Called)
    (hid : (s.slots[i]).id = some id) (hstation : (s.slots[i]).peerStation = station)
    (hport : (s.slots[i]).callerPort = port) (hcalled : (s.slots[i]).calledField = called) :
    s.hangUp i = (s.send station (.call ⟨.callEnd, id, port, called, .cleared⟩)).freeCall i := by
  rw [State.hangUp, hstation, sendSlotFrame_eq _ _ _ _ _ id port called (callId_some hid) hport hcalled]

/-- A CALL_END of a call that is being placed (R123). -/
theorem callEnd_placed (s : State) (so : Octet) (i : Fin 4) (id : CallId) (station : Station) (hs : Fin 2)
    (target : CallTarget) (active : s.stationState = .active) (ha : s.panelAnswers = true) (hi : so.toNat = i.val)
    (state : (s.slots[i]).state = .offering ∨ (s.slots[i]).state = .ringback)
    (role : (s.slots[i]).role = some .caller) (hid : (s.slots[i]).id = some id)
    (hstation : (s.slots[i]).peerStation = station) (htarget : (s.slots[i]).target = some target)
    (handset : (s.slots[i]).handset = some hs) :
    ∃ t, exec (.callEnd so) s = .next t ∧
      State.alikeButQueue { s with
        slots := s.slots.set i Slot.empty, panelAnswer := some ⟨18#8, .done, []⟩ } t ∧
      (s.txQueue.length < 24 →
        t.carries station (.call ⟨.callEnd, id, .handset hs, target.called, .cleared⟩)) := by
  have used : (s.slots[i]).state ≠ .free := by rcases state with h | h <;> rw [h] <;> nofun
  have notAlerting : (s.slots[i]).state ≠ .alerting := by rcases state with h | h <;> rw [h] <;> nofun
  have silent : (s.slots[i]).state ≠ .talking := by rcases state with h | h <;> rw [h] <;> nofun
  refine ⟨_, (callEnd_named s so i active ha hi).trans (if_neg used), ?_⟩
  rw [if_neg notAlerting, hangUp_eq s i id station (.handset hs) target.called hid hstation
    (callerPort_caller role handset) (calledField_target htarget)]
  obtain ⟨alike, queue⟩ := freeCall_sent s station (.call ⟨.callEnd, id, .handset hs, target.called, .cleared⟩) i silent
  exact ⟨alikeButQueue_answered _ _ _ alike, fun room => carries_of_queue queue (send_call _ _ _ active room)⟩

/-- Settles O56: each wait and request ends in one offer and one change of the slot. -/
theorem callsEndByWaitOrRequest : Obligations.CallsEndByWaitOrRequest := by
  unfold Obligations.CallsEndByWaitOrRequest
  refine ⟨fun s i x hx => ?_, fun s so ho active ha => ⟨fun beyond => ?_, fun beyond => ⟨?_, ?_⟩⟩,
    fun s so ho i h x active ha hi hh hx => ?_⟩
  · subst hx
    have due : ∀ t : Timer, t.due = true ↔ t = some 0 := by simp [Timer.due]
    refine ⟨fun running => ⟨?_, ?_, ?_⟩, fun other => ?_, fun other => ?_, fun other => ?_, fun id ends hid room => ?_⟩
    · exact congrArg Host.Outcome.next (if_neg fun h => running ((due _).mp h.2))
    · exact congrArg Host.Outcome.next (if_neg fun h => running ((due _).mp h.2))
    · exact congrArg Host.Outcome.next (if_neg fun h => running ((due _).mp h.2))
    · exact congrArg Host.Outcome.next (if_neg fun h => other h.1)
    · exact congrArg Host.Outcome.next (if_neg fun h => other h.1)
    · exact congrArg Host.Outcome.next (if_neg fun h => other h.1)
    · refine ⟨fun state => ?_, fun p hs q state role peer handset target => ?_, fun p c state role peer target called => ?_⟩
      · exact (congrArg Host.Outcome.next (if_pos ⟨state, (due _).mpr ends⟩)).trans
          (congrArg _ (endCall_silent s i _ id hid (by rw [state]; nofun) room))
      · refine ⟨_, congrArg Host.Outcome.next (if_pos ⟨state, (due _).mpr ends⟩), ?_⟩
        rw [peerStation_some peer, sendSlotFrame_eq _ _ _ _ _ id (.handset hs) (.port q.port) (callId_some hid)
          (callerPort_caller role handset) (calledField_target target)]
        obtain ⟨alike, queue⟩ := endCall_sent s p.station
          (.call ⟨.callEnd, id, .handset hs, .port q.port, .noAnswer⟩) i .noAnswer id hid (by rw [state]; nofun) room
        exact ⟨alike, fun active space => carries_of_queue queue (send_call _ _ _ active space)⟩
      · refine ⟨_, congrArg Host.Outcome.next (if_pos ⟨state, (due _).mpr ends⟩), ?_⟩
        rw [sendSlotFrame_eq _ _ _ _ _ id p.port c (callId_some hid) (callerPort_called role peer)
          (calledField_called target called), callId_some hid]
        obtain ⟨alike, queue⟩ := endCall_sent s id.station
          (.call ⟨.decline, id, p.port, c, .noAnswer⟩) i .noAnswer id hid (by rw [state]; nofun) room
        exact ⟨alike, fun active space => carries_of_queue queue (send_call _ _ _ active space)⟩
  · refine request_refused _ ha (slotRequest_beyond s active _ _ ?_)
    rcases beyond with h | h
    · rw [outOf_ge so (show 4 ≤ so.toNat from h)]; rfl
    · rw [outOf_ge ho (show 2 ≤ ho.toNat from h)]; exact Bool.or_true _
  · exact request_refused _ ha (slotRequest_beyond s active _ _ (outOf_ge so beyond))
  · exact request_refused _ ha (slotRequest_beyond s active _ _ (outOf_ge so beyond))
  · subst hx
    have judged := answerRefusal_named s so ho i h active hi hh
    refine ⟨fun id p c state role hid peer target called => ⟨fun off places => ?_, fun on => ?_, fun c' kind hc => ?_⟩,
      fun id p q hs state role hid peer target handset => ?_, fun id g hs state role hid peer target handset => ?_,
      fun id p hs callerPort called state hid peer handset side => ?_, fun still => ⟨?_, ?_⟩, fun free => ?_⟩
    · rw [(alerts_iff _).mpr ⟨role, state⟩, if_neg nofun, off, if_neg nofun, if_neg (by omega)] at judged
      refine ⟨_, request_done ha judged, ?_⟩
      rw [onIndex_val so i hi, onIndex_val ho h hh, State.answerSlot, callId_some hid, callerPort_called role peer]
      obtain ⟨base, bindings, other, queue, notices⟩ := connect_tells
        (s.send id.station (.call ⟨.accept, id, p.port, .port (.handset h), .none⟩)) i (s.slots[i]) h id hid
      rw [send_base, send_slots] at base
      rw [send_handsets] at bindings other
      rw [send_notices] at notices
      generalize State.connect i _ h _ = t at base bindings other queue notices ⊢
      have slots : t.slots = _ := congrArg Base.slots base
      refine ⟨?_, slots, bindings, other, notices, fun room =>
        carries_answered _ _ _ _ (carries_of_queue queue (send_call _ _ _ active room))⟩
      refine (congrArg (fun x : Base => { x with panelAnswer := some ⟨16#8, .done, []⟩ }) base).trans ?_
      rw [slots]
    · refine request_refused _ ha ?_
      rw [judged, (alerts_iff _).mpr ⟨role, state⟩, on]
      rfl
    · obtain ⟨alike, carried⟩ := rejectSlot_declines s i id p c active state role hid peer target called
      obtain ⟨rfl, rfl⟩ | ⟨rfl, rfl⟩ := hc
      · refine ⟨_, (reject_named s so i active ha hi).trans (if_neg ?_), alikeButQueue_answered _ _ _ alike, carried⟩
        rw [(alerts_iff _).mpr ⟨role, state⟩]; nofun
      · refine ⟨_, (callEnd_named s so i active ha hi).trans (if_neg (by rw [state]; nofun)), ?_⟩
        rw [if_pos state]
        exact ⟨alikeButQueue_answered _ _ _ alike, carried⟩
    · exact callEnd_placed s so i id p.station hs (.party q) active ha hi state role hid (peerStation_some peer) target
        handset
    · exact callEnd_placed s so i id Config.allStations hs (.group g) active ha hi state role hid
        (peerStation_none peer) target handset
    · have named : (s.slots[i]).callerPort = callerPort ∧ (s.slots[i]).calledField = called := by
        rcases side with ⟨role, rfl, ⟨q, (⟨target, rfl⟩ | ⟨g, target, rfl⟩)⟩⟩ | ⟨role, rfl, target, hc⟩
        · exact ⟨callerPort_caller role handset, calledField_target target⟩
        · exact ⟨callerPort_caller role handset, calledField_target target⟩
        · exact ⟨callerPort_called role peer, calledField_called target hc⟩
      refine ⟨_, (callEnd_named s so i active ha hi).trans (if_neg (by rw [state]; nofun)), ?_⟩
      rw [if_neg (by rw [state]; nofun), hangUp_eq s i id p.station callerPort called hid (peerStation_some peer)
        named.1 named.2]
      obtain ⟨base, bindings, other, queue, notices⟩ := freeCall_tells
        (s.send p.station (.call ⟨.callEnd, id, callerPort, called, .cleared⟩)) i hs id (by rw [send_slot]; exact state)
        (by rw [send_slot]; exact handset) (by rw [send_slot]; exact hid)
      rw [send_base, send_slots] at base
      rw [send_handsets] at bindings other
      rw [send_notices] at notices
      generalize State.freeCall i _ = t at base bindings other queue notices ⊢
      exact ⟨congrArg (fun x : Base => { x with panelAnswer := some ⟨18#8, .done, []⟩ }) base, bindings, other, notices,
        fun room => carries_answered _ _ _ _ (carries_of_queue queue (send_call _ _ _ active room))⟩
    · refine request_refused _ ha ?_
      rw [judged, not_alerts still]
      rfl
    · exact (reject_named s so i active ha hi).trans (if_pos (not_alerts still))
    · exact (callEnd_named s so i active ha hi).trans (if_pos free)

end Sys2Proof.Machine
end

section
/-! PROOFS. CALL frames at the slots of the station (R117 to R126): point calls, offers, hunt calls and glare. -/

namespace Sys2Proof.Machine

/-! ### Two frames offered one after the other -/

theorem placeEntry_inserts (e : TxEntry) (q : List TxEntry) :
    ∃ pre post : List TxEntry, q = pre ++ post ∧ placeEntry e q = pre ++ e :: post := by
  induction q with
  | nil => exact ⟨[], [], rfl, rfl⟩
  | cons x t ih =>
    obtain ⟨pre, post, split, placed⟩ := ih
    unfold placeEntry
    split
    · exact ⟨x :: pre, post, by rw [split]; rfl, by rw [placed]; rfl⟩
    · exact ⟨[], x :: t, rfl, rfl⟩

theorem inTransmission_waiting (s : State) : s.inTransmission ++ s.waiting = s.txQueue := by
  unfold State.inTransmission State.waiting
  split
  · rw [← List.drop_one, List.take_append_drop]
  · rfl

theorem acceptEntry_txQueue (e : TxEntry) (s : State) :
    (s.acceptEntry e).txQueue = s.inTransmission ++ placeEntry e s.waiting := by
  simp only [State.acceptEntry, State.seizeMedium, apply_ite State.txQueue]
  rw [show ∀ t : State, t.findBusy.txQueue = t.txQueue from fun _ => rfl,
    show ∀ t : State, t.beginFrame.txQueue = t.txQueue from fun _ => rfl, ite_self, ite_self]
  rfl

/-- A frame that replaces nothing, offered in ACTIVE with room, is accepted (R7). -/
theorem send_accepted (t : Station) (b : Body) (s : State) (active : s.stationState = .active)
    (room : s.txQueue.length < 24) (plain : b.kind ≠ .state ∧ b.kind ≠ .beacon) :
    s.send t b = s.acceptEntry (s.newEntry t b) := by
  unfold State.send State.offer State.offerAllowed
  rw [if_pos ((isActive_iff s).mpr active), replaceIn_none _ _ _ fun e _ => replaces_other b plain e.body]
  exact congrArg Prod.fst (if_pos (show s.txQueue.length < Config.queueCapacity from room))

/-- That frame's entry is put in among the others, which stay (R7). -/
theorem send_inserts (t : Station) (b : Body) (s : State) (active : s.stationState = .active)
    (room : s.txQueue.length < 24) (plain : b.kind ≠ .state ∧ b.kind ≠ .beacon) :
    ∃ pre post : List TxEntry, s.txQueue = pre ++ post ∧ (s.send t b).txQueue = pre ++ s.newEntry t b :: post := by
  rw [send_accepted t b s active room plain, acceptEntry_txQueue]
  obtain ⟨pre, post, split, placed⟩ := placeEntry_inserts (s.newEntry t b) s.waiting
  exact ⟨s.inTransmission ++ pre, post, by rw [List.append_assoc, ← split, inTransmission_waiting],
    by rw [placed, List.append_assoc]⟩

theorem send_length (t : Station) (b : Body) (s : State) (active : s.stationState = .active)
    (room : s.txQueue.length < 24) (plain : b.kind ≠ .state ∧ b.kind ≠ .beacon) :
    (s.send t b).txQueue.length = s.txQueue.length + 1 := by
  obtain ⟨pre, post, before, after⟩ := send_inserts t b s active room plain
  simp [before, after]
  omega

/-- A waiting frame stays where another is offered (R7). -/
theorem send_keeps_carried {t u : Station} {b c : Body} {s : State} (active : s.stationState = .active)
    (room : s.txQueue.length < 24) (plain : b.kind ≠ .state ∧ b.kind ≠ .beacon) (waits : s.carries u c) :
    (s.send t b).carries u c := by
  obtain ⟨pre, post, before, after⟩ := send_inserts t b s active room plain
  obtain ⟨e, member, named⟩ := waits
  rw [before, List.mem_append] at member
  refine ⟨e, ?_, named⟩
  rw [after, List.mem_append, List.mem_cons]
  tauto

/-! ### The rows -/

/-- A CALL frame handed on in the row of its kind. -/
theorem call_heard {octets : List Octet} {source target : Station} {f : CallFrame} {s : State} {k : CallKind}
    (handed : s.HandsOn octets source target (.call f)) (kind : f.kind = k) :
    s.hearAs (·.calls k) octets = (s.havingHeard source).takeCall source target f :=
  hearAs_handsOn _ handed (by simp [Body.calls, kind]) nofun

section
variable {s : State} {unit crc : List Octet} {source target : Station} {f : CallFrame}

theorem alert_heard (handed : s.HandsOn (unit ++ crc) source target (.call f)) (kind : f.kind = .alert) :
    exec (.alert unit crc) s = .next ((s.havingHeard source).takeAlert source f) :=
  congrArg Host.Outcome.next ((call_heard handed kind).trans (by rw [State.takeCall, kind]))

theorem accept_heard (handed : s.HandsOn (unit ++ crc) source target (.call f)) (kind : f.kind = .accept) :
    exec (.accept unit crc) s = .next ((s.havingHeard source).takeAccept source f) :=
  congrArg Host.Outcome.next ((call_heard handed kind).trans (by rw [State.takeCall, kind]))

theorem decline_heard (handed : s.HandsOn (unit ++ crc) source target (.call f)) (kind : f.kind = .decline) :
    exec (.decline unit crc) s = .next ((s.havingHeard source).takeDecline source f) :=
  congrArg Host.Outcome.next ((call_heard handed kind).trans (by rw [State.takeCall, kind]))

theorem end_heard (handed : s.HandsOn (unit ++ crc) source target (.call f)) (kind : f.kind = .callEnd) :
    exec (.endReceived unit crc) s = .next ((s.havingHeard source).takeEnd source target f) :=
  congrArg Host.Outcome.next ((call_heard handed kind).trans (by rw [State.takeCall, kind]))

theorem offer_heard (handed : s.HandsOn (unit ++ crc) source target (.call f)) (kind : f.kind = .offer) :
    exec (.offer unit crc) s = .next ((s.havingHeard source).takeOffer target f) :=
  congrArg Host.Outcome.next ((call_heard handed kind).trans (by rw [State.takeCall, kind]))

end

/-! ### Slots named by a call id -/

theorem callerSlot_named {s : State} {id : CallId} {i : Fin 4} (hid : id = ⟨s.cfg.station, i⟩)
    (role : (s.slots[i]).role = some .caller) : s.callerSlot id = some i := by
  subst hid
  exact if_pos ⟨rfl, role⟩

theorem calledSlot_holds {s : State} {id : CallId} {i : Fin 4} (h : s.calledSlot id = some i) :
    (s.slots[i]).role = some .called ∧ (s.slots[i]).id = some id := by
  have holds := List.find?_some h
  simpa using holds

theorem hears_peer {x : Slot} {p : Party} {source : Station} (peer : x.peer = some p) (same : p.station = source) :
    x.hears source = true := by
  rw [Slot.hears, peer]
  simp [same]

theorem hears_other {x : Slot} {p : Party} {source : Station} (peer : x.peer = some p) (apart : p.station ≠ source) :
    x.hears source = false := by
  rw [Slot.hears, peer]
  simp [apart]

theorem hears_hunt {x : Slot} {g source : Station} (peer : x.peer = none) (group : x.target = some (.group g)) :
    x.hears source = true := by
  rw [Slot.hears, peer, Slot.isHunt, group]

theorem isHunt_party {x : Slot} {q : Party} (h : x.target = some (.party q)) : x.isHunt = false := by
  rw [Slot.isHunt, h]

theorem isHunt_group {x : Slot} {g : Station} (h : x.target = some (.group g)) : x.isHunt = true := by
  rw [Slot.isHunt, h]

/-- What the end of a TALKING call changes (R123). -/
theorem endCall_tells (s : State) (i : Fin 4) (h : Fin 2) (id : CallId) (reason : CallReason)
    (state : (s.slots[i]).state = .talking) (handset : (s.slots[i]).handset = some h) (hid : (s.slots[i]).id = some id)
    (room : s.notices.length < 32) :
    (s.endCall i reason).base = { s.base with slots := s.slots.set i Slot.empty } ∧
    ((s.endCall i reason).handsets[h]).bindings = (s.handsets[h]).bindings.filter (fun b => b.circuit != callCircuit id) ∧
    (s.endCall i reason).handsets[1 - h] = s.handsets[1 - h] ∧ (s.endCall i reason).txQueue = s.txQueue ∧
    (s.endCall i reason).notices = s.notices ++ [⟨.callEnded i id reason, s.stationTime⟩] := by
  rw [State.endCall, callId_some hid]
  obtain ⟨base, bindings, other, queue, notices⟩ := freeCall_tells s i h id state handset hid
  generalize s.freeCall i = t at base bindings other queue notices ⊢
  have time : t.stationTime = s.stationTime := congrArg Base.stationTime base
  rw [notify_base, notify_handsets, notify_txQueue, notify_room _ _ (by rw [notices]; exact room)]
  exact ⟨base, bindings, other, queue, by rw [notices, time]⟩

/-! ### Frames at a slot -/

/-- An ALERT at an OFFERING slot (R119, R125). -/
theorem takeAlert_offering {s : State} {source : Station} {f : CallFrame} {i : Fin 4} (hid : f.id = ⟨s.cfg.station, i⟩)
    (role : (s.slots[i]).role = some .caller) (state : (s.slots[i]).state = .offering)
    (hears : (s.slots[i]).hears source = true) : s.takeAlert source f =
      s.setSlot i { s.slots[i] with state := .ringback, timer := some (s.blocks 20000) } := by
  rw [State.takeAlert, callerSlot_named hid role]
  exact if_pos ⟨state, hears⟩

theorem takeAlert_other {s : State} {source : Station} {f : CallFrame} {i : Fin 4} (hid : f.id = ⟨s.cfg.station, i⟩)
    (role : (s.slots[i]).role = some .caller) (state : (s.slots[i]).state ≠ .offering) : s.takeAlert source f = s := by
  rw [State.takeAlert, callerSlot_named hid role]
  exact if_neg fun h => state h.1

/-- An ACCEPT at a slot that waits for it connects it (R119, R120, R125). -/
theorem takeAccept_waiting {s : State} {source : Station} {f : CallFrame} {i : Fin 4} {h : Fin 2} {cp : Port}
    (hid : f.id = ⟨s.cfg.station, i⟩) (role : (s.slots[i]).role = some .caller)
    (state : (s.slots[i]).state = .offering ∨ (s.slots[i]).state = .ringback) (called : f.called = .port cp)
    (id : (s.slots[i]).id = some f.id) (handset : (s.slots[i]).handset = some h)
    (hears : (s.slots[i]).hears source = true) :
    ∃ t : State, s.takeAccept source f = (if (s.slots[i]).isHunt then
        t.sendSlotFrame Config.allStations .callEnd .answeredElsewhere s.slots[i] else t) ∧
      t.base = { s.base with
        slots := s.slots.set i { s.slots[i] with state := .talking, timer := none, peer := some ⟨source, cp⟩ } } ∧
      (t.handsets[h]).bindings = (s.handsets[h]).bindings ++ [⟨callCircuit f.id, 72, 0⟩] ∧
      t.handsets[1 - h] = s.handsets[1 - h] ∧ t.txQueue = s.txQueue ∧ t.notices = s.notices := by
  have connected := connect_tells s i { s.slots[i] with peer := some ⟨source, cp⟩ } h f.id id
  refine ⟨s.connect i { s.slots[i] with peer := some ⟨source, cp⟩ } h, ?_, ?_, connected.2⟩
  · rw [State.takeAccept, if_pos (by rw [hid]), callerSlot_named hid role]
    dsimp only
    rw [called, handset, hears]
    rcases state with h | h <;> rw [h] <;> rfl
  · rw [connected.1, ← handset]

theorem takeAccept_talking {s : State} {source : Station} {f : CallFrame} {i : Fin 4} (hid : f.id = ⟨s.cfg.station, i⟩)
    (role : (s.slots[i]).role = some .caller) (state : (s.slots[i]).state = .talking) : s.takeAccept source f =
      if (s.slots[i]).isHunt ∧ ¬(s.slots[i]).hears source then
        s.sendSlotFrame source .callEnd .answeredElsewhere s.slots[i] else s := by
  rw [State.takeAccept, if_pos (by rw [hid]), callerSlot_named hid role]
  dsimp only
  rw [state]

/-- A DECLINE at a waiting point call (R119). -/
theorem takeDecline_point {s : State} {source : Station} {f : CallFrame} {i : Fin 4} {q : Party}
    (hid : f.id = ⟨s.cfg.station, i⟩) (role : (s.slots[i]).role = some .caller)
    (state : (s.slots[i]).state = .offering ∨ (s.slots[i]).state = .ringback) (party : (s.slots[i]).target = some (.party q))
    (hears : (s.slots[i]).hears source = true) : s.takeDecline source f = s.endCall i f.reason := by
  rw [State.takeDecline, callerSlot_named hid role]
  exact if_pos ⟨state, by rw [isHunt_party party]; rfl, hears⟩

theorem takeDecline_hunt {s : State} {source : Station} {f : CallFrame} {i : Fin 4} {g : Station}
    (hid : f.id = ⟨s.cfg.station, i⟩) (role : (s.slots[i]).role = some .caller)
    (group : (s.slots[i]).target = some (.group g)) : s.takeDecline source f = s := by
  rw [State.takeDecline, callerSlot_named hid role]
  refine if_neg fun h => ?_
  rw [isHunt_group group] at h
  exact absurd h.2.1 nofun

/-- An END of the peer at a CALLER slot (R119, R125). -/
theorem takeEnd_peer {s : State} {source target : Station} {f : CallFrame} {i : Fin 4} {p : Party}
    (hid : f.id = ⟨s.cfg.station, i⟩) (role : (s.slots[i]).role = some .caller) (peer : (s.slots[i]).peer = some p)
    (same : p.station = source) : s.takeEnd source target f = s.endCall i f.reason := by
  simp only [State.takeEnd, if_pos (congrArg CallId.station hid), callerSlot_named hid role, peer, if_pos same]

theorem takeEnd_unpaired {s : State} {source target : Station} {f : CallFrame} {i : Fin 4}
    (hid : f.id = ⟨s.cfg.station, i⟩) (role : (s.slots[i]).role = some .caller) (peer : (s.slots[i]).peer = none) :
    s.takeEnd source target f = s := by
  simp only [State.takeEnd, if_pos (congrArg CallId.station hid), callerSlot_named hid role, peer]

/-- An END of the caller at a CALLED slot (R119, R125). -/
theorem takeEnd_called {s : State} {source target : Station} {f : CallFrame} {i : Fin 4}
    (other : f.id.station ≠ s.cfg.station) (from_caller : source = f.id.station) (holds : s.calledSlot f.id = some i) :
    s.takeEnd source target f = if (s.slots[i]).ignoresEnd target f.reason then s else s.endCall i f.reason := by
  rw [State.takeEnd, if_neg other, holds]
  cases ignores : (s.slots[i]).ignoresEnd target f.reason <;> simp [from_caller, -Fin.getElem_fin, ignores]

/-- Settles O54: each frame by the slot it names and the change or frame that follows. -/
theorem callFramesMoveTheSlot : Obligations.CallFramesMoveTheSlot := by
  unfold Obligations.CallFramesMoveTheSlot
  intro s unit crc source target f i
  refine ⟨fun x p q hs hid hx role id party peer station handset => ?_, fun handed kind own notCaller => ?_,
    fun handed kind other caller holds state room => ?_, fun hs cp handed kind other caller holds state handset called room => ?_,
    fun p hs handed kind hid role id peer station state handset room => ?_⟩
  · subst hx
    have hears := hears_peer peer station
    refine ⟨fun handed kind state => ?_, fun handed kind state cp called => ?_, fun handed kind state room => ?_,
      fun handed kind state room => ?_⟩
    · exact (alert_heard handed kind).trans (congrArg _ (takeAlert_offering hid role state hears))
    · refine ⟨_, accept_heard handed kind, ?_⟩
      obtain ⟨t, taken, base, bindings, -, queue, notices⟩ :=
        takeAccept_waiting (s := s.havingHeard source) hid role state called id handset hears
      rw [show ((s.havingHeard source).slots[i]).isHunt = false from isHunt_party party, if_neg nofun] at taken
      rw [taken]
      have slots : t.slots = _ := congrArg Base.slots base
      exact ⟨by rw [base, slots], slots, by rw [bindings, hid]; rfl, queue, notices⟩
    · refine (decline_heard handed kind).trans (congrArg _ ?_)
      rw [takeDecline_point (s := s.havingHeard source) hid role state party hears]
      exact endCall_silent _ i _ f.id id (by rcases state with h | h <;> exact h ▸ nofun) room
    · refine (end_heard handed kind).trans (congrArg _ ?_)
      rw [takeEnd_peer (s := s.havingHeard source) hid role peer station]
      exact endCall_silent _ i _ f.id id (by rcases state with h | h <;> exact h ▸ nofun) room
  · refine ⟨_, accept_heard handed kind, ?_⟩
    have noCaller : (s.havingHeard source).callerSlot f.id = none := if_neg fun h => notCaller h.2
    have taken : (s.havingHeard source).takeAccept source f =
        (s.havingHeard source).send source (.call ⟨.callEnd, f.id, f.callerPort, f.called, .cleared⟩) := by
      rw [State.takeAccept, if_pos (by exact own), noCaller]
    rw [taken]
    exact ⟨send_alike _ _ _, fun room => send_call _ _ _ handed.active room⟩
  · refine (end_heard handed kind).trans (congrArg _ ?_)
    rw [takeEnd_called (s := s.havingHeard source) other caller holds, if_neg]
    · exact endCall_silent _ i _ f.id (calledSlot_holds holds).2 (by exact state ▸ nofun) room
    · have state' : ((s.havingHeard source).slots[i]).state = .alerting := state
      simp [Slot.ignoresEnd, state', -Fin.getElem_fin]
  · refine ⟨_, end_heard handed kind, ?_⟩
    rw [takeEnd_called (s := s.havingHeard source) other caller holds, if_neg]
    · exact endCall_tells (s.havingHeard source) i hs f.id f.reason state handset (calledSlot_holds holds).2 room
    · have called' : ((s.havingHeard source).slots[i]).called = some (.port cp) := called
      simp [Slot.ignoresEnd, called', -Fin.getElem_fin]
  · refine ⟨_, end_heard handed kind, ?_⟩
    rw [takeEnd_peer (s := s.havingHeard source) hid role peer station]
    exact endCall_tells (s.havingHeard source) i hs f.id f.reason state handset id room

end Sys2Proof.Machine
end

section
/-! PROOFS. Offers of calls, hunt calls and glare (R121, R124 to R126). -/

namespace Sys2Proof.Machine

/-! ### What an offer meets -/

theorem takeOffer_point {s : State} {target : Station} {f : CallFrame} (other : f.id.station ≠ s.cfg.station)
    (own : target = s.cfg.station) (numbered : s.cfg.station ≠ Config.allStations) :
    s.takeOffer target f = s.takePointOffer f := by
  rw [State.takeOffer, if_neg other, if_neg (own ▸ numbered)]

theorem takeOffer_hunt {s : State} {target : Station} {f : CallFrame} (other : f.id.station ≠ s.cfg.station)
    (all : target = Config.allStations) : s.takeOffer target f = s.takeHuntOffer f := by
  rw [State.takeOffer, if_neg other, if_pos all]

theorem supersede_none {s : State} {f : CallFrame} (h : s.calledSlot f.id = none) : s.supersede f = s := by
  rw [State.supersede, h]

/-- Step 1 of R121 at a slot that alerts already. -/
theorem supersede_alerting {s : State} {f : CallFrame} {j : Fin 4} (h : s.calledSlot f.id = some j)
    (state : (s.slots[j]).state = .alerting) (room : s.notices.length < 32) : s.supersede f = { s with
      slots := s.slots.set j Slot.empty, notices := s.notices ++ [⟨.callEnded j f.id .cleared, s.stationTime⟩] } := by
  rw [State.supersede, h]
  exact endCall_silent s j .cleared f.id (calledSlot_holds h).2 (by rw [state]; nofun) room

theorem glareSlot_none {s : State} {f : CallFrame}
    (h : ∀ i : Fin 4, (s.slots[i]).target ≠ some (.party ⟨f.id.station, f.callerPort⟩)) : s.glareSlot f = none := by
  rw [State.glareSlot, List.findSome?_eq_none_iff]
  intro i _
  dsimp only
  split
  · exact if_neg fun crosses => h i crosses.2.2.1
  · rfl

theorem freeSlot_none {s : State} (h : ∀ i : Fin 4, (s.slots[i]).state ≠ .free) : s.freeSlot = none := by
  rw [State.freeSlot, List.find?_eq_none]
  intro i _
  simpa using h i

/-- The lowest FREE slot where slot `i` has just been freed. -/
theorem freeSlot_freed {s u : State} {i j : Fin 4} (slots : u.slots = s.slots.set i Slot.empty)
    (free : j = i ∨ (s.slots[j]).state = .free) (below : ∀ n : Fin 4, n < j → n ≠ i ∧ (s.slots[n]).state ≠ .free) :
    u.freeSlot = some j := by
  have at_slot (n : Fin 4) : u.slots[n] = if i = n then Slot.empty else s.slots[n] := by
    rw [slots, Fin.getElem_fin, Vector.getElem_set]
    simp [Fin.ext_iff]
  refine freeSlot_lowest u j ?_ fun n hn => ?_
  · rw [at_slot]
    split
    · rfl
    · next apart => exact free.resolve_left fun e => apart e.symm
  · rw [at_slot, if_neg (below n hn).1.symm]
    exact (below n hn).2

theorem answersGroup_iff {s : State} {f : CallFrame} {g : Station} (h : f.called = .group g) :
    s.answersGroup f = true ↔ g.toNat ∈ s.cfg.groups := by
  rw [State.answersGroup, h]
  simp

/-- A point offer that crosses no call of the station (R121). -/
theorem takePointOffer_eq {s u : State} {f : CallFrame} {x : Fin 2} (called : f.called = .port (.handset x))
    (superseded : s.supersede f = u) (noGlare : u.glareSlot f = none) : s.takePointOffer f =
      if u.cfg.panelPresent = false then u.answerOffer f .decline .noAnswer
      else match u.freeSlot with
        | some i => u.alertOn i f
        | none => u.answerOffer f .decline .busy := by
  rw [State.takePointOffer, called]
  dsimp only
  rw [superseded, noGlare]
  cases u.cfg.panelPresent <;> rfl

/-- A hunt offer that is ignored (R124). -/
theorem takeHuntOffer_ignored {s u : State} {f : CallFrame} {g : Station} (called : f.called = .group g)
    (superseded : s.supersede f = u)
    (h : g.toNat ∉ u.cfg.groups ∨ u.cfg.panelPresent = false ∨ u.freeSlot = none) : s.takeHuntOffer f = u := by
  rw [State.takeHuntOffer, superseded]
  split
  · next answers =>
    rw [Bool.and_eq_true, answersGroup_iff called] at answers
    rcases h with h | h | h
    · exact absurd answers.1 h
    · exact absurd answers.2 (by rw [h]; nofun)
    · rw [h]
  · rfl

/-- An offer that the station alerts for, point or hunt (R121, R124). -/
theorem takeOffer_alerts {s u : State} {target : Station} {f : CallFrame} {i : Fin 4}
    (numbered : s.cfg.station ≠ Config.allStations) (other : f.id.station ≠ s.cfg.station)
    (superseded : s.supersede f = u) (panel : u.cfg.panelPresent = true) (free : u.freeSlot = some i)
    (meets : (∃ x : Fin 2, target = s.cfg.station ∧ f.called = .port (.handset x) ∧ u.glareSlot f = none) ∨
      ∃ g : Station, target = Config.allStations ∧ f.called = .group g ∧ g.toNat ∈ u.cfg.groups) :
    s.takeOffer target f = u.alertOn i f := by
  obtain ⟨x, own, called, noGlare⟩ | ⟨g, all, called, listed⟩ := meets
  · rw [takeOffer_point other own numbered, takePointOffer_eq called superseded noGlare, if_neg (by rw [panel]; nofun),
      free]
  · rw [takeOffer_hunt other all, State.takeHuntOffer, superseded]
    rw [(answersGroup_iff called).mpr listed, panel, free]
    rfl

/-- What an alerting slot changes, with its frame and its notice (R121 step 5). -/
theorem alertOn_alerts (s : State) (i : Fin 4) (f : CallFrame) (active : s.stationState = .active)
    (room : s.notices.length < 32) :
    State.alikeButQueue { s with
      slots := s.slots.set i ⟨.alerting, some .called, some f.id, none, some ⟨f.id.station, f.callerPort⟩,
        some f.called, none, some (s.blocks 20000)⟩
      notices := s.notices ++ [⟨.callOffer i f.id ⟨f.id.station, f.callerPort⟩ f.called, s.stationTime⟩] }
      (s.alertOn i f) ∧
    (s.txQueue.length < 24 →
      (s.alertOn i f).carries f.id.station (.call ⟨.alert, f.id, f.callerPort, f.called, .none⟩)) := by
  refine ⟨alike_told (s := s.setSlot i _) _ room (send_alike _ _ _), fun space => ?_⟩
  exact carries_of_queue (notify_txQueue _ _) (send_call (s.setSlot i _) f.id.station
    ⟨.alert, f.id, f.callerPort, f.called, .none⟩ active space)

/-- Settles O53: each offer by the slot that holds its id, the glare it meets and the slot that is FREE. -/
theorem offersAlert : Obligations.OffersAlert := by
  unfold Obligations.OffersAlert
  intro s unit crc source target f alerting handed kind numbered other hx
  subst hx
  have heard := offer_heard handed kind
  refine ⟨fun own notHandset => heard.trans (congrArg _ ?_), fun meets panel => ⟨fun i fresh free below room => ?_,
    fun i j holds state free below room => ?_⟩, fun fresh own x called noGlare => ⟨fun panel full => ?_, fun noPanel => ?_⟩,
    fun all g called => ⟨fun fresh ignored => heard.trans (congrArg _ ?_),
      fun j holds state room ignored => heard.trans (congrArg _ ?_)⟩⟩
  · rw [takeOffer_point (s := s.havingHeard source) other own numbered, State.takePointOffer]
    split
    · next x hx => exact absurd hx (notHandset x)
    · rfl
  · have superseded : (s.havingHeard source).supersede f = s.havingHeard source := supersede_none fresh
    have taken := takeOffer_alerts (s := s.havingHeard source) (target := target) numbered other superseded panel
      (freeSlot_lowest _ i free below)
      (meets.imp (fun ⟨x, own, called, apart⟩ => ⟨x, own, called, glareSlot_none apart⟩) id)
    exact ⟨_, heard.trans (congrArg _ taken), alertOn_alerts _ i f handed.active room⟩
  · have superseded := supersede_alerting (s := s.havingHeard source) holds state (by exact Nat.lt_of_succ_lt room)
    generalize hu : ({ s.havingHeard source with slots := _, notices := _ } : State) = u at superseded
    have slots : u.slots = s.slots.set j Slot.empty := by rw [← hu]; rfl
    have cfg : u.cfg = s.cfg := by rw [← hu]; rfl
    have lowest : u.freeSlot = some i := freeSlot_freed (s := s) slots free below
    have noGlare (apart : ∀ n : Fin 4, (s.slots[n]).target ≠ some (.party ⟨f.id.station, f.callerPort⟩)) :
        u.glareSlot f = none := by
      refine glareSlot_none fun n => ?_
      rw [slots, Fin.getElem_fin, Vector.getElem_set]
      split
      · nofun
      · exact apart n
    have taken := takeOffer_alerts (s := s.havingHeard source) (target := target) numbered other superseded
      (by rw [cfg]; exact panel) lowest
      (meets.imp (fun ⟨x, own, called, apart⟩ => ⟨x, own, called, noGlare apart⟩)
        (fun ⟨g, all, called, listed⟩ => ⟨g, all, called, by rw [cfg]; exact listed⟩))
    obtain ⟨alike, carried⟩ := alertOn_alerts u i f (by rw [← hu]; exact handed.active)
      (by rw [← hu, List.length_append]; exact room)
    subst hu
    refine ⟨_, heard.trans (congrArg _ taken), ?_, carried⟩
    simp only [List.append_assoc] at alike
    exact alike
  · have taken := takePointOffer_eq (s := s.havingHeard source) called (supersede_none fresh) (glareSlot_none noGlare)
    rw [if_neg (by rw [show (s.havingHeard source).cfg.panelPresent = true from panel]; nofun),
      freeSlot_none (s := s.havingHeard source) full] at taken
    refine ⟨_, heard.trans (congrArg _ ((takeOffer_point (s := s.havingHeard source) other own numbered).trans taken)), send_alike _ _ _, fun room => ?_⟩
    exact send_call (s.havingHeard source) f.id.station ⟨.decline, f.id, f.callerPort, f.called, .busy⟩ handed.active room
  · have taken := takePointOffer_eq (s := s.havingHeard source) called (supersede_none fresh) (glareSlot_none noGlare)
    rw [if_pos (by exact noPanel)] at taken
    refine ⟨_, heard.trans (congrArg _ ((takeOffer_point (s := s.havingHeard source) other own numbered).trans taken)), send_alike _ _ _, fun room => ?_⟩
    exact send_call (s.havingHeard source) f.id.station ⟨.decline, f.id, f.callerPort, f.called, .noAnswer⟩ handed.active
      room
  · rw [takeOffer_hunt (s := s.havingHeard source) other all]
    exact takeHuntOffer_ignored called (supersede_none fresh) (ignored.imp_right fun h => h.imp_right freeSlot_none)
  · rw [takeOffer_hunt (s := s.havingHeard source) other all]
    exact takeHuntOffer_ignored called (supersede_alerting (s := s.havingHeard source) holds state room)
      (ignored.imp_right .inl)

/-! ### Glare -/

theorem allSlots_split (i : Fin 4) : allSlots = allSlots.take i.val ++ i :: allSlots.drop (i.val + 1) ∧
    ∀ j ∈ allSlots.take i.val, j < i := by
  decide +revert

/-- The lowest slot whose call an offer crosses (R126). -/
theorem glareSlot_lowest {s : State} {f : CallFrame} {i : Fin 4} {h : Fin 2} (called : f.called = .port (.handset h))
    (role : (s.slots[i]).role = some .caller) (state : (s.slots[i]).state = .offering ∨ (s.slots[i]).state = .ringback)
    (handset : (s.slots[i]).handset = some h) (party : (s.slots[i]).target = some (.party ⟨f.id.station, f.callerPort⟩))
    (below : ∀ j : Fin 4, j < i → (s.slots[j]).target ≠ some (.party ⟨f.id.station, f.callerPort⟩)) :
    s.glareSlot f = some (i, h) := by
  obtain ⟨split, lower⟩ := allSlots_split i
  rw [State.glareSlot, List.findSome?_eq_some_iff]
  refine ⟨_, i, _, split, ?_, fun j hj => ?_⟩
  · dsimp only
    rw [handset]
    exact if_pos ⟨role, state, party, called⟩
  · dsimp only
    split
    · exact if_neg fun crosses => below j (lower j hj) crosses.2.2.1
    · rfl

end Sys2Proof.Machine
end

section
/-! PROOFS. Hunt calls and glare (R125, R126). -/

namespace Sys2Proof.Machine

/-- The first ACCEPT of a hunt call (R125). -/
theorem takeAccept_hunt {s : State} {source : Station} {f : CallFrame} {i : Fin 4} {h : Fin 2} {cp : Port} {g : Station}
    (active : s.stationState = .active) (hid : f.id = ⟨s.cfg.station, i⟩) (role : (s.slots[i]).role = some .caller)
    (state : (s.slots[i]).state = .offering ∨ (s.slots[i]).state = .ringback) (called : f.called = .port cp)
    (id : (s.slots[i]).id = some f.id) (handset : (s.slots[i]).handset = some h) (peer : (s.slots[i]).peer = none)
    (group : (s.slots[i]).target = some (.group g)) :
    ∃ t : State, s.takeAccept source f = t ∧
      t.base = { s.base with slots := t.slots } ∧
      t.slots = s.slots.set i { s.slots[i] with state := .talking, timer := none, peer := some ⟨source, cp⟩ } ∧
      (t.handsets[h]).bindings = (s.handsets[h]).bindings ++ [⟨callCircuit f.id, 72, 0⟩] ∧
      t.handsets[1 - h] = s.handsets[1 - h] ∧ t.notices = s.notices ∧
      (s.txQueue.length < 24 → t.carries Config.allStations
        (.call ⟨.callEnd, f.id, .handset h, .group g, .answeredElsewhere⟩)) := by
  obtain ⟨t, taken, base, bindings, other, queue, notices⟩ :=
    takeAccept_waiting hid role state called id handset (hears_hunt (source := source) peer group)
  rw [if_pos (isHunt_group group), sendSlotFrame_eq _ _ _ _ _ f.id (.handset h) (.group g) (callId_some id)
    (callerPort_caller role handset) (calledField_target group)] at taken
  have slots : t.slots = _ := congrArg Base.slots base
  have still : t.stationState = .active := (congrArg Base.stationState base).trans active
  refine ⟨_, taken, ?_, ?_, ?_, ?_, ?_, fun room => send_call _ _ _ still (by rw [queue]; exact room)⟩
  · rw [send_base, send_slots, base, slots]
  · rw [send_slots, slots]
  · rw [send_handsets, bindings]
  · rw [send_handsets, other]
  · rw [send_notices, notices]

/-- The lower station's answer to a call that crosses its own (R126). -/
theorem settleGlare_lower {s : State} {i : Fin 4} {h : Fin 2} {f : CallFrame} (active : s.stationState = .active)
    (lower : s.cfg.station.toNat < f.id.station.toNat) : s.alikeButQueue (s.settleGlare i h f) ∧
      (s.txQueue.length < 24 →
        (s.settleGlare i h f).carries f.id.station (.call ⟨.decline, f.id, f.callerPort, f.called, .glare⟩)) := by
  rw [State.settleGlare, if_pos lower]
  exact ⟨send_alike _ _ _, fun room => send_call s _ ⟨.decline, f.id, f.callerPort, f.called, .glare⟩ active room⟩

/-- The higher station's own call ends and the offer takes a slot at once (R126). -/
theorem settleGlare_higher {s : State} {i j : Fin 4} {h : Fin 2} {f : CallFrame} {own : CallId}
    (active : s.stationState = .active) (higher : f.id.station.toNat < s.cfg.station.toNat)
    (called : f.called = .port (.handset h)) (role : (s.slots[i]).role = some .caller)
    (state : (s.slots[i]).state = .offering ∨ (s.slots[i]).state = .ringback) (handset : (s.slots[i]).handset = some h)
    (id : (s.slots[i]).id = some own) (party : (s.slots[i]).target = some (.party ⟨f.id.station, f.callerPort⟩))
    (free : j = i ∨ (s.slots[j]).state = .free) (below : ∀ n : Fin 4, n < j → n ≠ i ∧ (s.slots[n]).state ≠ .free)
    (room : s.notices.length < 32) : ∃ t : State, s.settleGlare i h f = t ∧
      t.base = { s.base with
        slots := (s.slots.set i Slot.empty).set j
          ⟨.talking, some .called, some f.id, none, some ⟨f.id.station, f.callerPort⟩, some f.called, some h, none⟩ } ∧
      (t.handsets[h]).bindings = (s.handsets[h]).bindings ++ [⟨callCircuit f.id, 72, 0⟩] ∧
      t.handsets[1 - h] = s.handsets[1 - h] ∧
      t.notices = s.notices ++ [⟨.callEnded i own .glare, s.stationTime⟩] ∧
      (s.txQueue.length + 1 < 24 →
        t.carries f.id.station (.call ⟨.callEnd, own, .handset h, .port f.callerPort, .glare⟩) ∧
        t.carries f.id.station (.call ⟨.accept, f.id, f.callerPort, f.called, .none⟩)) := by
  have silent : (s.slots[i]).state ≠ .talking := by rcases state with h | h <;> rw [h] <;> nofun
  have ended := endCall_sent s f.id.station (.call ⟨.callEnd, own, .handset h, .port f.callerPort, .glare⟩) i .glare own
    id silent room
  have sent (space : s.txQueue.length < 24) :=
    send_call s f.id.station ⟨.callEnd, own, .handset h, .port f.callerPort, .glare⟩ active space
  have length (space : s.txQueue.length < 24) := send_length f.id.station
    (.call ⟨.callEnd, own, .handset h, .port f.callerPort, .glare⟩) s active space ⟨nofun, nofun⟩
  rw [State.settleGlare, if_neg (by omega), sendSlotFrame_eq _ _ _ _ _ own (.handset h) (.port f.callerPort)
    (callId_some id) (callerPort_caller role handset) (calledField_target party)]
  generalize State.send f.id.station (.call ⟨.callEnd, own, .handset h, .port f.callerPort, .glare⟩) s = v
    at ended sent length ⊢
  obtain ⟨alike, queue⟩ := ended
  generalize State.endCall i .glare v = u at alike queue ⊢
  have base : u.base = { s.base with slots := s.slots.set i Slot.empty } := (congrArg State.base alike).trans rfl
  have handsets : u.handsets = s.handsets := (congrArg State.handsets alike).trans rfl
  have notices : u.notices = s.notices ++ [⟨.callEnded i own .glare, s.stationTime⟩] :=
    (congrArg State.notices alike).trans rfl
  have slots : u.slots = s.slots.set i Slot.empty := congrArg Base.slots base
  have still : u.stationState = .active := (congrArg Base.stationState base).trans active
  obtain ⟨base', bindings, other, queue', notices'⟩ := connect_tells
    (u.send f.id.station (.call ⟨.accept, f.id, f.callerPort, .port (.handset h), .none⟩)) j f.calledSlot h f.id rfl
  rw [send_base, send_slots, base, slots] at base'
  rw [send_handsets, handsets] at bindings other
  rw [send_notices, notices] at notices'
  dsimp only
  rw [freeSlot_freed slots free below]
  refine ⟨_, rfl, base', bindings, other, notices', fun space => ?_⟩
  have space' : u.txQueue.length < 24 := by rw [queue, length (by omega)]; exact space
  refine ⟨carries_of_queue queue' (send_keeps_carried still space' ⟨nofun, nofun⟩
    (carries_of_queue queue (sent (by omega)))), ?_⟩
  rw [called]
  exact carries_of_queue queue' (send_call u _ _ still space')

/-- A point offer that crosses a call of the station (R126). -/
theorem takeOffer_glare {s : State} {target : Station} {f : CallFrame} {i : Fin 4} {h : Fin 2}
    (other : f.id.station ≠ s.cfg.station) (own : target = s.cfg.station) (numbered : s.cfg.station ≠ Config.allStations)
    (fresh : s.calledSlot f.id = none) (called : f.called = .port (.handset h))
    (role : (s.slots[i]).role = some .caller) (state : (s.slots[i]).state = .offering ∨ (s.slots[i]).state = .ringback)
    (handset : (s.slots[i]).handset = some h) (party : (s.slots[i]).target = some (.party ⟨f.id.station, f.callerPort⟩))
    (below : ∀ j : Fin 4, j < i → (s.slots[j]).target ≠ some (.party ⟨f.id.station, f.callerPort⟩)) :
    s.takeOffer target f = s.settleGlare i h f := by
  have crossed := glareSlot_lowest called role state handset party below
  rw [takeOffer_point other own numbered, State.takePointOffer, called]
  dsimp only
  rw [supersede_none fresh, crossed]

/-- Settles O55: a hunt call at its caller and at a member, and glare by the numbers of the two stations. -/
theorem huntCallsAndGlare : Obligations.HuntCallsAndGlare := by
  unfold Obligations.HuntCallsAndGlare
  intro s unit crc source target f i x h handed hx
  subst hx
  refine ⟨fun g hid role id handset group => ⟨fun peer => ⟨fun kind state => ?_, fun kind state => ?_, fun kind => ?_,
      fun kind state cp called => ?_⟩, fun kind => ?_, fun p state peer kind => ⟨fun same => ?_, fun apart => ?_⟩⟩,
    fun g kind caller holds group state handset => ⟨fun all reason => ?_, fun heeds room => ?_⟩,
    fun kind own numbered other fresh called role state handset id party below => ⟨fun lower => ?_,
      fun higher j free below' room => ?_⟩⟩
  · exact (alert_heard handed kind).trans (congrArg _
      (takeAlert_offering (s := s.havingHeard source) hid role state (hears_hunt peer group)))
  · exact (alert_heard handed kind).trans (congrArg _
      (takeAlert_other (s := s.havingHeard source) hid role (by exact state ▸ nofun)))
  · refine (end_heard handed kind).trans (congrArg _ ?_)
    rw [takeEnd_unpaired (s := s.havingHeard source) hid role peer]
  · obtain ⟨t, taken, told⟩ := takeAccept_hunt (s := s.havingHeard source) (source := source) handed.active hid role
      state called id handset peer group
    exact ⟨t, (accept_heard handed kind).trans (congrArg _ taken), told⟩
  · exact (decline_heard handed kind).trans (congrArg _
      (takeDecline_hunt (s := s.havingHeard source) hid role group))
  · refine (accept_heard handed kind).trans (congrArg _ ?_)
    rw [takeAccept_talking (s := s.havingHeard source) hid role state]
    exact if_neg fun late => late.2 (hears_peer peer same)
  · have taken := takeAccept_talking (s := s.havingHeard source) (source := source) hid role state
    rw [if_pos ⟨isHunt_group group, ne_true_of_eq_false (hears_other peer apart)⟩,
      show (s.havingHeard source).slots[i] = s.slots[i] from rfl, sendSlotFrame_eq _ _ _ _ _ f.id (.handset h) (.group g) (callId_some id) (callerPort_caller role handset)
        (calledField_target group)] at taken
    exact ⟨_, (accept_heard handed kind).trans (congrArg _ taken), send_alike _ _ _,
      fun room => send_call _ _ _ handed.active room⟩
  · refine (end_heard handed kind).trans (congrArg _ ?_)
    rw [takeEnd_called (s := s.havingHeard source) (caller ▸ handed.other) caller.symm holds]
    refine if_pos ?_
    rw [show (s.havingHeard source).slots[i] = s.slots[i] from rfl, Slot.ignoresEnd, state, all, reason, group]
    rfl
  · have heeded : ¬(s.slots[i]).ignoresEnd target f.reason = true := by
      rw [Slot.ignoresEnd, state, group]
      rcases heeds with h | h <;> simp [h]
    refine ⟨_, (end_heard handed kind).trans (congrArg _
      ((takeEnd_called (s := s.havingHeard source) (caller ▸ handed.other) caller.symm holds).trans (if_neg heeded))), ?_⟩
    obtain ⟨base, bindings, other, -, notices⟩ := endCall_tells (s.havingHeard source) i h f.id f.reason state handset
      (calledSlot_holds holds).2 room
    exact ⟨base, bindings, other, notices⟩
  · obtain ⟨alike, carried⟩ := settleGlare_lower (s := s.havingHeard source) (i := i) (h := h) handed.active lower
    exact ⟨_, (offer_heard handed kind).trans (congrArg _ (takeOffer_glare (s := s.havingHeard source) other own numbered
      fresh called role state handset party fun j hj => party ▸ below j hj)), alike, carried⟩
  · obtain ⟨t, settled, told⟩ := settleGlare_higher (s := s.havingHeard source) handed.active higher called role state
      handset id party free below' room
    exact ⟨t, (offer_heard handed kind).trans (congrArg _ ((takeOffer_glare (s := s.havingHeard source) other own numbered
      fresh called role state handset party fun j hj => party ▸ below j hj).trans settled)), told⟩

end Sys2Proof.Machine
end

section
/-! PROOFS. The REPLY to a pending ask (R112). -/

namespace Sys2Proof.Machine

theorem answers_iff (source : Station) (r : Reply) (a : PendingAsk) :
    a.answers source r = true ↔ a.tag = r.tag ∧ a.station = source ∧ a.line = r.line := by
  simp [PendingAsk.answers, and_assoc]

/-- The one ask that a REPLY answers leaves the pending asks (R112). -/
theorem takeReply_answered {s : State} {source : Station} {r : Reply} {pre post : List PendingAsk} {a : PendingAsk}
    (pending : s.pendingAsks = pre ++ a :: post) (answered : a.tag = r.tag ∧ a.station = source ∧ a.line = r.line)
    (only : ∀ x ∈ pre ++ post, ¬(x.tag = r.tag ∧ x.station = source ∧ x.line = r.line)) : s.takeReply source r =
      State.takeOutcome a r.refused r.reason { s with pendingAsks := pre ++ post } := by
  have silent : ∀ x ∈ pre ++ post, x.answers source r = false := fun x hx =>
    Bool.eq_false_iff.mpr fun answers => only x hx ((answers_iff source r x).mp answers)
  have found : s.pendingAsks.find? (·.answers source r) = some a := by
    rw [pending, List.find?_append, List.find?_eq_none.mpr fun x hx => by simp [silent x (List.mem_append_left _ hx)]]
    simp [(answers_iff source r a).mpr answered]
  have others : s.pendingAsks.filter (fun x => !x.answers source r) = pre ++ post := by
    have keeps (l : List PendingAsk) (h : ∀ x ∈ l, x ∈ pre ++ post) : l.filter (fun x => !x.answers source r) = l :=
      List.filter_eq_self.mpr fun x hx => by simp [silent x (h x hx)]
    rw [pending, List.filter_append, List.filter_cons, keeps pre fun x hx => List.mem_append_left _ hx,
      keeps post fun x hx => List.mem_append_right _ hx, (answers_iff source r a).mpr answered]
    rfl
  rw [State.takeReply, found, ← others]

/-- A REPLY that answers neither an ask nor a channel's wait (R112, R137). -/
theorem takeReply_unasked {s : State} {source : Station} {r : Reply}
    (asks : ∀ a ∈ s.pendingAsks, ¬(a.tag = r.tag ∧ a.station = source ∧ a.line = r.line))
    (waits : ∀ (k : Fin 8) (w : ListenWait), (s.channels[k]).wait = some w → ¬(w.tag = r.tag ∧ w.station = source)) :
    s.takeReply source r = s := by
  have noAsk : s.pendingAsks.find? (·.answers source r) = none :=
    List.find?_eq_none.mpr fun a ha answers => asks a ha ((answers_iff source r a).mp answers)
  have noChannel : s.waitingChannel source r = none := by
    refine List.find?_eq_none.mpr fun k _ waiting => ?_
    cases h : (s.channels[k]).wait with
    | none => simp [h, -Fin.getElem_fin] at waiting
    | some w =>
      rw [h] at waiting
      simp only [Bool.and_eq_true, beq_iff_eq] at waiting
      exact waits k w h waiting.2
  rw [State.takeReply, noAsk, noChannel]

/-- What the outcome of an ask leaves alone (R112). -/
theorem takeOutcome_frame (a : PendingAsk) (refused : Bool) (reason : Option AskReason) (s : State) :
    ∃ t : State, s.takeOutcome a refused reason = t ∧ t.base = s.base ∧ t.pendingAsks = s.pendingAsks ∧
      t.records = s.records ∧ t.txQueue = s.txQueue ∧ t.mirrors = s.mirrors := by
  unfold State.takeOutcome
  split
  · exact ⟨_, rfl, notify_base _ _, notify_pendingAsks _ _, notify_records _ _, notify_txQueue _ _, notify_mirrors _ _⟩
  · split
    · have bound := addBinding_rebinds a.handset (lineCircuit a.line) s
      exact ⟨_, rfl, bound.base, bound.pendingAsks, bound.records, bound.txQueue, bound.mirrors⟩
    · have bound := addBinding_rebinds a.handset (lineCircuit a.line)
        { s with held := s.held.filter fun e => e.line != a.line }
      exact ⟨_, rfl, bound.base, bound.pendingAsks, bound.records, bound.txQueue, bound.mirrors⟩
    · have freed := removeBinding_rebinds a.handset (lineCircuit a.line) s
      generalize s.removeBinding a.handset (lineCircuit a.line) = u at freed ⊢
      exact ⟨_, rfl, freed.base, freed.pendingAsks, freed.records, freed.txQueue, freed.mirrors⟩
    · exact ⟨s, rfl, rfl, rfl, rfl, rfl, rfl⟩

/-- A granted TAKE binds the handset (R112). -/
theorem takeOutcome_take (a : PendingAsk) (reason : Option AskReason) (s : State) (op : a.op = .take) :
    (s.takeOutcome a false reason).held = s.held ∧ (s.takeOutcome a false reason).notices = s.notices ∧
    ((s.takeOutcome a false reason).handsets[a.handset]).bindings =
      (s.handsets[a.handset]).bindings ++ [⟨.line a.line, 72, 0⟩] ∧
    ∀ x : Fin 2, x ≠ a.handset → (s.takeOutcome a false reason).handsets[x] = s.handsets[x] := by
  have granted : s.takeOutcome a false reason = s.addBinding a.handset (lineCircuit a.line) := by
    rw [State.takeOutcome, op]; rfl
  have bound := addBinding_rebinds a.handset (lineCircuit a.line) s
  rw [granted]
  exact ⟨bound.held, bound.notices, congrArg Handset.bindings bound.bindings, bound.others⟩

/-- A granted RESUME moves the held line to the handset (R112). -/
theorem takeOutcome_resume (a : PendingAsk) (reason : Option AskReason) (s : State) (op : a.op = .resume) :
    (s.takeOutcome a false reason).held = s.held.filter (fun e => e.line != a.line) ∧
    ((s.takeOutcome a false reason).handsets[a.handset]).bindings =
      (s.handsets[a.handset]).bindings ++ [⟨.line a.line, 72, 0⟩] := by
  have granted : s.takeOutcome a false reason =
      { s with held := s.held.filter fun e => e.line != a.line }.addBinding a.handset (lineCircuit a.line) := by
    rw [State.takeOutcome, op]; rfl
  have bound := addBinding_rebinds a.handset (lineCircuit a.line)
    { s with held := s.held.filter fun e => e.line != a.line }
  rw [granted]
  exact ⟨bound.held, congrArg Handset.bindings bound.bindings⟩

/-- A granted HOLD moves the binding to the held list (R112). -/
theorem takeOutcome_hold (a : PendingAsk) (reason : Option AskReason) (s : State) (op : a.op = .hold) :
    (s.takeOutcome a false reason).held = s.held ++ [⟨a.line, a.handset, 0⟩] ∧
    ((s.takeOutcome a false reason).handsets[a.handset]).bindings =
      (s.handsets[a.handset]).bindings.filter (fun x => x.circuit != .line a.line) := by
  have freed := removeBinding_rebinds a.handset (lineCircuit a.line) s
  have granted : s.takeOutcome a false reason = { s.removeBinding a.handset (lineCircuit a.line) with
      held := (s.removeBinding a.handset (lineCircuit a.line)).held ++ [⟨a.line, a.handset, 0⟩] } := by
    rw [State.takeOutcome, op]; rfl
  rw [granted]
  generalize s.removeBinding a.handset (lineCircuit a.line) = u at freed ⊢
  exact ⟨by rw [← freed.held], congrArg Handset.bindings freed.bindings⟩

/-- A granted RING or PRIVACY changes nothing at the position (R112). -/
theorem takeOutcome_other (a : PendingAsk) (reason : Option AskReason) (s : State) (op : a.op = .ring ∨ a.op = .privacy) :
    s.takeOutcome a false reason = s := by
  rcases op with op | op <;> rw [State.takeOutcome, op] <;> rfl

/-- Settles O29: the ask found, its outcome by the REPLY and the operation. -/
theorem replyEndsThePendingAsk : Obligations.ReplyEndsThePendingAsk := by
  unfold Obligations.ReplyEndsThePendingAsk
  intro s unit crc source target r handed
  have heard : exec (.replyReceived unit crc) s = .next ((s.havingHeard source).takeReply source r) :=
    congrArg Host.Outcome.next (hearAs_handsOn _ handed rfl nofun)
  refine ⟨fun asks waits => heard.trans (congrArg _ (takeReply_unasked asks waits)),
    fun pre post a pending answered only => ?_⟩
  obtain ⟨t, taken, base, asks, records, queue, mirrors⟩ := takeOutcome_frame a r.refused r.reason
    { s.havingHeard source with pendingAsks := pre ++ post }
  refine ⟨t, heard.trans (congrArg _ ((takeReply_answered (s := s.havingHeard source) pending answered only).trans taken)), base, asks, records, queue,
    mirrors, fun refused => ?_, fun granted op => ?_, fun granted op => ?_, fun granted op => ?_, fun granted op => ?_⟩
  · rw [refused] at taken
    rw [← taken, State.takeOutcome, if_pos rfl]
    exact ⟨notify_handsets _ _, notify_held _ _, fun room => congrArg State.notices (notify_room _ _ (by exact room))⟩
  · rw [granted] at taken
    rw [← taken]
    exact takeOutcome_take a r.reason _ op
  · rw [granted] at taken
    rw [← taken]
    exact takeOutcome_resume a r.reason _ op
  · rw [granted] at taken
    rw [← taken]
    exact takeOutcome_hold a r.reason _ op
  · rw [granted, takeOutcome_other a r.reason _ op] at taken
    rw [← taken]
    exact ⟨rfl, rfl⟩

end Sys2Proof.Machine
end

section
/-! PROOFS. Requests on lines whose home is another station (R103, R107 to R111). -/

namespace Sys2Proof.Machine

/-- An ask of the position sent to another station: a pending entry and an ASK frame (R107). -/
theorem sendAsk_away (op : AskOp) (line : LineNo) (h old : Fin 2) (wanted : Bool) (s : State) (st : Station)
    (active : s.stationState = .active) (home : s.homeOf line = some st) (other : st ≠ s.cfg.station) (a : PendingAsk)
    (ha : a = ⟨s.nextTag, line, op, h, old, wanted, st, s.blocks 100⟩) :
    State.alikeButQueue { s with tagCount := s.nextTag + 1#8, pendingAsks := s.pendingAsks ++ [a] }
      (s.sendAsk op line h old wanted) ∧
    (s.txQueue.length < 24 → (s.sendAsk op line h old wanted).carries st
      (.ask ⟨line, some op, a.port, a.second, wanted, s.nextTag⟩)) := by
  subst ha
  rw [State.sendAsk, home]
  dsimp only
  rw [if_neg other]
  exact ⟨send_alike _ _ _, fun room => send_carries st _ _ active room ⟨nofun, nofun⟩⟩

/-- A plain ask, DROP or UNLISTEN, sent to another station (R107, R135). -/
theorem sendPlain_away (op : AskOp) (line : LineNo) (p : Port) (s : State) (st : Station) (home : s.homeOf line = some st)
    (other : st ≠ s.cfg.station) :
    s.sendPlain op line p = s.takeTag.send st (askFrame line op p (.handset 0) false s.nextTag) := by
  rw [State.sendPlain, home]
  exact if_neg other

/-- The checks of a request on lines behind those of its indexes (05 section 5.6). -/
theorem lineRefusal_named (s : State) (badIndex : Bool) (more : List (Bool × Verdict)) (active : s.stationState = .active)
    (named : badIndex = false) : s.lineRefusal badIndex more = firstVerdict more := by
  rw [State.lineRefusal, (isActive_iff s).mpr active, named]
  rfl

theorem noRoomToAsk_away {s : State} {line : LineNo} (away : s.homeOf line ≠ some s.cfg.station) :
    s.noRoomToAsk line = decide (4 ≤ s.pendingAsks.length) := by
  rw [State.noRoomToAsk, bne_iff_ne.mpr away]
  rfl

theorem home_away {s : State} {line : LineNo} {st : Station} (home : s.homeOf line = some st)
    (other : st ≠ s.cfg.station) : s.homeOf line ≠ some s.cfg.station := by
  rw [home]
  exact fun h => other (Option.some.inj h)

/-! ### LINE_KEY -/

theorem keyLine_mirrored {s : State} {k : Fin 128} {m : Mirror} (carries : s.cfg.appearance[k] ≠ 0#16)
    (mirrored : s.mirrorOf s.cfg.appearance[k] = some m) :
    s.keyLine k = if m.state = .current then some s.cfg.appearance[k] else none := by
  have line : m.line = s.cfg.appearance[k] := by simpa using List.find?_some mirrored
  rw [State.keyLine, mirrored, ← line]
  dsimp only
  rw [bne_iff_ne.mpr (line ▸ carries)]
  simp

section
variable {s : State} {ko ho : Octet} {k : Fin 128} {h : Fin 2} {m : Mirror}

/-- The target of a LINE_KEY that names a key of a kept line and a handset (R108). -/
theorem keyTarget_named (hk : ko.toNat = k.val) (hh : ho.toNat = h.val) (carries : s.cfg.appearance[k] ≠ 0#16)
    (mirrored : s.mirrorOf s.cfg.appearance[k] = some m) :
    s.keyTarget ko ho = if m.state = .current then some (s.cfg.appearance[k], h) else none := by
  rw [State.keyTarget, indexOf_val ko k hk, indexOf_val ho h hh]
  dsimp only
  rw [keyLine_mirrored carries mirrored]
  split <;> rfl

theorem lineKeyRefusal_named (active : s.stationState = .active) (hk : ko.toNat = k.val) (hh : ho.toNat = h.val) :
    s.lineRefusal (outOf 128 ko || outOf 2 ho) [] = none := by
  rw [lineRefusal_named s _ [] active (by rw [outOf_val ko k hk, outOf_val ho h hh]; rfl), firstVerdict_nil]

/-- A LINE_KEY on a line whose mirror is not CURRENT (R108). -/
theorem lineKey_stale (active : s.stationState = .active) (ha : s.panelAnswers = true) (hk : ko.toNat = k.val)
    (hh : ho.toNat = h.val) (carries : s.cfg.appearance[k] ≠ 0#16)
    (mirrored : s.mirrorOf s.cfg.appearance[k] = some m) (stale : m.state ≠ .current) :
    exec (.lineKey ko ho) s = .next { s with panelAnswer := some ⟨7#8, .noLine, []⟩ } := by
  have target := keyTarget_named hk hh carries mirrored
  rw [if_neg stale] at target
  refine request_refused _ ha ?_
  rw [State.lineKeyRefusal, lineKeyRefusal_named active hk hh, target]

/-- A LINE_KEY on a CURRENT line that R108 refuses. -/
theorem lineKey_refused (v : Verdict) (active : s.stationState = .active) (ha : s.panelAnswers = true)
    (hk : ko.toNat = k.val) (hh : ho.toNat = h.val) (carries : s.cfg.appearance[k] ≠ 0#16)
    (mirrored : s.mirrorOf s.cfg.appearance[k] = some m) (current : m.state = .current)
    (refused : s.keyRefusal s.cfg.appearance[k] h = some v) :
    exec (.lineKey ko ho) s = .next { s with panelAnswer := some ⟨7#8, v, []⟩ } := by
  have target := keyTarget_named hk hh carries mirrored
  rw [if_pos current] at target
  refine request_refused v ha ?_
  rw [State.lineKeyRefusal, lineKeyRefusal_named active hk hh, target]
  exact refused

/-- A LINE_KEY that passes (R108). -/
theorem lineKey_passes (active : s.stationState = .active) (ha : s.panelAnswers = true) (hk : ko.toNat = k.val)
    (hh : ho.toNat = h.val) (carries : s.cfg.appearance[k] ≠ 0#16)
    (mirrored : s.mirrorOf s.cfg.appearance[k] = some m) (current : m.state = .current)
    (passes : s.keyRefusal s.cfg.appearance[k] h = none) :
    exec (.lineKey ko ho) s =
      .next { s.pressKey s.cfg.appearance[k] h with panelAnswer := some ⟨7#8, .done, []⟩ } := by
  have target := keyTarget_named hk hh carries mirrored
  rw [if_pos current] at target
  have judged : s.lineKeyRefusal ko ho = none := by
    rw [State.lineKeyRefusal, lineKeyRefusal_named active hk hh, target]
    exact passes
  refine (request_done ha judged).trans (congrArg Host.Outcome.next ?_)
  simp only [target]
  rfl

end

/-- Settles O49: the checks in R108's order, then the ask. -/
theorem lineKeyAsksForTheLine : Obligations.LineKeyAsksForTheLine := by
  unfold Obligations.LineKeyAsksForTheLine
  intro s ko ho k h m active ha hk hh carries mirrored
  have stale := lineKey_stale active ha hk hh carries mirrored
  have refused (v : Verdict) := lineKey_refused v active ha hk hh carries mirrored
  have passes := lineKey_passes active ha hk hh carries mirrored
  generalize s.cfg.appearance[k] = line at stale refused passes carries mirrored ⊢
  intro line' here there waits
  have judged (off : (s.handsets[h]).onHook = false) : s.keyRefusal line h = if here then none else firstVerdict [
      (there || waits, .busy), (s.placesTaken h ≥ Config.handsetPlaces, .fullHandset), (s.noRoomToAsk line, .busy)] := by
    rw [State.keyRefusal, off]
    rfl
  refine ⟨stale, fun current on => refused _ current (if_pos on), fun current off =>
    ⟨fun isHere => ?_, fun notHere busy => refused _ current ?_, fun notHere notThere idle full => refused _ current ?_,
      fun notHere notThere idle room away asks => refused _ current ?_,
      fun st notHere notThere idle room home other asks => ?_⟩⟩
  · refine (passes current ((judged off).trans (if_pos isHere))).trans ?_
    rw [State.pressKey, if_pos (by exact isHere)]
  · rw [judged off, notHere, if_neg nofun, firstVerdict_cons, if_pos (by rcases busy with h | h <;> simp [h])]
  · rw [judged off, notHere, notThere, idle, if_neg nofun, firstVerdict_cons, if_neg nofun, firstVerdict_cons,
      if_pos (by simpa [Config.handsetPlaces] using full)]
  · rw [judged off, notHere, notThere, idle, if_neg nofun, firstVerdict_cons, if_neg nofun, firstVerdict_cons,
      if_neg (by simpa [Config.handsetPlaces] using room), firstVerdict_cons, noRoomToAsk_away away,
      if_pos (by simpa using asks)]
  · have pressed := passes current (by
      rw [judged off, notHere, notThere, idle, if_neg nofun, firstVerdict_cons, if_neg nofun, firstVerdict_cons,
        if_neg (by simpa [Config.handsetPlaces] using room), firstVerdict_cons, noRoomToAsk_away (home_away home other),
        if_neg (by simpa using asks), firstVerdict_nil])
    rw [State.pressKey, if_neg (ne_true_of_eq_false (show s.isBound h (lineCircuit line) = false from notHere))] at pressed
    refine ⟨fun notHeld => ?_, fun e held => ?_⟩
    · rw [show s.heldEntry line = none from notHeld] at pressed
      obtain ⟨alike, carried⟩ := sendAsk_away .take line h h false s st active home other _ rfl
      exact ⟨_, pressed, alikeButQueue_answered _ _ _ alike, fun room => carries_answered _ _ _ _ (carried room)⟩
    · rw [show s.heldEntry line = some e from held] at pressed
      obtain ⟨alike, carried⟩ := sendAsk_away .resume line h e.handset false s st active home other _ rfl
      exact ⟨_, pressed, alikeButQueue_answered _ _ _ alike, fun room => carries_answered _ _ _ _ (carried room)⟩

end Sys2Proof.Machine
end

section
/-! PROOFS. Bound lines of another home released, held, rung and given privacy (R107, R109 to R111). -/

namespace Sys2Proof.Machine

theorem State.Rebinds.homeOf {h : Fin 2} {bs : List Binding} {s t : State} (r : s.Rebinds h bs t) (line : LineNo) :
    t.homeOf line = s.homeOf line := by
  rw [r.alike]
  rfl

theorem binding_line {x : Binding} {line : LineNo} (h : x.circuit = .line line) : x.line = some line := by
  rw [Binding.line, h]

/-- A LINE binding of another home removed, with its DROP, the pending asks restricted to those `keep` names (R102,
R109). -/
theorem dropAway_tells (s : State) (h : Fin 2) (line : LineNo) (st : Station) (keep : PendingAsk → Bool)
    (home : s.homeOf line = some st) (other : st ≠ s.cfg.station) (t : State)
    (ht : t = State.sendPlain .drop line (.handset h) { s.removeBinding h (lineCircuit line) with
      pendingAsks := (s.removeBinding h (lineCircuit line)).pendingAsks.filter keep }) :
    t.base = s.base ∧
    t.handsets[h] = { s.handsets[h] with
      bindings := (s.handsets[h]).bindings.filter fun b => b.circuit != .line line } ∧
    t.handsets[1 - h] = s.handsets[1 - h] ∧ t.held = s.held ∧ t.records = s.records ∧
    t.pendingAsks = s.pendingAsks.filter keep ∧
    (s.stationState = .active → s.txQueue.length < 24 → ∃ tag : Octet,
      t.carries st (.ask ⟨line, some .drop, .handset h, .handset 0, false, tag⟩)) := by
  have freed := removeBinding_rebinds h (lineCircuit line) s
  generalize s.removeBinding h (lineCircuit line) = u at freed ht
  have sent := sendPlain_away .drop line (.handset h) { u with pendingAsks := u.pendingAsks.filter keep } st
    ((freed.homeOf line).trans home) (fun e => other (e.trans (congrArg (fun b => b.cfg.station) freed.base)))
  rw [sent] at ht
  subst ht
  refine ⟨?_, ?_, ?_, ?_, ?_, ?_, fun active room => ⟨_, send_carries st _ _ ?_ ?_ ⟨nofun, nofun⟩⟩⟩
  · rw [send_base]; exact freed.base
  · rw [send_handsets]; exact freed.bindings
  · rw [send_handsets]; exact freed.other
  · rw [send_held]; exact freed.held
  · rw [send_records]; exact freed.records
  · rw [send_pendingAsks]; exact congrArg (List.filter keep) freed.pendingAsks
  · exact (congrArg Base.stationState freed.base).trans active
  · exact lt_of_eq_of_lt (congrArg List.length freed.txQueue) room

theorem askPending_false {s : State} {line : LineNo} (idle : ∀ a ∈ s.pendingAsks, a.line ≠ line) : s.askPending line = false := by
  simpa [State.askPending] using idle

/-- The checks of a HOLD behind those of its indexes (R110). -/
def State.holdChecks (s : State) (line : LineNo) : List (Bool × Verdict) :=
  [(s.askPending line, .busy), (s.heldPlaces ≥ Config.heldCapacity, .heldFull), (s.noRoomToAsk line, .busy)]

section
variable {s : State} {ho bo : Octet} {h : Fin 2} {line : LineNo}

/-- A HOLD of a bound line that is refused (R110). -/
theorem hold_refused (v : Verdict) (ha : s.panelAnswers = true) (active : s.stationState = .active)
    (named : (outOf 2 ho || outOf Config.handsetPlaces bo) = false) (bound : s.boundLine ho bo = some (h, line))
    (refused : firstVerdict (s.holdChecks line) = some v) :
    exec (.hold ho bo) s = .next { s with panelAnswer := some ⟨9#8, v, []⟩ } := by
  refine request_refused v ha ((lineRefusal_named s _ _ active named).trans ?_)
  simp only [bound]
  exact refused

/-- A HOLD of a bound line that passes (R110). -/
theorem hold_passes (ha : s.panelAnswers = true) (active : s.stationState = .active)
    (named : (outOf 2 ho || outOf Config.handsetPlaces bo) = false) (bound : s.boundLine ho bo = some (h, line))
    (passes : firstVerdict (s.holdChecks line) = none) : exec (.hold ho bo) s =
      .next { s.sendAsk .hold line h h false with panelAnswer := some ⟨9#8, .done, []⟩ } := by
  refine (request_done ha ((lineRefusal_named s _ _ active named).trans ?_)).trans (congrArg Host.Outcome.next ?_)
  · simp only [bound]
    exact passes
  · simp only [bound]
    rfl

end

/-- Settles O50: a RELEASE removes and drops; HOLD, RING and PRIVACY each send their ask. -/
theorem boundLinesAreReleasedHeldAndRung : Obligations.BoundLinesAreReleasedHeldAndRung := by
  unfold Obligations.BoundLinesAreReleasedHeldAndRung
  intro s ho bo h x line st active ha hh hb bound circuit home other
  have away := noRoomToAsk_away (home_away home other)
  have named : (outOf 2 ho || outOf Config.handsetPlaces bo) = false := by
    rw [outOf_val ho h hh, outOf_lt (n := Config.handsetPlaces) bo (show bo.toNat < 2 by omega)]
    rfl
  have line_at : s.boundLine ho bo = some (h, line) := by
    rw [State.boundLine, indexOf_val ho h hh]
    dsimp only
    rw [State.bindingAt, bound, Option.bind_some, binding_line circuit]
    rfl
  refine ⟨?_, fun idle asks => ⟨fun places => ?_, fun full => ?_, fun first => ?_⟩⟩
  · have present : s.noBinding ho bo = false := by
      rw [State.noBinding, atIndex_val ho h hh, State.bindingAt, bound]
      rfl
    have judged : s.lineRefusal (outOf 2 ho || outOf Config.handsetPlaces bo) [(s.noBinding ho bo, .notBound)] = none := by
      rw [lineRefusal_named s _ _ active named, present]
      rfl
    have released : s.releaseBinding h x = s.releaseLine h line := by
      rw [State.releaseBinding, binding_line circuit]
    obtain ⟨base, bindings, other', held, records, pending, carried⟩ := dropAway_tells s h line st
      (fun a => a.line != line) home other (s.releaseLine h line) rfl
    refine ⟨_, request_done ha judged, ?_⟩
    rw [onIndex_val ho h hh, State.bindingAt, bound]
    dsimp only
    rw [released]
    generalize s.releaseLine h line = u at base bindings other' held records pending carried ⊢
    exact ⟨congrArg (fun b : Base => { b with panelAnswer := some ⟨8#8, .done, []⟩ }) base, bindings, other', held,
      records, pending, carried active⟩
  · obtain ⟨alike, carried⟩ := sendAsk_away .hold line h h false s st active home other _ rfl
    have passes : firstVerdict (s.holdChecks line) = none := by
      rw [State.holdChecks, askPending_false idle, away, decide_eq_false (by omega : ¬4 ≤ s.pendingAsks.length),
        decide_eq_false (show ¬s.heldPlaces ≥ Config.heldCapacity from Nat.not_le.mpr places)]
      rfl
    exact ⟨_, hold_passes ha active named line_at passes, alikeButQueue_answered _ _ _ alike,
      fun room => carries_answered _ _ _ _ (carried room)⟩
  · refine hold_refused _ ha active named line_at ?_
    rw [State.holdChecks, askPending_false idle, decide_eq_true (show s.heldPlaces ≥ Config.heldCapacity from full)]
    rfl
  · have passes : firstVerdict [(s.askPending line || s.noRoomToAsk line, .busy)] = none := by
      rw [askPending_false idle, away, decide_eq_false (by omega : ¬4 ≤ s.pendingAsks.length)]
      rfl
    have first_at : s.firstLineOf ho = some (h, line) := by
      rw [State.firstLineOf, indexOf_val ho h hh]
      dsimp only
      rw [first]
      rfl
    have judged : s.firstLineRefusal ho = none := by
      rw [State.firstLineRefusal, lineRefusal_named s _ _ active (outOf_val ho h hh), first_at]
      exact passes
    have asked (op : AskOp) (on : Bool) : s.askFirstLine op ho on = s.sendAsk op line h h on := by
      rw [State.askFirstLine, first_at]
    refine ⟨?_, fun on => ?_⟩
    · obtain ⟨alike, carried⟩ := sendAsk_away .ring line h h false s st active home other _ rfl
      refine ⟨_, request_done ha judged, ?_⟩
      rw [asked]
      exact ⟨alikeButQueue_answered _ _ _ alike, fun room => carries_answered _ _ _ _ (carried room)⟩
    · obtain ⟨alike, carried⟩ := sendAsk_away .privacy line h h on s st active home other _ rfl
      refine ⟨_, request_done ha judged, ?_⟩
      rw [asked]
      exact ⟨alikeButQueue_answered _ _ _ alike, fun room => carries_answered _ _ _ _ (carried room)⟩

end Sys2Proof.Machine
end

section
/-! PROOFS. Hook, mute and gains of a handset, and the timers at the position (R98, R101 to R105, R113, R123). -/

namespace Sys2Proof.Machine

/-! ### A handset's own settings -/

theorem handsetRefusal_named (s : State) (o : Octet) (h : Fin 2) (more : List (Bool × Verdict)) (loaded : s.loaded = true)
    (ho : o.toNat = h.val) : s.handsetRefusal o more = firstVerdict more := by
  rw [State.handsetRefusal, List.cons_append, firstVerdict_cons, loaded, List.cons_append, firstVerdict_cons,
    outOf_val o h ho]
  rfl

/-- A request that replaces a handset's context, its view's change given (R101). -/
theorem handset_replaced (s : State) (h : Fin 2) (x : Handset) (changes : Bool) (seqs : List SeqCount) (a : Option Answer)
    (view : ((s.handsets[h]).view != x.view) = changes) :
    ∃ t, (.next { s.setHandset h x with sequences := seqs, panelAnswer := a } : Result) = .next t ∧ t.handsets[h] = x ∧
      t = { s with
        handsets := s.handsets.set h t.handsets[h]
        marks := { s.marks with handset := s.marks.handset.set h (s.marks.handset[h] || changes) }
        sequences := seqs, panelAnswer := a } := by
  have here : (s.setHandset h x).handsets[h] = x := by
    rw [Fin.getElem_fin]
    exact Vector.getElem_set_self _
  refine ⟨_, rfl, here, ?_⟩
  rw [here, ← view]
  rfl

theorem mapAt_set {α : Type} (f : α → α) (l : List α) (i : Nat) (a : α) (h : l[i]? = some a) :
    mapAt f l i = l.set i (f a) := by
  induction l generalizing i with
  | nil => rfl
  | cons x t ih => cases i <;> simp_all [mapAt]

/-- A list whose entry is replaced differs from it where the entry does. -/
theorem set_differs {α : Type} [BEq α] [LawfulBEq α] (l : List α) (i : Nat) (a b : α) (h : l[i]? = some a) :
    (l != l.set i b) = (a != b) := by
  induction l generalizing i with
  | nil => cases h
  | cons x t ih =>
    cases i with
    | zero => simp_all [bne]
    | succ i => simpa [bne] using ih i h

/-- A handset's view differs with the balance of one binding (R101). -/
theorem balanceView_differs (x : Handset) (i : Nat) (b : Binding) (g : Nat) (h : x.bindings[i]? = some b) :
    (x.view != { x with bindings := x.bindings.set i { b with balance := g } }.view) = (b.balance != g) := by
  have entry : (x.bindings.map fun b => (b.circuit, b.balance))[i]? = some (b.circuit, b.balance) := by
    rw [List.getElem?_map, h]
    rfl
  have differs := set_differs _ i _ (b.circuit, g) entry
  rw [← List.map_set (f := fun b : Binding => (b.circuit, b.balance)) (a := { b with balance := g })] at differs
  simpa [Handset.view, bne] using differs

/-! ### Mirrors and pending asks -/

theorem setMirror_fields (old new : Mirror) (s : State) : ∃ (m : Marks) (n : List Notice) (o : Octet),
    s.setMirror old new =
      { s with mirrors := s.mirrors.map fun m => if m.line = old.line then new else m, marks := m, notices := n, overflow := o } := by
  unfold State.setMirror
  dsimp only
  split
  · split
    · exact ⟨_, _, _, rfl⟩
    · exact ⟨_, _, _, rfl⟩
  · rw [notify_alike]
    split
    · exact ⟨_, _, _, rfl⟩
    · exact ⟨_, _, _, rfl⟩

/-- The mirrors after one of them is replaced by another of its line. -/
theorem mirrorOf_replaced {s t : State} {old new : Mirror} (h : s.mirrorOf old.line = some old) (same : new.line = old.line)
    (ht : t.mirrors = s.mirrors.map fun m => if m.line = old.line then new else m) :
    t.mirrorOf old.line = some new ∧ ∀ other : LineNo, other ≠ old.line → t.mirrorOf other = s.mirrorOf other := by
  have lines (m : Mirror) : (if m.line = old.line then new else m).line = m.line := by
    split
    · next e => rw [same, e]
    · rfl
  have found (line : LineNo) : t.mirrorOf line = (s.mirrorOf line).map fun m => if m.line = old.line then new else m := by
    rw [State.mirrorOf, ht, List.find?_map]
    simp only [Function.comp_def, lines]
    rfl
  refine ⟨by rw [found, h]; simp, fun other apart => ?_⟩
  rw [found]
  cases held : s.mirrorOf other with
  | none => rfl
  | some m =>
    have line : m.line = other := by simpa using List.find?_some held
    simp [line, apart]

/-- A pending ask whose wait ends (R113). -/
theorem pendingAsk_expires {s : State} {pre post : List PendingAsk} {a : PendingAsk}
    (pending : s.pendingAsks = pre ++ a :: post) (due : a.timer = 0) (only : ∀ x ∈ pre ++ post, x.tag ≠ a.tag) :
    exec (.pendingAskExpiry a.tag) s =
      .next ({ s with pendingAsks := pre ++ post }.notify (.askNoAnswer a.line a.op (.handset a.handset))) := by
  have found : s.pendingAsks.find? (fun x => x.tag == a.tag && x.timer == 0) = some a := by
    rw [pending, List.find?_append, List.find?_eq_none.mpr fun x hx => by
      simp [only x (List.mem_append_left _ hx)]]
    simp [due]
  have others : s.pendingAsks.filter (fun x => x != a) = pre ++ post := by
    have keeps (l : List PendingAsk) (h : ∀ x ∈ l, x ∈ pre ++ post) : l.filter (fun x => x != a) = l :=
      List.filter_eq_self.mpr fun x hx => bne_iff_ne.mpr fun e => only x (h x hx) (congrArg PendingAsk.tag e)
    rw [pending, List.filter_append, List.filter_cons, keeps pre fun x hx => List.mem_append_left _ hx,
      keeps post fun x hx => List.mem_append_right _ hx, bne_self_eq_false]
    rfl
  refine congrArg Host.Outcome.next ?_
  rw [found]
  simp only [others]

/-! ### A handset hung up -/

/-- What the steps of hanging up a handset change besides its bindings (R102, R123). -/
structure State.HangsUp (h : Fin 2) (s t : State) : Prop where
  base : t.base = { s.base with slots := t.slots }
  here : ∃ bs : List Binding, t.handsets[h] = { s.handsets[h] with bindings := bs } ∧
    ∀ b ∈ bs, b ∈ (s.handsets[h]).bindings
  other : t.handsets[1 - h] = s.handsets[1 - h]
  held : t.held = s.held
  records : t.records = s.records
  pendingAsks : t.pendingAsks = s.pendingAsks
  notices : t.notices = s.notices
  untouched : ∀ i : Fin 4, (s.slots[i]).handset ≠ some h → t.slots[i] = s.slots[i]
  slots : ∀ i : Fin 4, t.slots[i] = s.slots[i] ∨ t.slots[i] = Slot.empty

namespace State.HangsUp

variable {h : Fin 2} {s t u : State}

theorem refl (s : State) : s.HangsUp h s :=
  ⟨rfl, ⟨_, rfl, fun _ hb => hb⟩, rfl, rfl, rfl, rfl, rfl, fun _ _ => rfl, fun _ => .inl rfl⟩

theorem trans (p : s.HangsUp h t) (q : t.HangsUp h u) : s.HangsUp h u where
  base := by rw [q.base, p.base]
  here := by
    obtain ⟨bs, here, sub⟩ := p.here
    obtain ⟨cs, here', sub'⟩ := q.here
    refine ⟨cs, by rw [here', here], fun b hb => sub b ?_⟩
    have := sub' b hb
    rwa [here] at this
  other := q.other.trans p.other
  held := q.held.trans p.held
  records := q.records.trans p.records
  pendingAsks := q.pendingAsks.trans p.pendingAsks
  notices := q.notices.trans p.notices
  untouched i hi := by
    have same := p.untouched i hi
    exact (q.untouched i (by rw [same]; exact hi)).trans same
  slots i := (q.slots i).elim (fun e => (p.slots i).imp e.trans e.trans) .inr

theorem of_rebinds {bs : List Binding} (r : s.Rebinds h bs t) (sub : ∀ b ∈ bs, b ∈ (s.handsets[h]).bindings) :
    s.HangsUp h t where
  base := by rw [r.alike]; rfl
  here := ⟨bs, r.bindings, sub⟩
  other := r.other
  held := r.held
  records := r.records
  pendingAsks := r.pendingAsks
  notices := r.notices
  untouched i _ := by rw [r.alike]
  slots i := .inl (by rw [r.alike])

theorem of_alike (a : s.alikeButQueue t) : s.HangsUp h t := by
  obtain ⟨q, tr, mi, ml, lv, rfl⟩ := alike_fields a
  exact ⟨rfl, ⟨_, rfl, fun _ hb => hb⟩, rfl, rfl, rfl, rfl, rfl, fun _ _ => rfl, fun _ => .inl rfl⟩

/-- A slot of the handset emptied. -/
theorem of_emptied (s : State) {i : Fin 4} (hi : (s.slots[i]).handset = some h) :
    s.HangsUp h (s.setSlot i Slot.empty) := by
  have at_slot (j : Fin 4) : (s.slots.set i Slot.empty)[j] = if i = j then Slot.empty else s.slots[j] := by
    rw [Fin.getElem_fin, Vector.getElem_set]
    simp [Fin.ext_iff]
  refine ⟨rfl, ⟨_, rfl, fun _ hb => hb⟩, rfl, rfl, rfl, rfl, rfl, fun j hj => ?_, fun j => ?_⟩
  · exact (at_slot j).trans (if_neg fun (e : i = j) => hj (e ▸ hi))
  · refine (em (i = j)).elim (fun e => .inr ((at_slot j).trans (if_pos e))) fun e => .inl ((at_slot j).trans (if_neg e))

theorem recordFor (p : s.HangsUp h t) (line : LineNo) : t.recordFor line = s.recordFor line := by
  have cfg : t.cfg = s.cfg := congrArg Base.cfg p.base
  unfold State.recordFor State.portCfg
  rw [p.records, cfg]

/-- Steps that each hang up on some circuits, taken one after the other. -/
theorem foldl {α : Type} (f : State → α → State) (c : α → Circuit) (P : State → Prop)
    (keeps : ∀ s t : State, s.HangsUp h t → P s → P t)
    (step : ∀ s a, P s → s.HangsUp h (f s a) ∧ ∀ b ∈ ((f s a).handsets[h]).bindings, b.circuit ≠ c a)
    (l : List α) (s : State) (hs : P s) :
    s.HangsUp h (l.foldl f s) ∧ ∀ a ∈ l, ∀ b ∈ ((l.foldl f s).handsets[h]).bindings, b.circuit ≠ c a := by
  induction l generalizing s with
  | nil => exact ⟨.refl s, nofun⟩
  | cons x l ih =>
    obtain ⟨first, gone⟩ := step s x hs
    obtain ⟨rest, others⟩ := ih (f s x) (keeps _ _ first hs)
    refine ⟨first.trans rest, fun a ha => (List.mem_cons.mp ha).elim (fun e b hb => ?_) (others a)⟩
    obtain ⟨bs, here, sub⟩ := rest.here
    rw [List.foldl_cons, here] at hb
    exact e ▸ gone b (sub b hb)

end State.HangsUp

/-- A binding removed from the handset (R102). -/
theorem removeBinding_hangsUp (h : Fin 2) (c : Circuit) (s : State) : s.HangsUp h (s.removeBinding h c) ∧
    ∀ b ∈ ((s.removeBinding h c).handsets[h]).bindings, b.circuit ≠ c := by
  have freed := removeBinding_rebinds h c s
  refine ⟨.of_rebinds freed fun b hb => (List.mem_filter.mp hb).1, fun b hb => ?_⟩
  rw [freed.bindings] at hb
  simpa using (List.mem_filter.mp hb).2

theorem takeTag_hangsUp (h : Fin 2) (s : State) : s.HangsUp h s.takeTag :=
  ⟨rfl, ⟨_, rfl, fun _ hb => hb⟩, rfl, rfl, rfl, rfl, rfl, fun _ _ => rfl, fun _ => .inl rfl⟩

/-- A plain ask of a station without line records (R107). -/
theorem sendPlain_hangsUp (h : Fin 2) (op : AskOp) (line : LineNo) (p : Port) (s : State)
    (noLines : s.recordFor line = none) : s.HangsUp h (s.sendPlain op line p) := by
  unfold State.sendPlain
  split
  · exact .refl s
  · split
    · have untaken : s.takeTag.takeRequest line (s.ownRequest op p p false) = s.takeTag := by
        rw [State.takeRequest, show s.takeTag.recordFor line = none from noLines]
        split <;> simp_all
      rw [untaken, noLines]
      exact takeTag_hangsUp h s
    · exact (takeTag_hangsUp h s).trans (.of_alike (send_alike _ _ _))

theorem dropBinding_hangsUp (h : Fin 2) (line : LineNo) (s : State) (noLines : s.recordFor line = none) :
    s.HangsUp h (s.dropBinding h line) ∧ ∀ b ∈ ((s.dropBinding h line).handsets[h]).bindings, b.circuit ≠ .line line := by
  obtain ⟨freed, gone⟩ := removeBinding_hangsUp h (lineCircuit line) s
  have sent := sendPlain_hangsUp h .drop line (.handset h) _ ((freed.recordFor line).trans noLines)
  refine ⟨freed.trans sent, fun b hb => gone b ?_⟩
  obtain ⟨bs, here, sub⟩ := sent.here
  rw [State.dropBinding, here] at hb
  exact sub b hb

/-- A TALKING slot of the handset hung up goes with its binding (R123). -/
theorem hangUp_talking (h : Fin 2) (i : Fin 4) (s : State) (state : (s.slots[i]).state = .talking)
    (handset : (s.slots[i]).handset = some h) : s.HangsUp h (s.hangUp i) ∧
      ∀ b ∈ ((s.hangUp i).handsets[h]).bindings, b.circuit ≠ callCircuit (s.slots[i]).callId := by
  unfold State.hangUp State.sendSlotFrame
  generalize hv : State.send _ _ s = v
  have same : v.slots[i] = s.slots[i] := by rw [← hv, send_slot]
  have sent : s.HangsUp h v := .of_alike (hv ▸ send_alike _ _ s)
  rw [freeCall_talking v i h (by rw [same]; exact state) (by rw [same]; exact handset), same]
  obtain ⟨freed, gone⟩ := removeBinding_hangsUp h (callCircuit (s.slots[i]).callId) (v.setSlot i Slot.empty)
  exact ⟨(sent.trans (.of_emptied v (by rw [same]; exact handset))).trans freed, gone⟩

/-- A placed call of the handset hung up (R123). -/
theorem hangUp_placed (h : Fin 2) (i : Fin 4) (s : State) (places : (s.slots[i]).takesPlace h = true) :
    s.HangsUp h (s.hangUp i) ∧ (s.hangUp i).slots[i] = Slot.empty := by
  have placed : ((s.slots[i]).state = .offering ∨ (s.slots[i]).state = .ringback) ∧ (s.slots[i]).handset = some h := by
    simp only [Slot.takesPlace, Bool.and_eq_true, Bool.or_eq_true, beq_iff_eq] at places
    exact ⟨places.1.2, places.2⟩
  unfold State.hangUp State.sendSlotFrame
  generalize hv : State.send _ _ s = v
  have same : v.slots[i] = s.slots[i] := by rw [← hv, send_slot]
  have sent : s.HangsUp h v := .of_alike (hv ▸ send_alike _ _ s)
  rw [freeCall_silent v i (by rw [same]; rcases placed.1 with e | e <;> rw [e] <;> nofun)]
  refine ⟨sent.trans (.of_emptied v (by rw [same]; exact placed.2)), ?_⟩
  rw [Fin.getElem_fin]
  exact Vector.getElem_set_self _

/-- A CALL binding handed to the call controller (R102, R123). -/
theorem releaseCall_hangsUp (h : Fin 2) (c : Circuit) (s : State) : s.HangsUp h (s.releaseCall h c) ∧
    ∀ b ∈ ((s.releaseCall h c).handsets[h]).bindings, b.circuit ≠ c := by
  unfold State.releaseCall
  split
  · next i found =>
    have talks := List.find?_some found
    simp only [Bool.and_eq_true, beq_iff_eq] at talks
    obtain ⟨⟨state, handset⟩, circuit⟩ := talks
    obtain ⟨hung, gone⟩ := hangUp_talking h i s state handset
    exact ⟨hung, fun b hb => circuit ▸ gone b hb⟩
  · exact removeBinding_hangsUp h c s

/-- The calls that the handset is placing, hung up in turn (R123). -/
theorem hangUpPlaced_hangsUp (h : Fin 2) (s : State) : s.HangsUp h (s.hangUpPlaced h) ∧
    ∀ i : Fin 4, (s.slots[i]).takesPlace h = true → (s.hangUpPlaced h).slots[i] = Slot.empty := by
  have folded (l : List (Fin 4)) (s : State) :
      s.HangsUp h (l.foldl (fun s i => if (s.slots[i]).takesPlace h then s.hangUp i else s) s) ∧
      ∀ i ∈ l, (s.slots[i]).takesPlace h = true →
        (l.foldl (fun s i => if (s.slots[i]).takesPlace h then s.hangUp i else s) s).slots[i] = Slot.empty := by
    induction l generalizing s with
    | nil => exact ⟨.refl s, nofun⟩
    | cons j l ih =>
      have first : s.HangsUp h (if (s.slots[j]).takesPlace h then s.hangUp j else s) ∧ ((s.slots[j]).takesPlace h = true →
          (if (s.slots[j]).takesPlace h then s.hangUp j else s).slots[j] = Slot.empty) := by
        split
        · next places => exact ⟨(hangUp_placed h j s places).1, fun _ => (hangUp_placed h j s places).2⟩
        · next quiet => exact ⟨.refl s, fun places => absurd places quiet⟩
      obtain ⟨rest, emptied⟩ := ih (if (s.slots[j]).takesPlace h then s.hangUp j else s)
      refine ⟨first.1.trans rest, fun i hi places => ?_⟩
      rw [List.foldl_cons]
      rcases first.1.slots i with same | empty
      · rcases List.mem_cons.mp hi with rfl | later
        · exact (rest.slots i).elim (fun e => e.trans (first.2 places)) id
        · exact emptied i later (by rw [same]; exact places)
      · exact (rest.slots i).elim (fun e => e.trans empty) id
  obtain ⟨hung, emptied⟩ := folded allSlots s
  exact ⟨hung, fun i => emptied i (by rw [allSlots_eq]; exact List.mem_finRange i)⟩

/-- A handset hung up without line records (R102, R123). -/
theorem clearHandset_hangsUp (h : Fin 2) (s : State) (noLines : ∀ line : LineNo, s.recordFor line = none) :
    State.HangsUp h { s with pendingAsks := s.pendingAsks.filter fun a => a.handset != h } (s.clearHandset h) ∧
    ((s.clearHandset h).handsets[h]).bindings = [] ∧
    ∀ i : Fin 4, (s.slots[i]).takesPlace h = true → (s.clearHandset h).slots[i] = Slot.empty := by
  unfold State.clearHandset
  dsimp only
  have lines := State.HangsUp.foldl (h := h) (fun s line => s.dropBinding h line) (fun line => .line line)
    (fun s => ∀ line, s.recordFor line = none) (fun s t p hs line => (p.recordFor line).trans (hs line))
    (fun s line hs => dropBinding_hangsUp h line s (hs line)) ((s.handsets[h]).bindings.filterMap Binding.line)
    { s with pendingAsks := s.pendingAsks.filter fun a => a.handset != h } noLines
  generalize List.foldl _ ({ s with pendingAsks := _ } : State) ((s.handsets[h]).bindings.filterMap Binding.line) = u at lines ⊢
  have calls := State.HangsUp.foldl (h := h) (fun s (b : Binding) => s.releaseCall h b.circuit) Binding.circuit
    (fun _ => True) (fun _ _ _ _ => trivial) (fun s b _ => releaseCall_hangsUp h b.circuit s)
    ((s.handsets[h]).bindings.filter fun b => b.line.isNone) u trivial
  generalize List.foldl _ u _ = v at calls ⊢
  obtain ⟨placed, emptied⟩ := hangUpPlaced_hangsUp h v
  generalize v.hangUpPlaced h = w at placed emptied ⊢
  have all := (lines.1.trans calls.1).trans placed
  refine ⟨all, List.eq_nil_iff_forall_not_mem.mpr fun b hb => ?_, fun i places => ?_⟩
  · obtain ⟨bs, here, sub⟩ := all.here
    obtain ⟨cs, here', sub'⟩ := placed.here
    obtain ⟨ds, here'', sub''⟩ := calls.1.here
    have old : b ∈ (s.handsets[h]).bindings := sub b (by rw [here] at hb; exact hb)
    have inV : b ∈ (v.handsets[h]).bindings := sub' b (by rw [here'] at hb; exact hb)
    have inU : b ∈ (u.handsets[h]).bindings := sub'' b (by rw [here''] at inV; exact inV)
    cases line : b.line with
    | none => exact calls.2 b (List.mem_filter.mpr ⟨old, by rw [line]; rfl⟩) b inV rfl
    | some n =>
      have circuit : b.circuit = .line n := by
        unfold Binding.line at line
        split at line <;> simp_all
      exact lines.2 n (List.mem_filterMap.mpr ⟨b, old, line⟩) b inU circuit
  · rcases (lines.1.trans calls.1).slots i with same | empty
    · exact emptied i (by rw [same]; exact places)
    · exact (placed.slots i).elim (fun e => e.trans empty) id

/-- The DROP of a handset's one LINE binding, nothing else being hung up (R102). -/
theorem clearHandset_drops (h : Fin 2) (s : State) (line : LineNo) (b m : Nat)
    (bound : (s.handsets[h]).bindings = [⟨.line line, b, m⟩]) (idle : ∀ i : Fin 4, (s.slots[i]).handset ≠ some h)
    (active : s.stationState = .active) (st : Station) (home : s.homeOf line = some st) (other : st ≠ s.cfg.station)
    (room : s.txQueue.length < 24) :
    ∃ tag : Octet, (s.clearHandset h).carries st (askFrame line .drop (.handset h) (.handset 0) false tag) := by
  have dropped : s.clearHandset h = State.hangUpPlaced h
      (State.dropBinding h line { s with pendingAsks := s.pendingAsks.filter fun a => a.handset != h }) := by
    unfold State.clearHandset
    rw [bound]
    rfl
  have freed := removeBinding_rebinds h (lineCircuit line)
    { s with pendingAsks := s.pendingAsks.filter fun a => a.handset != h }
  have slots (v : State) (hv : v.slots = s.slots) : v.hangUpPlaced h = v := by
    have quiet (i : Fin 4) : (v.slots[i]).takesPlace h = false := by
      have := idle i
      simp [Slot.takesPlace, hv, -Fin.getElem_fin, this]
    unfold State.hangUpPlaced
    generalize allSlots = l
    induction l with
    | nil => rfl
    | cons i l ih => rw [List.foldl_cons, if_neg (ne_true_of_eq_false (quiet i)), ih]
  rw [dropped, State.dropBinding]
  generalize State.removeBinding h _ _ = u at freed ⊢
  have away := sendPlain_away .drop line (.handset h) u st ((freed.homeOf line).trans home)
    (fun e => other (e.trans (congrArg (fun b => b.cfg.station) freed.base)))
  rw [away, slots _ (by rw [send_slots]; exact congrArg Base.slots freed.base)]
  exact ⟨_, send_carries st _ _ ((congrArg Base.stationState freed.base).trans active)
    (lt_of_eq_of_lt (congrArg List.length freed.txQueue) room) ⟨nofun, nofun⟩⟩

/-- Settles O48: each setting by the context it leaves, the timers by their entries, HOOK_ON by what hanging up does. -/
theorem handsetRequestsAndPositionTimers : Obligations.HandsetRequestsAndPositionTimers := by
  unfold Obligations.HandsetRequestsAndPositionTimers
  refine ⟨⟨fun s o h loaded ha ho => ⟨?_, fun on => ?_, fun code low => ?_, fun code high => ⟨?_, fun i hi => ?_⟩,
      fun code i low hi unbound => ?_, fun code i b low hi bound => ?_⟩,
    fun s => ⟨fun line m mirrored => ⟨fun active current due => ?_, fun still => ?_⟩,
      fun pre post a pending due only room => ?_, fun tag undue => ?_⟩⟩,
    fun s o h loaded ha ho => ⟨fun on => ?_, fun off noLines => ?_⟩⟩
  · obtain ⟨t, done, here, rest⟩ := handset_replaced s h { s.handsets[h] with onHook := false } (s.handsets[h]).onHook
      s.sequences (some ⟨5#8, .done, []⟩) (by rw [Bool.eq_iff_iff]; simp [Handset.view])
    refine ⟨t, (request_done ha (handsetRefusal_named s o h [] loaded ho)).trans ?_, here, rest⟩
    rw [onIndex_val o h ho]
    exact done
  · obtain ⟨t, done, here, rest⟩ := handset_replaced s h { s.handsets[h] with muted := on } ((s.handsets[h]).muted != on)
      (if on then s.sequences.filter (fun q => q.port != .handset h) else s.sequences) (some ⟨12#8, .done, []⟩)
      (by rw [Bool.eq_iff_iff]; simp [Handset.view])
    refine ⟨t, (request_done ha (handsetRefusal_named s o h [] loaded ho)).trans ?_, here, rest⟩
    rw [onIndex_val o h ho, ← done]
    cases on <;> rfl
  · obtain ⟨good, taken⟩ := gain_taken code low
    obtain ⟨t, done, here, rest⟩ := handset_replaced s h { s.handsets[h] with volume := min code.toNat 88 }
      ((s.handsets[h]).volume != min code.toNat 88) s.sequences (some ⟨13#8, .done, []⟩)
      (by rw [Bool.eq_iff_iff]; simp [Handset.view])
    refine ⟨t, (request_done ha ((handsetRefusal_named s o h _ loaded ho).trans (by simp [good]))).trans ?_, here, rest⟩
    rw [onIndex_val o h ho, taken]
    exact done
  · exact request_refused _ ha ((handsetRefusal_named s o h _ loaded ho).trans (by simp [gain_refused code high]))
  · exact request_refused _ ha ((handsetRefusal_named s o h _ loaded ho).trans (by
      simp [gain_refused code high, outOf_lt i (show i.toNat < Config.handsetPlaces from Nat.lt_succ_of_le hi)]))
  · have missing : s.noBinding o i = true := by
      rw [State.noBinding, atIndex_val o h ho, State.bindingAt, unbound]
      rfl
    exact request_refused _ ha ((handsetRefusal_named s o h _ loaded ho).trans (by
      simp [(gain_taken code low).1, outOf_lt i (show i.toNat < Config.handsetPlaces from Nat.lt_succ_of_le hi), missing]))
  · obtain ⟨good, taken⟩ := gain_taken code low
    have present : s.noBinding o i = false := by
      rw [State.noBinding, atIndex_val o h ho, State.bindingAt, bound]
      rfl
    obtain ⟨t, done, here, rest⟩ := handset_replaced s h { s.handsets[h] with
        bindings := (s.handsets[h]).bindings.set i.toNat { b with balance := min code.toNat 88 } }
      (b.balance != min code.toNat 88) s.sequences (some ⟨14#8, .done, []⟩) (balanceView_differs _ _ b _ bound)
    refine ⟨t, (request_done ha ((handsetRefusal_named s o h _ loaded ho).trans (by
      simp [good, outOf_lt i (show i.toNat < Config.handsetPlaces from Nat.lt_succ_of_le hi), present]))).trans ?_, here,
      rest⟩
    rw [onIndex_val o h ho, mapAt_set _ _ _ b bound, taken]
    exact done
  · have line' : m.line = line := by simpa using List.find?_some mirrored
    subst line'
    obtain ⟨ms, n, ov, replaced⟩ := setMirror_fields m { m with state := .stale, timer := none } s
    have staled : exec (.stalenessTimerExpiry m.line) s = .next (s.setMirror m { m with state := .stale, timer := none }) := by
      refine congrArg Host.Outcome.next ?_
      rw [mirrored]
      dsimp only
      rw [if_pos ⟨(isActive_iff s).mpr active, current, by rw [due]; rfl⟩, State.staleMirror, mirrored]
      exact if_pos current
    have mirrors := mirrorOf_replaced (t := s.setMirror m { m with state := .stale, timer := none })
      (new := { m with state := .stale, timer := none }) mirrored rfl (by rw [replaced])
    generalize s.setMirror m _ = t at replaced staled mirrors
    refine ⟨t, staled, ?_, mirrors⟩
    rw [replaced]
  · refine congrArg Host.Outcome.next ?_
    rw [mirrored]
    refine if_neg fun ⟨active, current, due⟩ => ?_
    rcases still with h | h | h
    · exact h ((isActive_iff s).mp active)
    · exact h current
    · exact h (by simpa [Timer.due] using due)
  · refine (pendingAsk_expires pending due only).trans (congrArg _ ?_)
    rw [notify_room _ _ (by exact room)]
  · have missing : s.pendingAsks.find? (fun a => a.tag == tag && a.timer == 0) = none :=
      List.find?_eq_none.mpr fun a ha => by
        rcases undue a ha with h | h <;> simp [h]
    refine congrArg Host.Outcome.next ?_
    rw [missing]
  · refine (request_done ha (handsetRefusal_named s o h [] loaded ho)).trans ?_
    rw [onIndex_val o h ho, if_pos on]
    rfl
  · have here : (s.setHandset h { s.handsets[h] with onHook := true }).handsets[h] =
        { s.handsets[h] with onHook := true } := by
      rw [Fin.getElem_fin]
      exact Vector.getElem_set_self _
    have there : (s.setHandset h { s.handsets[h] with onHook := true }).handsets[1 - h] = s.handsets[1 - h] := by
      have apart : h.val ≠ (1 - h).val := fun e => otherHandset_ne h (Fin.ext e.symm)
      simp [apart]
    refine ⟨_, (request_done ha (handsetRefusal_named s o h [] loaded ho)), ?_⟩
    rw [onIndex_val o h ho, if_neg (ne_true_of_eq_false off)]
    obtain ⟨hung, unbound, emptied⟩ := clearHandset_hangsUp h (s.setHandset h { s.handsets[h] with onHook := true }) noLines
    have drops (line : LineNo) (b m : Nat) (bound : (s.handsets[h]).bindings = [⟨.line line, b, m⟩]) :=
      clearHandset_drops h (s.setHandset h { s.handsets[h] with onHook := true }) line b m (by rw [here]; exact bound)
    generalize State.clearHandset h _ = t at hung unbound emptied drops ⊢
    obtain ⟨bs, after, -⟩ := hung.here
    refine ⟨?_, ?_, hung.other.trans there, hung.held, hung.records, hung.pendingAsks, hung.notices, hung.untouched,
      emptied, fun line b m st bound idle active home other room => ?_⟩
    · exact congrArg (fun x : Base => { x with panelAnswer := some ⟨6#8, .done, []⟩ }) hung.base
    · refine after.trans ?_
      rw [after] at unbound
      rw [show bs = [] from unbound]
      exact congrArg (fun x : Handset => { x with bindings := [] }) here
    · exact drops line b m bound idle active st home other room

end Sys2Proof.Machine
end

section
/-! SUPPORT. What the position and speaker controllers do with a STATE frame and with a change of home, said field by
field (R97 to R100, R114, R115, R138, R139). -/

namespace Sys2Proof.Machine

/-! ### Notices -/

theorem notifyAll_notices (es : List Event) (s : State) : s.notices <+: (s.notifyAll es).notices := by
  induction es generalizing s with
  | nil => exact List.prefix_refl _
  | cons e es ih => exact (notify_notices e s).1.trans (ih (s.notify e))

/-- A notice whose queue is not full afterwards is in it. -/
theorem notify_told (e : Event) (s : State) (h : (s.notify e).notices.length < 32) :
    ⟨e, s.stationTime⟩ ∈ (s.notify e).notices := by
  by_cases room : s.notices.length < 32
  · rw [notify_room e s room]
    simp
  · rw [notify_full e s (by omega)] at h
    exact absurd h room

theorem notifyAll_told (es : List Event) (s : State) (e : Event) (he : e ∈ es) (h : (s.notifyAll es).notices.length < 32) :
    ⟨e, s.stationTime⟩ ∈ (s.notifyAll es).notices := by
  induction es generalizing s with
  | nil => cases he
  | cons x es ih =>
    have rest : (s.notify x).notices <+: ((s.notify x).notifyAll es).notices := notifyAll_notices es _
    rcases List.mem_cons.mp he with rfl | later
    · exact rest.subset (notify_told e s (lt_of_le_of_lt rest.length_le h))
    · have told := ih (s.notify x) later h
      rwa [notify_stationTime] at told

/-! ### Frames -/

/-- The work of the position's and the speaker's rules: their own tables, marks and notices (R97, R138, R139). -/
structure State.Works (s t : State) : Prop where
  alike : t = { s with
    mirrors := t.mirrors, handsets := t.handsets, held := t.held, pendingAsks := t.pendingAsks, channels := t.channels
    sequences := t.sequences, streams := t.streams, marks := t.marks, notices := t.notices, overflow := t.overflow }
  queued : s.notices <+: t.notices

/-- The work of the position's rules on a STATE frame: pending asks stay, and channels but for talkers that leave. -/
structure State.Judges (s t : State) : Prop where
  alike : t = { s with
    mirrors := t.mirrors, handsets := t.handsets, held := t.held, channels := t.channels
    sequences := t.sequences, streams := t.streams, marks := t.marks, notices := t.notices, overflow := t.overflow }
  channels : ∀ k : Fin 8, (s.channels[k]).ShedsTo t.channels[k]
  queued : s.notices <+: t.notices

namespace State.Works

variable {s t u : State}

theorem refl (s : State) : s.Works s := ⟨rfl, List.prefix_refl _⟩

theorem trans (p : s.Works t) (q : t.Works u) : s.Works u := by
  refine ⟨?_, p.queued.trans q.queued⟩
  rw [q.alike, p.alike]

theorem foldl {α : Type} (f : State → α → State) (h : ∀ (s : State) a, s.Works (f s a)) (l : List α) (s : State) :
    s.Works (l.foldl f s) := by
  induction l generalizing s with
  | nil => exact .refl s
  | cons a l ih => exact (h s a).trans (ih (f s a))

theorem of_retunes (h : s.Retunes t) : s.Works t :=
  ⟨by rw [h.alike], by rw [h.alike]⟩

theorem of_rebinds {h : Fin 2} {bs : List Binding} (r : s.Rebinds h bs t) : s.Works t :=
  ⟨by rw [r.alike], by rw [r.alike]⟩

theorem base (p : s.Works t) : t.base = s.base := by rw [p.alike]; rfl
theorem records (p : s.Works t) : t.records = s.records := by rw [p.alike]
theorem txQueue (p : s.Works t) : t.txQueue = s.txQueue := by rw [p.alike]
theorem tagCount (p : s.Works t) : t.tagCount = s.tagCount := by rw [p.alike]
theorem stationTime (p : s.Works t) : t.stationTime = s.stationTime := congrArg Base.stationTime p.base
theorem cfg (p : s.Works t) : t.cfg = s.cfg := congrArg Base.cfg p.base
theorem homeOf (p : s.Works t) (line : LineNo) : t.homeOf line = s.homeOf line := by rw [p.alike]; rfl
theorem recordFor (p : s.Works t) (line : LineNo) : t.recordFor line = s.recordFor line := by rw [p.alike]; rfl
theorem own (p : s.Works t) (x : Port) : t.own x = s.own x := by rw [p.alike]; rfl

end State.Works

namespace State.Judges

variable {s t u : State}

theorem refl (s : State) : s.Judges s := ⟨rfl, fun _ => .refl _, List.prefix_refl _⟩

theorem trans (p : s.Judges t) (q : t.Judges u) : s.Judges u := by
  refine ⟨?_, fun k => (p.channels k).trans (q.channels k), p.queued.trans q.queued⟩
  rw [q.alike, p.alike]

theorem works (p : s.Judges t) : s.Works t := ⟨by rw [p.alike], p.queued⟩

theorem of_rebinds {h : Fin 2} {bs : List Binding} (r : s.Rebinds h bs t) : s.Judges t :=
  ⟨by rw [r.alike], r.channels, by rw [r.alike]⟩

theorem pendingAsks (p : s.Judges t) : t.pendingAsks = s.pendingAsks := by rw [p.alike]

theorem askPending (p : s.Judges t) (line : LineNo) : t.askPending line = s.askPending line := by rw [p.alike]; rfl

theorem listed (p : s.Judges t) (b : LineStatus) (h : Fin 2) (mode : Mode) : t.listed b h mode = s.listed b h mode := by
  rw [p.alike]; rfl

/-- The next tag hangs on the asks and waits alone (R107). -/
theorem nextTag (p : s.Judges t) : t.nextTag = s.nextTag := by
  have waits : (t.channels.toList.filterMap fun c => c.wait.map (·.tag)) =
      s.channels.toList.filterMap fun c => c.wait.map (·.tag) := by
    have same : t.channels.toList.map (·.wait) = s.channels.toList.map (·.wait) := by
      refine List.ext_getElem (by simp) fun i hi _ => ?_
      have hi8 : i < 8 := by simpa using hi
      simpa using (p.channels ⟨i, hi8⟩).wait
    have through (v : Vector Channel 8) : (v.toList.filterMap fun c => c.wait.map (·.tag)) =
        (v.toList.map (·.wait)).filterMap fun w => w.map (·.tag) := by
      rw [List.filterMap_map]
      rfl
    rw [through, through, same]
  unfold State.nextTag State.tagsInUse
  rw [waits, p.pendingAsks, p.works.tagCount]

end State.Judges

theorem notify_judges (e : Event) (s : State) : s.Judges (s.notify e) := by
  have alike := notify_alike e s
  have queued := (notify_notices e s).1
  generalize s.notify e = t at alike queued
  exact ⟨by rw [alike], fun k => by rw [alike]; exact .refl _, queued⟩

theorem notifyAll_judges (es : List Event) (s : State) : s.Judges (s.notifyAll es) := by
  have alike := notifyAll_alike es s
  have queued := notifyAll_notices es s
  generalize s.notifyAll es = t at alike queued
  exact ⟨by rw [alike], fun k => by rw [alike]; exact .refl _, queued⟩

theorem setMirror_judges (old new : Mirror) (s : State) : s.Judges (s.setMirror old new) := by
  unfold State.setMirror
  extract_lets s1 s2
  have h1 : s.Judges s1 := ⟨rfl, fun _ => .refl _, List.prefix_refl _⟩
  have h2 : s.Judges s2 := by
    refine h1.trans ?_
    by_cases same : old.lamp s.cfg.station = new.lamp s.cfg.station
    · rw [show s2 = s1 from if_pos same]
      exact .refl s1
    · rw [show s2 = s1.markLamps old.line from if_neg same]
      exact ⟨rfl, fun _ => .refl _, List.prefix_refl _⟩
  split
  · exact h2
  · exact h2.trans (notify_judges _ _)

/-! ### The mirror -/

theorem mirrorTakes_some {s : State} {b : LineStatus} {m : Mirror} (h : s.mirrorOf b.line = some m) : s.mirrorTakes b =
    (s.setMirror m ⟨m.line, .current, some b, if s.isActive then some (s.blocks 1200) else none⟩).notifyAll
      (s.recallNotices m b) := by
  rw [State.mirrorTakes, h]

theorem mirrorTakes_judges (b : LineStatus) (s : State) : s.Judges (s.mirrorTakes b) := by
  unfold State.mirrorTakes
  split
  · exact .refl s
  · exact (setMirror_judges _ _ s).trans (notifyAll_judges _ _)

theorem mirrorOf_line {s : State} {line : LineNo} {m : Mirror} (h : s.mirrorOf line = some m) : m.line = line := by
  simpa using List.find?_some h

theorem setMirror_mirrors (old new : Mirror) (s : State) :
    (s.setMirror old new).mirrors = s.mirrors.map fun m => if m.line = old.line then new else m := by
  obtain ⟨ms, n, o, h⟩ := setMirror_fields old new s
  rw [h]

theorem notifyAll_mirrors (es : List Event) (s : State) : (s.notifyAll es).mirrors = s.mirrors := by rw [notifyAll_alike]

/-- A STATE frame taken changes the mirrors, marks and notices alone (R97). -/
theorem mirrorTakes_fields (b : LineStatus) (s : State) : ∃ (ms : List Mirror) (m : Marks) (n : List Notice) (o : Octet),
    s.mirrorTakes b = { s with mirrors := ms, marks := m, notices := n, overflow := o } := by
  unfold State.mirrorTakes
  split
  · exact ⟨_, _, _, _, rfl⟩
  · obtain ⟨m, n, o, mirrored⟩ := setMirror_fields _ _ s
    rw [mirrored]
    obtain ⟨n', o', told⟩ := notifyAll_frame _ _
    exact ⟨_, _, _, _, told⟩

/-- A STATE frame taken makes the mirror of its line CURRENT and leaves the others (R97). -/
theorem mirrorTakes_mirrors (s : State) (b : LineStatus) :
    (∀ m : Mirror, s.mirrorOf b.line = some m → (s.mirrorTakes b).mirrorOf b.line =
      some ⟨b.line, .current, some b, if s.isActive then some (s.blocks 1200) else none⟩) ∧
    ∀ other : LineNo, other ≠ b.line → (s.mirrorTakes b).mirrorOf other = s.mirrorOf other := by
  cases held : s.mirrorOf b.line with
  | none => exact ⟨fun _ h => (Option.some_ne_none _ h.symm).elim, fun other _ => by rw [State.mirrorTakes, held]⟩
  | some m =>
    have line := mirrorOf_line held
    have mirrors : (s.mirrorTakes b).mirrors = s.mirrors.map fun x => if x.line = m.line then
        ⟨b.line, .current, some b, if s.isActive then some (s.blocks 1200) else none⟩ else x := by
      rw [mirrorTakes_some held, notifyAll_mirrors, setMirror_mirrors, line]
    generalize s.mirrorTakes b = t at mirrors ⊢
    have replaced := mirrorOf_replaced (s := s) (by rw [line]; exact held) line.symm mirrors
    rw [line] at replaced
    exact ⟨fun _ _ => replaced.1, replaced.2⟩

/-! ### The Lost rule at the position -/

/-- The bindings of a handset after the Lost rule (R115): each of the circuit judged, and the circuit gone where one of
them is missed a second time. -/
def judgedBindings (keep : Bool) (c : Circuit) (bs : List Binding) : List Binding :=
  let judged := bs.map fun x => if x.circuit = c then { x with misses := missAfter keep x.misses } else x
  if judged.any (fun x => x.circuit == c && x.misses ≥ 2) then judged.filter fun x => x.circuit != c else judged

/-- The Lost rule on one handset: its bindings judged, and a notice where they are lost (R115). -/
theorem lostBindings_tells (b : LineStatus) (h : Fin 2) (s : State) :
    s.Judges (s.lostBindings b h) ∧ (s.lostBindings b h).mirrors = s.mirrors ∧ (s.lostBindings b h).held = s.held ∧
    (s.lostBindings b h).handsets = s.handsets.set h { s.handsets[h] with
      bindings := judgedBindings (s.askPending b.line || s.listed b h .active) (lineCircuit b.line)
        (s.handsets[h]).bindings } ∧
    ((∃ x ∈ (s.handsets[h]).bindings, x.circuit = lineCircuit b.line ∧
        2 ≤ missAfter (s.askPending b.line || s.listed b h .active) x.misses) →
      (s.lostBindings b h).notices.length < 32 →
      ⟨.lineLost b.line (.handset h), s.stationTime⟩ ∈ (s.lostBindings b h).notices) := by
  unfold State.lostBindings judgedBindings
  extract_lets c keep judged _ s' _
  have kept : s.Judges s' := ⟨rfl, fun _ => .refl _, List.prefix_refl _⟩
  have here : s'.handsets[h] = { s.handsets[h] with bindings := judged } := by
    rw [Fin.getElem_fin]
    exact Vector.getElem_set_self _
  by_cases lost : judged.any (fun x => x.circuit == c && decide (x.misses ≥ 2)) = true
  · rw [if_pos lost, if_pos lost]
    have freed := removeBinding_rebinds h c s'
    rw [here] at freed
    have told := notify_told (.lineLost b.line (.handset h)) (s'.removeBinding h c)
    generalize s'.removeBinding h c = u at freed told ⊢
    have time : u.stationTime = s.stationTime := congrArg Base.stationTime freed.base
    refine ⟨(kept.trans (.of_rebinds freed)).trans (notify_judges _ u), ?_, ?_, ?_, fun _ room => time ▸ told room⟩
    · rw [notify_mirrors, freed.mirrors]
    · rw [notify_held, freed.held]
    · rw [notify_handsets, freed.alike]
      simp only [here]
      rw [show s'.handsets = s.handsets.set h { s.handsets[h] with bindings := judged } from rfl, Vector.set_set]
  · rw [if_neg lost, if_neg lost]
    refine ⟨kept, rfl, rfl, rfl, fun ⟨x, hx, circuit, misses⟩ _ => absurd ?_ lost⟩
    refine List.any_eq_true.mpr ⟨_, List.mem_map_of_mem hx, ?_⟩
    rw [if_pos circuit]
    simp only [circuit, Bool.and_eq_true, beq_iff_eq, decide_eq_true_eq]
    exact ⟨rfl, misses⟩

/-- The held list after the Lost rule (R115). -/
def State.judgedHeld (s : State) (b : LineStatus) : List HeldLine :=
  (s.held.map fun e => if e.line = b.line then
      { e with misses := missAfter (s.askPending b.line || s.listed b e.handset .held) e.misses }
    else e).filter fun e => !(e.line == b.line && e.misses ≥ 2)

/-- The Lost rule on the held list: its entries judged, and a notice for each that is lost (R115). -/
theorem lostHeld_tells (b : LineStatus) (s : State) :
    s.Judges (s.lostHeld b) ∧ (s.lostHeld b).mirrors = s.mirrors ∧ (s.lostHeld b).handsets = s.handsets ∧
    (s.lostHeld b).held = s.judgedHeld b ∧
    ∀ e ∈ s.held, e.line = b.line → 2 ≤ missAfter (s.askPending b.line || s.listed b e.handset .held) e.misses →
      (s.lostHeld b).notices.length < 32 →
      ⟨.lineLost b.line (.handset e.handset), s.stationTime⟩ ∈ (s.lostHeld b).notices := by
  unfold State.lostHeld
  extract_lets judged lost
  have kept : s.Judges { s with held := s.judgedHeld b } := ⟨rfl, fun _ => .refl _, List.prefix_refl _⟩
  have alike := notifyAll_alike (lost.map fun e => Event.lineLost e.line (.handset e.handset))
    { s with held := s.judgedHeld b }
  have told := notifyAll_told (lost.map fun e => Event.lineLost e.line (.handset e.handset))
    { s with held := s.judgedHeld b }
  have works := notifyAll_judges (lost.map fun e => Event.lineLost e.line (.handset e.handset))
    { s with held := s.judgedHeld b }
  rw [show judged.filter (fun e => !(e.line == b.line && decide (e.misses ≥ 2))) = s.judgedHeld b from rfl]
  generalize State.notifyAll _ _ = t at alike told works ⊢
  refine ⟨kept.trans works, by rw [alike], by rw [alike], by rw [alike], fun e he line misses => told _ ?_⟩
  refine List.mem_map.mpr ⟨{ e with misses := missAfter (s.askPending b.line || s.listed b e.handset .held) e.misses }, ?_,
    by rw [← line]⟩
  refine List.mem_filter.mpr ⟨List.mem_map.mpr ⟨e, he, if_pos line⟩, ?_⟩
  simp only [line, beq_self_eq_true, Bool.true_and, decide_eq_true_eq]
  exact misses

end Sys2Proof.Machine
end

section
/-! PROOFS. A STATE frame from a line's home at the position and speaker controllers (R97, R98, R114, R115, R138). -/

namespace Sys2Proof.Machine

/-! ### The speaker's channels -/

theorem Channel.ShedsTo.misses {a b : Channel} (h : a.ShedsTo b) : b.misses = a.misses := by
  obtain ⟨l, -, rfl⟩ := h; rfl

theorem notify_channel (e : Event) (s : State) (k : Fin 8) : (s.notify e).channels[k] = s.channels[k] := by
  rw [notify_channels]

theorem setChannel_here (k : Fin 8) (c : Channel) (s : State) : (s.setChannel k c).channels[k] = c := by
  simp [State.setChannel, State.markTalkers]

theorem setChannel_there (j k : Fin 8) (c : Channel) (s : State) (apart : j ≠ k) :
    (s.setChannel j c).channels[k] = s.channels[k] := by
  have other : j.val ≠ k.val := fun h => apart (Fin.ext h)
  simp [State.setChannel, State.markTalkers, other]

/-- The work of the speaker's rules: channels with what follows them, and notices (R138, R139). -/
structure State.Listens (s t : State) : Prop where
  alike : t = { s with
    streams := t.streams, channels := t.channels, marks := t.marks, notices := t.notices, overflow := t.overflow }
  queued : s.notices <+: t.notices

namespace State.Listens

variable {s t u : State}

theorem refl (s : State) : s.Listens s := ⟨rfl, List.prefix_refl _⟩

theorem trans (p : s.Listens t) (q : t.Listens u) : s.Listens u := by
  refine ⟨?_, p.queued.trans q.queued⟩
  rw [q.alike, p.alike]

theorem foldl {α : Type} (f : State → α → State) (h : ∀ (s : State) a, s.Listens (f s a)) (l : List α) (s : State) :
    s.Listens (l.foldl f s) := by
  induction l generalizing s with
  | nil => exact .refl s
  | cons a l ih => exact (h s a).trans (ih (f s a))

theorem works (p : s.Listens t) : s.Works t := ⟨by rw [p.alike], p.queued⟩

theorem handsets (p : s.Listens t) : t.handsets = s.handsets := by rw [p.alike]
theorem held (p : s.Listens t) : t.held = s.held := by rw [p.alike]
theorem mirrors (p : s.Listens t) : t.mirrors = s.mirrors := by rw [p.alike]
theorem pendingAsks (p : s.Listens t) : t.pendingAsks = s.pendingAsks := by rw [p.alike]
theorem stationTime (p : s.Listens t) : t.stationTime = s.stationTime := p.works.stationTime

end State.Listens

theorem setChannel_listens (k : Fin 8) (c : Channel) (s : State) : s.Listens (s.setChannel k c) :=
  ⟨rfl, List.prefix_refl _⟩

theorem turnOff_listens (k : Fin 8) (s : State) : s.Listens (s.turnOff k) := by
  have off := (turnOff_turnsOff k s).alike
  generalize s.turnOff k = t at off
  exact ⟨by rw [off], by rw [off]⟩

theorem notify_listens (e : Event) (s : State) : s.Listens (s.notify e) := by
  have alike := notify_alike e s
  have queued := (notify_notices e s).1
  generalize s.notify e = t at alike queued
  exact ⟨by rw [alike], queued⟩

theorem ports_split (k : Fin 8) : allPorts = allPorts.take k.val ++ k :: allPorts.drop (k.val + 1) ∧
    k ∉ allPorts.take k.val ∧ k ∉ allPorts.drop (k.val + 1) := by
  decide +revert

/-- Channels worked one after the other: what one of them is when its turn comes, and what stays of it afterwards. -/
theorem foldl_channel (f : State → Fin 8 → State) (works : ∀ (s : State) j, s.Listens (f s j))
    (others : ∀ (s : State) (j k : Fin 8), j ≠ k → (s.channels[k]).ShedsTo (f s j).channels[k]) (k : Fin 8) (s : State) :
    ∃ v : State, s.Listens v ∧ (s.channels[k]).ShedsTo v.channels[k] ∧ (f v k).Listens (allPorts.foldl f s) ∧
      ((f v k).channels[k]).ShedsTo (allPorts.foldl f s).channels[k] := by
  have sheds (l : List (Fin 8)) (hl : k ∉ l) (s : State) : (s.channels[k]).ShedsTo (l.foldl f s).channels[k] := by
    induction l generalizing s with
    | nil => exact .refl _
    | cons j l ih =>
      rw [List.mem_cons, not_or] at hl
      exact (others s j k (Ne.symm hl.1)).trans (ih hl.2 (f s j))
  obtain ⟨split, before, after⟩ := ports_split k
  refine ⟨(allPorts.take k.val).foldl f s, .foldl f works _ s, sheds _ before s, ?_⟩
  have whole : allPorts.foldl f s =
      (allPorts.drop (k.val + 1)).foldl f (f ((allPorts.take k.val).foldl f s) k) := by
    conv_lhs => rw [split, List.foldl_append, List.foldl_cons]
  rw [whole]
  exact ⟨.foldl f works _ _, sheds _ after _⟩

theorem lostChannel_listens (b : LineStatus) (s : State) (k : Fin 8) : s.Listens (s.lostChannel b k) := by
  unfold State.lostChannel
  split
  · dsimp only
    split
    · exact (turnOff_listens k s).trans (notify_listens _ _)
    · exact setChannel_listens ..
  · exact .refl s

theorem lostChannel_others (b : LineStatus) (s : State) (j k : Fin 8) (apart : j ≠ k) :
    (s.channels[k]).ShedsTo (s.lostChannel b j).channels[k] := by
  unfold State.lostChannel
  split
  · dsimp only
    split
    · rw [notify_channel]
      exact (turnOff_turnsOff j s).others k apart.symm
    · rw [setChannel_there j k _ s apart]
      exact .refl _
  · exact .refl _

/-- A listening channel whose misses a waiting channel clears (R138). -/
theorem excused_listens (b : LineStatus) (s : State) (k : Fin 8) :
    s.Listens (if s.listensTo b.line k then s.setChannel k { s.channels[k] with misses := 0 } else s) := by
  split
  · exact setChannel_listens ..
  · exact .refl s

theorem excused_others (b : LineStatus) (s : State) (j k : Fin 8) (apart : j ≠ k) : (s.channels[k]).ShedsTo
    (if s.listensTo b.line j then s.setChannel j { s.channels[j] with misses := 0 } else s).channels[k] := by
  split
  · rw [setChannel_there j k _ s apart]
    exact .refl _
  · exact .refl _

theorem speakerTakes_listens (source : Station) (b : LineStatus) (s : State) : s.Listens (s.speakerTakes source b).1 := by
  unfold State.speakerTakes
  split
  · split
    · dsimp only
      exact .foldl _ (excused_listens b) _ s
    · dsimp only
      exact .foldl _ (lostChannel_listens b) _ s
  · exact .refl s

theorem listensTo_iff (s : State) (line : LineNo) (k : Fin 8) :
    s.listensTo line k = true ↔ (s.channels[k]).binding = .line line ∧ (s.channels[k]).wait = none := by
  simp [State.listensTo, -Fin.getElem_fin]

theorem waitsFor_iff (s : State) (line : LineNo) (k : Fin 8) :
    s.waitsFor line k = true ↔ (s.channels[k]).binding = .line line ∧ (s.channels[k]).wait ≠ none := by
  simp [State.waitsFor, Option.isSome_iff_ne_none, -Fin.getElem_fin]

theorem listensTo_sheds {s v : State} {line : LineNo} {k : Fin 8} (h : (s.channels[k]).ShedsTo v.channels[k])
    (listens : s.listensTo line k = true) : v.listensTo line k = true := by
  rw [listensTo_iff] at listens ⊢
  rwa [h.binding, h.wait]

/-- The speaker's work on a STATE frame while a channel waits for the line (R138). -/
theorem speakerTakes_waiting {s : State} {source : Station} {b : LineStatus} (home : s.homeOf b.line = some source)
    (waits : allPorts.any (s.waitsFor b.line) = true) (k : Fin 8) (listens : s.listensTo b.line k = true) :
    ((s.speakerTakes source b).1.channels[k]).binding = .line b.line ∧
    ((s.speakerTakes source b).1.channels[k]).wait = none ∧ ((s.speakerTakes source b).1.channels[k]).misses = 0 := by
  rw [State.speakerTakes, if_pos home, if_pos waits]
  dsimp only
  obtain ⟨v, -, sheds, -, rest⟩ := foldl_channel
    (fun s k => if s.listensTo b.line k then s.setChannel k { s.channels[k] with misses := 0 } else s)
    (excused_listens b) (excused_others b) k s
  generalize List.foldl _ s allPorts = t at rest ⊢
  rw [if_pos (listensTo_sheds sheds listens), setChannel_here] at rest
  have listens' := (listensTo_iff _ _ _).mp (listensTo_sheds sheds listens)
  exact ⟨rest.binding.trans listens'.1, rest.wait.trans listens'.2, rest.misses⟩

/-- The speaker's work on a STATE frame while none waits: a listed channel's misses are cleared, another's count (R138). -/
theorem speakerTakes_counts {s : State} {source : Station} {b : LineStatus} (home : s.homeOf b.line = some source)
    (waits : allPorts.any (s.waitsFor b.line) = false) (k : Fin 8) (listens : s.listensTo b.line k = true) (n : Nat)
    (hn : n = missAfter (b.listeners.any fun p => p == s.own (.speakerCh k)) (s.channels[k]).misses) :
    (n < 2 → ((s.speakerTakes source b).1.channels[k]).binding = .line b.line ∧
      ((s.speakerTakes source b).1.channels[k]).wait = none ∧ ((s.speakerTakes source b).1.channels[k]).misses = n) ∧
    (2 ≤ n → (s.speakerTakes source b).1.channels[k] =
        { s.channels[k] with binding := .unbound, talkers := [], wait := none, misses := 0 } ∧
      ((s.speakerTakes source b).1.notices.length < 32 →
        ⟨.lineLost b.line (.speakerCh k), s.stationTime⟩ ∈ (s.speakerTakes source b).1.notices)) := by
  rw [State.speakerTakes, if_pos home, if_neg (ne_true_of_eq_false waits)]
  dsimp only
  obtain ⟨v, work, sheds, later, rest⟩ := foldl_channel (State.lostChannel b) (lostChannel_listens b) (lostChannel_others b) k s
  generalize List.foldl _ s allPorts = t at rest later ⊢
  have listensV := listensTo_sheds sheds listens
  have same : missAfter (b.listeners.any fun p => p == v.own (.speakerCh k)) (v.channels[k]).misses = n := by
    rw [work.works.own, sheds.misses, hn]
  unfold State.lostChannel at rest later
  rw [if_pos listensV] at rest later
  dsimp only at rest later
  rw [same] at rest later
  refine ⟨fun low => ?_, fun high => ?_⟩
  · rw [if_neg (by omega), setChannel_here] at rest
    have listens' := (listensTo_iff _ _ _).mp listensV
    exact ⟨rest.binding.trans listens'.1, rest.wait.trans listens'.2, rest.misses⟩
  · rw [if_pos high] at rest later
    rw [notify_channel, (turnOff_turnsOff k v).off] at rest
    refine ⟨?_, fun room => ?_⟩
    · rw [rest.of_silent rfl]
      obtain ⟨l, -, shed⟩ := sheds
      rw [shed]
    · have told := notify_told (.lineLost b.line (.speakerCh k)) (v.turnOff k)
        (lt_of_le_of_lt later.queued.length_le room)
      rw [((turnOff_listens k v).stationTime).trans work.stationTime] at told
      exact later.queued.subset told

/-! ### The position's work -/

/-- What a STATE frame taken from the home does at the position (R97, R115). -/
theorem positionTakes_tells {s : State} {source : Station} {b : LineStatus} (home : s.homeOf b.line = some source)
    (p : State) (hp : (s.positionTakes source b).1 = p) :
    s.Judges p ∧ p.mirrors = (s.mirrorTakes b).mirrors ∧
    (∀ h : Fin 2, p.handsets[h] = { s.handsets[h] with
      bindings := judgedBindings (s.askPending b.line || s.listed b h .active) (lineCircuit b.line)
        (s.handsets[h]).bindings } ∧
      ((∃ x ∈ (s.handsets[h]).bindings, x.circuit = lineCircuit b.line ∧
          2 ≤ missAfter (s.askPending b.line || s.listed b h .active) x.misses) →
        p.notices.length < 32 → ⟨.lineLost b.line (.handset h), s.stationTime⟩ ∈ p.notices)) ∧
    p.held = s.judgedHeld b ∧
    ∀ e ∈ s.held, e.line = b.line → 2 ≤ missAfter (s.askPending b.line || s.listed b e.handset .held) e.misses →
      p.notices.length < 32 → ⟨.lineLost b.line (.handset e.handset), s.stationTime⟩ ∈ p.notices := by
  rw [State.positionTakes, if_pos home] at hp
  dsimp only at hp
  subst hp
  have taken := mirrorTakes_judges b s
  have tHandsets : (s.mirrorTakes b).handsets = s.handsets ∧ (s.mirrorTakes b).held = s.held := by
    obtain ⟨ms, m, n, o, fields⟩ := mirrorTakes_fields b s
    rw [fields]
    exact ⟨rfl, rfl⟩
  generalize s.mirrorTakes b = u at taken tHandsets ⊢
  obtain ⟨work0, mirrors0, held0, handsets0, told0⟩ := lostBindings_tells b 0 u
  generalize u.lostBindings b 0 = v at work0 mirrors0 held0 handsets0 told0 ⊢
  obtain ⟨work1, mirrors1, held1, handsets1, told1⟩ := lostBindings_tells b 1 v
  generalize v.lostBindings b 1 = w at work1 mirrors1 held1 handsets1 told1 ⊢
  obtain ⟨work2, mirrors2, handsets2, held2, told2⟩ := lostHeld_tells b w
  generalize w.lostHeld b = x at work2 mirrors2 handsets2 held2 told2 ⊢
  obtain ⟨handsets, held⟩ := tHandsets
  have toV := taken.trans work0
  have toW := toV.trans work1
  have other : v.handsets[(1 : Fin 2)] = s.handsets[(1 : Fin 2)] := by
    rw [handsets0, handsets]
    simp
  have judged : w.judgedHeld b = s.judgedHeld b := by
    unfold State.judgedHeld
    simp only [held1, held0, held, toW.askPending, toW.listed]
  rw [taken.askPending, taken.listed, handsets, taken.works.stationTime] at told0
  rw [toV.askPending, toV.listed, other, toV.works.stationTime] at told1
  rw [taken.askPending, taken.listed, handsets] at handsets0
  rw [toV.askPending, toV.listed, other] at handsets1
  simp only [toW.askPending, toW.listed, held1, held0, held, toW.works.stationTime] at told2
  refine ⟨toW.trans work2, by rw [mirrors2, mirrors1, mirrors0], fun h => ?_, by rw [held2, judged], told2⟩
  have cases : h = 0 ∨ h = 1 := by omega
  rcases cases with rfl | rfl
  · refine ⟨by rw [handsets2, handsets1, handsets0]; simp, fun lost room => ?_⟩
    have later := (work1.trans work2).queued
    exact later.subset (told0 lost (lt_of_le_of_lt later.length_le room))
  · refine ⟨by rw [handsets2, handsets1]; simp, fun lost room => ?_⟩
    exact work2.queued.subset (told1 lost (lt_of_le_of_lt work2.queued.length_le room))

end Sys2Proof.Machine
end

section
/-! PROOFS. STATE frames from a line's home taken whole: the mirror, the orphans and the Lost rules (R97, R98, R114, R115,
R138). -/

namespace Sys2Proof.Machine

/-- The work of asks sent: tags taken and frames offered (R107). -/
structure State.Asks (s t : State) : Prop where
  alike : t = { s with
    tagCount := t.tagCount, txQueue := t.txQueue, transmitting := t.transmitting, mediumIdle := t.mediumIdle
    mediumLooks := t.mediumLooks, live := t.live }

namespace State.Asks

variable {s t u : State}

theorem refl (s : State) : s.Asks s := ⟨rfl⟩

theorem trans (p : s.Asks t) (q : t.Asks u) : s.Asks u := by
  refine ⟨?_⟩
  rw [q.alike, p.alike]

theorem of_alike (h : s.alikeButQueue t) : s.Asks t := by
  obtain ⟨q, tr, mi, ml, lv, rfl⟩ := alike_fields h
  exact ⟨rfl⟩

theorem base (p : s.Asks t) : t.base = s.base := by rw [p.alike]; rfl
theorem records (p : s.Asks t) : t.records = s.records := by rw [p.alike]
theorem homeOf (p : s.Asks t) (line : LineNo) : t.homeOf line = s.homeOf line := by rw [p.alike]; rfl
theorem recordFor (p : s.Asks t) (line : LineNo) : t.recordFor line = s.recordFor line := by rw [p.alike]; rfl
theorem cfg (p : s.Asks t) : t.cfg = s.cfg := by rw [p.alike]
theorem mirrors (p : s.Asks t) : t.mirrors = s.mirrors := by rw [p.alike]
theorem handsets (p : s.Asks t) : t.handsets = s.handsets := by rw [p.alike]
theorem held (p : s.Asks t) : t.held = s.held := by rw [p.alike]
theorem channels (p : s.Asks t) : t.channels = s.channels := by rw [p.alike]
theorem notices (p : s.Asks t) : t.notices = s.notices := by rw [p.alike]
theorem stationTime (p : s.Asks t) : t.stationTime = s.stationTime := by rw [p.alike]
theorem own (p : s.Asks t) (x : Port) : t.own x = s.own x := by rw [p.alike]; rfl

end State.Asks

/-- The DROPs of orphans, sent to another station (R114, R138). -/
theorem drops_asks (line : LineNo) (source : Station) (l : List Port) (s : State) (home : s.homeOf line = some source)
    (other : source ≠ s.cfg.station) : s.Asks (l.foldl (fun s p => s.sendPlain .drop line p) s) := by
  induction l generalizing s with
  | nil => exact .refl s
  | cons p l ih =>
    have sent : s.Asks (s.sendPlain .drop line p) := by
      rw [sendPlain_away .drop line p s source home other]
      exact State.Asks.trans (t := s.takeTag) ⟨rfl⟩ (.of_alike (send_alike _ _ _))
    exact sent.trans (ih _ ((sent.homeOf line).trans home) (by rw [sent.cfg]; exact other))

/-! ### Hearing leaves the homes alone -/

theorem havingHeard_peer {s : State} {source : Station} (present : (s.peer source).state = .present) (q : Station) :
    ((s.havingHeard source).peer q).state = (s.peer q).state ∧ ((s.havingHeard source).peer q).card = (s.peer q).card := by
  unfold State.peer at present ⊢
  unfold State.havingHeard
  by_cases same : stationIndex source = stationIndex q
  · have here : s.peers[stationIndex q].state = .present := by
      simpa only [Fin.getElem_fin, same] using present
    simp only [same, Fin.getElem_fin, Vector.getElem_set_self]
    exact ⟨here.symm, by simp only [State.peer, same, Fin.getElem_fin]⟩
  · have apart : (stationIndex source).val ≠ (stationIndex q).val := fun h => same (Fin.ext h)
    simp [apart]

theorem havingHeard_homeOf {s : State} {source : Station} (present : (s.peer source).state = .present) (line : LineNo) :
    (s.havingHeard source).homeOf line = s.homeOf line := by
  unfold State.homeOf
  congr 1
  funext q
  obtain ⟨state, card⟩ := havingHeard_peer present q
  unfold State.homeCandidate Peer.lists
  rw [state, card]
  rfl

/-- A STATE frame of another station's line handed on (R97). -/
theorem state_heard {s : State} {unit crc : List Octet} {source target : Station} {l : LineStatus}
    (handed : s.HandsOn (unit ++ crc) source target (.state l)) (t : State) (ht : (s.havingHeard source).takeStateFrame source l = t) (records : t.recordFor l.line = none) :
    exec (.stateReceived unit crc) s = .next t := by
  refine congrArg Host.Outcome.next ((hearAs_handsOn _ handed rfl nofun).trans ?_)
  show State.sightState source l.line _ = t
  rw [ht, State.sightState, records]

/-- A STATE frame from the home, another station: the position's work, its DROPs, the speaker's work, its DROPs (R97,
R114, R138). -/
theorem takeStateFrame_stages {v : State} {source : Station} {b : LineStatus} (home : v.homeOf b.line = some source)
    (other : source ≠ v.cfg.station) : ∃ p u q t : State, (v.positionTakes source b).1 = p ∧
      (v.positionTakes source b).2.foldl (fun s p => s.sendPlain .drop b.line p) p = u ∧ p.Asks u ∧
      (u.speakerTakes source b).1 = q ∧
      (u.speakerTakes source b).2.foldl (fun s p => s.sendPlain .drop b.line p) q = t ∧ q.Asks t ∧
      v.takeStateFrame source b = t := by
  obtain ⟨judged, -⟩ := positionTakes_tells home _ rfl
  have asked := drops_asks b.line source (v.positionTakes source b).2 (v.positionTakes source b).1
    ((judged.works.homeOf _).trans home) (by rw [judged.works.cfg]; exact other)
  generalize hu : List.foldl _ (v.positionTakes source b).1 _ = u at asked
  have spoke := speakerTakes_listens source b u
  have asked' := drops_asks b.line source (u.speakerTakes source b).2 (u.speakerTakes source b).1
    ((spoke.works.homeOf _).trans ((asked.homeOf _).trans ((judged.works.homeOf _).trans home)))
    (by rw [spoke.works.cfg, asked.cfg, judged.works.cfg]; exact other)
  refine ⟨_, u, _, _, rfl, hu, asked, rfl, rfl, asked', ?_⟩
  rw [takeStateFrame_eq]
  dsimp only
  rw [hu]

/-- A STATE frame of a station that is not the line's home (R97). -/
theorem takeStateFrame_ignored {v : State} {source : Station} {b : LineStatus} (home : v.homeOf b.line ≠ some source) :
    v.takeStateFrame source b = v := by
  have position : v.positionTakes source b = (v, []) := if_neg home
  have speaker : v.speakerTakes source b = (v, []) := if_neg home
  rw [takeStateFrame_eq, position]
  dsimp only [List.foldl_nil]
  rw [speaker]
  rfl

/-- A lone entry of the station's own that no handset is bound to (R114). -/
theorem orphans_lone {s : State} {l : LineStatus} {x : Fin 2} (lone : l.members = [⟨s.own (.handset x), .active, false⟩])
    (idle : s.askPending l.line = false) (unbound : s.isBound x (lineCircuit l.line) = false) :
    (s.mirrorTakes l).orphans l = [.handset x] := by
  obtain ⟨ms, m, n, o, taken⟩ := mirrorTakes_fields l s
  have orphan : s.isOrphan l.line ⟨s.own (.handset x), .active, false⟩ = true := by
    simp [State.isOrphan, State.own, unbound]
  have orphans : s.orphans l = [.handset x] := by
    rw [State.orphans, idle, lone, if_neg nofun, List.filter_cons, if_pos orphan]
    rfl
  rw [taken]
  exact orphans

/-- Settles O25: the frame's stages, the mirror from the first and the DROP from the second. -/
theorem stateFromTheHomeIsMirrored : Obligations.StateFromTheHomeIsMirrored := by
  unfold Obligations.StateFromTheHomeIsMirrored
  intro s unit crc source target l handed foreign
  have same := havingHeard_homeOf handed.present l.line
  by_cases home : s.homeOf l.line = some source
  · have home' := same.trans home
    obtain ⟨p, u, q, t, hp, hu, asked, hq, ht, asked', whole⟩ := takeStateFrame_stages home' handed.other
    obtain ⟨judged, mirrors, -⟩ := positionTakes_tells home' p hp
    have spoke := speakerTakes_listens source l u
    rw [hq] at spoke
    have records : t.recordFor l.line = none := by
      rw [asked'.recordFor, spoke.works.recordFor, asked.recordFor, judged.works.recordFor]
      exact foreign
    have tMirrors : t.mirrors = ((s.havingHeard source).mirrorTakes l).mirrors := by
      rw [asked'.mirrors, spoke.mirrors, asked.mirrors, mirrors]
    have mirrorOf (line : LineNo) : t.mirrorOf line = ((s.havingHeard source).mirrorTakes l).mirrorOf line := by
      rw [State.mirrorOf, tMirrors]
      rfl
    obtain ⟨here, others⟩ := mirrorTakes_mirrors (s.havingHeard source) l
    rw [if_pos (by exact (isActive_iff _).mpr handed.active)] at here
    refine ⟨t, state_heard handed t whole records, ?_, ?_, fun h => absurd home h, fun _ => ⟨fun m mirrored => ?_,
      fun line apart => ?_, fun x lone unheard idle unbound room => ?_⟩⟩
    · rw [asked'.base, spoke.works.base, asked.base, judged.works.base]
    · rw [asked'.records, spoke.works.records, asked.records, judged.works.records]
      rfl
    · rw [mirrorOf]
      exact here m mirrored
    · rw [mirrorOf]
      exact others line apart
    · have owed := orphans_lone (s := s.havingHeard source) lone idle unbound
      have dropped : p.sendPlain .drop l.line (.handset x) = u := by
        rw [← hu, State.positionTakes, if_pos home']
        dsimp only
        rw [owed]
        rfl
      have noMore : (u.speakerTakes source l).2 = [] := by
        unfold State.speakerTakes
        repeat' split
        all_goals simp [unheard]
      rw [noMore] at ht
      subst ht
      have homeP := (judged.works.homeOf l.line).trans home'
      have otherP : source ≠ p.cfg.station := by
        rw [judged.works.cfg]
        exact handed.other
      rw [sendPlain_away .drop l.line (.handset x) p source homeP otherP, judged.nextTag] at dropped
      refine carries_of_queue spoke.works.txQueue ?_
      rw [← dropped]
      refine send_carries source _ _ ?_ ?_ ⟨nofun, nofun⟩
      · exact (congrArg Base.stationState judged.works.base).trans handed.active
      · exact lt_of_eq_of_lt (congrArg List.length judged.works.txQueue) room
  · have ignored := takeStateFrame_ignored (v := s.havingHeard source) (b := l) (by rw [same]; exact home)
    exact ⟨_, state_heard handed _ ignored foreign, rfl, rfl, fun _ => rfl, fun h => absurd h home⟩

end Sys2Proof.Machine
end

section
/-! PROOFS. The Lost rules (R115, R138), the lamps and the notices of a mirror (R99, R100). -/

namespace Sys2Proof.Machine

/-! ### Lists that hold one entry of a line -/

section
variable {α : Type} {pre post : List α} {b : α}

/-- A map that touches one entry of a list. -/
theorem map_one (f : α → α) (spared : ∀ y ∈ pre ++ post, f y = y) :
    (pre ++ b :: post).map f = pre ++ f b :: post := by
  have same (l : List α) (hl : ∀ y ∈ l, y ∈ pre ++ post) : l.map f = l :=
    (List.map_congr_left fun y hy => spared y (hl y hy)).trans (List.map_id l)
  rw [List.map_append, List.map_cons, same pre fun y hy => List.mem_append_left _ hy,
    same post fun y hy => List.mem_append_right _ hy]

/-- A filter that judges one entry of a list. -/
theorem filter_one (p : α → Bool) (kept : ∀ y ∈ pre ++ post, p y = true) :
    (pre ++ b :: post).filter p = if p b then pre ++ b :: post else pre ++ post := by
  have same (l : List α) (hl : ∀ y ∈ l, y ∈ pre ++ post) : l.filter p = l :=
    List.filter_eq_self.mpr fun y hy => kept y (hl y hy)
  rw [List.filter_append, List.filter_cons, same pre fun y hy => List.mem_append_left _ hy,
    same post fun y hy => List.mem_append_right _ hy]
  split <;> rfl

theorem any_one (p : α → Bool) (quiet : ∀ y ∈ pre ++ post, p y = false) : (pre ++ b :: post).any p = p b := by
  rw [Bool.eq_iff_iff, List.any_eq_true]
  constructor
  · rintro ⟨y, hy, holds⟩
    rw [List.mem_append, List.mem_cons] at hy
    by_cases other : y ∈ pre ++ post
    · rw [quiet y other] at holds
      cases holds
    · rw [List.mem_append, not_or] at other
      rwa [(hy.resolve_left other.1).resolve_right other.2] at holds
  · exact fun holds => ⟨b, List.mem_append_right _ List.mem_cons_self, holds⟩

end

/-- A handset's bindings after the Lost rule, where one of them is of the circuit (R115). -/
theorem judgedBindings_one (keep : Bool) (c : Circuit) (pre post : List Binding) (b : Binding) (circuit : b.circuit = c)
    (others : ∀ y ∈ pre ++ post, y.circuit ≠ c) : judgedBindings keep c (pre ++ b :: post) =
      if 2 ≤ missAfter keep b.misses then pre ++ post
      else pre ++ { b with misses := missAfter keep b.misses } :: post := by
  unfold judgedBindings
  rw [map_one _ fun y hy => if_neg (others y hy), if_pos circuit]
  dsimp only
  rw [any_one _ fun y hy => by simp [others y hy]]
  rw [filter_one _ fun y hy => bne_iff_ne.mpr (others y hy)]
  simp [circuit]

/-- The held list after the Lost rule, where one of its entries is of the line (R115). -/
theorem judgedHeld_one (s : State) (l : LineStatus) (pre post : List HeldLine) (e : HeldLine)
    (held : s.held = pre ++ e :: post) (line : e.line = l.line) (others : ∀ y ∈ pre ++ post, y.line ≠ l.line) (n : Nat)
    (hn : n = missAfter (s.askPending l.line || s.listed l e.handset .held) e.misses) : s.judgedHeld l =
      if 2 ≤ n then pre ++ post else pre ++ { e with misses := n } :: post := by
  unfold State.judgedHeld
  rw [held, map_one _ fun y hy => if_neg (others y hy), if_pos line, ← hn, filter_one _ fun y hy => by simp [others y hy]]
  by_cases high : 2 ≤ n <;> simp [line, high]

theorem askPending_iff (s : State) (line : LineNo) : s.askPending line = true ↔ ∃ a ∈ s.pendingAsks, a.line = line := by
  simp [State.askPending]

theorem listed_iff (s : State) (l : LineStatus) (h : Fin 2) (mode : Mode) :
    s.listed l h mode = true ↔ ∃ m ∈ l.members, m.party = s.own (.handset h) ∧ m.mode = mode := by
  simp [State.listed]

/-- Whether an entry is present or excused, as the statement says it (R115). -/
theorem kept_eq {s : State} {l : LineStatus} {h : Fin 2} {mode : Mode} {present : Bool}
    (hp : present = true ↔ (∃ a ∈ s.pendingAsks, a.line = l.line) ∨
      ∃ m ∈ l.members, m.party = s.own (.handset h) ∧ m.mode = mode) :
    (s.askPending l.line || s.listed l h mode) = present := by
  rw [Bool.eq_iff_iff, Bool.or_eq_true, askPending_iff, listed_iff, hp]

theorem missAfter_lost (n : Nat) : 2 ≤ missAfter false n ↔ n ≠ 0 := by
  simp [missAfter]
  omega

/-- Settles O27: the position's judgement from its first stage, the speaker's from the third. -/
theorem unlistedEntriesAreLost : Obligations.UnlistedEntriesAreLost := by
  unfold Obligations.UnlistedEntriesAreLost
  intro s unit crc source target l handed foreign home
  have home' := (havingHeard_homeOf handed.present l.line).trans home
  obtain ⟨p, u, q, t, hp, -, asked, hq, -, asked', whole⟩ := takeStateFrame_stages home' handed.other
  obtain ⟨judged, -, bindings, held, told⟩ := positionTakes_tells home' p hp
  have spoke := speakerTakes_listens source l u
  rw [hq] at spoke
  have records : t.recordFor l.line = none := by
    rw [asked'.recordFor, spoke.works.recordFor, asked.recordFor, judged.works.recordFor]
    exact foreign
  have later : p.notices <+: t.notices := by
    rw [asked'.notices, ← asked.notices]
    exact spoke.queued
  have handsets : t.handsets = p.handsets := by rw [asked'.handsets, spoke.handsets, asked.handsets]
  refine ⟨t, state_heard handed t whole records, fun h pre post b present before circuit others hpresent => ?_,
    fun pre post e present before line others hpresent => ?_, fun k bound wait => ?_⟩
  · obtain ⟨here, lost⟩ := bindings h
    have keep : ((s.havingHeard source).askPending l.line || (s.havingHeard source).listed l h .active) = present :=
      kept_eq (s := s) hpresent
    rw [keep] at here lost
    have after : (t.handsets[h]).bindings = if 2 ≤ missAfter present b.misses then pre ++ post
        else pre ++ { b with misses := missAfter present b.misses } :: post := by
      rw [handsets, here]
      dsimp only
      rw [show ((s.havingHeard source).handsets[h]).bindings = _ from before]
      exact judgedBindings_one present _ pre post b circuit others
    refine ⟨fun yes => ?_, fun no fresh => ?_, fun no missed => ⟨?_, fun room => ?_⟩⟩
    · rw [after, yes]
      rfl
    · rw [after, no, fresh]
      rfl
    · rw [after, no, if_pos ((missAfter_lost _).mpr missed)]
    · refine later.subset (lost ⟨b, ?_, circuit, ?_⟩ (lt_of_le_of_lt later.length_le room))
      · rw [show ((s.havingHeard source).handsets[h]).bindings = _ from before]
        exact List.mem_append_right _ List.mem_cons_self
      · rw [no]
        exact (missAfter_lost _).mpr missed
  · have keep : ((s.havingHeard source).askPending l.line || (s.havingHeard source).listed l e.handset .held) = present :=
      kept_eq (s := s) hpresent
    have after : t.held = if 2 ≤ missAfter present e.misses then pre ++ post
        else pre ++ { e with misses := missAfter present e.misses } :: post := by
      rw [asked'.held, spoke.held, asked.held, held]
      exact judgedHeld_one (s.havingHeard source) l pre post e before line others _ (by rw [keep])
    refine ⟨fun yes => ?_, fun no fresh => ?_, fun no missed => ⟨?_, fun room => ?_⟩⟩
    · rw [after, yes]
      rfl
    · rw [after, no, fresh]
      rfl
    · rw [after, no, if_pos ((missAfter_lost _).mpr missed)]
    · refine later.subset (told e ?_ line ?_ (lt_of_le_of_lt later.length_le room))
      · rw [show (s.havingHeard source).held = _ from before]
        exact List.mem_append_right _ List.mem_cons_self
      · rw [keep, no]
        exact (missAfter_lost _).mpr missed
  · have sheds : (s.channels[k]).ShedsTo u.channels[k] := by
      rw [asked.channels]
      exact judged.channels k
    have listens : u.listensTo l.line k = true :=
      listensTo_sheds (s := s) sheds ((listensTo_iff _ _ _).mpr ⟨bound, wait⟩)
    have waits : allPorts.any (u.waitsFor l.line) = true ↔
        ∃ j : Fin 8, (s.channels[j]).binding = .line l.line ∧ (s.channels[j]).wait ≠ none := by
      rw [List.any_eq_true]
      have same (j : Fin 8) : u.waitsFor l.line j = true ↔
          (s.channels[j]).binding = .line l.line ∧ (s.channels[j]).wait ≠ none := by
        have shed : (s.channels[j]).ShedsTo u.channels[j] := by
          rw [asked.channels]
          exact judged.channels j
        rw [waitsFor_iff, shed.binding, shed.wait]
      exact ⟨fun ⟨j, _, h⟩ => ⟨j, (same j).mp h⟩, fun ⟨j, h⟩ => ⟨j, mem_allPorts j, (same j).mpr h⟩⟩
    have homeU : u.homeOf l.line = some source := (asked.homeOf _).trans ((judged.works.homeOf _).trans home')
    have own : u.own (.speakerCh k) = s.own (.speakerCh k) := (asked.own _).trans (judged.works.own _)
    have counts (quiet : allPorts.any (u.waitsFor l.line) = false) (heard : Bool)
        (hheard : heard = true ↔ s.own (.speakerCh k) ∈ l.listeners) :=
      speakerTakes_counts homeU quiet k listens (missAfter heard (s.channels[k]).misses) (by
        rw [own, sheds.misses]
        congr 1
        rw [Bool.eq_iff_iff, hheard]
        simp)
    rw [hq, ← asked'.channels, ← asked'.notices, asked.stationTime, judged.works.stationTime] at counts
    refine ⟨fun kept => ?_, fun quiet unheard => ?_⟩
    · by_cases waiting : allPorts.any (u.waitsFor l.line) = true
      · have cleared := speakerTakes_waiting homeU waiting k listens
        rw [hq, ← asked'.channels] at cleared
        exact cleared
      · have heard : s.own (.speakerCh k) ∈ l.listeners := kept.resolve_left fun h => waiting (waits.mpr h)
        exact (counts (Bool.eq_false_iff.mpr waiting) true (iff_of_true rfl heard)).1 (by simp [missAfter])
    · have noneWaits : allPorts.any (u.waitsFor l.line) = false := Bool.eq_false_iff.mpr fun h => by
        obtain ⟨j, boundJ, waitJ⟩ := waits.mp h
        exact waitJ (quiet j boundJ)
      obtain ⟨low, high⟩ := counts noneWaits false (iff_of_false nofun unheard)
      refine ⟨fun fresh => ?_, fun missed => ?_⟩
      · obtain ⟨binding, -, misses⟩ := low (by rw [fresh]; decide)
        exact ⟨binding, by rw [misses, fresh]; rfl⟩
      · obtain ⟨gone, told⟩ := high ((missAfter_lost _).mpr missed)
        refine ⟨?_, told⟩
        obtain ⟨x, -, shed⟩ := sheds
        have shed' : u.channels[k] = { s.channels[k] with talkers := x } := shed
        rw [gone, shed', ← wait]

end Sys2Proof.Machine
end

section
/-! PROOFS. Lamps and the notices of a mirror (R97, R99, R100). -/

namespace Sys2Proof.Machine

/-! ### The lamp table -/

theorem lamp_of_mirror {s : State} {key : Fin 128} {m : Mirror} (h : s.mirrorOf s.cfg.appearance[key] = some m) :
    s.lamp key = m.lamp s.cfg.station := by
  rw [State.lamp, h]

theorem lamp_dark {own : Station} {m : Mirror} (h : m.state ≠ .current) : m.lamp own = .dark := by
  unfold Mirror.lamp
  split
  · next current _ => exact absurd current h
  · rfl

theorem lamp_current {own : Station} {m : Mirror} {b : LineStatus} (current : m.state = .current)
    (content : m.content = some b) : m.lamp own = lampOfContent own b := by
  rw [Mirror.lamp, current, content]

/-- The lamp of a line in ENGAGED or HELD (R99). -/
theorem lampOfContent_busy {own : Station} {b : LineStatus} (busy : b.state = .engaged ∨ b.state = .held) :
    lampOfContent own b =
      if b.members.any (·.isOwn own .active) then .steadyGreen
      else if b.members.any (fun m => m.isOwn own .held && m.recallFlag) then .holdRecallFlash
      else if b.members.any (·.isOwn own .held) then .slowFlash
      else if b.privacy then .redWithPrivacy
      else .steadyRed := by
  rcases busy with h | h <;> rw [lampOfContent, h]

theorem isOwn_iff (own : Station) (mode : Mode) (m : MemberStatus) :
    m.isOwn own mode = true ↔ m.party.station = own ∧ m.mode = mode := by
  simp [MemberStatus.isOwn]

/-! ### What a STATE taken shows -/

/-- The lamp marks of a mirror replaced (R99, R192). -/
theorem setMirror_marks (old new : Mirror) (s : State) : (s.setMirror old new).marks =
    if old.lamp s.cfg.station = new.lamp s.cfg.station then s.marks
    else { s.marks with lamp := mapTable s.marks.lamp fun k v => v || s.cfg.appearance[k] == old.line } := by
  unfold State.setMirror
  extract_lets s1 s2
  have marks : s2.marks = if old.lamp s.cfg.station = new.lamp s.cfg.station then s.marks
      else { s.marks with lamp := mapTable s.marks.lamp fun k v => v || s.cfg.appearance[k] == old.line } := by
    by_cases same : old.lamp s.cfg.station = new.lamp s.cfg.station
    · rw [if_pos same, show s2 = s1 from if_pos same]
    · rw [if_neg same, show s2 = s1.markLamps old.line from if_neg same]
      rfl
  split
  · exact marks
  · rw [notify_marks, marks]

/-- The ring notice of a mirror replaced (R100). -/
def ringNotice (old new : Mirror) : List Event :=
  if old.ringing = new.ringing then [] else [if new.ringing then .ringStart old.line else .ringStop old.line]

theorem ringNotice_length (old new : Mirror) : (ringNotice old new).length ≤ 1 := by
  unfold ringNotice
  split <;> simp

theorem setMirror_notices (old new : Mirror) (s : State) (room : s.notices.length < 32) :
    (s.setMirror old new).notices = s.notices ++ (ringNotice old new).map fun e => ⟨e, s.stationTime⟩ := by
  unfold State.setMirror ringNotice
  extract_lets s1 s2
  have same : s2.notices = s.notices ∧ s2.stationTime = s.stationTime := by
    by_cases h : old.lamp s.cfg.station = new.lamp s.cfg.station
    · rw [show s2 = s1 from if_pos h]
      exact ⟨rfl, rfl⟩
    · rw [show s2 = s1.markLamps old.line from if_neg h]
      exact ⟨rfl, rfl⟩
  split
  · rw [same.1]
    simp
  · rw [notify_room _ _ (by rw [same.1]; exact room)]
    simp [same]

theorem ringing_iff (m : Mirror) : m.ringing = true ↔
    m.state = .current ∧ ∃ old : LineStatus, m.content = some old ∧ old.state = .ringingIn := by
  unfold Mirror.ringing
  split
  · next b current content => simp [current, content]
  · next other => 
    simp only [Bool.false_eq_true, false_iff]
    rintro ⟨current, b, content, -⟩
    exact other b current content

theorem showsRecall_iff (m : Mirror) (p : Party) : m.showsRecall p = true ↔
    m.state = .current ∧ ∃ old : LineStatus, m.content = some old ∧ ∃ x ∈ old.members, x.party = p ∧ x.mode = .held ∧
      x.recallFlag = true := by
  unfold Mirror.showsRecall
  split
  · next b current content => simp [current, content, LineStatus.showsRecall, and_assoc]
  · next other =>
    simp only [Bool.false_eq_true, false_iff]
    rintro ⟨current, b, content, -⟩
    exact other b current content

theorem ringNotice_taken {m : Mirror} {b : LineStatus} {new : Mirror} (line : m.line = b.line) (current : new.state = .current)
    (content : new.content = some b) (was : Bool) (hwas : was = m.ringing) : ringNotice m new =
      if b.state = .ringingIn ∧ was = false then [Event.ringStart b.line]
      else if b.state ≠ .ringingIn ∧ was = true then [Event.ringStop b.line] else [] := by
  subst hwas
  have rings : new.ringing = decide (b.state = .ringingIn) := by
    rw [Bool.eq_iff_iff, ringing_iff, decide_eq_true_iff]
    simp [current, content]
  unfold ringNotice
  rw [rings, line]
  cases m.ringing <;> by_cases h : b.state = .ringingIn <;> simp [h]

/-- The recall notices of a STATE taken (R100). -/
theorem recallNotices_eq (s : State) (m : Mirror) (b : LineStatus) (shown : HeldLine → Bool)
    (hshown : ∀ e, shown e = m.showsRecall (s.own (.handset e.handset))) : s.recallNotices m b =
      (s.held.filter fun e => e.line == b.line && !shown e && b.members.any fun x =>
        x.party == s.own (.handset e.handset) && x.mode == .held && x.recallFlag).map
        fun e => Event.holdRecall b.line (.handset e.handset) := by
  unfold State.recallNotices
  congr 2
  funext e
  rw [hshown, Bool.and_assoc, Bool.and_assoc, Bool.and_comm (b.showsRecall _)]
  rfl

theorem notifyAll_marks (es : List Event) (s : State) : (s.notifyAll es).marks = s.marks := by rw [notifyAll_alike]

/-- The notices of a STATE taken (R100). -/
theorem mirrorTakes_notices {s : State} {b : LineStatus} {m : Mirror} (mirrored : s.mirrorOf b.line = some m)
    (room : s.notices.length + s.held.length + 1 ≤ 32) (events : List Event)
    (hevents : events = ringNotice m ⟨m.line, .current, some b, if s.isActive then some (s.blocks 1200) else none⟩ ++
      s.recallNotices m b) :
    (s.mirrorTakes b).notices = s.notices ++ events.map fun e => ⟨e, s.stationTime⟩ := by
  have first := setMirror_notices m ⟨m.line, .current, some b, if s.isActive then some (s.blocks 1200) else none⟩ s
    (by omega)
  have time : (s.setMirror m ⟨m.line, .current, some b, if s.isActive then some (s.blocks 1200) else none⟩).stationTime =
      s.stationTime := (setMirror_judges _ _ s).works.stationTime
  rw [mirrorTakes_some mirrored]
  generalize State.setMirror m _ s = u at first time ⊢
  have ring := ringNotice_length m ⟨m.line, .current, some b, if s.isActive then some (s.blocks 1200) else none⟩
  have recalls : (s.recallNotices m b).length ≤ s.held.length := by
    unfold State.recallNotices
    rw [List.length_map]
    exact List.length_filter_le _ _
  have space : u.notices.length + (s.recallNotices m b).length ≤ 32 := by
    rw [first, List.length_append, List.length_map]
    omega
  rw [notifyAll_room _ _ space, hevents]
  simp [first, time]

/-! ### A line of which the station holds and is nothing -/

theorem judgedBindings_none (keep : Bool) (c : Circuit) (bs : List Binding) (others : ∀ x ∈ bs, x.circuit ≠ c) :
    judgedBindings keep c bs = bs := by
  unfold judgedBindings
  have same : (bs.map fun x => if x.circuit = c then { x with misses := missAfter keep x.misses } else x) = bs :=
    (List.map_congr_left fun x hx => if_neg (others x hx)).trans (List.map_id bs)
  rw [same]
  exact if_neg fun lost => by
    obtain ⟨x, hx, circuit⟩ := List.any_eq_true.mp lost
    simp [others x hx] at circuit

theorem lostBindings_none (b : LineStatus) (h : Fin 2) (s : State)
    (others : ∀ x ∈ (s.handsets[h]).bindings, x.circuit ≠ lineCircuit b.line) : s.lostBindings b h = s := by
  have same : ((s.handsets[h]).bindings.map fun x => if x.circuit = lineCircuit b.line then
      { x with misses := missAfter (s.askPending b.line || s.listed b h .active) x.misses } else x) =
        (s.handsets[h]).bindings :=
    (List.map_congr_left fun x hx => if_neg (others x hx)).trans (List.map_id _)
  have quiet : ¬((s.handsets[h]).bindings.any fun x => x.circuit == lineCircuit b.line && decide (x.misses ≥ 2)) = true := by
    intro lost
    obtain ⟨x, hx, circuit⟩ := List.any_eq_true.mp lost
    simp [others x hx] at circuit
  unfold State.lostBindings
  dsimp only
  rw [same, if_neg quiet]
  have stays : s.handsets.set h s.handsets[h] = s.handsets := by simp
  exact congrArg (fun v => { s with handsets := v }) stays

theorem lostHeld_none (b : LineStatus) (s : State) (others : ∀ e ∈ s.held, e.line ≠ b.line) : s.lostHeld b = s := by
  have same : (s.held.map fun e => if e.line = b.line then
      { e with misses := missAfter (s.askPending b.line || s.listed b e.handset .held) e.misses } else e) = s.held :=
    (List.map_congr_left fun e he => if_neg (others e he)).trans (List.map_id _)
  have noneLost : s.held.filter (fun e => e.line == b.line && decide (e.misses ≥ 2)) = [] :=
    List.filter_eq_nil_iff.mpr fun e he => by simp [others e he]
  have allKept : s.held.filter (fun e => !(e.line == b.line && decide (e.misses ≥ 2))) = s.held :=
    List.filter_eq_self.mpr fun e he => by simp [others e he]
  unfold State.lostHeld
  dsimp only
  rw [same, noneLost, allKept]
  rfl

/-- The position's work on a STATE of a line of which the station holds and is nothing: the mirror alone (R97). -/
theorem positionTakes_uninvolved {s : State} {source : Station} {b : LineStatus} (home : s.homeOf b.line = some source)
    (members : ∀ x ∈ b.members, x.party.station ≠ s.cfg.station)
    (bindings : ∀ h : Fin 2, ∀ x ∈ (s.handsets[h]).bindings, x.circuit ≠ .line b.line)
    (held : ∀ e ∈ s.held, e.line ≠ b.line) : s.positionTakes source b = (s.mirrorTakes b, []) := by
  obtain ⟨ms, m, n, o, taken⟩ := mirrorTakes_fields b s
  have handsets : (s.mirrorTakes b).handsets = s.handsets := by rw [taken]
  have holds : (s.mirrorTakes b).held = s.held := by rw [taken]
  have cfg : (s.mirrorTakes b).cfg = s.cfg := by rw [taken]
  rw [State.positionTakes, if_pos home]
  dsimp only
  generalize s.mirrorTakes b = u at handsets holds cfg ⊢
  rw [← handsets] at bindings
  rw [← holds] at held
  rw [← cfg] at members
  have orphans : u.orphans b = [] := by
    unfold State.orphans
    split
    · rfl
    · rw [List.filter_eq_nil_iff.mpr fun x hx => by simp [State.isOrphan, members x hx]]
      rfl
  rw [lostBindings_none b 0 u (bindings 0), lostBindings_none b 1 u (bindings 1), lostHeld_none b u held, orphans]

/-- The speaker's work on a STATE of a line that no channel is bound to and that lists none (R138). -/
theorem speakerTakes_uninvolved {s : State} {source : Station} {b : LineStatus}
    (listeners : ∀ p ∈ b.listeners, p.station ≠ s.cfg.station)
    (channels : ∀ k : Fin 8, (s.channels[k]).binding ≠ .line b.line) : s.speakerTakes source b = (s, []) := by
  have deaf (k : Fin 8) : s.listensTo b.line k = false := by simp [State.listensTo, channels k, -Fin.getElem_fin]
  have idle : allPorts.any (s.waitsFor b.line) = false := by
    rw [List.any_eq_false]
    intro k _
    simp [State.waitsFor, channels k, -Fin.getElem_fin]
  have still (l : List (Fin 8)) : l.foldl (State.lostChannel b) s = s := by
    induction l with
    | nil => rfl
    | cons k l ih => rw [List.foldl_cons, State.lostChannel, deaf, if_neg nofun, ih]
  have orphans : b.listeners.filter (s.isOrphanListener b.line) = [] :=
    List.filter_eq_nil_iff.mpr fun p hp => by simp [State.isOrphanListener, listeners p hp]
  unfold State.speakerTakes
  split
  · rw [idle, if_neg nofun, still, orphans]
    rfl
  · rfl

theorem noneActive {own : Station} {b : LineStatus} (held : ∀ x ∈ b.members, x.party.station = own → x.mode = .held) :
    ¬b.members.any (fun x => x.isOwn own .active) = true := by
  intro some
  obtain ⟨y, hy, owned⟩ := List.any_eq_true.mp some
  rw [isOwn_iff] at owned
  rw [held y hy owned.1] at owned
  exact absurd owned.2 nofun

/-- Settles O26: the lamps by R99's table, a STATE taken by its mirror, marks and notices, and the frame of a line of
which the station holds and is nothing by the stages that do nothing. -/
theorem mirrorsDriveLampsAndNotices : Obligations.MirrorsDriveLampsAndNotices := by
  unfold Obligations.MirrorsDriveLampsAndNotices
  refine ⟨fun s key m b => ⟨fun unkept => by rw [State.lamp, unkept], fun mirrored => ?_⟩,
    fun s t m b shown mirrored ht hshown => ?_,
    fun s unit crc source target b handed foreign home members listeners bindings held channels => ?_⟩
  · rw [lamp_of_mirror mirrored]
    refine ⟨lamp_dark, fun current content => ?_⟩
    rw [lamp_current current content]
    refine ⟨fun out => ?_, fun idle => by rw [lampOfContent, idle], fun ringing => by rw [lampOfContent, ringing],
      fun busy => ⟨fun ⟨x, hx, own, active⟩ => ?_, fun held => ⟨fun ⟨x, hx, own, flag⟩ => ?_,
        fun ⟨x, hx, own⟩ calm => ?_, fun foreign => ?_⟩⟩⟩
    · rcases out with h | h <;> rw [lampOfContent, h]
    · rw [lampOfContent_busy busy, if_pos (List.any_eq_true.mpr ⟨x, hx, (isOwn_iff _ _ _).mpr ⟨own, active⟩⟩)]
    · rw [lampOfContent_busy busy, if_neg (noneActive held), if_pos]
      refine List.any_eq_true.mpr ⟨x, hx, ?_⟩
      rw [(isOwn_iff _ _ _).mpr ⟨own, held x hx own⟩, flag]
      rfl
    · rw [lampOfContent_busy busy, if_neg (noneActive held), if_neg, if_pos]
      · exact List.any_eq_true.mpr ⟨x, hx, (isOwn_iff _ _ _).mpr ⟨own, held x hx own⟩⟩
      · intro recalls
        obtain ⟨y, hy, flagged⟩ := List.any_eq_true.mp recalls
        rw [Bool.and_eq_true, isOwn_iff] at flagged
        rw [calm y hy flagged.1.1] at flagged
        exact absurd flagged.2 nofun
    · have noneOwn (mode : Mode) (p : MemberStatus → Bool) : ¬b.members.any (fun x => x.isOwn s.cfg.station mode && p x) = true := by
        intro some
        obtain ⟨y, hy, owned⟩ := List.any_eq_true.mp some
        rw [Bool.and_eq_true, isOwn_iff] at owned
        exact foreign y hy owned.1.1
      have noneHeld : ¬b.members.any (fun x => x.isOwn s.cfg.station .held) = true := by
        simpa using noneOwn .held fun _ => true
      rw [lampOfContent_busy busy, if_neg (noneActive held), if_neg (noneOwn .held _), if_neg noneHeld]
  · subst ht
    have line := mirrorOf_line mirrored
    obtain ⟨here, others⟩ := mirrorTakes_mirrors s b
    have here' := here m mirrored
    have cfg := (mirrorTakes_judges b s).works.cfg
    have marks : (s.mirrorTakes b).marks = _ := (congrArg State.marks (mirrorTakes_some mirrored)).trans
      ((notifyAll_marks _ _).trans (setMirror_marks _ _ s))
    have ring := ringNotice_taken line (new := ⟨m.line, .current, some b, if s.isActive then some (s.blocks 1200) else none⟩)
      rfl rfl
    have notices (room : s.notices.length + s.held.length + 1 ≤ 32) := mirrorTakes_notices mirrored room
    generalize hnew : (⟨m.line, .current, some b, if s.isActive then some (s.blocks 1200) else none⟩ : Mirror) = new
      at marks ring notices
    have takes : (s.mirrorTakes b).mirrorOf b.line = some new := by rw [here', ← hnew, line]
    obtain ⟨ms, ks, n, o, fields⟩ := mirrorTakes_fields b s
    refine ⟨by rw [fields], ?_, others, ?_, fun key => ?_, fun room was hwas => ?_⟩
    · rw [here']
      by_cases active : s.stationState = .active
      · rw [if_pos active, if_pos ((isActive_iff s).mpr active)]
      · rw [if_neg active, if_neg (by rw [isActive_iff]; exact active)]
    · rw [marks]
      split <;> rfl
    · have lamps : (s.mirrorTakes b).marks.lamp[key] = (s.marks.lamp[key] ||
          (decide (m.lamp s.cfg.station ≠ new.lamp s.cfg.station) && s.cfg.appearance[key] == m.line)) := by
        rw [marks]
        split
        · next same => simp [same]
        · next differs => simp [differs, mapTable]
      rw [lamps]
      congr 1
      by_cases carries : s.cfg.appearance[key] = b.line
      · rw [lamp_of_mirror (by rw [cfg, carries]; exact takes), lamp_of_mirror (by rw [carries]; exact mirrored), cfg,
          carries, line, beq_self_eq_true, Bool.and_true]
        exact decide_eq_decide.mpr ne_comm
      · have same : (s.mirrorTakes b).lamp key = s.lamp key := by
          unfold State.lamp
          rw [cfg, others _ carries]
        rw [same, line, beq_eq_false_iff_ne.mpr carries]
        simp
    · refine notices room _ ?_
      rw [recallNotices_eq s m b shown fun e => ?_]
      · refine congrArg (· ++ _) (ring was ?_).symm
        rw [hwas, Bool.eq_iff_iff, decide_eq_true_iff, ringing_iff]
      · rw [hshown, Bool.eq_iff_iff, decide_eq_true_iff, showsRecall_iff]
  · have home' := (havingHeard_homeOf handed.present b.line).trans home
    have position := positionTakes_uninvolved (s := s.havingHeard source) home' members bindings held
    have judged := mirrorTakes_judges b (s.havingHeard source)
    have whole : (s.havingHeard source).takeStateFrame source b = (s.havingHeard source).mirrorTakes b := by
      rw [takeStateFrame_eq, position]
      dsimp only [List.foldl_nil]
      rw [speakerTakes_uninvolved (by rw [judged.works.cfg]; exact listeners)
        fun k => by rw [(judged.channels k).binding]; exact channels k]
      rfl
    exact state_heard handed _ whole ((judged.works.recordFor _).trans foreign)

end Sys2Proof.Machine
end

section
/-! PROOFS. Changes of home (R94, R95, R139). -/

namespace Sys2Proof.Machine

/-! ### Notices that join the queue -/

/-- Some notices join the queue, if there is room for them. -/
structure State.Tells (s t : State) (es : List Event) : Prop where
  time : t.stationTime = s.stationTime
  joined : s.notices.length + es.length ≤ 32 → t.notices = s.notices ++ es.map fun e => ⟨e, s.stationTime⟩

namespace State.Tells

variable {s t u : State} {es fs : List Event}

theorem silent (time : t.stationTime = s.stationTime) (notices : t.notices = s.notices) : s.Tells t [] :=
  ⟨time, fun _ => by simp [notices]⟩

theorem trans (p : s.Tells t es) (q : t.Tells u fs) : s.Tells u (es ++ fs) := by
  refine ⟨q.time.trans p.time, fun room => ?_⟩
  rw [List.length_append] at room
  have first := p.joined (by omega)
  rw [q.joined (by rw [first, List.length_append, List.length_map]; omega), first, p.time]
  simp

/-- Notices told by a station that has the other's queue. -/
theorem after {s' : State} (p : s'.Tells t es) (time : s'.stationTime = s.stationTime) (notices : s'.notices = s.notices) :
    s.Tells t es :=
  ⟨p.time.trans time, fun room => by rw [p.joined (by rw [notices]; exact room), notices, time]⟩

theorem of_room (es : List Event) (s : State) : s.Tells (s.notifyAll es) es :=
  ⟨(notifyAll_judges es s).works.stationTime, fun room => by rw [notifyAll_room es s room]⟩

theorem of_notify (e : Event) (s : State) : s.Tells (s.notify e) [e] := of_room [e] s

end State.Tells

/-! ### The mirror goes STALE -/

theorem stale_silent (m : Mirror) : ({ m with state := .stale, timer := none } : Mirror).ringing = false :=
  Bool.eq_false_iff.mpr fun rings => by
    have current := ((ringing_iff _).mp rings).1
    cases current

theorem setMirror_silent (old new : Mirror) (s : State) (same : old.ringing = new.ringing) :
    (s.setMirror old new).notices = s.notices := by
  unfold State.setMirror
  extract_lets s1 s2
  rw [if_pos same]
  by_cases h : old.lamp s.cfg.station = new.lamp s.cfg.station
  · rw [show s2 = s1 from if_pos h]
  · rw [show s2 = s1.markLamps old.line from if_neg h]
    rfl

/-- A mirror whose home has changed (R95). -/
theorem staleMirror_tells (line : LineNo) (s : State) :
    (∃ (ms : List Mirror) (m : Marks) (n : List Notice) (o : Octet),
      s.staleMirror line = { s with mirrors := ms, marks := m, notices := n, overflow := o }) ∧
    s.Judges (s.staleMirror line) ∧
    (∀ m : Mirror, s.mirrorOf line = some m → (s.staleMirror line).mirrorOf line =
      some (if m.state = .current then { m with state := .stale, timer := none } else m)) ∧
    (∀ other : LineNo, other ≠ line → (s.staleMirror line).mirrorOf other = s.mirrorOf other) ∧
    ((∀ m : Mirror, s.mirrorOf line = some m → m.ringing = false) → s.Tells (s.staleMirror line) []) := by
  cases held : s.mirrorOf line with
  | none =>
    have same : s.staleMirror line = s := by rw [State.staleMirror, held]
    rw [same]
    exact ⟨⟨_, _, _, _, rfl⟩, .refl s, fun m h => (Option.some_ne_none m h.symm).elim, fun _ _ => rfl,
      fun _ => .silent rfl rfl⟩
  | some m =>
    by_cases current : m.state = .current
    · have staled : s.staleMirror line = s.setMirror m { m with state := .stale, timer := none } := by
        rw [State.staleMirror, held]
        exact if_pos current
      have judged := setMirror_judges m { m with state := .stale, timer := none } s
      have mirrors := setMirror_mirrors m { m with state := .stale, timer := none } s
      have quiet := setMirror_silent m { m with state := .stale, timer := none } s
      obtain ⟨k, n, o, fields⟩ := setMirror_fields m { m with state := .stale, timer := none } s
      have line' := mirrorOf_line held
      rw [staled]
      generalize s.setMirror m _ = t at judged mirrors quiet fields ⊢
      obtain ⟨here, others⟩ := mirrorOf_replaced (s := s) (old := m) (new := { m with state := .stale, timer := none })
        (by rw [line']; exact held) rfl mirrors
      rw [line'] at here others
      refine ⟨⟨_, _, _, _, fields⟩, judged, fun x h => ?_, others, fun calm => ?_⟩
      · rw [here, ← Option.some.inj h, if_pos current, line']
      · exact .silent judged.works.stationTime (quiet (by rw [calm m rfl, stale_silent]))
    · have same : s.staleMirror line = s := by
        rw [State.staleMirror, held]
        exact if_neg current
      rw [same]
      exact ⟨⟨_, _, _, _, rfl⟩, .refl s, fun x h => by rw [← Option.some.inj h, if_neg current, held], fun _ _ => rfl,
        fun _ => .silent rfl rfl⟩

/-! ### What the position gives up -/

/-- A handset's binding of a lost line (R95). -/
def State.loseBinding (line : LineNo) (s : State) (h : Fin 2) : State :=
  if s.isBound h (lineCircuit line) then
    (s.removeBinding h (lineCircuit line)).notify (.lineLost line (.handset h))
  else s

theorem loseBinding_tells (line : LineNo) (s : State) (h : Fin 2) :
    s.Judges (s.loseBinding line h) ∧ (s.loseBinding line h).mirrors = s.mirrors ∧ (s.loseBinding line h).held = s.held ∧
    (s.loseBinding line h).handsets = s.handsets.set h { s.handsets[h] with
      bindings := (s.handsets[h]).bindings.filter fun b => b.circuit != .line line } ∧
    s.Tells (s.loseBinding line h) (if s.isBound h (lineCircuit line) then [.lineLost line (.handset h)] else []) := by
  unfold State.loseBinding
  by_cases bound : s.isBound h (lineCircuit line) = true
  · rw [if_pos bound, if_pos bound]
    have freed := removeBinding_rebinds h (lineCircuit line) s
    generalize s.removeBinding h (lineCircuit line) = u at freed ⊢
    refine ⟨(State.Judges.of_rebinds freed).trans (notify_judges _ u), ?_, ?_, ?_, ?_⟩
    · rw [notify_mirrors, freed.mirrors]
    · rw [notify_held, freed.held]
    · rw [notify_handsets, freed.alike]
      rfl
    · exact (State.Tells.silent (congrArg Base.stationTime freed.base) freed.notices).trans (.of_notify _ u)
  · rw [if_neg bound, if_neg bound]
    refine ⟨.refl s, rfl, rfl, ?_, .silent rfl rfl⟩
    have unbound : (s.handsets[h]).bindings.filter (fun b => b.circuit != .line line) = (s.handsets[h]).bindings := by
      refine List.filter_eq_self.mpr fun b hb => bne_iff_ne.mpr fun circuit => bound ?_
      exact List.any_eq_true.mpr ⟨b, hb, by simp [circuit, lineCircuit]⟩
    rw [unbound]
    have stays : s.handsets.set h s.handsets[h] = s.handsets := by simp
    exact stays.symm

/-- The held entries of a lost line (R95). -/
def State.loseHeld (line : LineNo) (s : State) : State :=
  ({ s with held := s.held.filter fun (e : HeldLine) => e.line != line }).notifyAll
    ((s.held.filter fun (e : HeldLine) => e.line == line).map fun (e : HeldLine) => Event.lineLost line (.handset e.handset))

theorem loseHeld_tells (line : LineNo) (s : State) :
    (∃ (n : List Notice) (o : Octet), s.loseHeld line =
      { s with held := s.held.filter fun (e : HeldLine) => e.line != line, notices := n, overflow := o }) ∧
    s.notices <+: (s.loseHeld line).notices ∧
    s.Tells (s.loseHeld line)
      ((s.held.filter fun (e : HeldLine) => e.line == line).map fun (e : HeldLine) => Event.lineLost line (.handset e.handset)) := by
  obtain ⟨n, o, told⟩ := notifyAll_frame ((s.held.filter fun (e : HeldLine) => e.line == line).map fun (e : HeldLine) =>
    Event.lineLost line (.handset e.handset)) { s with held := s.held.filter fun (e : HeldLine) => e.line != line }
  exact ⟨⟨n, o, told⟩, notifyAll_notices _ { s with held := s.held.filter fun (e : HeldLine) => e.line != line },
    (State.Tells.of_room _ _).after (s := s) (s' := { s with held := s.held.filter fun (e : HeldLine) => e.line != line }) rfl rfl⟩

/-- The pending asks of a lost line (R95). -/
def State.loseAsks (line : LineNo) (s : State) : State :=
  ({ s with pendingAsks := s.pendingAsks.filter fun (a : PendingAsk) => a.line != line }).notifyAll
    ((s.pendingAsks.filter fun (a : PendingAsk) => a.line == line).map fun (a : PendingAsk) => Event.askNoAnswer line a.op (.handset a.handset))

theorem loseAsks_tells (line : LineNo) (s : State) :
    (∃ (n : List Notice) (o : Octet), s.loseAsks line =
      { s with pendingAsks := s.pendingAsks.filter fun (a : PendingAsk) => a.line != line, notices := n, overflow := o }) ∧
    s.notices <+: (s.loseAsks line).notices ∧
    s.Tells (s.loseAsks line)
      ((s.pendingAsks.filter fun (a : PendingAsk) => a.line == line).map fun (a : PendingAsk) => Event.askNoAnswer line a.op (.handset a.handset)) := by
  obtain ⟨n, o, told⟩ := notifyAll_frame ((s.pendingAsks.filter fun (a : PendingAsk) => a.line == line).map fun (a : PendingAsk) =>
    Event.askNoAnswer line a.op (.handset a.handset)) { s with pendingAsks := s.pendingAsks.filter fun (a : PendingAsk) => a.line != line }
  exact ⟨⟨n, o, told⟩, notifyAll_notices _ { s with pendingAsks := s.pendingAsks.filter fun (a : PendingAsk) => a.line != line },
    (State.Tells.of_room _ _).after (s := s) (s' := { s with pendingAsks := s.pendingAsks.filter fun (a : PendingAsk) => a.line != line }) rfl rfl⟩

theorem loseLine_stages (line : LineNo) (s : State) :
    s.loseLine line = (((s.loseBinding line 0).loseBinding line 1).loseHeld line).loseAsks line := rfl

/-- What the position gives up of a lost line (R95). -/
theorem loseLine_tells (line : LineNo) (s t : State) (ht : s.loseLine line = t) :
    s.Works t ∧ (∀ k : Fin 8, (s.channels[k]).ShedsTo t.channels[k]) ∧ t.mirrors = s.mirrors ∧
    (∀ h : Fin 2, t.handsets[h] = { s.handsets[h] with
      bindings := (s.handsets[h]).bindings.filter fun b => b.circuit != .line line }) ∧
    t.held = s.held.filter (fun (e : HeldLine) => e.line != line) ∧
    t.pendingAsks = s.pendingAsks.filter (fun (a : PendingAsk) => a.line != line) ∧
    s.Tells t ((([0, 1] : List (Fin 2)).filter fun h => (s.handsets[h]).bindings.any fun b => b.circuit == .line line).map
        (fun h => Event.lineLost line (.handset h)) ++
      (s.held.filter fun (e : HeldLine) => e.line == line).map (fun (e : HeldLine) => Event.lineLost line (.handset e.handset)) ++
      (s.pendingAsks.filter fun (a : PendingAsk) => a.line == line).map (fun (a : PendingAsk) => Event.askNoAnswer line a.op (.handset a.handset))) := by
  rw [loseLine_stages] at ht
  obtain ⟨judged0, mirrors0, held0, handsets0, tells0⟩ := loseBinding_tells line s 0
  generalize s.loseBinding line 0 = r at judged0 mirrors0 held0 handsets0 tells0 ht
  obtain ⟨judged1, mirrors1, held1, handsets1, tells1⟩ := loseBinding_tells line r 1
  generalize r.loseBinding line 1 = u at judged1 mirrors1 held1 handsets1 tells1 ht
  have judged := judged0.trans judged1
  obtain ⟨⟨n, o, fieldsV⟩, queuedV, tellsV⟩ := loseHeld_tells line u
  generalize u.loseHeld line = v at fieldsV queuedV tellsV ht
  obtain ⟨⟨n', o', fieldsT⟩, queuedT, tellsT⟩ := loseAsks_tells line v
  rw [ht] at fieldsT queuedT tellsT
  have worksV : u.Works v := ⟨by rw [fieldsV], queuedV⟩
  have worksT : v.Works t := ⟨by rw [fieldsT], queuedT⟩
  have heldU : u.held = s.held := held1.trans held0
  have asksV : v.pendingAsks = s.pendingAsks := by rw [fieldsV]; exact judged.pendingAsks
  have other : r.handsets[(1 : Fin 2)] = s.handsets[(1 : Fin 2)] := by
    rw [handsets0]
    simp
  have boundR : r.isBound 1 (lineCircuit line) = s.isBound 1 (lineCircuit line) := by
    unfold State.isBound
    rw [other]
  rw [other] at handsets1
  refine ⟨judged.works.trans (worksV.trans worksT), fun k => ?_, ?_, fun h => ?_, ?_, ?_, ?_⟩
  · rw [fieldsT, fieldsV]
    exact judged.channels k
  · rw [fieldsT, fieldsV]
    exact mirrors1.trans mirrors0
  · have same : t.handsets = u.handsets := by rw [fieldsT, fieldsV]
    have cases : h = 0 ∨ h = 1 := by omega
    rw [same, handsets1, handsets0]
    rcases cases with rfl | rfl <;> simp
  · rw [fieldsT, fieldsV]
    exact congrArg _ heldU
  · rw [fieldsT]
    exact congrArg _ asksV
  · rw [heldU] at tellsV
    rw [asksV] at tellsT
    rw [boundR] at tells1
    have all := ((tells0.trans tells1).trans tellsV).trans tellsT
    have bound (h : Fin 2) : s.isBound h (lineCircuit line) = (s.handsets[h]).bindings.any fun b => b.circuit == .line line :=
      rfl
    rw [bound, bound] at all
    convert all using 4
    simp only [List.filter_cons, List.filter_nil]
    split <;> split <;> rfl

/-! ### What the speaker gives up -/

/-- A channel of a lost line (R139). -/
def State.loseChannel (line : LineNo) (s : State) (k : Fin 8) : State :=
  if s.waitsFor line k then (s.turnOff k).notify (.askNoAnswer line .listen (.speakerCh k))
  else if s.listensTo line k then (s.turnOff k).notify (.lineLost line (.speakerCh k))
  else s

/-- The notice of a channel of a lost line (R139). -/
def lostChannelEvent (line : LineNo) (c : Channel) (k : Fin 8) : Event :=
  if c.wait = none then .lineLost line (.speakerCh k) else .askNoAnswer line .listen (.speakerCh k)

theorem loseChannel_bound (line : LineNo) (s : State) (k : Fin 8) (bound : (s.channels[k]).binding = .line line) :
    s.loseChannel line k = (s.turnOff k).notify (lostChannelEvent line s.channels[k] k) := by
  unfold State.loseChannel lostChannelEvent
  by_cases wait : (s.channels[k]).wait = none
  · rw [if_neg (by rw [waitsFor_iff]; exact fun h => h.2 wait), if_pos ((listensTo_iff _ _ _).mpr ⟨bound, wait⟩), if_pos wait]
  · rw [if_pos ((waitsFor_iff _ _ _).mpr ⟨bound, wait⟩), if_neg wait]

theorem loseChannel_other (line : LineNo) (s : State) (k : Fin 8) (other : (s.channels[k]).binding ≠ .line line) :
    s.loseChannel line k = s := by
  unfold State.loseChannel
  rw [if_neg (by rw [waitsFor_iff]; exact fun h => other h.1), if_neg (by rw [listensTo_iff]; exact fun h => other h.1)]

theorem loseChannel_listens (line : LineNo) (s : State) (k : Fin 8) : s.Listens (s.loseChannel line k) := by
  by_cases bound : (s.channels[k]).binding = .line line
  · rw [loseChannel_bound line s k bound]
    exact (turnOff_listens k s).trans (notify_listens _ _)
  · rw [loseChannel_other line s k bound]
    exact .refl s

theorem loseChannel_others (line : LineNo) (s : State) (j k : Fin 8) (apart : j ≠ k) :
    (s.channels[k]).ShedsTo (s.loseChannel line j).channels[k] := by
  by_cases bound : (s.channels[j]).binding = .line line
  · rw [loseChannel_bound line s j bound, notify_channel]
    exact (turnOff_turnsOff j s).others k apart.symm
  · rw [loseChannel_other line s j bound]
    exact .refl _

theorem loseChannel_tells (line : LineNo) (s : State) (k : Fin 8) : s.Tells (s.loseChannel line k)
    (if (s.channels[k]).binding = .line line then [lostChannelEvent line s.channels[k] k] else []) := by
  by_cases bound : (s.channels[k]).binding = .line line
  · rw [loseChannel_bound line s k bound, if_pos bound]
    have off := turnOff_listens k s
    have notices : (s.turnOff k).notices = s.notices := by
      have alike := (turnOff_turnsOff k s).alike
      rw [alike]
    exact (State.Tells.of_notify _ _).after off.stationTime notices
  · rw [loseChannel_other line s k bound, if_neg bound]
    exact .silent rfl rfl

/-- The notices of the channels of a lost line, channel 0 first (R139). -/
theorem loseChannels_tells (line : LineNo) (l : List (Fin 8)) (distinct : l.Nodup) (s : State) :
    s.Tells (l.foldl (State.loseChannel line) s)
      ((l.filter fun k => decide ((s.channels[k]).binding = .line line)).map fun k => lostChannelEvent line s.channels[k] k) := by
  induction l generalizing s with
  | nil => exact .silent rfl rfl
  | cons k l ih =>
    rw [List.nodup_cons] at distinct
    have rest := ih distinct.2 (s.loseChannel line k)
    have same (j : Fin 8) (hj : j ∈ l) : (s.channels[j]).ShedsTo (s.loseChannel line k).channels[j] :=
      loseChannel_others line s k j fun e => distinct.1 (e ▸ hj)
    have later : (l.filter fun j => decide (((s.loseChannel line k).channels[j]).binding = .line line)).map
        (fun j => lostChannelEvent line (s.loseChannel line k).channels[j] j) =
        (l.filter fun j => decide ((s.channels[j]).binding = .line line)).map fun j => lostChannelEvent line s.channels[j] j := by
      rw [List.filter_congr fun j hj => by rw [(same j hj).binding]]
      refine List.map_congr_left fun j hj => ?_
      unfold lostChannelEvent
      rw [(same j (List.mem_filter.mp hj).1).wait]
    rw [later] at rest
    have all := (loseChannel_tells line s k).trans rest
    rw [List.filter_cons]
    by_cases bound : (s.channels[k]).binding = .line line
    · rw [if_pos bound] at all
      rw [if_pos (decide_eq_true bound)]
      exact all
    · rw [if_neg bound] at all
      rw [if_neg (by simpa using bound)]
      exact all

/-- A channel when the line is lost (R139). -/
theorem loseChannels_channel (line : LineNo) (s : State) (k : Fin 8) :
    ((s.channels[k]).binding = .line line → (s.loseChannels line).channels[k] =
      { s.channels[k] with binding := .unbound, talkers := [], wait := none, misses := 0 }) ∧
    ((s.channels[k]).binding ≠ .line line → (s.channels[k]).ShedsTo (s.loseChannels line).channels[k]) := by
  obtain ⟨v, -, sheds, -, rest⟩ := foldl_channel (State.loseChannel line) (loseChannel_listens line) (loseChannel_others line) k s
  rw [show s.loseChannels line = allPorts.foldl (State.loseChannel line) s from rfl]
  generalize List.foldl _ s allPorts = t at rest ⊢
  refine ⟨fun bound => ?_, fun other => ?_⟩
  · rw [loseChannel_bound line v k (by rw [sheds.binding]; exact bound), notify_channel, (turnOff_turnsOff k v).off] at rest
    obtain ⟨l, -, shed⟩ := sheds
    rw [rest.of_silent rfl, shed]
  · rw [loseChannel_other line v k (by rw [sheds.binding]; exact other)] at rest
    exact sheds.trans rest

/-! ### A change of home -/

/-- The part of a change of home that takes the line's entries along (R95, R139). -/
theorem homeChanged_lost (line : LineNo) (old : Option Station) (s : State) (was : old ≠ none) :
    s.homeChanged old line = ((s.staleMirror line).loseLine line).loseChannels line := by
  unfold State.homeChanged
  exact if_pos (Option.isSome_iff_ne_none.mpr was)

theorem homeChanged_kept (line : LineNo) (s : State) : s.homeChanged none line = s.staleMirror line := rfl

theorem loseChannels_listens (line : LineNo) (s : State) : s.Listens (s.loseChannels line) :=
  .foldl (State.loseChannel line) (loseChannel_listens line) allPorts s

theorem homeChanged_works (old : Option Station) (line : LineNo) (s : State) : s.Works (s.homeChanged old line) := by
  have staled := (staleMirror_tells line s).2.1.works
  cases old with
  | none => exact staled
  | some st =>
    rw [homeChanged_lost line (some st) s (Option.some_ne_none st)]
    exact (staled.trans (loseLine_tells line _ _ rfl).1).trans (loseChannels_listens line _).works

theorem homeChanged_mirrors (old : Option Station) (line : LineNo) (s : State) :
    (s.homeChanged old line).mirrors = (s.staleMirror line).mirrors := by
  cases old with
  | none => rfl
  | some st =>
    rw [homeChanged_lost line (some st) s (Option.some_ne_none st), (loseChannels_listens line _).mirrors, (loseLine_tells line _ _ rfl).2.2.1]

/-- What a change of home does: the mirror, what goes with the line, and the notices (R95, R139). -/
theorem homeChanged_tells (s t : State) (old : Option Station) (line : LineNo) (ht : t = s.homeChanged old line) :
    t.base = s.base ∧ t.records = s.records ∧ t.txQueue = s.txQueue ∧
    (∀ m : Mirror, s.mirrorOf line = some m → t.mirrorOf line =
      some (if m.state = .current then { m with state := .stale, timer := none } else m)) ∧
    (∀ other : LineNo, other ≠ line → t.mirrorOf other = s.mirrorOf other) ∧
    (old = none → t.handsets = s.handsets ∧ t.held = s.held ∧ t.pendingAsks = s.pendingAsks ∧ t.channels = s.channels) ∧
    (old ≠ none →
      (∀ h : Fin 2, t.handsets[h] = { s.handsets[h] with
        bindings := (s.handsets[h]).bindings.filter fun b => b.circuit != .line line }) ∧
      t.held = s.held.filter (fun e => e.line != line) ∧
      t.pendingAsks = s.pendingAsks.filter (fun a => a.line != line) ∧
      (∀ k : Fin 8,
        ((s.channels[k]).binding = .line line → t.channels[k] = { s.channels[k] with
          binding := .unbound, talkers := [], wait := none, misses := 0 }) ∧
        ((s.channels[k]).binding ≠ .line line → t.channels[k] = { s.channels[k] with
          talkers := (t.channels[k]).talkers })) ∧
      ((∀ m : Mirror, s.mirrorOf line = some m → m.ringing = false) → s.Tells t
        ((([0, 1] : List (Fin 2)).filter fun h => (s.handsets[h]).bindings.any fun b => b.circuit == .line line).map
            (fun h => Event.lineLost line (.handset h)) ++
          (s.held.filter fun e => e.line == line).map (fun e => Event.lineLost line (.handset e.handset)) ++
          (s.pendingAsks.filter fun a => a.line == line).map (fun a => Event.askNoAnswer line a.op (.handset a.handset)) ++
          (allPorts.filter fun k => decide ((s.channels[k]).binding = .line line)).map
            fun k => lostChannelEvent line s.channels[k] k))) := by
  have works := homeChanged_works old line s
  have mirrors := homeChanged_mirrors old line s
  obtain ⟨⟨ms, mk, n, o, fields⟩, judged, here, others, calm⟩ := staleMirror_tells line s
  have mirrorOf (other : LineNo) : t.mirrorOf other = (s.staleMirror line).mirrorOf other := by
    rw [State.mirrorOf, ht, mirrors]
    rfl
  refine ⟨by rw [ht]; exact works.base, by rw [ht]; exact works.records, by rw [ht]; exact works.txQueue,
    fun m hm => (mirrorOf line).trans (here m hm), fun other apart => (mirrorOf other).trans (others other apart),
    fun kept => ?_, fun was => ?_⟩
  · rw [ht, kept, homeChanged_kept, fields]
    exact ⟨rfl, rfl, rfl, rfl⟩
  · rw [homeChanged_lost line old s was] at ht
    clear mirrorOf works mirrors here others
    have handsets : (s.staleMirror line).handsets = s.handsets := by rw [fields]
    have held : (s.staleMirror line).held = s.held := by rw [fields]
    have channels : (s.staleMirror line).channels = s.channels := by rw [fields]
    have asks := judged.pendingAsks
    generalize s.staleMirror line = u at handsets held channels asks judged calm ht
    obtain ⟨worksV, sheds, -, handsetsV, heldV, asksV, tellsV⟩ := loseLine_tells line u _ rfl
    generalize u.loseLine line = v at worksV sheds handsetsV heldV asksV tellsV ht
    have listens := loseChannels_listens line v
    have channel := loseChannels_channel line v
    have tells := loseChannels_tells line allPorts (by decide) v
    rw [show allPorts.foldl (State.loseChannel line) v = v.loseChannels line from rfl, ← ht] at tells
    rw [← ht] at listens channel
    refine ⟨fun h => ?_, ?_, ?_, fun k => ⟨fun bound => ?_, fun other => ?_⟩, fun quiet => ?_⟩
    · rw [listens.handsets, handsetsV, handsets]
    · rw [listens.held, heldV, held]
    · rw [listens.pendingAsks, asksV, asks]
    · have shed := sheds k
      rw [channels] at shed
      have gone := (channel k).1 (by rw [shed.binding]; exact bound)
      obtain ⟨l, -, same⟩ := shed
      rw [gone, same]
    · have shed := sheds k
      rw [channels] at shed
      obtain ⟨l, -, same⟩ := shed.trans ((channel k).2 (by rw [shed.binding]; exact other))
      rw [same]
    · have bindings (k : Fin 8) : (v.channels[k]).binding = (s.channels[k]).binding := by
        rw [(sheds k).binding, channels]
      have events (k : Fin 8) : lostChannelEvent line v.channels[k] k = lostChannelEvent line s.channels[k] k := by
        unfold lostChannelEvent
        rw [(sheds k).wait, channels]
      simp only [bindings, events] at tells
      rw [handsets, held, asks] at tellsV
      exact ((calm quiet).trans tellsV).trans tells

end Sys2Proof.Machine
end

section
/-! PROOFS. What an offer to the transmit queue does in ACTIVE (R3, R7 to R11, R14). -/

namespace Sys2Proof.Machine

theorem offer_active (target : Station) (b : Body) (s : State) (active : s.stationState = .active) :
    s.offer target b = s.offerAllowed target b := by
  rw [State.offer, if_pos ((isActive_iff s).mpr active)]

/-- The latest entry that a body replaces takes it (R9, R14). -/
theorem replaceIn_latest (b : Body) (life : Nat) (pre post : List TxEntry) (e : TxEntry)
    (later : ∀ x ∈ post, b.replaces x.body = false) (replaces : b.replaces e.body = true) :
    replaceIn b life (pre ++ e :: post) =
      some (pre ++ { e with body := b.replacing e.body, life := life, stale := false } :: post) := by
  induction pre with
  | nil => simp [replaceIn, replaceIn_none b life post later, replaces]
  | cons x pre ih =>
    rw [List.cons_append]
    unfold replaceIn
    rw [ih]
    rfl

/-- A queue whose first VOICE entry is evicted (R11). -/
theorem evictVoice_first (before behind : List TxEntry) (v : TxEntry) (voice : v.isVoice = true)
    (others : ∀ e ∈ before, e.isVoice = false) : evictVoice (before ++ v :: behind) = some (before ++ behind) := by
  induction before with
  | nil => simp [evictVoice, voice]
  | cons x before ih =>
    rw [List.cons_append]
    unfold evictVoice
    rw [others x List.mem_cons_self, ih fun e he => others e (List.mem_cons_of_mem _ he)]
    rfl

theorem evictVoice_none (q : List TxEntry) (others : ∀ e ∈ q, e.isVoice = false) : evictVoice q = none := by
  induction q with
  | nil => rfl
  | cons x q ih =>
    unfold evictVoice
    rw [others x List.mem_cons_self, ih fun e he => others e (List.mem_cons_of_mem _ he)]
    rfl

/-- An accepted entry behind others, or where the medium is busy, waits (R3, R7). -/
theorem acceptEntry_waits (e : TxEntry) (s : State) (busy : s.txQueue ≠ [] ∨ s.mediumIdle = false) :
    s.acceptEntry e = { s with txQueue := s.inTransmission ++ placeEntry e s.waiting } := by
  refine if_neg fun ⟨empty, idle⟩ => ?_
  rcases busy with h | h
  · exact h empty
  · rw [h] at idle
    cases idle

/-- An entry accepted by an empty queue while the medium is idle begins, unless another station has begun (R3). -/
theorem acceptEntry_begins (e : TxEntry) (s : State) (empty : s.txQueue = []) (idle : s.mediumIdle = true) :
    s.acceptEntry e = { s with
      txQueue := [e], mediumIdle := false, mediumLooks := s.mediumLooks + 1
      transmitting := s.transmitting || !Config.otherHasBegun s.mediumLooks } := by
  have placed : s.inTransmission ++ placeEntry e s.waiting = [e] := by
    unfold State.inTransmission State.waiting
    rw [empty]
    cases s.transmitting <;> rfl
  have seized : s.acceptEntry e = (s.setWaiting (placeEntry e s.waiting)).seizeMedium := if_pos ⟨empty, idle⟩
  rw [seized, State.setWaiting, placed]
  unfold State.seizeMedium
  cases Config.otherHasBegun s.mediumLooks
  · simp only [Bool.false_eq_true, if_false, Bool.not_false, Bool.or_true]
    rfl
  · simp only [if_true, Bool.not_true, Bool.or_false]
    rfl

/-- A queue whose waiting entries are replaced by others, in and behind transmission (R7). -/
theorem setWaiting_waiting (q : List TxEntry) (s : State) (sends : s.transmitting = true → s.txQueue ≠ []) :
    (s.setWaiting q).waiting = q ∧ (s.setWaiting q).inTransmission = s.inTransmission := by
  unfold State.waiting State.setWaiting State.inTransmission
  cases hs : s.transmitting
  · simp
  · obtain ⟨x, l, hx⟩ := List.exists_cons_of_ne_nil (sends hs)
    simp [hx]

/-- The recall flags that a replaced STATE hands on, as R9 says them. -/
theorem keepRecall_members (l old : LineStatus) : l.keepRecall old = { l with
    members := l.members.map fun m => { m with
      recallFlag := m.recallFlag || decide (m.mode = .held ∧
        ∃ o ∈ old.members, o.party = m.party ∧ o.recallFlag = true) } } := by
  unfold LineStatus.keepRecall
  refine congrArg (fun ms => { l with members := ms }) (List.map_congr_left fun m _ => ?_)
  have flagged : (m.mode = .held ∧ old.members.any (fun o => o.party == m.party && o.recallFlag) = true) ↔
      (m.mode = .held ∧ ∃ o ∈ old.members, o.party = m.party ∧ o.recallFlag = true) := by
    simp
  by_cases kept : m.mode = .held ∧ ∃ o ∈ old.members, o.party = m.party ∧ o.recallFlag = true
  · rw [if_pos (flagged.mpr kept), decide_eq_true kept, Bool.or_true]
  · rw [if_neg (fun h => kept (flagged.mp h)), decide_eq_false kept, Bool.or_false]

/-- Settles O21: the branches of an offer in their order. -/
theorem offersArePlacedByClass : Obligations.OffersArePlacedByClass := by
  unfold Obligations.OffersArePlacedByClass
  intro s target b sending new sound active hsending hnew
  have sends : s.inTransmission = sending := hsending.symm
  have entry : s.newEntry target b = new := hnew.symm
  have allowed := offer_active target b s active
  refine ⟨fun fresh => ?_, fun pre post e waits later => ⟨fun c old hb he => ?_, fun l old hb he line => ?_⟩⟩
  · rw [State.offerAllowed, replaceIn_none b _ s.waiting fresh] at allowed
    dsimp only at allowed
    refine ⟨fun room => ?_, fun full voice => ?_, fun full control noVoice => ?_,
      fun full control before behind v waits voice others => ?_⟩
    · obtain ⟨pre, post, split, low, high, placed⟩ := placeEntry_split new s.waiting sound.queue_order
      rw [if_pos (by exact room), entry] at allowed
      have kind : new.cls = b.kind.cls := by rw [hnew]; rfl
      refine ⟨pre, post, split, fun x hx => kind ▸ low x hx, fun x hx => kind ▸ high x hx, fun busy => ?_,
        fun empty idle => ?_⟩
      · rw [allowed, acceptEntry_waits new s busy, placed, sends, List.append_assoc]
      · rw [allowed, acceptEntry_begins new s empty idle]
    · rw [if_neg (by rw [full]; exact Nat.lt_irrefl _), if_pos voice] at allowed
      exact allowed
    · rw [if_neg (by rw [full]; exact Nat.lt_irrefl _), if_neg control,
        evictVoice_none s.waiting fun e he => by simpa [TxEntry.isVoice] using noVoice e he] at allowed
      exact allowed
    · rw [if_neg (by rw [full]; exact Nat.lt_irrefl _), if_neg control, waits,
        evictVoice_first before behind v (by simpa [TxEntry.isVoice] using voice)
          fun e he => by simpa [TxEntry.isVoice] using others e he] at allowed
      dsimp only at allowed
      have order : (before ++ behind).Pairwise fun a b => a.cls ≤ b.cls := by
        have sorted := sound.queue_order
        rw [waits] at sorted
        exact sorted.sublist ((List.Sublist.refl before).append (List.sublist_cons_self v behind))
      obtain ⟨pre, post, split, low, high, placed⟩ := placeEntry_split new (before ++ behind) order
      have kind : new.cls = b.kind.cls := by rw [hnew]; rfl
      have nonempty : s.txQueue ≠ [] := fun h => by
        rw [h] at full
        cases full
      have several : before ++ behind ≠ [] ∨ s.inTransmission ≠ [] := by
        have lengths := inTransmission_waiting_length s
        rw [waits, full] at lengths
        by_contra none
        rw [not_or, not_not, not_not] at none
        rw [none.2] at lengths
        have : before = [] ∧ behind = [] := by simpa using none.1
        rw [this.1, this.2] at lengths
        simp at lengths
      obtain ⟨queued, sending'⟩ := setWaiting_waiting (before ++ behind) s fun _ => nonempty
      refine ⟨pre, post, split, fun x hx => kind ▸ low x hx, fun x hx => kind ▸ high x hx, ?_⟩
      have waiting : (s.inTransmission ++ (before ++ behind) : List TxEntry) ≠ [] := by
        rw [ne_eq, List.append_eq_nil_iff]
        tauto
      have placed' : placeEntry new (s.setWaiting (before ++ behind)).waiting = pre ++ new :: post :=
        (congrArg (placeEntry new) queued).trans placed
      have accepted := acceptEntry_waits new ((s.setWaiting (before ++ behind)).count fun c =>
        { c with evictions := c.evictions.add 1 }) (.inl waiting)
      have both : State.inTransmission ((s.setWaiting (before ++ behind)).count fun c =>
            { c with evictions := c.evictions.add 1 }) ++
          placeEntry new (State.waiting ((s.setWaiting (before ++ behind)).count fun c =>
            { c with evictions := c.evictions.add 1 })) = sending ++ pre ++ new :: post :=
        (congrArg₂ (· ++ ·) sending' placed').trans (by rw [sends, List.append_assoc])
      rw [allowed, entry, accepted, both]
      rfl
  · subst hb
    have taken : (Body.beacon c).replaces e.body = true := by rw [he]; rfl
    rw [State.offerAllowed, waits, replaceIn_latest _ _ pre post e later taken, he] at allowed
    refine allowed.trans ?_
    simp only [State.setWaiting, sends, List.append_assoc]
    rfl
  · subst hb
    have taken : (Body.state l).replaces e.body = true := by
      rw [he, Body.replaces, line]
      exact beq_self_eq_true _
    rw [State.offerAllowed, waits, replaceIn_latest _ _ pre post e later taken, he] at allowed
    refine allowed.trans ?_
    simp only [State.setWaiting, sends, List.append_assoc, Body.replacing, keepRecall_members]
    rfl

end Sys2Proof.Machine
end

section
/-! SUPPORT. The coded fields of frames as written and read (R197), and what the receive checks of a heard frame say
(R16). -/

namespace Sys2Proof.Machine

/-! ### Single fields -/

theorem octet_toNat (n : Nat) (small : n < 256) : (octet n).toNat = n := by
  rw [octet, BitVec.toNat_ofNat]
  exact Nat.mod_eq_of_lt small

theorem port_read (p : Port) : Port.ofCode p.octet = some p := by
  cases p with
  | handset h => fin_cases h <;> rfl
  | mic => rfl
  | speakerCh k => fin_cases k <;> rfl
  | linePort k => fin_cases k <;> rfl

theorem station_read (st : Station) : stationOfOctet (stationOctet st) = some st := by
  have value : (stationOctet st).toNat = st.toNat := stationOctet_toNat st
  rw [stationOfOctet, if_pos (by rw [value]; exact st.isLt)]
  refine congrArg some (BitVec.eq_of_toNat_eq ?_)
  rw [BitVec.toNat_setWidth, value]
  exact Nat.mod_eq_of_lt st.isLt

theorem party_read (p : Party) : partyOfOctets (stationOctet p.station) p.port.octet = some p := by
  rw [partyOfOctets, station_read, port_read]

theorem linePort_read (k : Fin 8) : linePortOfOctet (octet k.val) = some k := by
  fin_cases k <;> rfl

theorem lineState_read (st : LineState) : LineState.ofCode (octet st.code) = some st := by cases st <;> rfl

theorem alarms_read (a : Alarms) : Alarms.ofOctet a.octet = a := by
  obtain ⟨a, b, c, d, e⟩ := a
  revert a b c d e
  decide

theorem flagOctet_bits (b7 b6 b5 b4 : Bool) : (flagOctet b7 b6 b5 b4).getLsbD 7 = b7 ∧
    (flagOctet b7 b6 b5 b4).getLsbD 6 = b6 ∧ (flagOctet b7 b6 b5 b4).getLsbD 5 = b5 ∧
    (flagOctet b7 b6 b5 b4).getLsbD 4 = b4 := by
  revert b7 b6 b5 b4
  decide

/-- The flag octet of a STATE body: privacy, out-ring and the far-end signalling. -/
theorem stateFlags_read (p o : Bool) (sig : Signalling) :
    (flagOctet p o false false + octet sig.code).getLsbD 7 = p ∧
    (flagOctet p o false false + octet sig.code).getLsbD 6 = o ∧
    Signalling.ofCode ((flagOctet p o false false + octet sig.code).toNat % 4) = sig := by
  revert p o
  cases sig <;> decide

theorem askReason_read (r : Option AskReason) : AskReason.ofCode (octet (AskReason.code r)) = some r := by
  cases r with
  | none => rfl
  | some r => cases r <;> rfl

theorem askOp_read (op : AskOp) : AskOp.ofCode (octet op.code) = some op := by cases op <;> rfl

theorem callKind_read (k : CallKind) : CallKind.ofCode (octet k.code) = some k := by cases k <;> rfl

theorem callReason_read (r : CallReason) (carried : r ≠ .peerLost) : CallReason.ofCode (octet r.code) = some r := by
  cases r with
  | peerLost => exact absurd rfl carried
  | none | busy | cleared | noAnswer | glare | answeredElsewhere => rfl

theorem callId_read (id : CallId) : callIdOfOctets (stationOctet id.station) (octet id.slot.val) = some id := by
  have slot : indexOf 4 (octet id.slot.val) = some id.slot := by
    generalize id.slot = k
    fin_cases k <;> rfl
  rw [callIdOfOctets, station_read, slot]

theorem called_read (c : Called) (named : c ≠ .group 0#6) : Called.ofOctet c.octet = some c := by
  cases c with
  | port p =>
    have low : p.octet.toNat ≤ 18 := by
      cases p with
      | handset h => fin_cases h <;> decide
      | mic => decide
      | speakerCh k => fin_cases k <;> decide
      | linePort k => fin_cases k <;> decide
    rw [Called.octet, Called.ofOctet, if_pos low, port_read]
    rfl
  | group g =>
    have positive : g.toNat ≠ 0 := fun h => named (congrArg _ (BitVec.eq_of_toNat_eq h))
    have value : (BitVec.ofNat 8 (g.toNat + 64)).toNat = g.toNat + 64 := octet_toNat _ (by have := g.isLt; omega)
    have := g.isLt
    rw [Called.octet, Called.ofOctet, value, if_neg (by omega), if_pos (by omega), Nat.add_sub_cancel]
    exact congrArg (fun x => some (Called.group x)) (BitVec.eq_of_toNat_eq (by simp))

/-! ### Lists of entries -/

theorem memberOctets_length (ms : List MemberStatus) : (ms.flatMap MemberStatus.octets).length = 3 * ms.length := by
  induction ms with
  | nil => rfl
  | cons m ms ih =>
    rw [List.flatMap_cons, List.length_append, ih, List.length_cons]
    exact (Nat.add_comm ..).trans (Nat.mul_succ ..).symm

theorem members_read (ms : List MemberStatus) : readMembers (ms.flatMap MemberStatus.octets) = some ms := by
  induction ms with
  | nil => rfl
  | cons m ms ih =>
    obtain ⟨high, low, -, -⟩ := flagOctet_bits (m.mode == .held) m.recallFlag false false
    rw [List.flatMap_cons]
    show readMembers (_ :: _ :: _ :: ms.flatMap MemberStatus.octets) = _
    rw [readMembers, party_read, ih, high, low]
    obtain ⟨p, mode, flag⟩ := m
    cases mode <;> rfl

theorem listeners_read (ps : List Party) : readListeners (ps.flatMap Party.octets) = some ps := by
  induction ps with
  | nil => rfl
  | cons p ps ih =>
    rw [List.flatMap_cons]
    show readListeners (_ :: _ :: ps.flatMap Party.octets) = _
    rw [readListeners, party_read, ih]

theorem partyOctets_length (ps : List Party) : (ps.flatMap Party.octets).length = 2 * ps.length := by
  induction ps with
  | nil => rfl
  | cons p ps ih =>
    rw [List.flatMap_cons, List.length_append, ih, List.length_cons]
    exact (Nat.add_comm ..).trans (Nat.mul_succ ..).symm

theorem homeLines_read (ls : List (LineNo × Fin 8)) :
    readHomeLines (ls.flatMap fun e => octets16 e.1 ++ [octet e.2.val]) = some ls := by
  induction ls with
  | nil => rfl
  | cons l ls ih =>
    rw [List.flatMap_cons]
    show readHomeLines (_ :: _ :: _ :: ls.flatMap fun e => octets16 e.1 ++ [octet e.2.val]) = _
    rw [readHomeLines, linePort_read, word16_octets, ih]

theorem homeLineOctets_length (ls : List (LineNo × Fin 8)) :
    (ls.flatMap fun e => octets16 e.1 ++ [octet e.2.val]).length = 3 * ls.length := by
  induction ls with
  | nil => rfl
  | cons l ls ih =>
    rw [List.flatMap_cons, List.length_append, ih, List.length_cons]
    exact (Nat.add_comm ..).trans (Nat.mul_succ ..).symm

theorem sampleOctets_length (l : List Sample) : (l.flatMap octets16).length = 2 * l.length := by
  induction l with
  | nil => rfl
  | cons x l ih =>
    rw [List.flatMap_cons, List.length_append, ih, List.length_cons]
    exact (Nat.add_comm ..).trans (Nat.mul_succ ..).symm

/-- The octets of the sample at a place. -/
theorem sampleOctets_at (l : List Sample) (i : Nat) (h : i < l.length) :
    word16 ((l.flatMap octets16).getD (2 * i) 0#8) ((l.flatMap octets16).getD (2 * i + 1) 0#8) = l[i] := by
  induction l generalizing i with
  | nil => cases h
  | cons x l ih =>
    cases i with
    | zero => exact word16_octets x
    | succ i => exact ih i (Nat.lt_of_succ_lt_succ h)

theorem samples_read (b : Block) : readSamples (b.toList.flatMap octets16) = b := by
  apply Vector.ext
  intro i hi
  rw [readSamples, Vector.getElem_ofFn]
  exact (sampleOctets_at b.toList i (by simpa using hi)).trans (by simp)

/-! ### Bodies -/

/-- A circuit of ten bits is read as it was written. -/
theorem circuit_read (c : Circuit) (fits : c.fits) :
    Circuit.ofCode ((octet (c.kindCode * 64 + c.number / 256)).toNat / 64)
      ((octet (c.kindCode * 64 + c.number / 256)).toNat % 4 * 256 + (octet c.number).toNat) = some c := by
  have small : c.number < 1024 := by cases c <;> exact fits
  have kind : c.kindCode ≤ 3 := by
    cases c
    · exact (by decide : 1 ≤ 3)
    · exact (by decide : 2 ≤ 3)
    · exact (by decide : 3 ≤ 3)
  have high : (octet (c.kindCode * 64 + c.number / 256)).toNat = c.kindCode * 64 + c.number / 256 :=
    octet_toNat _ (by omega)
  have low : (octet c.number).toNat = c.number % 256 := BitVec.toNat_ofNat ..
  have code : (c.kindCode * 64 + c.number / 256) / 64 = c.kindCode := by omega
  have number : (c.kindCode * 64 + c.number / 256) % 4 * 256 + c.number % 256 = c.number := by omega
  rw [high, low, code, number]
  cases c with
  | line n => exact congrArg (fun x => some (Circuit.line x)) (BitVec.eq_of_toNat_eq (by simp [Circuit.number]))
  | hoot n => rfl
  | call n => rfl

theorem state_read (b : LineStatus) (members : b.members.length ≤ 6) (listeners : b.listeners.length ≤ 16) :
    readState b.octets = some b := by
  have m : (octet b.members.length).toNat = b.members.length := octet_toNat _ (by omega)
  have n : (octet b.listeners.length).toNat = b.listeners.length := octet_toNat _ (by omega)
  obtain ⟨privacy, ring, far⟩ := stateFlags_read b.privacy b.outRing b.farSignalling
  have lengths : (b.members.flatMap MemberStatus.octets ++ b.listeners.flatMap Party.octets).length =
      3 * b.members.length + 2 * b.listeners.length := by
    rw [List.length_append, memberOctets_length, partyOctets_length]
  have front : (b.members.flatMap MemberStatus.octets ++ b.listeners.flatMap Party.octets).take (3 * b.members.length) =
      b.members.flatMap MemberStatus.octets := List.take_left' (memberOctets_length _)
  have back : (b.members.flatMap MemberStatus.octets ++ b.listeners.flatMap Party.octets).drop (3 * b.members.length) =
      b.listeners.flatMap Party.octets := List.drop_left' (memberOctets_length _)
  rw [LineStatus.octets, List.append_assoc]
  show readState (_ :: _ :: _ :: _ :: _ :: _ :: _ ::
    (b.members.flatMap MemberStatus.octets ++ b.listeners.flatMap Party.octets)) = _
  rw [readState, m, n, if_pos ⟨members, listeners, lengths⟩, lineState_read, front, back, members_read, listeners_read,
    word16_octets, privacy, ring, far, alarms_read]

theorem beacon_read (c : Card) (few : c.homeLines.length ≤ 8) : readBeacon c.octets = some c := by
  have h : (octet c.homeLines.length).toNat = c.homeLines.length := octet_toNat _ (by omega)
  obtain ⟨b7, b6, b5, b4⟩ := flagOctet_bits c.leaving c.hasLines c.hasPanel c.supervisor
  rw [Card.octets]
  show readBeacon (_ :: _ :: _ :: c.homeLines.flatMap fun e => octets16 e.1 ++ [octet e.2.val]) = _
  rw [readBeacon, h, if_pos ⟨few, homeLineOctets_length _⟩, station_read, homeLines_read, b7, b6, b5, b4]

theorem voice_read (v : Voice) (fits : v.circuit.fits) : readVoice v.octets = some v := by
  obtain ⟨b7, -, -, -⟩ := flagOctet_bits v.talking false false false
  have length : (v.samples.toList.flatMap octets16).length = 32 := by
    rw [sampleOctets_length, Vector.length_toList]
  rw [Voice.octets]
  show readVoice (_ :: _ :: _ :: _ :: _ :: v.samples.toList.flatMap octets16) = _
  rw [readVoice, if_pos length, circuit_read _ fits, port_read, b7, samples_read]

theorem reply_read (b : Reply) : readReply b.octets = some b := by
  rw [Reply.octets]
  show readReply [_, _, _, _, _] = _
  rw [readReply, askReason_read, word16_octets]
  obtain ⟨line, tag, refused, reason⟩ := b
  cases refused <;> rfl

theorem ask_read (b : Ask) (known : b.op.isSome) : readAsk b.octets = some b := by
  obtain ⟨line, op, p, q, wanted, tag⟩ := b
  obtain ⟨op, rfl⟩ := Option.isSome_iff_exists.mp known
  show readAsk [_, _, octet op.code, _, _, _, _, _] = _
  rw [readAsk, port_read, port_read, word16_octets, askOp_read]
  cases wanted <;> rfl

theorem call_read (b : CallFrame) (named : b.called ≠ .group 0#6) (carried : b.reason ≠ .peerLost) :
    readCall b.octets = some b := by
  show readCall [_, _, _, _, _, _] = _
  rw [readCall, callKind_read, callId_read, port_read, called_read _ named, callReason_read _ carried]

theorem signal_read (b : Signal) : readSignal b.octets = some b := by
  obtain ⟨set, bit⟩ := b
  cases set <;> rfl

/-- A carriable body is read as it was written (R16, R197). -/
theorem body_read (b : Body) (carriable : b.carriable) : b.kind.read b.octets = some b := by
  cases b with
  | state b => exact congrArg (Option.map _) (state_read b carriable.1 carriable.2)
  | reply b => exact congrArg (Option.map _) (reply_read b)
  | ask b => exact congrArg (Option.map _) (ask_read b carriable)
  | call b => exact congrArg (Option.map _) (call_read b carriable.1 carriable.2)
  | signal b => exact congrArg (Option.map _) (signal_read b)
  | voice b => exact congrArg (Option.map _) (voice_read b carriable)
  | beacon b => exact congrArg (Option.map _) (beacon_read b carriable)

/-- The octets of a carriable body fit the length field. -/
theorem body_length (b : Body) (carriable : b.carriable) : b.octets.length < 65536 := by
  cases b with
  | state b =>
    obtain ⟨members, listeners⟩ : b.members.length ≤ 6 ∧ b.listeners.length ≤ 16 := carriable
    have parts := memberOctets_length b.members
    have others := partyOctets_length b.listeners
    simp only [Body.octets, LineStatus.octets, octets16, List.length_append, List.length_cons, List.length_nil]
    omega
  | beacon c =>
    have few : c.homeLines.length ≤ 8 := carriable
    have parts := homeLineOctets_length c.homeLines
    simp only [Body.octets, Card.octets, List.length_append, List.length_cons, List.length_nil]
    omega
  | voice v =>
    have parts := sampleOctets_length v.samples.toList
    simp only [Vector.length_toList] at parts
    simp only [Body.octets, Voice.octets, List.length_append, List.length_cons, List.length_nil]
    omega
  | reply b => exact (by decide : 5 < 65536)
  | ask b => exact (by decide : 8 < 65536)
  | call b => exact (by decide : 6 < 65536)
  | signal b => exact (by decide : 2 < 65536)

/-! ### The header -/

theorem classOf_toNat (o0 o1 : Octet) : classOf (word16 o0 o1) = o0.toNat / 32 := by
  have := o0.isLt
  have := o1.isLt
  rw [classOf, BitVec.extractLsb'_toNat, word16_toNat, Nat.shiftRight_eq_div_pow]
  omega

theorem sourceOf_toNat (o0 o1 : Octet) : (sourceOf (word16 o0 o1)).toNat = o0.toNat % 32 * 2 + o1.toNat / 128 := by
  have := o0.isLt
  have := o1.isLt
  rw [sourceOf, BitVec.extractLsb'_toNat, word16_toNat, Nat.shiftRight_eq_div_pow]
  omega

theorem targetOf_toNat (o0 o1 : Octet) : (targetOf (word16 o0 o1)).toNat = o1.toNat / 2 % 64 := by
  have := o0.isLt
  have := o1.isLt
  rw [targetOf, BitVec.extractLsb'_toNat, word16_toNat, Nat.shiftRight_eq_div_pow]
  omega

/-- What a frame that passes the receive checks is, octet by octet (R16). -/
theorem readUnit_some {unit : List Octet} {f : Frame} (good : readUnit unit = some f) :
    ∃ (o0 o1 kind l1 l2 : Octet) (body : List Octet) (k : Kind), unit = o0 :: o1 :: kind :: l1 :: l2 :: body ∧
      Kind.ofCode kind = some k ∧ headerGood k (word16 o0 o1) (word16 l1 l2) body = true ∧
      k.read body = some f.body ∧ f.body.agrees f.source = true ∧ f.source = sourceOf (word16 o0 o1) ∧
      f.target = targetOf (word16 o0 o1) := by
  unfold readUnit at good
  split at good
  · next o0 o1 kind l1 l2 body =>
    split at good
    · next k hk =>
      dsimp only at good
      split at good
      · next header =>
        obtain ⟨b, hb, rfl⟩ := Option.map_eq_some_iff.mp good
        obtain ⟨read, agrees⟩ := Option.filter_eq_some_iff.mp hb
        exact ⟨o0, o1, kind, l1, l2, body, k, rfl, hk, header, read, agrees, rfl, rfl⟩
      · cases good
    · cases good
  · cases good

theorem readFrame_some {octets : List Octet} {f : Frame} (good : readFrame octets = some f) :
    octets.drop (octets.length - 4) = octets32 (crc32 (octets.take (octets.length - 4))) ∧
      readUnit (octets.take (octets.length - 4)) = some f :=
  (Option.ite_none_right_eq_some.mp good)

theorem ofCode_code {o : Octet} {k : Kind} (named : Kind.ofCode o = some k) : o.toNat = k.code := by
  unfold Kind.ofCode at named
  split at named <;> first | exact (Option.some.inj named) ▸ ‹_› | cases named

theorem read_kind {k : Kind} {octets : List Octet} {b : Body} (read : k.read octets = some b) : b.kind = k := by
  cases k <;> (obtain ⟨x, -, rfl⟩ := Option.map_eq_some_iff.mp read; rfl)

theorem kind_read (k : Kind) : Kind.ofCode (octet k.code) = some k := by cases k <;> rfl

/-- A frame as sent passes the checks of its header (R16). -/
theorem sent_headerGood (source target : Station) (b : Body) (low : 1 ≤ source.toNat)
    (high : source.toNat ≤ Config.lastStation) (allowed : b.kind.allows target = true) (small : b.octets.length < 65536)
    (o0 o1 : Octet) (h0 : o0.toNat = b.kind.cls * 32 + source.toNat / 2)
    (h1 : o1.toNat = source.toNat % 2 * 128 + target.toNat * 2) :
    sourceOf (word16 o0 o1) = source ∧ targetOf (word16 o0 o1) = target ∧
      headerGood b.kind (word16 o0 o1) (BitVec.ofNat 16 b.octets.length) b.octets = true := by
  have cls : classOf (word16 o0 o1) = b.kind.cls := by
    have := source.isLt
    rw [classOf_toNat, h0]
    omega
  have src : sourceOf (word16 o0 o1) = source := BitVec.eq_of_toNat_eq (by
    have := source.isLt
    have := target.isLt
    rw [sourceOf_toNat, h0, h1]
    omega)
  have tgt : targetOf (word16 o0 o1) = target := BitVec.eq_of_toNat_eq (by
    have := target.isLt
    rw [targetOf_toNat, h1]
    omega)
  refine ⟨src, tgt, ?_⟩
  rw [headerGood, cls, src, tgt, allowed, BitVec.toNat_ofNat, Nat.mod_eq_of_lt (b := 2 ^ 16) small]
  simp [low, high]

end Sys2Proof.Machine
end

section
/-! PROOFS. Frames as sent and as heard, and the frames that fail a receive check. -/

namespace Sys2Proof.Machine

/-- Settles O11: the header and the body are read back field by field; bit 0 of octet 1 is in no field. -/
theorem sentFramesAreHeardAsSent : Obligations.SentFramesAreHeardAsSent := by
  unfold Obligations.SentFramesAreHeardAsSent
  refine ⟨fun source target b low high allowed carriable agrees => ?_, fun o0 o1 rest => ?_⟩
  · have small := body_length b carriable
    have cls : b.kind.cls ≤ 5 := by generalize b.kind = k; cases k <;> decide
    obtain ⟨src, tgt, good⟩ := sent_headerGood source target b low high allowed small
      (octet (b.kind.cls * 32 + source.toNat / 2)) (octet (source.toNat % 2 * 128 + target.toNat * 2))
      (octet_toNat _ (by have := source.isLt; omega)) (octet_toNat _ (by have := target.isLt; omega))
    have unit : readUnit (sentUnit source target b) = some ⟨source, target, b⟩ := by
      show readUnit (_ :: _ :: _ :: _ :: _ :: b.octets) = _
      rw [readUnit, kind_read]
      dsimp only
      rw [src, tgt, word16_octets, if_pos good, body_read b carriable, Option.filter_some, if_pos agrees]
      rfl
    have length : (sentFrame source target b).length - 4 = (sentUnit source target b).length := by
      rw [sentFrame, List.length_append]
      exact Nat.add_sub_cancel ..
    rw [readFrame, length, sentFrame, List.take_left, List.drop_left, if_pos rfl]
    exact unit
  · have other : (o1 ^^^ 1#8).toNat / 2 = o1.toNat / 2 := by
      rw [BitVec.toNat_xor, ← Nat.shiftRight_one, ← Nat.shiftRight_one, Nat.shiftRight_xor_distrib]
      exact Nat.xor_zero _
    have cls : classOf (word16 o0 (o1 ^^^ 1#8)) = classOf (word16 o0 o1) := by rw [classOf_toNat, classOf_toNat]
    have source : sourceOf (word16 o0 (o1 ^^^ 1#8)) = sourceOf (word16 o0 o1) := BitVec.eq_of_toNat_eq (by
      rw [sourceOf_toNat, sourceOf_toNat]
      omega)
    have target : targetOf (word16 o0 (o1 ^^^ 1#8)) = targetOf (word16 o0 o1) := BitVec.eq_of_toNat_eq (by
      rw [targetOf_toNat, targetOf_toNat]
      omega)
    have header : ∀ (k : Kind) (length : BitVec 16) (body : List Octet),
        headerGood k (word16 o0 (o1 ^^^ 1#8)) length body = headerGood k (word16 o0 o1) length body := by
      intro k length body
      rw [headerGood, headerGood, cls, source, target]
    match rest with
    | [] | [_] | [_, _] => rfl
    | kind :: l1 :: l2 :: body => simp only [readUnit, source, target, header]

/-- Every command that hears a frame hears it by its row. -/
theorem heardRows_hears {header body crc : List Octet} {c : Instr} {row : Body → Bool}
    (listed : (c, row) ∈ heardRows header body crc) (s : State) :
    exec c s = .next (s.hearAs row (header ++ body ++ crc)) := by
  simp only [heardRows, List.mem_cons, List.not_mem_nil, or_false, Prod.mk.injEq] at listed
  rcases listed with ⟨rfl, rfl⟩ | ⟨rfl, rfl⟩ | ⟨rfl, rfl⟩ | ⟨rfl, rfl⟩ | ⟨rfl, rfl⟩ | ⟨rfl, rfl⟩ | ⟨rfl, rfl⟩ |
    ⟨rfl, rfl⟩ | ⟨rfl, rfl⟩ | ⟨rfl, rfl⟩ | ⟨rfl, rfl⟩ | ⟨rfl, rfl⟩ | ⟨rfl, rfl⟩ | ⟨rfl, rfl⟩ | ⟨rfl, rfl⟩ | ⟨rfl, rfl⟩ |
    ⟨rfl, rfl⟩ | ⟨rfl, rfl⟩ | ⟨rfl, rfl⟩ | ⟨rfl, rfl⟩ <;> rfl

/-- A bad frame heard is counted once the load has completed (R15, R16). -/
theorem hear_bad {octets : List Octet} (bad : readFrame octets = none) (s : State) :
    s.hear octets = if s.loaded then { s with
      mediumIdle := false, live := { s.live with badFrames := s.live.badFrames.add 1 } }
      else { s with mediumIdle := false } := by
  unfold State.hear
  rw [bad]
  rfl

theorem hear_unloaded (octets : List Octet) (s : State) (unloaded : s.loaded = false) :
    s.hear octets = { s with mediumIdle := false } := by
  unfold State.hear
  exact if_neg (by rw [show s.findBusy.loaded = s.loaded from rfl, unloaded]; exact Bool.false_ne_true)

/-- Settles O22: the rows of the commands, and the receive checks read off a good frame. -/
theorem badFramesAreCounted : Obligations.BadFramesAreCounted := by
  unfold Obligations.BadFramesAreCounted
  refine ⟨fun s header body crc c row listed => ⟨fun bad => ?_, fun f good => ?_⟩, fun octets f good => ?_⟩
  · have heard : s.hearAs row (header ++ body ++ crc) = s.hear (header ++ body ++ crc) := by rw [State.hearAs, bad]
    rw [heardRows_hears listed s, heard, hear_bad bad s]
    exact ⟨fun loaded => by rw [if_pos loaded], fun unloaded => by rw [unloaded]; rfl⟩
  · refine ⟨fun other => ?_, fun mine unloaded => ?_⟩
    · rw [heardRows_hears listed s, State.hearAs, good]
      exact congrArg _ (if_neg (by rw [other]; exact Bool.false_ne_true))
    · rw [heardRows_hears listed s, hearAs_row row _ f s good mine, hear_unloaded _ s unloaded]
  · obtain ⟨crc, unit⟩ := readFrame_some good
    obtain ⟨o0, o1, kind, l1, l2, body, k, split, named, header, read, agrees, source, target⟩ := readUnit_some unit
    have kinds := read_kind read
    have whole : octets = o0 :: o1 :: kind :: l1 :: l2 :: (body ++ octets.drop (octets.length - 4)) := by
      conv => lhs; rw [← List.take_append_drop (octets.length - 4) octets, split]
      rfl
    have lengths : octets.length - 4 = 5 + body.length := by
      have cut := congrArg List.length split
      rw [List.length_take] at cut
      simp only [List.length_cons] at cut
      omega
    simp only [headerGood, Bool.and_eq_true, beq_iff_eq, decide_eq_true_eq] at header
    obtain ⟨⟨⟨⟨cls, low⟩, high⟩, allowed⟩, length⟩ := header
    have first : octets.getD 0 0#8 = o0 := by rw [whole]; rfl
    have second : octets.getD 1 0#8 = o1 := by rw [whole]; rfl
    have third : octets.getD 2 0#8 = kind := by rw [whole]; rfl
    have fourth : octets.getD 3 0#8 = l1 := by rw [whole]; rfl
    have fifth : octets.getD 4 0#8 = l2 := by rw [whole]; rfl
    rw [first, second, third, fourth, fifth, kinds]
    rw [classOf_toNat] at cls
    rw [word16_toNat] at length
    refine ⟨by omega, crc, cls, ofCode_code named, by rw [source]; exact low, by rw [source]; exact high,
      by rw [source, sourceOf_toNat], by rw [target, targetOf_toNat], by rw [target]; exact allowed, by omega,
      fun card isBeacon => ?_⟩
    rw [isBeacon] at agrees
    exact eq_of_beq agrees

end Sys2Proof.Machine
end

section
/-! SUPPORT. The stream table as a VOICE frame finds it: the entry of a key, the lowest free index and the entry that is
evicted (R149, R152, R153). -/

namespace Sys2Proof.Machine

/-- A search through a table finds the lowest index that fits. -/
theorem find_lowest {n : Nat} (p : Fin n → Bool) (i : Fin n) (fits : p i = true)
    (below : ∀ j : Fin n, j < i → p j = false) : (List.finRange n).find? p = some i := by
  rw [List.find?_eq_some_iff_getElem]
  exact ⟨fits, i.val, by simp, by simp, fun j hj => by simpa using below ⟨j, by omega⟩ hj⟩

theorem streamIndex_first {s : State} {c : Circuit} {p : Party} {i : Fin 32} {e : StreamEntry}
    (stands : s.streams[i] = some e) (circuit : e.circuit = c) (party : e.party = p)
    (below : ∀ (j : Fin 32) (x : StreamEntry), j < i → s.streams[j] = some x → ¬(x.circuit = c ∧ x.party = p)) :
    s.streamIndex c p = some i := by
  refine find_lowest _ i ?_ fun j hj => ?_
  · rw [stands]
    dsimp only
    rw [circuit, party]
    simp
  · split
    · next x hx =>
      have other := below j x hj hx
      rw [← Bool.not_eq_true, Bool.and_eq_true, beq_iff_eq, beq_iff_eq]
      exact other
    · rfl

theorem streamIndex_none {s : State} {c : Circuit} {p : Party}
    (none : ∀ (j : Fin 32) (x : StreamEntry), s.streams[j] = some x → ¬(x.circuit = c ∧ x.party = p)) :
    s.streamIndex c p = .none := by
  refine List.find?_eq_none.mpr fun j _ => ?_
  split
  · next x hx =>
    have other := none j x hx
    rw [Bool.and_eq_true, beq_iff_eq, beq_iff_eq]
    exact other
  · exact Bool.false_ne_true

theorem freeStream_lowest {s : State} {i : Fin 32} (free : s.streams[i] = none)
    (below : ∀ j : Fin 32, j < i → s.streams[j] ≠ none) : s.freeStream = some i := by
  refine find_lowest _ i ?_ fun j hj => ?_
  · rw [free]
    rfl
  · exact Option.isNone_eq_false_iff.mpr (Option.isSome_iff_ne_none.mpr (below j hj))

theorem freeStream_full {s : State} (full : ∀ j : Fin 32, s.streams[j] ≠ none) : s.freeStream = none :=
  List.find?_eq_none.mpr fun j _ h => full j (Option.isNone_iff_eq_none.mp h)

/-! ### Eviction -/

/-- The better of the choice so far and the entry at an index (R153). -/
def State.betterEviction (s : State) (cls : StreamClass) (best : Option (Fin 32 × StreamEntry)) (i : Fin 32) :
    Option (Fin 32 × StreamEntry) :=
  match s.streams[i] with
  | some e =>
    if e.cls.rank < cls.rank then
      match best with
      | some (_, b) => if e.evictedBefore b then some (i, e) else best
      | none => some (i, e)
    else best
  | none => best

theorem evictionChoice_eq (s : State) (cls : StreamClass) :
    s.evictionChoice cls = (List.finRange 32).foldl (s.betterEviction cls) none := rfl

theorem betterEviction_low (s : State) (cls : StreamClass) (best : Option (Fin 32 × StreamEntry)) (i : Fin 32)
    (e : StreamEntry) (stands : s.streams[i] = some e) (low : e.cls.rank < cls.rank)
    (before : ∀ j b, best = some (j, b) → e.evictedBefore b = true) : s.betterEviction cls best i = some (i, e) := by
  unfold State.betterEviction
  rw [stands]
  dsimp only
  rw [if_pos low]
  split
  · next j b => exact if_pos (before j b rfl)
  · rfl

theorem betterEviction_keeps (s : State) (cls : StreamClass) (j : Fin 32) (b : StreamEntry) (i : Fin 32)
    (after : ∀ e, s.streams[i] = some e → e.cls.rank < cls.rank → e.evictedBefore b = false) :
    s.betterEviction cls (some (j, b)) i = some (j, b) := by
  unfold State.betterEviction
  split
  · next e he =>
    split
    · next low => exact if_neg (by rw [after e he low]; exact Bool.false_ne_true)
    · rfl
  · rfl

theorem betterEviction_high (s : State) (cls : StreamClass) (best : Option (Fin 32 × StreamEntry)) (i : Fin 32)
    (high : ∀ e, s.streams[i] = some e → cls.rank ≤ e.cls.rank) : s.betterEviction cls best i = best := by
  unfold State.betterEviction
  split
  · next e he => exact if_neg (Nat.not_lt.mpr (high e he))
  · rfl

/-- A choice made among some indexes is an entry of one of them that ranks below the frame's class. -/
theorem betterEviction_mem (s : State) (cls : StreamClass) (l : List (Fin 32)) (j : Fin 32) (b : StreamEntry)
    (chosen : l.foldl (s.betterEviction cls) none = some (j, b)) :
    j ∈ l ∧ s.streams[j] = some b ∧ b.cls.rank < cls.rank := by
  induction l using List.reverseRecOn with
  | nil => cases chosen
  | append_singleton l i ih =>
    rw [List.foldl_append, List.foldl_cons, List.foldl_nil] at chosen
    have earlier : l.foldl (s.betterEviction cls) none = some (j, b) →
        j ∈ l ++ [i] ∧ s.streams[j] = some b ∧ b.cls.rank < cls.rank := fun h =>
      ⟨List.mem_append_left _ (ih h).1, (ih h).2⟩
    by_cases candidate : ∃ e, s.streams[i] = some e ∧ e.cls.rank < cls.rank
    · obtain ⟨e, stands, low⟩ := candidate
      have here : some (i, e) = some (j, b) → j ∈ l ++ [i] ∧ s.streams[j] = some b ∧ b.cls.rank < cls.rank := by
        intro h
        obtain ⟨rfl, rfl⟩ := Prod.mk.inj (Option.some.inj h)
        exact ⟨by simp, stands, low⟩
      by_cases better : ∀ k x, l.foldl (s.betterEviction cls) none = some (k, x) → e.evictedBefore x = true
      · rw [betterEviction_low s cls _ i e stands low better] at chosen
        exact here chosen
      · obtain ⟨k, x, best, worse⟩ : ∃ k x, l.foldl (s.betterEviction cls) none = some (k, x) ∧
            e.evictedBefore x = false := by simpa using better
        rw [best, betterEviction_keeps s cls k x i fun y hy _ => by
          rw [stands] at hy
          exact Option.some.inj hy ▸ worse] at chosen
        exact earlier (best.trans chosen)
    · rw [betterEviction_high s cls _ i fun e he => Nat.not_lt.mp fun low => candidate ⟨e, he, low⟩] at chosen
      exact earlier chosen

theorem evictionChoice_none {s : State} {cls : StreamClass}
    (high : ∀ (j : Fin 32) (e : StreamEntry), s.streams[j] = some e → cls.rank ≤ e.cls.rank) :
    s.evictionChoice cls = none := by
  rcases h : s.evictionChoice cls with _ | ⟨j, b⟩
  · rfl
  · obtain ⟨-, stands, low⟩ := betterEviction_mem s cls _ j b h
    exact absurd (high j b stands) (Nat.not_le.mpr low)

/-- The entry of lowest class, then level, then index among those below the frame's class is evicted (R153). -/
theorem evictionChoice_lowest {s : State} {cls : StreamClass} {i : Fin 32} {e : StreamEntry}
    (stands : s.streams[i] = some e) (low : e.cls.rank < cls.rank)
    (lowest : ∀ (j : Fin 32) (x : StreamEntry), s.streams[j] = some x → x.cls.rank < cls.rank →
      e.cls.rank < x.cls.rank ∨ e.cls.rank = x.cls.rank ∧ (e.level < x.level ∨ e.level = x.level ∧ i ≤ j)) :
    s.evictionChoice cls = some (i, e) := by
  obtain ⟨pre, post, split⟩ := List.append_of_mem (List.mem_finRange i)
  have sorted : (pre ++ i :: post).Pairwise (· < ·) := split ▸ List.pairwise_lt_finRange 32
  obtain ⟨-, -, across⟩ := List.pairwise_append.mp sorted
  rw [evictionChoice_eq, split, List.foldl_append, List.foldl_cons]
  have first : s.betterEviction cls (pre.foldl (s.betterEviction cls) none) i = some (i, e) := by
    refine betterEviction_low s cls _ i e stands low fun j b best => ?_
    obtain ⟨earlier, other, below⟩ := betterEviction_mem s cls pre j b best
    have before := across j earlier i List.mem_cons_self
    have order := lowest j b other below
    simp only [StreamEntry.evictedBefore, Bool.or_eq_true, Bool.and_eq_true, decide_eq_true_eq, beq_iff_eq]
    omega
  rw [first]
  clear split sorted across first
  induction post with
  | nil => rfl
  | cons j post ih =>
    rw [List.foldl_cons, betterEviction_keeps s cls i e j fun x hx below => ?_]
    · exact ih
    · have order := lowest j x hx below
      simp only [StreamEntry.evictedBefore, Bool.or_eq_false_iff, Bool.and_eq_false_iff, decide_eq_false_iff_not,
        beq_eq_false_iff_ne]
      omega

end Sys2Proof.Machine
end

section
/-! PROOFS. A VOICE frame handed on, judged by the table and by its sequence (R149, R151 to R155, R159). -/

namespace Sys2Proof.Machine

theorem voice_heard {s : State} {unit crc : List Octet} {source target : Station} {v : Voice}
    (handed : s.HandsOn (unit ++ crc) source target (.voice v)) :
    exec (.voiceReceived unit crc) s = .next ((s.havingHeard source).takeVoice source v) :=
  congrArg Host.Outcome.next (hearAs_handsOn _ handed rfl nofun)

section
variable {s : State} {source : Station} {v : Voice} {cls : StreamClass}

/-- A frame of a key that has an entry is taken by it (R154, R155). -/
theorem takeVoice_known (listens : s.interest v.circuit = some cls) {i : Fin 32} {e : StreamEntry}
    (index : s.streamIndex v.circuit ⟨source, v.port⟩ = some i) (stands : s.streams[i] = some e) :
    s.takeVoice source v = (s.setStream i (e.take s.silenceTime v).1).count (e.take s.silenceTime v).2 := by
  unfold State.takeVoice
  rw [listens]
  dsimp only
  rw [index]
  dsimp only
  rw [stands]

theorem takeVoice_free (listens : s.interest v.circuit = some cls) {i : Fin 32}
    (unknown : s.streamIndex v.circuit ⟨source, v.port⟩ = none) (free : s.freeStream = some i) :
    s.takeVoice source v = s.setStream i (s.newStream cls ⟨source, v.port⟩ v) := by
  unfold State.takeVoice
  rw [listens]
  dsimp only
  rw [unknown]
  dsimp only
  rw [free]

theorem takeVoice_refused (listens : s.interest v.circuit = some cls)
    (unknown : s.streamIndex v.circuit ⟨source, v.port⟩ = none) (full : s.freeStream = none)
    (high : s.evictionChoice cls = none) :
    s.takeVoice source v = s.count fun c => { c with streamsRefused := c.streamsRefused.add 1 } := by
  unfold State.takeVoice
  rw [listens]
  dsimp only
  rw [unknown]
  dsimp only
  rw [full]
  dsimp only
  rw [high]

theorem takeVoice_evicts (listens : s.interest v.circuit = some cls) {i : Fin 32} {e : StreamEntry}
    (unknown : s.streamIndex v.circuit ⟨source, v.port⟩ = none) (full : s.freeStream = none)
    (chosen : s.evictionChoice cls = some (i, e)) :
    s.takeVoice source v = ((s.setStream i (s.newStream cls ⟨source, v.port⟩ v)).announceEnds [e]).count
      fun c => { c with evictedStreams := c.evictedStreams.add 1 } := by
  unfold State.takeVoice
  rw [listens]
  dsimp only
  rw [unknown]
  dsimp only
  rw [full]
  dsimp only
  rw [chosen]

end

/-- The end of one entry: its source leaves every talker set (R141, R159). -/
theorem announceEnds_one (e : StreamEntry) (s : State) :
    s.announceEnds [e] =
        { s with channels := (s.announceEnds [e]).channels, marks := (s.announceEnds [e]).marks } ∧
      ∀ k : Fin 8, (s.announceEnds [e]).channels[k] = { s.channels[k] with
        talkers := (s.channels[k]).talkers.filter fun y => y.party != e.party } := by
  have ends : s.announceEnds [e] = s.mapTalkers fun _ c => c.talkers.filter fun t => !([e].any fun e => e.party == t.party) :=
    if_neg (List.cons_ne_nil _ _)
  refine ⟨by rw [ends]; rfl, fun k => ?_⟩
  have mapped : (s.mapTalkers fun _ c => c.talkers.filter fun t => !([e].any fun e => e.party == t.party)).channels[k] =
      { s.channels[k] with talkers := (s.channels[k]).talkers.filter fun t => !([e].any fun e => e.party == t.party) } := by
    show (mapTable s.channels _)[k] = _
    simp [mapTable]
  rw [ends, mapped]
  refine congrArg (fun l => { s.channels[k] with talkers := l }) (List.filter_congr fun t _ => ?_)
  simp [bne, BEq.comm (a := e.party)]

/-- Settles O24: the branches of R151 to R155. -/
theorem voiceIsJudgedByItsSequence : Obligations.VoiceIsJudgedByItsSequence := by
  unfold Obligations.VoiceIsJudgedByItsSequence
  intro s unit crc source target v handed
  have heard := voice_heard handed
  refine ⟨fun deaf => ?_, fun cls listens => ⟨fun i fresh free below => ?_, fun full fresh =>
    ⟨fun high => ?_, fun i e stands low lowest => ?_⟩, fun i e stands circuit party below => ?_⟩⟩
  · refine heard.trans (congrArg _ ?_)
    have : (s.havingHeard source).interest v.circuit = none := deaf
    rw [State.takeVoice, this]
  · have unknown : (s.havingHeard source).streamIndex v.circuit ⟨source, v.port⟩ = none := streamIndex_none fresh
    have lowest : (s.havingHeard source).freeStream = some i := freeStream_lowest free below
    exact heard.trans (congrArg _ (takeVoice_free (s := s.havingHeard source) listens unknown lowest))
  · have unknown : (s.havingHeard source).streamIndex v.circuit ⟨source, v.port⟩ = none := streamIndex_none fresh
    have none : (s.havingHeard source).freeStream = .none := freeStream_full full
    have top : (s.havingHeard source).evictionChoice cls = .none := evictionChoice_none high
    exact heard.trans (congrArg _ (takeVoice_refused (s := s.havingHeard source) listens unknown none top))
  · have unknown : (s.havingHeard source).streamIndex v.circuit ⟨source, v.port⟩ = none := streamIndex_none fresh
    have none : (s.havingHeard source).freeStream = .none := freeStream_full full
    have chosen : (s.havingHeard source).evictionChoice cls = some (i, e) := evictionChoice_lowest stands low lowest
    have evicted := takeVoice_evicts (s := s.havingHeard source) listens unknown none chosen
    obtain ⟨fields, channels⟩ := announceEnds_one e ((s.havingHeard source).setStream i
      ((s.havingHeard source).newStream cls ⟨source, v.port⟩ v))
    generalize State.announceEnds [e] _ = t at evicted fields channels
    exact ⟨_, heard, by rw [evicted, fields]; rfl, by rw [evicted]; exact channels⟩
  · have index : (s.havingHeard source).streamIndex v.circuit ⟨source, v.port⟩ = some i :=
      streamIndex_first stands circuit party below
    have known := heard.trans (congrArg _ (takeVoice_known (s := s.havingHeard source) listens index stands))
    have distance : v.sequence = e.expected → (v.sequence - e.expected).toNat = 0 := fun h => by
      rw [h, BitVec.sub_self]
      rfl
    refine ⟨fun due room => known.trans ?_, fun due full => known.trans ?_, fun d hd low high room => known.trans ?_,
      fun d hd low high => known.trans ?_, fun late => known.trans ?_⟩
    · rw [StreamEntry.take]
      dsimp only
      rw [if_pos (distance due), joinQueue, if_pos (by exact room)]
      dsimp only
      simp only [State.count, if_pos (show e.queue.length < Config.playoutCapacity from room)]
      rfl
    · have lost : ¬ e.queue.length < Config.playoutCapacity := by rw [full]; decide
      rw [StreamEntry.take]
      dsimp only
      rw [if_pos (distance due), joinQueue, if_neg lost]
      dsimp only
      simp only [State.count, if_neg lost]
      rfl
    · rw [StreamEntry.take]
      dsimp only
      rw [← hd, if_neg (by omega), if_pos high, joinQueue, if_pos (by exact room)]
      dsimp only
      simp only [State.count, if_pos (show e.queue.length < Config.playoutCapacity from room)]
      rfl
    · rw [StreamEntry.take]
      dsimp only
      rw [← hd, if_neg (by omega), if_neg (by omega), if_pos high]
      rfl
    · rw [StreamEntry.take]
      dsimp only
      rw [if_neg (by omega), if_neg (by omega), if_neg (by omega)]
      have same : s.streams.set i (some e) = s.streams := by
        rw [← stands]
        exact Vector.set_getElem_self _
      have kept : (s.havingHeard source).setStream i e = s.havingHeard source :=
        congrArg (fun x => { s.havingHeard source with streams := x }) same
      rw [kept]
      rfl

end Sys2Proof.Machine
end

section
/-! PROOFS. Refused asks at a line's home (R73, R75 to R86): the operations' refusals in their order, and what a refusal
leaves. -/

namespace Sys2Proof.Machine

/-! ### The refusals of the operations -/

theorem firstReason_true (r : AskReason) (l : List (Bool × AskReason)) : firstReason ((true, r) :: l) = some r := rfl

theorem firstReason_false (r : AskReason) (l : List (Bool × AskReason)) :
    firstReason ((false, r) :: l) = firstReason l := rfl

theorem hasMember_iff (r : LineRecord) (p : Party) (m : Mode) :
    r.hasMember p m = true ↔ ∃ e ∈ r.members, e.party = p ∧ e.mode = m := by simp [LineRecord.hasMember]

theorem hasMember_false {r : LineRecord} {p : Party} {m : Mode}
    (h : ¬ ∃ e ∈ r.members, e.party = p ∧ e.mode = m) : r.hasMember p m = false :=
  Bool.eq_false_iff.mpr fun has => h ((hasMember_iff r p m).mp has)

theorem hasListener_false {r : LineRecord} {p : Party} (h : ∀ l ∈ r.listeners, l.party ≠ p) :
    r.hasListener p = false := by simpa [LineRecord.hasListener] using h

/-- Whether privacy closes a line to a requester that is no supervisor (R76, R85). -/
theorem closed_iff (r : LineRecord) (supervisor : Bool) :
    ((r.state == .engaged || r.state == .held) && r.privacy && !supervisor) = true ↔
      (r.state = .engaged ∨ r.state = .held) ∧ r.privacy = true ∧ supervisor = false := by
  simp [and_assoc]

section
variable {x : LineContext} {q : LineRequest} {r : LineRecord}

theorem refusal_unsuited (h : q.portSuits = false) : r.refusal x q = some .notMember := by
  rw [LineRecord.refusal, h]
  rfl

theorem refusal_suited {reason : Option AskReason} (h : q.portSuits = true) :
    (q.op = .take → r.takeRefusal x q = reason → r.refusal x q = reason) ∧
    (q.op = .hold ∨ q.op = .privacy → r.activeRefusal q = reason → r.refusal x q = reason) ∧
    (q.op = .resume → r.resumeRefusal q = reason → r.refusal x q = reason) ∧
    (q.op = .ring → r.ringRefusal q = reason → r.refusal x q = reason) ∧
    (q.op = .listen → r.listenRefusal q = reason → r.refusal x q = reason) := by
  unfold LineRecord.refusal
  rw [h]
  refine ⟨fun op refused => ?_, fun op refused => ?_, fun op refused => ?_, fun op refused => ?_, fun op refused => ?_⟩
  · rw [op]; exact refused
  · rcases op with op | op <;> (rw [op]; exact refused)
  · rw [op]; exact refused
  · rw [op]; exact refused
  · rw [op]; exact refused

/-- Out of service refuses every operation but DROP and UNLISTEN (R75 to R85). -/
theorem refusal_outOfService (suits : q.portSuits = true) (drop : q.op ≠ .drop) (unlisten : q.op ≠ .unlisten)
    (out : r.state = .outOfService) : r.refusal x q = some .outOfService := by
  obtain ⟨take, active, resume, ring, listen⟩ := refusal_suited (x := x) (r := r) suits
  cases op : q.op with
  | take => exact take op (if_pos out)
  | drop => exact absurd op drop
  | hold => exact active (.inl op) (by rw [LineRecord.activeRefusal, out]; rfl)
  | resume => exact resume op (by rw [LineRecord.resumeRefusal, out]; rfl)
  | ring => exact ring op (by rw [LineRecord.ringRefusal, out]; rfl)
  | privacy => exact active (.inr op) (by rw [LineRecord.activeRefusal, out]; rfl)
  | listen => exact listen op (if_pos out)
  | unlisten => exact absurd op unlisten

theorem refusal_failed (suits : q.portSuits = true)
    (op : q.op = .take ∨ q.op = .resume ∨ q.op = .ring ∨ q.op = .listen) (failed : r.state = .failed) :
    r.refusal x q = some .failed := by
  obtain ⟨take, -, resume, ring, listen⟩ := refusal_suited (x := x) (r := r) suits
  have inService : r.state ≠ .outOfService := by rw [failed]; nofun
  rcases op with op | op | op | op
  · exact take op ((if_neg inService).trans (if_pos failed))
  · exact resume op (by rw [LineRecord.resumeRefusal, failed]; rfl)
  · exact ring op (by rw [LineRecord.ringRefusal, failed]; rfl)
  · exact listen op ((if_neg inService).trans (if_pos failed))

theorem refusal_notActive (suits : q.portSuits = true) (op : q.op = .hold ∨ q.op = .privacy ∨ q.op = .ring)
    (inService : r.state ≠ .outOfService) (sound : q.op = .ring → r.state ≠ .failed)
    (absent : r.hasMember q.requester .active = false) : r.refusal x q = some .notMember := by
  obtain ⟨-, active, -, ring, -⟩ := refusal_suited (x := x) (r := r) suits
  have served : (r.state == .outOfService) = false := beq_eq_false_iff_ne.mpr inService
  have idle : r.activeRefusal q = some .notMember := by rw [LineRecord.activeRefusal, served, absent]; rfl
  rcases op with op | op | op
  · exact active (.inl op) idle
  · exact active (.inr op) idle
  · exact ring op (by rw [LineRecord.ringRefusal, served, beq_eq_false_iff_ne.mpr (sound op), absent]; rfl)

theorem refusal_resume {reason : AskReason} (suits : q.portSuits = true) (op : q.op = .resume)
    (inService : r.state ≠ .outOfService) (sound : r.state ≠ .failed)
    (refused : r.hasMember q.requester .held = false ∧ reason = .notMember ∨
      r.hasMember q.requester .held = true ∧ q.secondPort ≠ q.requester.port ∧ r.hasAnyMember q.newParty = true ∧
        reason = .inUse) : r.refusal x q = some reason := by
  obtain ⟨-, -, resume, -, -⟩ := refusal_suited (x := x) (r := r) suits
  refine resume op ?_
  rw [LineRecord.resumeRefusal, beq_eq_false_iff_ne.mpr inService, beq_eq_false_iff_ne.mpr sound, firstReason_false,
    firstReason_false]
  rcases refused with ⟨absent, rfl⟩ | ⟨held, other, taken, rfl⟩
  · rw [absent]
    rfl
  · rw [held, bne_iff_ne.mpr other, taken]
    rfl

theorem refusal_take {reason : AskReason} (suits : q.portSuits = true) (op : q.op = .take)
    (inService : r.state ≠ .outOfService) (sound : r.state ≠ .failed)
    (absent : r.hasMember q.requester .active = false)
    (refused : r.hasMember q.requester .held = true ∧ reason = .inUse ∨
      r.hasMember q.requester .held = false ∧
        ((r.state = .engaged ∨ r.state = .held) ∧ r.privacy = true ∧ q.supervisor = false) ∧ reason = .isPrivate ∨
      r.hasMember q.requester .held = false ∧
        ¬((r.state = .engaged ∨ r.state = .held) ∧ r.privacy = true ∧ q.supervisor = false) ∧
        (r.state = .engaged ∨ r.state = .held) ∧ x.cfg.shareLimit ≤ r.members.length ∧ reason = .full) :
    r.refusal x q = some reason := by
  obtain ⟨take, -, -, -, -⟩ := refusal_suited (x := x) (r := r) suits
  refine take op ?_
  rw [LineRecord.takeRefusal, if_neg inService, if_neg sound, absent, if_neg Bool.false_ne_true]
  rcases refused with ⟨held, rfl⟩ | ⟨apart, closed, rfl⟩ | ⟨apart, opened, busy, full, rfl⟩
  · rw [held, firstReason_true]
  · rw [apart, firstReason_false, (closed_iff r _).mpr closed, firstReason_true]
  · rw [apart, firstReason_false, Bool.eq_false_iff.mpr fun h => opened ((closed_iff r _).mp h), firstReason_false]
    have limit : ((r.state == .engaged || r.state == .held) && decide (r.members.length ≥ x.cfg.shareLimit)) = true := by
      simp [busy, full]
    rw [limit, firstReason_true]

theorem refusal_listen {reason : AskReason} (suits : q.portSuits = true) (op : q.op = .listen)
    (inService : r.state ≠ .outOfService) (sound : r.state ≠ .failed) (absent : r.hasListener q.requester = false)
    (refused : ((r.state = .engaged ∨ r.state = .held) ∧ r.privacy = true ∧ q.supervisor = false) ∧ reason = .isPrivate ∨
      ¬((r.state = .engaged ∨ r.state = .held) ∧ r.privacy = true ∧ q.supervisor = false) ∧
        16 ≤ r.listeners.length ∧ reason = .full) : r.refusal x q = some reason := by
  obtain ⟨-, -, -, -, listen⟩ := refusal_suited (x := x) (r := r) suits
  refine listen op ?_
  rw [LineRecord.listenRefusal, if_neg inService, if_neg sound, absent, if_neg Bool.false_ne_true]
  rcases refused with ⟨closed, rfl⟩ | ⟨opened, full, rfl⟩
  · rw [(closed_iff r _).mpr closed, firstReason_true]
  · rw [Bool.eq_false_iff.mpr fun h => opened ((closed_iff r _).mp h), firstReason_false,
      decide_eq_true (show r.listeners.length ≥ Config.listenerCapacity from full), firstReason_true]

end

/-! ### A refused ASK -/

theorem send_statusOf (target : Station) (b : Body) (s : State) (k : Fin 8) :
    (s.send target b).statusOf k = s.statusOf k := by
  obtain ⟨q, tr, mi, ml, lv, sent⟩ := alike_fields (send_alike target b s)
  rw [sent]
  rfl

/-- The request an ASK makes (R73). -/
def State.askedFor (s : State) (source : Station) (a : Ask) (op : AskOp) : LineRequest :=
  ⟨op, ⟨source, a.port⟩, a.secondPort, a.wanted, s.peerIsSupervisor source⟩

/-- A refused ASK leads to its REPLY and to nothing else (R73). -/
theorem takeAsk_refused {s : State} {source : Station} {a : Ask} {op : AskOp} {reason : AskReason} (asks : a.op = some op)
    (refused : s.requestRefusal a.line (s.askedFor source a op) = some reason) :
    s.takeAsk source a = s.reply source a (some reason) := by
  have kept : s.takeRequest a.line (s.askedFor source a op) = s := by
    unfold State.takeRequest
    rw [refused]
  cases found : s.recordFor a.line with
  | some k =>
    have taken : s.takeAsk source a = ((s.takeRequest a.line (s.askedFor source a op)).reply source a
        (s.requestRefusal a.line (s.askedFor source a op))).announceChange s k := by
      unfold State.takeAsk
      rw [asks]
      dsimp only
      rw [found]
      rfl
    rw [taken, kept, refused]
    exact if_pos (send_statusOf ..)
  | none =>
    have taken : s.takeAsk source a = (s.takeRequest a.line (s.askedFor source a op)).reply source a
        (s.requestRefusal a.line (s.askedFor source a op)) := by
      unfold State.takeAsk
      rw [asks]
      dsimp only
      rw [found]
      rfl
    rw [taken, kept, refused]

theorem requestRefusal_none {s : State} {line : LineNo} (q : LineRequest) (h : s.recordFor line = none) :
    s.requestRefusal line q = some .outOfService := by
  unfold State.requestRefusal
  rw [h]

theorem requestRefusal_some {s : State} {line : LineNo} {k : Fin 8} {r : LineRecord} (q : LineRequest)
    (h : s.recordFor line = some k) (stands : s.records[k] = some r) :
    s.requestRefusal line q = r.refusal (s.lineContext k) q := by
  unfold State.requestRefusal
  rw [h]
  dsimp only
  rw [stands]

/-- A REPLY that refuses an ASK waits where there is room (R73). -/
theorem reply_refuses {s : State} {source : Station} (a : Ask) (reason : AskReason) (active : s.stationState = .active) :
    s.RefusesAsk ((s.havingHeard source).reply source a (some reason)) source a reason :=
  ⟨send_alike .., fun room => send_carries source _ (s.havingHeard source) active room ⟨nofun, nofun⟩⟩

theorem ask_heard {s : State} {unit crc : List Octet} {source : Station} {a : Ask} {op : AskOp}
    (handed : s.HandsOn (unit ++ crc) source s.cfg.station (.ask a)) (asks : a.op = some op) :
    exec (askCommand unit crc op) s = .next ((s.havingHeard source).takeAsk source a) := by
  have heard : s.hearAs (·.asks (some op)) (unit ++ crc) = (s.havingHeard source).takeAsk source a :=
    hearAs_handsOn _ handed (by simp [Body.asks, asks]) nofun
  rw [← heard]
  cases op <;> rfl

theorem unknown_heard {s : State} {header body crc : List Octet} {source : Station} {a : Ask}
    (handed : s.HandsOn (header ++ body ++ crc) source s.cfg.station (.ask a)) (asks : a.op = none) :
    exec (.askUnknownOperation header body crc) s = .next ((s.havingHeard source).takeAsk source a) :=
  congrArg Host.Outcome.next (hearAs_handsOn _ handed (by simp [Body.asks, asks]) nofun)

/-- An ASK of an operation that R73 does not know. -/
theorem takeAsk_unknown {s : State} {source : Station} {a : Ask} (asks : a.op = none) :
    s.takeAsk source a = if (s.recordFor a.line).isNone then s.reply source a (some .outOfService) else s := by
  unfold State.takeAsk
  rw [asks]

/-- An ASK that the line's record refuses. -/
theorem ask_refused {s : State} {unit crc : List Octet} {source : Station} {a : Ask} {op : AskOp} {k : Fin 8}
    {r : LineRecord} {reason : AskReason} (home : s.AsksHome (unit ++ crc) source op a k r)
    (refused : r.refusal (s.lineContext k) (s.askedFor source a op) = some reason) :
    ∃ t, exec (askCommand unit crc op) s = .next t ∧ s.RefusesAsk t source a reason := by
  refine ⟨_, (ask_heard home.handed home.asks).trans (congrArg _ (takeAsk_refused home.asks ?_)),
    reply_refuses a reason home.handed.active⟩
  have supervised : (s.havingHeard source).askedFor source a op = s.askedFor source a op := by
    rw [State.askedFor, peerIsSupervisor_havingHeard]
    rfl
  rw [supervised]
  exact (requestRefusal_some (s := s.havingHeard source) _ home.found home.stands).trans refused

/-- Settles O32: a line without a record, an unknown operation, and the refusals of each operation in their order. -/
theorem refusedAsksChangeNothing : Obligations.RefusedAsksChangeNothing := by
  unfold Obligations.RefusedAsksChangeNothing
  intro s header body crc source a
  refine ⟨fun op handed asks elsewhere => ?_, fun handed asks => ⟨fun here => ?_, fun elsewhere => ?_⟩, ?_⟩
  · exact ⟨_, (ask_heard handed asks).trans (congrArg _ (takeAsk_refused asks (requestRefusal_none _ elsewhere))),
      reply_refuses a _ handed.active⟩
  · refine (unknown_heard handed asks).trans (congrArg _ ((takeAsk_unknown asks).trans (if_neg ?_)))
    exact fun none => here (Option.isNone_iff_eq_none.mp none)
  · refine ⟨_, (unknown_heard handed asks).trans (congrArg _ ((takeAsk_unknown asks).trans (if_pos ?_))),
      reply_refuses a _ handed.active⟩
    exact Option.isNone_iff_eq_none.mpr elsewhere
  · intro op k r reason home refused
    refine ask_refused home ?_
    rcases refused with ⟨unsuited, rfl⟩ | ⟨fits, drop, unlisten, out, rfl⟩ | ⟨fits, ops, failed, rfl⟩ |
      ⟨fits, ops, inService, sound, absent, rfl⟩ | ⟨fits, ops, inService, sound, refused⟩ |
      ⟨fits, ops, inService, sound, absent, refused⟩ | ⟨fits, ops, inService, sound, absent, refused⟩
    · exact refusal_unsuited unsuited
    · exact refusal_outOfService fits drop unlisten out
    · exact refusal_failed fits ops failed
    · exact refusal_notActive fits ops inService sound (hasMember_false absent)
    · refine refusal_resume fits ops inService sound ?_
      refine refused.imp (And.imp_left hasMember_false) ?_
      rintro ⟨held, other, taken, rfl⟩
      refine ⟨(hasMember_iff ..).mpr held, other, ?_, rfl⟩
      refine List.any_eq_true.mpr ?_
      rcases taken with ⟨e, he, party, -⟩ | ⟨e, he, party, -⟩
      · exact ⟨e, he, beq_iff_eq.mpr party⟩
      · exact ⟨e, he, beq_iff_eq.mpr party⟩
    · refine refusal_take fits ops inService sound (hasMember_false absent) ?_
      exact refused.imp (And.imp_left (hasMember_iff ..).mpr) (Or.imp (And.imp_left hasMember_false) (And.imp_left hasMember_false))
    · exact refusal_listen fits ops inService sound (hasListener_false absent) refused

end Sys2Proof.Machine
end

section
/-! SUPPORT. What the line controller's work changes of a station, said once: the frame of every announcement, of a record
put in place and of a change of home, and what of the position's and the speaker's entries it can only take away. -/

namespace Sys2Proof.Machine

/-! ### Entries that only go -/

/-- What the panel has set of a handset, its bindings apart. -/
def Handset.controls (x : Handset) : Bool × Bool × Nat := (x.onHook, x.muted, x.volume)

/-- What the panel has set of a speaker channel, its binding apart. -/
def Channel.controls (c : Channel) : Fin 2 × Nat × Bool := (c.output, c.volume, c.muted)

theorem Channel.ShedsTo.controls {a b : Channel} (h : a.ShedsTo b) : b.controls = a.controls := by
  obtain ⟨l, -, rfl⟩ := h
  rfl

/-- No entry of the position or the speaker that was not there before, and nothing that the panel has set changed. -/
structure State.Forgoes (s t : State) : Prop where
  bindings : ∀ h : Fin 2, ∀ b ∈ (t.handsets[h]).bindings, ∃ x ∈ (s.handsets[h]).bindings, x.circuit = b.circuit
  held : ∀ e ∈ t.held, ∃ x ∈ s.held, x.line = e.line
  asks : ∀ a ∈ t.pendingAsks, a ∈ s.pendingAsks
  channelBindings : ∀ k : Fin 8,
    (t.channels[k]).binding = (s.channels[k]).binding ∨ (t.channels[k]).binding = .unbound
  handsetControls : ∀ h : Fin 2, (t.handsets[h]).controls = (s.handsets[h]).controls
  channelControls : ∀ k : Fin 8, (t.channels[k]).controls = (s.channels[k]).controls

namespace State.Forgoes

variable {s t u : State}

theorem refl (s : State) : s.Forgoes s :=
  ⟨fun _ b hb => ⟨b, hb, rfl⟩, fun e he => ⟨e, he, rfl⟩, fun _ h => h, fun _ => .inl rfl, fun _ => rfl, fun _ => rfl⟩

theorem channels (p : s.Forgoes t) (k : Fin 8) (line : LineNo) (bound : (t.channels[k]).binding = .line line) :
    (s.channels[k]).binding = .line line := by
  rcases p.channelBindings k with same | off
  · exact same ▸ bound
  · rw [off] at bound
    cases bound

theorem trans (p : s.Forgoes t) (q : t.Forgoes u) : s.Forgoes u where
  bindings h b hb := by
    obtain ⟨x, hx, circuit⟩ := q.bindings h b hb
    obtain ⟨y, hy, circuit'⟩ := p.bindings h x hx
    exact ⟨y, hy, circuit'.trans circuit⟩
  held e he := by
    obtain ⟨x, hx, line⟩ := q.held e he
    obtain ⟨y, hy, line'⟩ := p.held x hx
    exact ⟨y, hy, line'.trans line⟩
  asks a ha := p.asks a (q.asks a ha)
  channelBindings k := by
    rcases q.channelBindings k with same | off
    · rcases p.channelBindings k with same' | off'
      · exact .inl (same.trans same')
      · exact .inr (same.trans off')
    · exact .inr off
  handsetControls h := (q.handsetControls h).trans (p.handsetControls h)
  channelControls k := (q.channelControls k).trans (p.channelControls k)

theorem of_same (handsets : t.handsets = s.handsets) (held : t.held = s.held) (asks : t.pendingAsks = s.pendingAsks)
    (channels : t.channels = s.channels) : s.Forgoes t :=
  ⟨fun _ b hb => ⟨b, handsets ▸ hb, rfl⟩, fun e he => ⟨e, held ▸ he, rfl⟩, fun _ ha => asks ▸ ha,
    fun _ => .inl (by rw [channels]), fun _ => by rw [handsets], fun _ => by rw [channels]⟩

theorem of_sheds (handsets : t.handsets = s.handsets) (held : t.held = s.held) (asks : t.pendingAsks = s.pendingAsks)
    (channels : ∀ k : Fin 8, (s.channels[k]).ShedsTo t.channels[k]) : s.Forgoes t :=
  ⟨fun _ b hb => ⟨b, handsets ▸ hb, rfl⟩, fun e he => ⟨e, held ▸ he, rfl⟩, fun _ ha => asks ▸ ha,
    fun k => .inl (channels k).binding, fun _ => by rw [handsets], fun k => (channels k).controls⟩

end State.Forgoes

/-! ### The work of the lines -/

/-- The work of the lines, of what they announce and of changes of home: nothing of the station's base changes, off the
floor nothing of the queue, notices only join, records stay where they stand. -/
structure State.LineWork (s t : State) : Prop where
  alike : t = { s with
    txQueue := t.txQueue, transmitting := t.transmitting, mediumIdle := t.mediumIdle, mediumLooks := t.mediumLooks
    live := t.live, records := t.records, taps := t.taps, recordingCount := t.recordingCount, ring := t.ring
    claimIndex := t.claimIndex, mirrors := t.mirrors, handsets := t.handsets, held := t.held
    pendingAsks := t.pendingAsks, tagCount := t.tagCount, channels := t.channels, sequences := t.sequences
    streams := t.streams, marks := t.marks, notices := t.notices, overflow := t.overflow }
  idle : s.stationState ≠ .active → t.txQueue = s.txQueue ∧ t.transmitting = s.transmitting ∧
    t.mediumIdle = s.mediumIdle ∧ t.mediumLooks = s.mediumLooks ∧ t.live = s.live
  lines : t.live.lines = s.live.lines
  queued : s.notices <+: t.notices
  present : ∀ k : Fin 8, (t.records[k]).isSome = (s.records[k]).isSome
  forgoes : s.Forgoes t

namespace State.LineWork

variable {s t u : State}

theorem refl (s : State) : s.LineWork s :=
  ⟨rfl, fun _ => ⟨rfl, rfl, rfl, rfl, rfl⟩, rfl, List.prefix_refl _, fun _ => rfl, .refl s⟩

theorem base (p : s.LineWork t) : t.base = s.base := by rw [p.alike]; rfl
theorem stationState (p : s.LineWork t) : t.stationState = s.stationState := congrArg Base.stationState p.base
theorem stationTime (p : s.LineWork t) : t.stationTime = s.stationTime := congrArg Base.stationTime p.base
theorem cfg (p : s.LineWork t) : t.cfg = s.cfg := congrArg Base.cfg p.base
theorem peers (p : s.LineWork t) : t.peers = s.peers := congrArg Base.peers p.base
theorem ports (p : s.LineWork t) : t.ports = s.ports := congrArg Base.ports p.base

theorem trans (p : s.LineWork t) (q : t.LineWork u) : s.LineWork u where
  alike := by rw [q.alike, p.alike]
  idle away := by
    obtain ⟨h1, h2, h3, h4, h5⟩ := p.idle away
    obtain ⟨g1, g2, g3, g4, g5⟩ := q.idle (p.stationState ▸ away)
    exact ⟨g1.trans h1, g2.trans h2, g3.trans h3, g4.trans h4, g5.trans h5⟩
  lines := q.lines.trans p.lines
  queued := p.queued.trans q.queued
  present k := (q.present k).trans (p.present k)
  forgoes := p.forgoes.trans q.forgoes

theorem foldl {α : Type} (f : State → α → State) (h : ∀ (s : State) a, s.LineWork (f s a)) (l : List α) (s : State) :
    s.LineWork (l.foldl f s) :=
  foldl_preserves (fun t => s.LineWork t) f (fun t a ht => ht.trans (h t a)) l s (.refl s)

theorem of_works (p : s.Works t) (forgoes : s.Forgoes t) : s.LineWork t where
  alike := by rw [p.alike]
  idle _ := by rw [p.alike]; exact ⟨rfl, rfl, rfl, rfl, rfl⟩
  lines := by rw [p.alike]
  queued := p.queued
  present k := by rw [p.records]
  forgoes := forgoes

theorem recordFor (p : s.LineWork t) (line : LineNo) : t.recordFor line = s.recordFor line := by
  unfold State.recordFor State.portCfg
  rw [p.cfg]
  congr 1
  funext k
  rw [p.present k]

theorem homeOf (p : s.LineWork t) (line : LineNo) : t.homeOf line = s.homeOf line := by
  have peers : t.peers = s.peers := congrArg Base.peers p.base
  have candidate : t.homeCandidate line = s.homeCandidate line := by
    funext q
    unfold State.homeCandidate State.peer State.onFloor
    rw [peers, p.cfg, p.stationState, p.recordFor line]
  rw [State.homeOf, State.homeOf, candidate]

theorem outCause (p : s.LineWork t) (k : Fin 8) (r : LineRecord) : t.outCause k r = s.outCause k r := by
  rw [outCause_eq, outCause_eq, inputs_of_base p.base]

end State.LineWork

/-! ### The queue and the notices -/

theorem offer_lines (target : Station) (b : Body) (s : State) : (s.send target b).live.lines = s.live.lines := by
  have accepted (e : TxEntry) (u : State) : (u.acceptEntry e).live = u.live := by
    unfold State.acceptEntry State.seizeMedium
    dsimp only
    repeat' split
    all_goals rfl
  unfold State.send State.offer
  split
  · unfold State.offerAllowed
    split
    · rfl
    · split
      · exact congrArg Counters.lines (accepted _ s)
      · split
        · rfl
        · split
          · refine (congrArg Counters.lines (accepted _ _)).trans ?_
            rfl
          · rfl
  · rfl

theorem send_lineWork (target : Station) (b : Body) (s : State) : s.LineWork (s.send target b) := by
  have lines := offer_lines target b s
  have silent := send_idle target b s
  obtain ⟨q, tr, mi, ml, lv, sent⟩ := alike_fields (send_alike target b s)
  refine ⟨?_, fun away => ?_, lines, ?_, fun k => ?_, ?_⟩
  · rw [sent]
  · rw [silent away]
    exact ⟨rfl, rfl, rfl, rfl, rfl⟩
  · rw [sent]
  · rw [sent]
  · rw [sent]
    exact .of_same rfl rfl rfl rfl

theorem notify_lineWork (e : Event) (s : State) : s.LineWork (s.notify e) :=
  .of_works (notify_judges e s).works (by
    obtain ⟨n, o, told⟩ := notifyAll_frame [e] s
    rw [show s.notify e = s.notifyAll [e] from rfl, told]
    exact .of_same rfl rfl rfl rfl)

theorem takeTag_lineWork (s : State) : s.LineWork s.takeTag :=
  ⟨rfl, fun _ => ⟨rfl, rfl, rfl, rfl, rfl⟩, rfl, List.prefix_refl _, fun _ => rfl, .of_same rfl rfl rfl rfl⟩

/-! ### A record put in place -/

theorem setRecord_lineWork {k : Fin 8} {r : LineRecord} {s : State} (stands : (s.records[k]).isSome = true) :
    s.LineWork (s.setRecord k r) := by
  refine ⟨rfl, fun _ => ⟨rfl, rfl, rfl, rfl, rfl⟩, rfl, List.prefix_refl _, fun j => ?_, .of_same rfl rfl rfl rfl⟩
  by_cases here : j = k
  · subst here
    rw [stands]
    simp [State.setRecord]
  · rw [show (s.setRecord k r).records[j] = s.records[j] from records_set_other here]

/-- What handing a line's parties to its tap changes (R175). -/
structure State.TapWork (s t : State) : Prop where
  alike : t = { s with
    taps := t.taps, recordingCount := t.recordingCount, ring := t.ring, claimIndex := t.claimIndex
    notices := t.notices, overflow := t.overflow }
  queued : s.notices <+: t.notices

namespace State.TapWork

variable {s t u : State}

theorem refl (s : State) : s.TapWork s := ⟨rfl, List.prefix_refl _⟩

theorem trans (p : s.TapWork t) (q : t.TapWork u) : s.TapWork u :=
  ⟨by rw [q.alike, p.alike], p.queued.trans q.queued⟩

theorem lineWork (p : s.TapWork t) : s.LineWork t := by
  have queued := p.queued
  refine ⟨by rw [p.alike], fun _ => ?_, by rw [p.alike], queued, fun k => by rw [p.alike], ?_⟩
  · rw [p.alike]
    exact ⟨rfl, rfl, rfl, rfl, rfl⟩
  · rw [p.alike]
    exact .of_same rfl rfl rfl rfl

end State.TapWork

theorem notify_tapWork (e : Event) (s : State) : s.TapWork (s.notify e) := by
  have alike := notify_alike e s
  have queued := (notify_notices e s).1
  generalize s.notify e = t at alike queued
  exact ⟨by rw [alike], queued⟩

theorem setTap_tapWork (k : Fin 8) (x : Tap) (s : State) : s.TapWork (s.setTap k x) := ⟨rfl, List.prefix_refl _⟩

theorem closeSegment_tapWork (x : Tap) (last : Bool) (s : State) : s.TapWork (s.closeSegment x last) := by
  unfold State.closeSegment
  split
  · exact ⟨rfl, List.prefix_refl _⟩
  · exact .refl s

theorem claimOrStarve_tapWork (k : Fin 8) (x : Tap) (s : State) : s.TapWork (s.claimOrStarve k x) := by
  unfold State.claimOrStarve
  split
  · next i u claimed =>
    unfold State.claim at claimed
    split at claimed
    · obtain ⟨-, rfl⟩ := Prod.mk.injEq .. ▸ Option.some.inj claimed
      exact ⟨rfl, List.prefix_refl _⟩
    · cases claimed
  · exact (setTap_tapWork k _ s).trans (notify_tapWork _ _)

theorem tapEvent_tapWork (k : Fin 8) (old : List (Party × Mode)) (s : State) : s.TapWork (s.tapEvent k old) := by
  unfold State.tapEvent
  split
  · exact .refl s
  · next x _ =>
    repeat' split
    · exact .refl s
    · unfold State.tapStart
      split
      · exact State.TapWork.trans (t := (s.beginRecording { x with lostPairs := 0#16 }).2) ⟨rfl, List.prefix_refl _⟩
          (claimOrStarve_tapWork ..)
      · exact setTap_tapWork ..
      · exact .refl s
      · exact .refl s
    · unfold State.tapEnd
      split
      · exact (closeSegment_tapWork ..).trans (setTap_tapWork ..)
      · exact setTap_tapWork ..
      · exact .refl s
      · exact .refl s
    · unfold State.tapPartyChange
      split
      · exact (closeSegment_tapWork ..).trans (claimOrStarve_tapWork ..)
      · exact .refl s

theorem State.Retunes.lineWork {s t : State} (p : s.Retunes t) : s.LineWork t :=
  .of_works (.of_retunes p) (by
    have channels := p.channels
    exact .of_sheds (by rw [p.alike]) (by rw [p.alike]) (by rw [p.alike]) channels)

theorem commitRecord_lineWork {k : Fin 8} {r : LineRecord} {s : State} (stands : (s.records[k]).isSome = true) :
    s.LineWork (s.commitRecord k r) :=
  ((setRecord_lineWork stands).trans (tapEvent_tapWork k _ _).lineWork).trans (syncStreams_retunes _).lineWork

theorem changeRecord_lineWork (k : Fin 8) (f : LineRecord → LineRecord) (s : State) :
    s.LineWork (s.changeRecord k f) := by
  unfold State.changeRecord
  split
  · next r stands => exact commitRecord_lineWork (by rw [stands]; rfl)
  · exact .refl s

theorem takeRequest_lineWork (line : LineNo) (q : LineRequest) (s : State) : s.LineWork (s.takeRequest line q) := by
  unfold State.takeRequest
  split
  · exact changeRecord_lineWork ..
  · exact .refl s

theorem restartRefresh_lineWork (k : Fin 8) (s : State) : s.LineWork (s.restartRefresh k) := by
  unfold State.restartRefresh
  split
  · next r stands =>
    split
    · exact setRecord_lineWork (by rw [stands]; rfl)
    · exact .refl s
  · exact .refl s

/-! ### STATE frames at the position and the speaker -/

theorem judgedBindings_circuits {keep : Bool} {c : Circuit} {bs : List Binding} {b : Binding}
    (listed : b ∈ judgedBindings keep c bs) : ∃ x ∈ bs, x.circuit = b.circuit := by
  have judged : b ∈ bs.map fun x => if x.circuit = c then { x with misses := missAfter keep x.misses } else x := by
    unfold judgedBindings at listed
    dsimp only at listed
    split at listed
    · exact List.mem_of_mem_filter listed
    · exact listed
  obtain ⟨x, hx, rfl⟩ := List.mem_map.mp judged
  refine ⟨x, hx, ?_⟩
  split <;> rfl

theorem judgedHeld_lines {s : State} {b : LineStatus} {e : HeldLine} (listed : e ∈ s.judgedHeld b) :
    ∃ x ∈ s.held, x.line = e.line := by
  obtain ⟨x, hx, rfl⟩ := List.mem_map.mp (List.mem_of_mem_filter listed)
  refine ⟨x, hx, ?_⟩
  split <;> rfl

/-- A STATE frame at the position changes its own tables, marks and notices, and the mirror of its line alone (R97). -/
theorem positionTakes_lineWork (source : Station) (b : LineStatus) (s : State) :
    s.Works (s.positionTakes source b).1 ∧ s.LineWork (s.positionTakes source b).1 ∧
    ∀ other : LineNo, other ≠ b.line → (s.positionTakes source b).1.mirrorOf other = s.mirrorOf other := by
  by_cases home : s.homeOf b.line = some source
  · obtain ⟨judged, mirrors, handsets, held, -⟩ := positionTakes_tells home _ rfl
    have others := (mirrorTakes_mirrors s b).2
    generalize (s.positionTakes source b).1 = t at judged mirrors handsets held ⊢
    refine ⟨judged.works, .of_works judged.works ⟨fun h x hx => ?_, fun e he => ?_, fun a ha => ?_, fun k => ?_,
      fun h => by rw [(handsets h).1]; rfl, fun k => (judged.channels k).controls⟩, fun other apart => ?_⟩
    · rw [(handsets h).1] at hx
      exact judgedBindings_circuits hx
    · rw [held] at he
      exact judgedHeld_lines he
    · rwa [judged.pendingAsks] at ha
    · exact .inl (judged.channels k).binding
    · rw [← others other apart]
      exact congrArg (List.find? fun m : Mirror => m.line == other) mirrors
  · have kept : s.positionTakes source b = (s, []) := if_neg home
    rw [kept]
    exact ⟨.refl s, .refl s, fun _ _ => rfl⟩

/-- Channels that lose their bindings or keep them, what the panel has set left alone. -/
def State.Unbinds (s t : State) : Prop :=
  ∀ k : Fin 8, ((t.channels[k]).binding = (s.channels[k]).binding ∨ (t.channels[k]).binding = .unbound) ∧
    (t.channels[k]).controls = (s.channels[k]).controls

theorem State.Unbinds.trans {s t u : State} (p : s.Unbinds t) (q : t.Unbinds u) : s.Unbinds u := fun k => by
  refine ⟨?_, (q k).2.trans (p k).2⟩
  rcases (q k).1 with same | off
  · rcases (p k).1 with same' | off'
    · exact .inl (same.trans same')
    · exact .inr (same.trans off')
  · exact .inr off

theorem State.Unbinds.refl (s : State) : s.Unbinds s := fun _ => ⟨.inl rfl, rfl⟩

theorem foldl_unbinds {α : Type} (f : State → α → State) (h : ∀ (s : State) a, s.Unbinds (f s a)) (l : List α) (s : State) :
    s.Unbinds (l.foldl f s) :=
  foldl_preserves (fun t => s.Unbinds t) f (fun t a ht => ht.trans (h t a)) l s (.refl s)

theorem turnOff_unbinds (k : Fin 8) (s : State) : s.Unbinds (s.turnOff k) := by
  have off := turnOff_turnsOff k s
  intro j
  by_cases here : j = k
  · subst here
    exact ⟨.inr (by rw [off.off]), by rw [off.off]; rfl⟩
  · exact ⟨.inl (off.others j here).binding, (off.others j here).controls⟩

theorem setChannel_unbinds (k : Fin 8) (c : Channel) (s : State) (same : c.binding = (s.channels[k]).binding)
    (controls : c.controls = (s.channels[k]).controls) : s.Unbinds (s.setChannel k c) := by
  intro j
  by_cases here : j = k
  · subst here
    rw [setChannel_here]
    exact ⟨.inl same, controls⟩
  · rw [setChannel_there k j c s fun h => here h.symm]
    exact ⟨.inl rfl, rfl⟩

theorem notify_unbinds (e : Event) (s : State) : s.Unbinds (s.notify e) := fun k => by
  rw [notify_channel]
  exact ⟨.inl rfl, rfl⟩

theorem lostChannel_unbinds (b : LineStatus) (s : State) (k : Fin 8) : s.Unbinds (s.lostChannel b k) := by
  unfold State.lostChannel
  split
  · dsimp only
    split
    · exact (turnOff_unbinds k s).trans (notify_unbinds _ _)
    · exact setChannel_unbinds k _ s rfl rfl
  · exact .refl s

theorem speakerTakes_unbinds (source : Station) (b : LineStatus) (s : State) :
    s.Unbinds (s.speakerTakes source b).1 := by
  unfold State.speakerTakes
  split
  · split
    · dsimp only
      refine foldl_unbinds _ (fun s k => ?_) _ s
      split
      · exact setChannel_unbinds k _ s rfl rfl
      · exact .refl s
    · dsimp only
      exact foldl_unbinds _ (lostChannel_unbinds b) _ s
  · exact .refl s

theorem Listens_lineWork {s t : State} (p : s.Listens t) (q : s.Unbinds t) : s.LineWork t := by
  exact .of_works p.works ⟨fun h b hb => ⟨b, p.handsets ▸ hb, rfl⟩, fun e he => ⟨e, p.held ▸ he, rfl⟩,
    fun _ ha => p.pendingAsks ▸ ha, fun k => (q k).1, fun h => by rw [p.handsets], fun k => (q k).2⟩

theorem speakerTakes_lineWork (source : Station) (b : LineStatus) (s : State) :
    s.LineWork (s.speakerTakes source b).1 :=
  Listens_lineWork (speakerTakes_listens source b s) (speakerTakes_unbinds source b s)

/-! ### Announcements -/

/-- The work of the lines of this home: the mirrors of other stations' lines stay. -/
structure State.HomeWork (s t : State) : Prop where
  work : s.LineWork t
  mirrors : ∀ line : LineNo, s.recordFor line = none → t.mirrorOf line = s.mirrorOf line

namespace State.HomeWork

variable {s t u : State}

theorem refl (s : State) : s.HomeWork s := ⟨.refl s, fun _ _ => rfl⟩

theorem trans (p : s.HomeWork t) (q : t.HomeWork u) : s.HomeWork u :=
  ⟨p.work.trans q.work, fun line foreign =>
    (q.mirrors line ((p.work.recordFor line).trans foreign)).trans (p.mirrors line foreign)⟩

theorem foldl {α : Type} (f : State → α → State) (h : ∀ (s : State) a, s.HomeWork (f s a)) (l : List α) (s : State) :
    s.HomeWork (l.foldl f s) :=
  foldl_preserves (fun t => s.HomeWork t) f (fun t a ht => ht.trans (h t a)) l s (.refl s)

theorem of_mirrors (work : s.LineWork t) (mirrors : t.mirrors = s.mirrors) : s.HomeWork t :=
  ⟨work, fun line _ => congrArg (List.find? fun m : Mirror => m.line == line) mirrors⟩

end State.HomeWork

theorem send_homeWork (target : Station) (b : Body) (s : State) : s.HomeWork (s.send target b) :=
  .of_mirrors (send_lineWork target b s) (by
    obtain ⟨q, tr, mi, ml, lv, sent⟩ := alike_fields (send_alike target b s)
    rw [sent])

theorem notify_homeWork (e : Event) (s : State) : s.HomeWork (s.notify e) :=
  .of_mirrors (notify_lineWork e s) (notify_mirrors e s)

theorem takeTag_homeWork (s : State) : s.HomeWork s.takeTag := .of_mirrors (takeTag_lineWork s) rfl

theorem setRecord_homeWork {k : Fin 8} {r : LineRecord} {s : State} (stands : (s.records[k]).isSome = true) :
    s.HomeWork (s.setRecord k r) := .of_mirrors (setRecord_lineWork stands) rfl

theorem commitRecord_homeWork {k : Fin 8} {r : LineRecord} {s : State} (stands : (s.records[k]).isSome = true) :
    s.HomeWork (s.commitRecord k r) := by
  refine .of_mirrors (commitRecord_lineWork stands) ?_
  unfold State.commitRecord
  dsimp only
  rw [(syncStreams_retunes _).alike]
  dsimp only
  rw [(tapEvent_tapWork k _ _).alike]
  rfl

theorem changeRecord_homeWork (k : Fin 8) (f : LineRecord → LineRecord) (s : State) :
    s.HomeWork (s.changeRecord k f) := by
  unfold State.changeRecord
  split
  · next r stands => exact commitRecord_homeWork (by rw [stands]; rfl)
  · exact .refl s

theorem takeRequest_homeWork (line : LineNo) (q : LineRequest) (s : State) : s.HomeWork (s.takeRequest line q) := by
  unfold State.takeRequest
  split
  · exact changeRecord_homeWork ..
  · exact .refl s

theorem restartRefresh_homeWork (k : Fin 8) (s : State) : s.HomeWork (s.restartRefresh k) := by
  unfold State.restartRefresh
  split
  · next r stands =>
    split
    · exact setRecord_homeWork (by rw [stands]; rfl)
    · exact .refl s
  · exact .refl s

theorem dropLocally_homeWork (announce : Fin 8 → State → State) (h : ∀ (k : Fin 8) (s : State), s.HomeWork (announce k s))
    (line : LineNo) (s : State) (p : Port) : s.HomeWork (s.dropLocally announce line p) := by
  unfold State.dropLocally
  split
  · dsimp only
    split
    · exact (takeTag_homeWork s).trans (takeRequest_homeWork ..)
    · exact ((takeTag_homeWork s).trans (takeRequest_homeWork ..)).trans (h ..)
  · exact takeTag_homeWork s

/-- The record of a port is found by the line that stands there. -/
theorem recordFor_stands {s : State} {k : Fin 8} (stands : (s.records[k]).isSome = true) :
    s.recordFor (s.portCfg k).line ≠ none := by
  intro none
  have absent := List.find?_eq_none.mp none k (mem_allPorts k)
  rw [stands] at absent
  simp at absent

theorem handOver_homeWork (announce : Fin 8 → State → State) (h : ∀ (k : Fin 8) (s : State), s.HomeWork (announce k s))
    (b : LineStatus) (s : State) (mine : s.recordFor b.line ≠ none) : s.HomeWork (s.handOver announce b) := by
  rw [handOver_eq]
  split
  · obtain ⟨-, work, mirrors⟩ := positionTakes_lineWork s.cfg.station b s
    generalize s.positionTakes s.cfg.station b = p at work mirrors ⊢
    have first : s.HomeWork p.1 := ⟨work, fun line foreign => mirrors line fun same => mine (same ▸ foreign)⟩
    have second : p.1.HomeWork (p.1.speakerTakes s.cfg.station b).1 :=
      .of_mirrors (speakerTakes_lineWork ..) (speakerTakes_listens ..).mirrors
    exact (first.trans second).trans (.foldl _ (fun s p => dropLocally_homeWork announce h b.line s p) _ _)
  · exact .refl s

theorem announceWithin_homeWork (n : Nat) (k : Fin 8) (s : State) : s.HomeWork (s.announceWithin n k) := by
  induction n generalizing k s with
  | zero => exact .refl s
  | succ n ih =>
    unfold State.announceWithin
    split
    · next b status =>
      obtain ⟨r, stands, rfl⟩ := Option.map_eq_some_iff.mp status
      have offered := (send_homeWork Config.allStations (.state (s.lineStatus k r)) s).trans (restartRefresh_homeWork k _)
      refine offered.trans (handOver_homeWork _ (fun k s => ih k s) _ _ ?_)
      rw [offered.work.recordFor]
      exact recordFor_stands (by rw [stands]; rfl)
    · exact .refl s

theorem announce_homeWork (k : Fin 8) (s : State) : s.HomeWork (s.announce k) := announceWithin_homeWork ..

theorem announceChange_homeWork (before : State) (k : Fin 8) (s : State) : s.HomeWork (s.announceChange before k) := by
  unfold State.announceChange
  split
  · exact .refl s
  · exact announce_homeWork k s

/-- Off the floor nothing is announced (R90). -/
theorem announce_away {s : State} (k : Fin 8) (away : s.onFloor = false) : s.announce k = s := by
  have off : s.stationState ≠ .active := by
    rintro active
    rw [State.onFloor, active] at away
    cases away
  have silent (u : State) (h : u.stationState ≠ .active) : u.restartRefresh k = u := by
    unfold State.restartRefresh
    split
    · exact if_neg fun active => h ((isActive_iff u).mp active)
    · rfl
  rw [State.announce, show Config.announceDepth = (Config.announceDepth - 1) + 1 from rfl, State.announceWithin]
  split
  · rw [send_idle _ _ s off, silent s off, handOver_eq, if_neg (by rw [away]; exact Bool.false_ne_true)]
  · rfl

end Sys2Proof.Machine
end

section
/-! SUPPORT. What an announcement leaves of a line's record: entries of other stations stay, the far-end signalling and the
conflict mark stay, and a derived state stays (R66, R89, R90, R114, R138). -/

namespace Sys2Proof.Machine

/-! ### Changes of home and conflict sightings -/

theorem homeChanged_lineWork (old : Option Station) (line : LineNo) (s : State) : s.LineWork (s.homeChanged old line) := by
  refine .of_works (homeChanged_works old line s) ?_
  obtain ⟨-, -, -, -, -, kept, lost⟩ := homeChanged_tells s _ old line rfl
  generalize s.homeChanged old line = t at kept lost ⊢
  cases old with
  | none =>
    obtain ⟨handsets, held, asks, channels⟩ := kept rfl
    exact .of_same handsets held asks channels
  | some st =>
    obtain ⟨handsets, held, asks, channels, -⟩ := lost (Option.some_ne_none st)
    refine ⟨fun h b hb => ?_, fun e he => ?_, fun a ha => ?_, fun k => ?_, fun h => by rw [handsets h]; rfl,
      fun k => ?_⟩
    · rw [handsets] at hb
      exact ⟨b, List.mem_of_mem_filter hb, rfl⟩
    · rw [held] at he
      exact ⟨e, List.mem_of_mem_filter he, rfl⟩
    · rw [asks] at ha
      exact List.mem_of_mem_filter ha
    · by_cases here : (s.channels[k]).binding = .line line
      · exact .inr (by rw [(channels k).1 here])
      · exact .inl (by rw [(channels k).2 here])
    · by_cases here : (s.channels[k]).binding = .line line
      · rw [(channels k).1 here]
        rfl
      · rw [(channels k).2 here]
        rfl

theorem followHomes_lineWork (before s : State) : s.LineWork (s.followHomes before) := by
  refine .foldl _ (fun t line => ?_) _ s
  split
  · exact .refl t
  · exact homeChanged_lineWork ..

theorem sightConflict_homeWork (k : Fin 8) (p : Station) (s : State) : s.HomeWork (s.sightConflict k p) := by
  unfold State.sightConflict
  split
  · exact .refl s
  · next r stands =>
    have some : (s.records[k]).isSome = true := by rw [stands]; rfl
    split
    · exact setRecord_homeWork some
    · exact ((commitRecord_homeWork some).trans (notify_homeWork _ _)).trans (announce_homeWork _ _)

theorem sightCard_homeWork (p : Station) (s : State) : s.HomeWork (s.sightCard p) := by
  unfold State.sightCard
  split
  · refine .foldl _ (fun s k => ?_) _ s
    split
    · exact sightConflict_homeWork ..
    · exact .refl s
  · exact .refl s

theorem returnToService_homeWork (k : Fin 8) (s : State) : s.HomeWork (s.returnToService k) := by
  unfold State.returnToService
  split
  · next r stands =>
    split <;> exact commitRecord_homeWork (by rw [stands]; rfl)
  · exact .refl s

/-! ### Records at rest -/

/-- What stays of a record, while nobody of another station joins or leaves: its lists, its far-end signalling, its
conflict mark, out-ring once off, and its state if it was derived. -/
structure LineRecord.Rests (out : Bool) (a : Alarms) (r r' : LineRecord) : Prop where
  members : r'.members = r.members
  listeners : r'.listeners = r.listeners
  far : r'.farSignalling = r.farSignalling
  conflict : r'.conflict = r.conflict
  ring : r.outRing = none → r'.outRing = none
  state : r.state = r.derive out a → r'.state = r.state

namespace LineRecord.Rests

variable {out : Bool} {a : Alarms} {r r' r'' : LineRecord}

theorem refl (r : LineRecord) : r.Rests out a r := ⟨rfl, rfl, rfl, rfl, id, fun _ => rfl⟩

theorem derive (p : r.Rests out a r') : r'.derive out a = r.derive out a :=
  derive_congr out a (by rw [p.members]) p.far

theorem trans (p : r.Rests out a r') (q : r'.Rests out a r'') : r.Rests out a r'' where
  members := q.members.trans p.members
  listeners := q.listeners.trans p.listeners
  far := q.far.trans p.far
  conflict := q.conflict.trans p.conflict
  ring off := q.ring (p.ring off)
  state derived := (q.state (by rw [p.state derived, p.derive]; exact derived)).trans (p.state derived)

end LineRecord.Rests

/-- Settling leaves a record at rest, its lists empty where an out-of-service cause holds. -/
theorem settle_rests {out : Bool} {a : Alarms} {r : LineRecord} (before : LineState) (c : PortSettings) (n : Nat)
    (empty : out = true → r.members = [] ∧ r.listeners = []) : r.Rests out a (r.settle before c out a n) := by
  have derived : (r.settle before c out a n).state = (if out then r.emptied else r).derive out a := rfl
  cases out with
  | false =>
    refine ⟨rfl, rfl, rfl, rfl, fun off => ?_, fun state => derived.trans state.symm⟩
    show (if r.derive false a = .engaged then r.outRing else none) = none
    rw [off, ite_self]
  | true =>
    obtain ⟨members, listeners⟩ := empty rfl
    exact ⟨members.symm, listeners.symm, rfl, rfl, fun _ => rfl, fun state => derived.trans state.symm⟩

/-- The record that a change put in place leaves. -/
theorem commitRecord_here (k : Fin 8) (r : LineRecord) (s : State) : ∃ before : LineState,
    (s.commitRecord k r).records[k] =
      some (r.settle before (s.portCfg k) (s.outCause k r) (s.ports[k]).alarms (s.blocks 10000)) := by
  rw [commitRecord_records, Fin.getElem_fin, Vector.getElem_set_self]
  exact ⟨_, rfl⟩

/-- A line whose record rests while the station's base stays. -/
structure State.KeepsLine (s : State) (k : Fin 8) (r : LineRecord) (t : State) : Prop where
  base : t.base = s.base
  record : ∃ r' : LineRecord, t.records[k] = some r' ∧ r.Rests (s.outCause k r) (s.ports[k]).alarms r'

section
variable {s t : State} {k : Fin 8} {r : LineRecord}

theorem State.KeepsLine.of_record {u : State} (p : s.KeepsLine k r t) (base : u.base = t.base)
    (record : u.records[k] = t.records[k]) : s.KeepsLine k r u :=
  ⟨base.trans p.base, by rw [record]; exact p.record⟩

theorem State.KeepsLine.of_works {u : State} (p : s.KeepsLine k r t) (w : t.Works u) : s.KeepsLine k r u :=
  p.of_record w.base (by rw [w.records])

/-- A record put in place that rests. -/
theorem commitRecord_keepsLine (p : s.KeepsLine k r t) (j : Fin 8) (x : LineRecord)
    (rests : j = k → r.Rests (s.outCause k r) (s.ports[k]).alarms x)
    (empty : s.outCause k r = true → r.members = [] ∧ r.listeners = []) : s.KeepsLine k r (t.commitRecord j x) := by
  by_cases here : j = k
  · subst here
    have rest := rests rfl
    have inputs := inputs_of_base p.base j
    have out : t.outCause j x = s.outCause j r := by
      rw [outCause_eq, outCause_eq, inputs, rest.conflict]
    have alarms : (t.ports[j]).alarms = (s.ports[j]).alarms := congrArg (fun i => i.2.2.1) inputs
    obtain ⟨before, record⟩ := commitRecord_here j x t
    refine ⟨(commitRecord_base j x t).trans p.base, _, record, rest.trans ?_⟩
    rw [out, alarms]
    exact settle_rests _ _ _ fun cause => by
      rw [rest.members, rest.listeners]
      exact empty cause
  · exact p.of_record (commitRecord_base j x t) (commitRecord_other (Ne.symm here))

/-- A DROP of a station's own entry leaves a record without own entries at rest. -/
theorem dropped_rests {out : Bool} {a : Alarms} {own : Station} {x : LineRecord} {q : Party} (foreign : x.foreign own)
    (mine : q.station = own) : x.Rests out a (x.dropped q) := by
  have others (l : Party) (h : l.station ≠ own) : (l != q) = true :=
    bne_iff_ne.mpr fun same => h (same ▸ mine)
  refine ⟨List.filter_eq_self.mpr fun m hm => others _ (foreign.1 m hm),
    List.filter_eq_self.mpr fun l hl => others _ (foreign.2 l hl), rfl, rfl, id, fun _ => rfl⟩

theorem LineRecord.Rests.foreign {out : Bool} {a : Alarms} {own : Station} {x x' : LineRecord} (p : x.Rests out a x')
    (foreign : x.foreign own) : x'.foreign own := by
  unfold LineRecord.foreign
  rw [p.members, p.listeners]
  exact foreign

theorem dropRequest_keepsLine (p : s.KeepsLine k r t) (foreign : r.foreign s.cfg.station)
    (empty : s.outCause k r = true → r.members = [] ∧ r.listeners = []) (line : LineNo) (q : LineRequest) (op : q.op = .drop)
    (mine : q.requester.station = s.cfg.station) : s.KeepsLine k r (t.takeRequest line q) := by
  unfold State.takeRequest
  split
  · next j _ _ =>
    unfold State.changeRecord
    split
    · next x stands =>
      refine commitRecord_keepsLine p j _ (fun here => ?_) empty
      subst here
      obtain ⟨r', record, rests⟩ := p.record
      obtain rfl := Option.some.inj (stands.symm.trans record)
      have granted : x.granted (t.lineContext j) q = x.dropped q.requester := by rw [LineRecord.granted, op]
      dsimp only
      rw [granted]
      exact rests.trans (dropped_rests (rests.foreign foreign) mine)
    · exact p
  · exact p

theorem restartRefresh_keepsLine (p : s.KeepsLine k r t) (j : Fin 8) : s.KeepsLine k r (t.restartRefresh j) := by
  unfold State.restartRefresh
  split
  · next x stands =>
    split
    · by_cases here : j = k
      · subst here
        obtain ⟨r', record, rests⟩ := p.record
        obtain rfl := Option.some.inj (stands.symm.trans record)
        refine ⟨p.base, { x with refresh := some (t.blocks 500) }, ?_, rests.trans ⟨rfl, rfl, rfl, rfl, id, fun _ => rfl⟩⟩
        rw [State.setRecord, Fin.getElem_fin, Vector.getElem_set_self]
      · exact p.of_record rfl (records_set_other (Ne.symm here))
    · exact p
  · exact p

theorem dropLocally_keepsLine (announce : Fin 8 → State → State)
    (h : ∀ (j : Fin 8) (u : State), s.KeepsLine k r u → s.KeepsLine k r (announce j u)) (foreign : r.foreign s.cfg.station)
    (empty : s.outCause k r = true → r.members = [] ∧ r.listeners = []) (line : LineNo) (u : State) (x : Port)
    (p : s.KeepsLine k r u) : s.KeepsLine k r (u.dropLocally announce line x) := by
  have tagged : s.KeepsLine k r u.takeTag := p.of_record rfl rfl
  have mine : u.cfg.station = s.cfg.station := congrArg (fun b => b.cfg.station) p.base
  unfold State.dropLocally
  split
  · have dropped := dropRequest_keepsLine tagged foreign empty line (u.ownRequest .drop x x false) rfl mine
    dsimp only
    split
    · exact dropped
    · exact h _ _ dropped
  · exact tagged

/-- An announcement leaves a line without own entries at rest (R90, R114, R138). -/
theorem announceWithin_keepsLine (foreign : r.foreign s.cfg.station)
    (empty : s.outCause k r = true → r.members = [] ∧ r.listeners = []) (n : Nat) (j : Fin 8) (t : State)
    (p : s.KeepsLine k r t) : s.KeepsLine k r (t.announceWithin n j) := by
  induction n generalizing j t with
  | zero => exact p
  | succ n ih =>
    unfold State.announceWithin
    split
    · next b _ =>
      have offered : s.KeepsLine k r ((t.send Config.allStations (.state b)).restartRefresh j) :=
        restartRefresh_keepsLine (p.of_record (send_base ..) (by rw [send_records])) j
      generalize State.restartRefresh j _ = u at offered
      rw [handOver_eq]
      split
      · have positioned := offered.of_works (positionTakes_lineWork u.cfg.station b u).1
        have spoken := positioned.of_works (speakerTakes_listens u.cfg.station b (u.positionTakes u.cfg.station b).1).works
        exact foldl_preserves _ _ (fun v x hv => dropLocally_keepsLine _ (fun j v hv => ih j v hv) foreign empty _ v x hv)
          _ _ spoken
      · exact offered
    · exact p

theorem announceChange_keepsLine (foreign : r.foreign s.cfg.station)
    (empty : s.outCause k r = true → r.members = [] ∧ r.listeners = []) (before : State) (j : Fin 8)
    (p : s.KeepsLine k r t) : s.KeepsLine k r (t.announceChange before j) := by
  unfold State.announceChange
  split
  · exact p
  · exact announceWithin_keepsLine foreign empty _ j t p

theorem State.KeepsLine.start (stands : s.records[k] = some r) : s.KeepsLine k r s := ⟨rfl, r, stands, .refl r⟩

end

/-! ### Lines without entries of the station's own -/

theorem orphans_none {s : State} {b : LineStatus} (foreign : ∀ m ∈ b.members, m.party.station ≠ s.cfg.station) :
    s.orphans b = [] := by
  unfold State.orphans
  split
  · rfl
  · rw [List.filter_eq_nil_iff.mpr fun m hm => ?_]
    · rfl
    · rw [State.isOrphan, beq_eq_false_iff_ne.mpr (foreign m hm), Bool.false_and]
      exact Bool.false_ne_true

theorem orphanListeners_none {s : State} {b : LineStatus} (foreign : ∀ p ∈ b.listeners, p.station ≠ s.cfg.station) :
    b.listeners.filter (s.isOrphanListener b.line) = [] :=
  List.filter_eq_nil_iff.mpr fun p hp => by
    rw [State.isOrphanListener, beq_eq_false_iff_ne.mpr (foreign p hp), Bool.false_and]
    exact Bool.false_ne_true

/-- A STATE frame without own entries owes no DROP (R114, R138). -/
theorem takes_foreign {s : State} {source : Station} {b : LineStatus}
    (members : ∀ m ∈ b.members, m.party.station ≠ s.cfg.station) (listeners : ∀ p ∈ b.listeners, p.station ≠ s.cfg.station) :
    (s.positionTakes source b).2 = [] ∧ (s.speakerTakes source b).2 = [] := by
  have cfg : (s.mirrorTakes b).cfg = s.cfg := (mirrorTakes_judges b s).works.cfg
  constructor
  · unfold State.positionTakes
    split
    · exact orphans_none (by rw [cfg]; exact members)
    · rfl
  · unfold State.speakerTakes
    split
    · split
      · rfl
      · rw [orphanListeners_none listeners]
        rfl
    · rfl

/-- An announcement of a line without own entries: the offer, the refresh, and what the station's own blocks take of it
(R89, R90). -/
theorem announce_foreign {s : State} {k : Fin 8} {r : LineRecord} (stands : s.records[k] = some r)
    (foreign : r.foreign s.cfg.station) :
    State.Works ((s.send Config.allStations (.state (s.lineStatus k r))).restartRefresh k) (s.announce k) := by
  obtain ⟨members, listeners⟩ := foreign
  have status : s.statusOf k = some (s.lineStatus k r) := by rw [State.statusOf, stands]; rfl
  have offered := (send_lineWork Config.allStations (.state (s.lineStatus k r)) s).trans (restartRefresh_lineWork k _)
  rw [State.announce, show Config.announceDepth = (Config.announceDepth - 1) + 1 from rfl, State.announceWithin, status]
  dsimp only
  generalize State.restartRefresh k _ = u at offered ⊢
  have cfg := offered.cfg
  have works := (positionTakes_lineWork u.cfg.station (s.lineStatus k r) u).1
  have positioned := (takes_foreign (s := u) (source := u.cfg.station) (b := s.lineStatus k r)
    (by rw [cfg]; simpa [State.lineStatus] using members) (by rw [cfg]; simpa [State.lineStatus] using listeners)).1
  have spoken := (takes_foreign (s := (u.positionTakes u.cfg.station (s.lineStatus k r)).1) (source := u.cfg.station)
    (b := s.lineStatus k r) (by rw [works.cfg, cfg]; simpa [State.lineStatus] using members)
    (by rw [works.cfg, cfg]; simpa [State.lineStatus] using listeners)).2
  rw [handOver_eq, positioned, spoken]
  split
  · exact works.trans (speakerTakes_listens ..).works
  · exact .refl u

end Sys2Proof.Machine
end

section
/-! PROOFS. JOIN: the entry to LISTENING and the lines that return (R34, R35, R67). -/

namespace Sys2Proof.Machine

theorem followHomes_works (before s : State) : s.Works (s.followHomes before) := by
  refine .foldl _ (fun t line => ?_) _ s
  split
  · exact .refl t
  · exact homeChanged_works ..

/-- One line after the station cause has ended (R35). -/
def State.lineReturns (s : State) (k : Fin 8) : State := (s.returnToService k).announceChange s k

theorem linesReturn_eq (s : State) : s.linesReturn = allPorts.foldl State.lineReturns s := rfl

theorem lineReturns_lineWork (s : State) (k : Fin 8) : s.LineWork (s.lineReturns k) :=
  ((returnToService_homeWork k s).trans (announceChange_homeWork s k _)).work

theorem lineReturns_other {s t : State} {j k : Fin 8} {r : LineRecord} (apart : j ≠ k) (p : s.KeepsLine k r t)
    (foreign : r.foreign s.cfg.station) (empty : s.outCause k r = true → r.members = [] ∧ r.listeners = []) :
    s.KeepsLine k r (t.lineReturns j) := by
  refine announceChange_keepsLine foreign empty t j ?_
  unfold State.returnToService
  split
  · next x stands =>
    split
    · exact commitRecord_keepsLine p j _ (fun here => absurd here apart) empty
    · exact commitRecord_keepsLine p j _ (fun here => absurd here apart) empty
  · exact p

theorem derive_empty {a : Alarms} {r : LineRecord} (none : r.members = []) : r.derive false a =
    if a.los = true ∨ a.lol = true ∨ a.labelMismatch = true then .failed
    else if r.farSignalling = .ring then .ringingIn else .idle := by
  rw [LineRecord.derive, none]
  simp only [Bool.false_eq_true, if_false, List.any_nil, Alarms.failing, Bool.or_eq_true, or_assoc]

/-- An empty line that no cause keeps out comes back with the framer's signalling (R67). -/
theorem lineReturns_here {t : State} {k : Fin 8} {r : LineRecord} (stands : t.records[k] = some r)
    (members : r.members = []) (listeners : r.listeners = []) (inService : t.outCause k r = false) :
    ∃ r' : LineRecord, r'.members = [] ∧ r'.listeners = [] ∧ r'.farSignalling = (t.ports[k]).accepted ∧
      r'.state = r'.derive false (t.ports[k]).alarms ∧ r'.conflict = r.conflict ∧ t.outCause k r' = false ∧
      ∀ old : State, (t.returnToService k).KeepsLine k r' ((t.returnToService k).announceChange old k) := by
  have returned : t.returnToService k = t.commitRecord k { r with farSignalling := (t.ports[k]).accepted } := by
    unfold State.returnToService
    rw [stands]
    dsimp only
    rw [inService]
    exact if_neg Bool.false_ne_true
  have cause : t.outCause k { r with farSignalling := (t.ports[k]).accepted } = false := inService
  obtain ⟨before, record⟩ := commitRecord_here k { r with farSignalling := (t.ports[k]).accepted } t
  rw [cause] at record
  rw [← returned] at record
  have rests := settle_rests (out := false) (a := (t.ports[k]).alarms) (r := { r with farSignalling := (t.ports[k]).accepted })
    before (t.portCfg k) (t.blocks 10000) nofun
  have state : (LineRecord.settle before (t.portCfg k) false (t.ports[k]).alarms (t.blocks 10000)
      { r with farSignalling := (t.ports[k]).accepted }).state =
      LineRecord.derive false (t.ports[k]).alarms { r with farSignalling := (t.ports[k]).accepted } := rfl
  generalize LineRecord.settle before _ _ _ _ _ = r' at record rests state
  have out' : t.outCause k r' = false := by
    rw [outCause_eq, rests.conflict, ← outCause_eq]
    exact inService
  refine ⟨r', rests.members.trans members, rests.listeners.trans listeners, rests.far, state.trans rests.derive.symm,
    rests.conflict, out', fun old => ?_⟩
  refine announceChange_keepsLine ⟨?_, ?_⟩ (fun _ => ⟨rests.members.trans members, rests.listeners.trans listeners⟩) old k
    (.start record)
  · rw [rests.members, show LineRecord.members { r with farSignalling := _ } = r.members from rfl, members]
    exact List.forall_mem_nil _
  · rw [rests.listeners, show LineRecord.listeners { r with farSignalling := _ } = r.listeners from rfl, listeners]
    exact List.forall_mem_nil _

theorem State.KeepsLine.rebase {s t u : State} {k : Fin 8} {r : LineRecord} (p : t.KeepsLine k r u) (base : t.base = s.base) :
    s.KeepsLine k r u := by
  obtain ⟨r', record, rests⟩ := p.record
  have inputs := inputs_of_base base k
  have alarms : (t.ports[k]).alarms = (s.ports[k]).alarms := congrArg (fun i => i.2.2.1) inputs
  refine ⟨p.base.trans base, r', record, ?_⟩
  rwa [outCause_eq, inputs, ← outCause_eq, alarms] at rests

/-- The lines return: an empty one of them that no cause keeps out is as its port gives it (R35, R67). -/
theorem linesReturn_returns {s : State} {k : Fin 8} {r : LineRecord} (stands : s.records[k] = some r)
    (members : r.members = []) (listeners : r.listeners = []) (inService : s.outCause k r = false) :
    ∃ r' : LineRecord, s.linesReturn.records[k] = some r' ∧ r'.members = [] ∧ r'.listeners = [] ∧
      r'.farSignalling = (s.ports[k]).accepted ∧ r'.state = r'.derive false (s.ports[k]).alarms := by
  have vacant (x : LineRecord) (m : x.members = []) (l : x.listeners = []) : x.foreign s.cfg.station := by
    refine ⟨?_, ?_⟩
    · rw [m]; exact List.forall_mem_nil _
    · rw [l]; exact List.forall_mem_nil _
  have others (x : LineRecord) (m : x.members = []) (l : x.listeners = []) (ports : List (Fin 8)) (absent : k ∉ ports)
      (t : State) (p : s.KeepsLine k x t) : s.KeepsLine k x (ports.foldl State.lineReturns t) := by
    induction ports generalizing t with
    | nil => exact p
    | cons j ports ih =>
      rw [List.mem_cons, not_or] at absent
      exact ih absent.2 _ (lineReturns_other (Ne.symm absent.1) p (vacant x m l) fun _ => ⟨m, l⟩)
  obtain ⟨split, before, after⟩ := ports_split k
  rw [linesReturn_eq, split, List.foldl_append, List.foldl_cons]
  have first := others r members listeners _ before s (.start stands)
  generalize List.foldl State.lineReturns s (allPorts.take k.val) = t at first ⊢
  obtain ⟨x, record, rests⟩ := first.record
  have inputs := inputs_of_base first.base k
  have alarms : (t.ports[k]).alarms = (s.ports[k]).alarms := congrArg (fun i => i.2.2.1) inputs
  have ports : t.ports = s.ports := congrArg Base.ports first.base
  have cause : t.outCause k x = false := by
    rw [outCause_eq, inputs, rests.conflict, ← outCause_eq]
    exact inService
  obtain ⟨y, members', listeners', far, state, -, causeY, kept⟩ := lineReturns_here record (rests.members.trans members)
    (rests.listeners.trans listeners) cause
  have base : (t.returnToService k).base = s.base := (returnToService_homeWork k t).work.base.trans first.base
  have last := others y members' listeners' _ after _ ((kept t).rebase base)
  obtain ⟨z, record', rests'⟩ := last.record
  have inputsY : s.outCause k y = false := by
    rw [outCause_eq, ← inputs, ← outCause_eq]
    exact causeY
  rw [inputsY] at rests'
  rw [ports] at far
  rw [alarms] at state
  exact ⟨z, record', rests'.members.trans members', rests'.listeners.trans listeners', rests'.far.trans far,
    ((rests'.state state).trans state).trans rests'.derive.symm⟩

/-- Settles O18: the entry to LISTENING follows the homes and returns the lines; off ACTIVE nothing is sent. -/
theorem joinEntersListening : Obligations.JoinEntersListening := by
  unfold Obligations.JoinEntersListening
  intro s answers
  refine ⟨fun state => ?_, fun state => request_refused _ answers ?_, fun state => request_refused _ answers ?_⟩
  · have allowed : s.joinRefusal = none := by
      rcases state with state | state <;> rw [State.joinRefusal, state]
    let s1 : State := { s.enter .listening with clashWindow := [], listenTimer := some (s.blocks 300) }
    have followed := (followHomes_lineWork s s1).trans (.foldl _ lineReturns_lineWork allPorts _)
    have records : (s1.followHomes s).records = s.records := (followHomes_works s s1).records
    have returns (k : Fin 8) (r : LineRecord) := linesReturn_returns (s := s1.followHomes s) (k := k) (r := r)
    have homes := followHomes_lineWork s s1
    have whole : s.enterListening = (s1.followHomes s).linesReturn := rfl
    rw [← linesReturn_eq] at followed
    refine ⟨_, request_done answers allowed, ?_⟩
    rw [whole]
    generalize s1.followHomes s = u at followed records returns homes ⊢
    generalize u.linesReturn = t at followed returns ⊢
    obtain ⟨queue, sending, -, -, live⟩ := followed.idle (show StationState.listening ≠ .active from nofun)
    have base : t.base = s1.base := followed.base
    refine ⟨congrArg (fun b : Base => { b with panelAnswer := some ⟨1#8, .done, []⟩ }) base, queue, sending, live, ?_⟩
    intro k r stands members listeners conflict out
    have cause : u.outCause k r = false := by
      rw [homes.outCause]
      have fields : s1.outCause k r = ((s.ports[k]).out || r.conflict.isSome || false) := rfl
      rw [fields, out, conflict]
      rfl
    have ports : u.ports = s.ports := congrArg Base.ports homes.base
    obtain ⟨r', record, members', listeners', far, derived⟩ := returns k r (by rw [records]; exact stands) members listeners
      cause
    rw [ports] at far derived
    exact ⟨r', record, members', listeners', far, by rw [derived, derive_empty members', far]⟩
  · rcases state with state | state <;> rw [State.joinRefusal, state]
  · rcases state with state | state | state <;> rw [State.joinRefusal, state]

end Sys2Proof.Machine
end

section
/-! PROOFS. The entry to ACTIVE: a STATE for every home line and a BEACON (R33). -/

namespace Sys2Proof.Machine

/-! ### Offers that replace nothing -/

/-- An offer in ACTIVE with room that replaces no entry puts its entry in among the others (R3, R7). -/
theorem send_fresh (target : Station) (b : Body) (s : State) (active : s.stationState = .active)
    (room : s.txQueue.length < 24) (fresh : ∀ e ∈ s.txQueue, b.replaces e.body = false) :
    ∃ pre post : List TxEntry, s.txQueue = pre ++ post ∧ (s.send target b).txQueue = pre ++ s.newEntry target b :: post := by
  have waiting (e : TxEntry) (he : e ∈ s.waiting) : b.replaces e.body = false := by
    refine fresh e ?_
    rw [← inTransmission_waiting s]
    exact List.mem_append_right _ he
  have accepted : s.send target b = s.acceptEntry (s.newEntry target b) := by
    unfold State.send State.offer State.offerAllowed
    rw [if_pos ((isActive_iff s).mpr active), replaceIn_none _ _ _ waiting]
    exact congrArg Prod.fst (if_pos (show s.txQueue.length < Config.queueCapacity from room))
  obtain ⟨pre, post, split, placed⟩ := placeEntry_inserts (s.newEntry target b) s.waiting
  rw [accepted, acceptEntry_txQueue]
  exact ⟨s.inTransmission ++ pre, post, by rw [List.append_assoc, ← split, inTransmission_waiting],
    by rw [placed, List.append_assoc]⟩

/-- What such an offer leaves in the queue. -/
theorem send_fresh_holds {target : Station} {b : Body} {s : State} (active : s.stationState = .active)
    (room : s.txQueue.length < 24) (fresh : ∀ e ∈ s.txQueue, b.replaces e.body = false) :
    (s.send target b).carries target b ∧ (s.send target b).txQueue.length = s.txQueue.length + 1 ∧
    (∀ (u : Station) (c : Body), s.carries u c → (s.send target b).carries u c) ∧
    ∀ e ∈ (s.send target b).txQueue, e.body = b ∨ e ∈ s.txQueue := by
  obtain ⟨pre, post, before, after⟩ := send_fresh target b s active room fresh
  refine ⟨⟨s.newEntry target b, by rw [after]; simp, rfl, rfl, rfl⟩, ?_, fun u c ⟨e, he, named⟩ => ⟨e, ?_, named⟩,
    fun e he => ?_⟩
  · rw [before, after, List.length_append, List.length_append, List.length_cons]
    exact (Nat.add_assoc ..).symm
  · rw [before, List.mem_append] at he
    rw [after, List.mem_append, List.mem_cons]
    exact he.imp_right .inr
  · rw [after, List.mem_append, List.mem_cons] at he
    rw [before, List.mem_append]
    rcases he with early | rfl | late
    · exact .inr (.inl early)
    · exact .inl rfl
    · exact .inr (.inr late)

/-! ### One STATE for every home line -/

/-- What announcing some lines with nobody on them leaves of a station in ACTIVE (R33, R90). -/
structure State.AnnouncedAll (s : State) (l : List (Fin 8)) (t : State) : Prop where
  work : s.LineWork t
  records : ∀ (k : Fin 8) (r : LineRecord), s.records[k] = some r →
    t.records[k] = some (if k ∈ l then { r with refresh := some (s.blocks 500) } else r)
  few : t.txQueue.length ≤ l.length
  waits : ∀ k ∈ l, ∀ r : LineRecord, s.records[k] = some r → t.carries Config.allStations (.state (s.lineStatus k r))
  states : ∀ e ∈ t.txQueue, ∃ k ∈ l, ∃ r : LineRecord, s.records[k] = some r ∧ e.body = .state (s.lineStatus k r)

theorem restartRefresh_active {s : State} {k : Fin 8} {r : LineRecord} (stands : s.records[k] = some r)
    (active : s.stationState = .active) :
    s.restartRefresh k = s.setRecord k { r with refresh := some (s.blocks 500) } := by
  unfold State.restartRefresh
  rw [stands]
  exact if_pos ((isActive_iff s).mpr active)

theorem announce_none {s : State} {k : Fin 8} (none : s.records[k] = none) : s.announce k = s := by
  have status : s.statusOf k = .none := by rw [State.statusOf, none]; rfl
  rw [State.announce, show Config.announceDepth = (Config.announceDepth - 1) + 1 from rfl, State.announceWithin, status]

theorem State.LineWork.blocks {s t : State} (p : s.LineWork t) (ms : Nat) : t.blocks ms = s.blocks ms := by
  unfold State.blocks State.phase
  rw [p.stationTime]

section
variable {s t : State} {l : List (Fin 8)} (active : s.stationState = .active)
  (lines : ∀ j k : Fin 8, j ≠ k → (s.portCfg j).line ≠ (s.portCfg k).line ∨ (s.portCfg j).line = 0#16)
  (empty : ∀ (k : Fin 8) (r : LineRecord), s.records[k] = some r →
    (s.portCfg k).line ≠ 0#16 ∧ r.members = [] ∧ r.listeners = [])
include active lines empty

/-- One more line with nobody on it announced: its STATE joins the others (R33). -/
theorem announce_joins (p : s.AnnouncedAll l t) (k : Fin 8) (new : k ∉ l) (room : l.length < 24) :
    s.AnnouncedAll (l ++ [k]) (t.announce k) := by
  have listed (j : Fin 8) : j ∈ l ++ [k] ↔ j ∈ l ∨ j = k := by simp
  cases stands : s.records[k] with
  | none =>
    have absent : t.records[k] = none := by
      rw [← Option.not_isSome_iff_eq_none, p.work.present k, stands]
      exact Bool.false_ne_true
    rw [announce_none absent]
    refine ⟨p.work, fun j r hr => ?_, p.few.trans (by simp), fun j hj r hr => ?_, fun e he => ?_⟩
    · have apart : j ≠ k := by
        rintro rfl
        exact (Option.some_ne_none r (hr.symm.trans stands)).elim
      rw [p.records j r hr]
      simp only [listed, apart, or_false]
    · rcases (listed j).mp hj with early | rfl
      · exact p.waits j early r hr
      · exact (Option.some_ne_none r (hr.symm.trans stands)).elim
    · obtain ⟨j, hj, found⟩ := p.states e he
      exact ⟨j, List.mem_append_left _ hj, found⟩
  | some r =>
    obtain ⟨used, members, listeners⟩ := empty k r stands
    have record : t.records[k] = some r := by rw [p.records k r stands, if_neg new]
    have foreign : r.foreign t.cfg.station := by
      refine ⟨?_, ?_⟩
      · rw [members]; exact List.forall_mem_nil _
      · rw [listeners]; exact List.forall_mem_nil _
    have activeT : t.stationState = .active := p.work.stationState.trans active
    have status : t.lineStatus k r = s.lineStatus k r := by
      have ports : t.ports = s.ports := congrArg Base.ports p.work.base
      unfold State.lineStatus State.portCfg
      rw [p.work.cfg, ports]
    have fresh : ∀ e ∈ t.txQueue, (Body.state (s.lineStatus k r)).replaces e.body = false := by
      intro e he
      obtain ⟨j, hj, x, hx, body⟩ := p.states e he
      have apart : k ≠ j := fun same => new (same ▸ hj)
      rw [body]
      refine beq_eq_false_iff_ne.mpr ?_
      exact (lines k j apart).resolve_right used
    obtain ⟨carried, longer, keeps, others⟩ := send_fresh_holds (target := Config.allStations) activeT
      (p.few.trans_lt room) fresh
    have announced := announce_foreign record foreign
    have work := p.work.trans (announce_homeWork k t).work
    rw [status] at announced
    have sentRecords := send_records Config.allStations (.state (s.lineStatus k r)) t
    have sentWork := send_lineWork Config.allStations (.state (s.lineStatus k r)) t
    generalize t.send _ (.state (s.lineStatus k r)) = u at announced carried longer keeps others sentRecords sentWork
    have recordU : u.records[k] = some r := by rw [sentRecords]; exact record
    rw [restartRefresh_active recordU (sentWork.stationState.trans activeT), sentWork.blocks, p.work.blocks] at announced
    have queue : (t.announce k).txQueue = u.txQueue := announced.txQueue
    have records : (t.announce k).records = u.records.set k (some { r with refresh := some (s.blocks 500) }) :=
      announced.records
    generalize t.announce k = v at queue records work ⊢
    refine ⟨work, fun j x hx => ?_, ?_, fun j hj x hx => ?_, fun e he => ?_⟩
    · by_cases here : j = k
      · subst here
        obtain rfl := Option.some.inj (stands.symm.trans hx)
        rw [records, Fin.getElem_fin, Vector.getElem_set_self, if_pos ((listed j).mpr (.inr rfl))]
      · rw [records, records_set_other here, sentRecords, p.records j x hx]
        simp only [listed, here, or_false]
    · rw [queue, longer, List.length_append]
      exact Nat.add_le_add_right p.few 1
    · rcases (listed j).mp hj with early | rfl
      · exact carries_of_queue queue (keeps _ _ (p.waits j early x hx))
      · obtain rfl := Option.some.inj (stands.symm.trans hx)
        exact carries_of_queue queue carried
    · rw [queue] at he
      rcases others e he with body | old
      · exact ⟨k, (listed k).mpr (.inr rfl), r, stands, body⟩
      · obtain ⟨j, hj, found⟩ := p.states e old
        exact ⟨j, (listed j).mpr (.inl hj), found⟩

/-- Every home line with nobody on it announced (R33). -/
theorem announceAll_joins (quiet : s.txQueue = []) : s.AnnouncedAll allPorts s.announceAll := by
  have all (done rest : List (Fin 8)) (distinct : (done ++ rest).Nodup) (short : (done ++ rest).length ≤ 8) (t : State)
      (p : s.AnnouncedAll done t) : s.AnnouncedAll (done ++ rest) (rest.foldl (fun s k => s.announce k) t) := by
    induction rest generalizing done t with
    | nil => rwa [List.append_nil]
    | cons k rest ih =>
      have split : done ++ k :: rest = (done ++ [k]) ++ rest := by simp
      rw [split] at distinct short ⊢
      have new : k ∉ done := by
        have := (List.nodup_append.mp distinct).1
        rw [List.nodup_append] at this
        exact fun h => this.2.2 k h k (by simp) rfl
      have room : done.length < 24 := by
        simp only [List.length_append, List.length_cons, List.length_nil] at short
        omega
      exact ih (done ++ [k]) distinct short _ (announce_joins active lines empty p k new room)
  refine all [] allPorts (by decide) (by decide) s ⟨.refl s, fun k r hr => by rw [hr, if_neg List.not_mem_nil], ?_, ?_, ?_⟩
  · rw [quiet]
    exact Nat.le_refl _
  · exact List.forall_mem_nil _
  · rw [quiet]
    exact List.forall_mem_nil _

end

/-! ### The entry to ACTIVE -/

/-- A station just entered into ACTIVE, the staleness timers of its mirrors started. -/
def State.entered (s : State) : State := ({ s with listenTimer := none }.enter .active).startMirrorTimers

theorem enterActive_eq (s : State) : s.enterActive = s.entered.announceAll.sightStoredCards.applyDefaults.startBeacon := rfl

theorem sightCard_absent {s : State} {p : Station} (absent : (s.peer p).state ≠ .present) : s.sightCard p = s := by
  unfold State.sightCard
  refine if_neg fun h => ?_
  simp only [State.outranks, Bool.and_eq_true, beq_iff_eq] at h
  exact absent h.2.2

theorem sightStoredCards_absent {s : State} (absent : ∀ p : Station, (s.peer p).state ≠ .present) :
    s.sightStoredCards = s := by
  have all (l : List Station) : l.foldl (fun s p => s.sightCard p) s = s := by
    induction l with
    | nil => rfl
    | cons p l ih => rw [List.foldl_cons, sightCard_absent (absent p), ih]
  exact all _

theorem applyDefaults_unbound {s : State} (unbound : ∀ k : Fin 8, (s.cfg.channels[k]).binding = .unbound) :
    s.applyDefaults = s := by
  have all (l : List (Fin 8)) : l.foldl (fun s k => s.applyBinding k (s.cfg.channels[k]).binding) s = s := by
    induction l with
    | nil => rfl
    | cons k l ih =>
      rw [List.foldl_cons, unbound k]
      exact ih
  exact all _

theorem enterActive_base (s : State) : s.announceAll.sightStoredCards.applyDefaults.base = s.base := by
  have announced : s.announceAll.base = s.base := foldl_keeps State.base _ (fun t k => announce_base k t) _ s
  have sighted (t : State) : t.sightStoredCards.base = t.base := foldl_keeps State.base _ (fun t p => sightCard_base p t) _ t
  have bound (t : State) : t.applyDefaults.base = t.base := foldl_keeps State.base _ (fun t k => applyBinding_base k _ t) _ t
  rw [bound, sighted, announced]

/-- Settles O17: every line of an empty station is announced in its own entry, and the BEACON behind them. -/
theorem listenPeriodExpiryEntersActive : Obligations.ListenPeriodExpiryEntersActive := by
  unfold Obligations.ListenPeriodExpiryEntersActive
  intro s
  refine ⟨fun listening due => ⟨s.enterActive, ?_, ?_, fun quiet _ alone unbound lines empty => ?_⟩, fun other => ?_⟩
  · exact congrArg Host.Outcome.next (if_pos ⟨listening, by rw [due]; rfl⟩)
  · rw [enterActive_eq]
    have base := enterActive_base s.entered
    generalize s.entered.announceAll.sightStoredCards.applyDefaults = t at base ⊢
    have time : t.stationTime = s.stationTime := congrArg Base.stationTime base
    have sent : t.sendBeacon.base = t.base := send_base ..
    have blocks : t.blocks 100 = s.blocks 100 := by
      unfold State.blocks State.phase
      rw [time]
    have started : t.startBeacon.base = { t.sendBeacon.base with beaconTimer := some (t.blocks 100) } := rfl
    rw [started, sent, base, blocks]
    rfl
  · have active : s.entered.stationState = .active := rfl
    have cfg' : s.entered.cfg = s.cfg := rfl
    have peers' : s.entered.peers = s.peers := rfl
    have queue' : s.entered.txQueue = s.txQueue := rfl
    have records' : s.entered.records = s.records := rfl
    have time' : s.entered.stationTime = s.stationTime := rfl
    have status' : s.entered.lineStatus = s.lineStatus := rfl
    rw [enterActive_eq]
    generalize s.entered = e at active cfg' peers' queue' records' time' status' ⊢
    have announced := announceAll_joins (s := e) active (by unfold State.portCfg; rw [cfg']; exact lines)
      (by unfold State.portCfg; rw [cfg', records']; exact empty) (by rw [queue']; exact quiet)
    have works := announced.work
    have peers := works.peers
    have cfg := works.cfg.trans cfg'
    have cards : e.announceAll.sightStoredCards = e.announceAll := by
      refine sightStoredCards_absent fun p => ?_
      rw [State.peer, peers, peers']
      exact alone _
    have defaults : e.announceAll.applyDefaults = e.announceAll :=
      applyDefaults_unbound (by rw [cfg]; exact unbound)
    rw [cards, defaults]
    generalize e.announceAll = t at announced works cfg ⊢
    have card : t.card false = s.card false := by
      unfold State.card State.portCfg
      rw [cfg]
    have fresh : ∀ e ∈ t.txQueue, (Body.beacon (t.card false)).replaces e.body = false := by
      intro e he
      obtain ⟨k, -, r, -, body⟩ := announced.states e he
      rw [body]
      rfl
    obtain ⟨carried, -, keeps, -⟩ := send_fresh_holds (target := Config.allStations) (b := .beacon (t.card false))
      (works.stationState.trans active) (lt_of_le_of_lt announced.few (by decide)) fresh
    have records : t.startBeacon.records = t.records := send_records ..
    have queue : t.startBeacon.txQueue = (t.send Config.allStations (.beacon (t.card false))).txQueue := rfl
    refine ⟨?_, fun k r stands => ⟨?_, ?_⟩⟩
    · rw [← card]
      exact carries_of_queue queue carried
    · rw [← status']
      exact carries_of_queue queue (keeps _ _ (announced.waits k (mem_allPorts k) r (by rw [records']; exact stands)))
    · have blocks : e.blocks 500 = s.blocks 500 := by
        unfold State.blocks State.phase
        rw [time']
      rw [records, announced.records k r (by rw [records']; exact stands), if_pos (mem_allPorts k), blocks]
  · refine congrArg Host.Outcome.next (if_neg fun h => ?_)
    obtain ⟨listening, due⟩ := h
    exact other.elim (fun h => h listening) fun h => h (eq_of_beq due)

end Sys2Proof.Machine
end

section
/-! SUPPORT. What each block does at a LEAVE or CLASHED (R35, R36): lines, ports, position, speaker and streams. -/

namespace Sys2Proof.Machine

/-- A station whose blocks above the floor bus port have left: the rest of it stays. -/
structure State.Leaves (s t : State) : Prop where
  alike : t = { s with
    ports := t.ports, records := t.records, taps := t.taps, ring := t.ring, slots := t.slots, signalWord := t.signalWord
    setters := t.setters, mirrors := t.mirrors, handsets := t.handsets, held := t.held, pendingAsks := t.pendingAsks
    channels := t.channels, talk := t.talk, sequences := t.sequences, streams := t.streams, marks := t.marks
    notices := t.notices, overflow := t.overflow }

theorem State.Leaves.refl (s : State) : s.Leaves s := ⟨rfl⟩

theorem State.Leaves.trans {s t u : State} (p : s.Leaves t) (q : t.Leaves u) : s.Leaves u := ⟨by rw [q.alike, p.alike]⟩

theorem State.Leaves.foldl {α : Type} (f : State → α → State) (h : ∀ (s : State) a, s.Leaves (f s a)) (l : List α)
    (s : State) : s.Leaves (l.foldl f s) :=
  foldl_preserves (fun t => s.Leaves t) f (fun t a ht => ht.trans (h t a)) l s (.refl s)

theorem State.Works.leaves {s t : State} (p : s.Works t) : s.Leaves t := ⟨by rw [p.alike]⟩

/-! ### Taps of lines that leave -/

/-- A descriptor that was closed with LAST, or as it was before (R183). -/
def Descriptor.maybeClosed (d d' : Descriptor) : Prop :=
  d'.pairs = d.pairs ∧ (d.owner = .ready → d.last = true → d'.owner = .ready ∧ d'.last = true)

theorem Descriptor.maybeClosed.trans {d e f : Descriptor} (p : d.maybeClosed e) (q : e.maybeClosed f) : d.maybeClosed f :=
  ⟨q.1.trans p.1, fun ready last => q.2 (p.2 ready last).1 (p.2 ready last).2⟩

theorem Descriptor.maybeClosed.refl (d : Descriptor) : d.maybeClosed d := ⟨rfl, fun h g => ⟨h, g⟩⟩

theorem closeSegment_last (x : Tap) (s : State) : (∃ ring, s.closeSegment x true = { s with ring := ring }) ∧
    (∀ i : Fin 64, (s.ring[i]).maybeClosed (s.closeSegment x true).ring[i]) ∧
    ∀ i : Fin 64, x.filling = some i → ((s.closeSegment x true).ring[i]).owner = .ready ∧
      ((s.closeSegment x true).ring[i]).last = true := by
  unfold State.closeSegment
  cases filling : x.filling with
  | none => exact ⟨⟨_, rfl⟩, fun i => .refl _, nofun⟩
  | some j =>
    dsimp only
    have here : (modifyAt s.ring j (·.close true s.stationTime))[j] = (s.ring[j]).close true s.stationTime := by
      rw [modifyAt, Fin.getElem_fin, Vector.getElem_set_self]
    refine ⟨⟨_, rfl⟩, fun i => ?_, fun i same => ?_⟩
    · by_cases same : i = j
      · subst same
        rw [here]
        exact ⟨rfl, fun _ _ => ⟨rfl, rfl⟩⟩
      · have other : (modifyAt s.ring j (·.close true s.stationTime))[i] = s.ring[i] := by
          rw [modifyAt, Fin.getElem_fin, Vector.getElem_set_ne _ _ fun h => same (Fin.ext h.symm)]
          rfl
        rw [other]
        exact .refl _
    · obtain rfl := Option.some.inj same
      rw [here]
      exact ⟨rfl, rfl⟩

/-- The tap of a line whose parties have gone (R183, R185). -/
theorem tapEvent_emptied {s : State} (k : Fin 8) (old : List (Party × Mode)) (gone : s.partySet k = []) :
    (∃ taps ring, s.tapEvent k old = { s with taps := taps, ring := ring }) ∧
    (∀ j : Fin 8, j ≠ k → (s.tapEvent k old).taps[j] = s.taps[j]) ∧
    (∀ x : Tap, s.taps[k] = some x → (s.tapEvent k old).taps[k] = some (x.left old)) ∧
    (s.taps[k] = none → (s.tapEvent k old).taps[k] = none) ∧
    (∀ i : Fin 64, (s.ring[i]).maybeClosed (s.tapEvent k old).ring[i]) ∧
    ∀ (x : Tap) (i : Fin 64), s.taps[k] = some x → old ≠ [] → x.state = .recording → x.filling = some i →
      ((s.tapEvent k old).ring[i]).owner = .ready ∧ ((s.tapEvent k old).ring[i]).last = true := by
  cases tapped : s.taps[k] with
  | none =>
    have kept : s.tapEvent k old = s := by rw [State.tapEvent, tapped]
    rw [kept]
    exact ⟨⟨_, _, rfl⟩, fun _ _ => rfl, fun _ h => (Option.some_ne_none _ h.symm).elim, fun _ => tapped, fun i => .refl _,
      fun _ _ h => (Option.some_ne_none _ h.symm).elim⟩
  | some x =>
    have set (v : Vector (Option Tap) 8) (y : Option Tap) (j : Fin 8) (apart : j ≠ k) : (v.set k y)[j] = v[j] := by
      rw [Fin.getElem_fin, Vector.getElem_set_ne _ _ fun h => apart (Fin.ext h.symm)]
      rfl
    have here (v : Vector (Option Tap) 8) (y : Option Tap) : (v.set k y)[k] = y := by
      rw [Fin.getElem_fin, Vector.getElem_set_self]
    by_cases none : old = []
    · have kept : s.tapEvent k old = s := by
        rw [State.tapEvent, tapped, gone, none]
        exact if_pos rfl
      rw [kept]
      exact ⟨⟨_, _, rfl⟩, fun _ _ => rfl, fun y h => by rw [Tap.left, if_pos none, tapped, Option.some.inj h], nofun,
        fun i => .refl _, fun _ _ _ some => absurd none some⟩
    · have ended : s.tapEvent k old = s.tapEnd k x := by
        rw [State.tapEvent, tapped, gone]
        exact (if_neg none).trans ((if_neg none).trans (if_pos rfl))
      rw [ended]
      unfold State.tapEnd
      cases state : x.state with
      | recording =>
        dsimp only
        obtain ⟨⟨ring, closed⟩, kept, last⟩ := closeSegment_last x s
        rw [closed] at kept last ⊢
        refine ⟨⟨_, _, rfl⟩, fun j apart => set _ _ j apart, fun y h => ?_, nofun, kept, fun y i h _ _ filling => ?_⟩
        · obtain rfl := Option.some.inj h
          rw [Tap.left, if_neg none, state]
          exact here _ _
        · obtain rfl := Option.some.inj h
          exact last i filling
      | starved =>
        refine ⟨⟨_, _, rfl⟩, fun j apart => set _ _ j apart, fun y h => ?_, nofun, fun i => .refl _, fun y i h _ recording => ?_⟩
        · obtain rfl := Option.some.inj h
          rw [Tap.left, if_neg none, state]
          exact here _ _
        · obtain rfl := Option.some.inj h
          rw [state] at recording
          cases recording
      | idle =>
        refine ⟨⟨_, _, rfl⟩, fun _ _ => rfl, fun y h => ?_, nofun, fun i => .refl _, fun y i h _ recording => ?_⟩
        · obtain rfl := Option.some.inj h
          rw [Tap.left, if_neg none, state]
          exact tapped
        · obtain rfl := Option.some.inj h
          rw [state] at recording
          cases recording
      | closing =>
        refine ⟨⟨_, _, rfl⟩, fun _ _ => rfl, fun y h => ?_, nofun, fun i => .refl _, fun y i h _ recording => ?_⟩
        · obtain rfl := Option.some.inj h
          rw [Tap.left, if_neg none, state]
          exact tapped
        · obtain rfl := Option.some.inj h
          rw [state] at recording
          cases recording

/-! ### Lines -/

/-- One line at a LEAVE or CLASHED (R35, R67, R90). -/
def State.lineLeaves (s : State) (k : Fin 8) : State :=
  s.changeRecord k fun r => { r with conflict := none, refresh := none }

theorem linesLeave_eq (s : State) : s.linesLeave = allPorts.foldl State.lineLeaves s := rfl

/-- A record of a line that has left (R35, R67). -/
structure LineRecord.HasLeft (r r' : LineRecord) : Prop where
  state : r'.state = .outOfService
  members : r'.members = []
  listeners : r'.listeners = []
  ring : r'.outRing = none
  holdOver : r'.holdOver = none
  conflict : r'.conflict = none
  refresh : r'.refresh = none
  far : r'.farSignalling = r.farSignalling

/-- What a line's leaving does to the records, the taps and the ring. -/
structure State.LineLeft (k : Fin 8) (s t : State) : Prop where
  alike : ∃ records taps ring streams channels marks, t = { s with
    records := records, taps := taps, ring := ring, streams := streams, channels := channels, marks := marks }
  channels : ∀ j : Fin 8, (s.channels[j]).ShedsTo t.channels[j]
  others : ∀ j : Fin 8, j ≠ k → t.records[j] = s.records[j] ∧ t.taps[j] = s.taps[j]
  record : ∀ r : LineRecord, s.records[k] = some r → ∃ r' : LineRecord, t.records[k] = some r' ∧ r.HasLeft r'
  tap : ∀ (r : LineRecord) (x : Tap), s.records[k] = some r → s.taps[k] = some x → t.taps[k] = some (x.left r.parties) ∧
    ∀ i : Fin 64, r.members ≠ [] → x.state = .recording → x.filling = some i →
      (t.ring[i]).owner = .ready ∧ (t.ring[i]).last = true
  ring : ∀ i : Fin 64, (s.ring[i]).maybeClosed t.ring[i]

theorem lineLeaves_left (s : State) (k : Fin 8) (away : s.awayFromFloor = true) : s.LineLeft k (s.lineLeaves k) := by
  unfold State.lineLeaves State.changeRecord
  split
  · next r stands =>
    have cause : s.outCause k { r with conflict := none, refresh := none } = true := by
      rw [State.outCause, away, Bool.or_true]
    unfold State.commitRecord
    extract_lets before r'
    have left : r.HasLeft r' := by
      have settled : r' = LineRecord.settle before (s.portCfg k) true (s.ports[k]).alarms (s.blocks 10000)
          { r with conflict := none, refresh := none } := by rw [← cause]
      rw [settled]
      exact ⟨rfl, rfl, rfl, rfl, rfl, rfl, rfl, rfl⟩
    clear_value r'
    have parties : s.partySet k = r.parties := by rw [State.partySet, stands]
    have set : (s.setRecord k r').records[k] = some r' := by
      rw [State.setRecord, Fin.getElem_fin, Vector.getElem_set_self]
    have gone : (s.setRecord k r').partySet k = [] := by
      rw [State.partySet, set]
      dsimp only
      rw [LineRecord.parties, left.members]
      rfl
    obtain ⟨⟨taps, ring, fields⟩, otherTaps, tap, -, closed, last⟩ := tapEvent_emptied k (s.partySet k) gone
    have retuned := syncStreams_retunes ((s.setRecord k r').tapEvent k (s.partySet k))
    have records : ((s.setRecord k r').tapEvent k (s.partySet k)).records = (s.setRecord k r').records := by rw [fields]
    have channels : ((s.setRecord k r').tapEvent k (s.partySet k)).channels = s.channels := by rw [fields]; rfl
    generalize State.tapEvent k (s.partySet k) _ = u at fields otherTaps tap closed last retuned records channels ⊢
    obtain ⟨streams, chans, marks, tuned, sheds⟩ := retuned.fields
    rw [channels] at sheds
    rw [tuned]
    refine ⟨⟨_, _, _, _, _, _, by rw [fields]; rfl⟩, sheds, fun j apart => ⟨?_, otherTaps j apart⟩, fun x hx => ?_,
      fun x y hx hy => ?_, closed⟩
    · show u.records[j] = _
      rw [records]
      exact records_set_other apart
    · obtain rfl := Option.some.inj (stands.symm.trans hx)
      exact ⟨r', by show u.records[k] = _; rw [records]; exact set, left⟩
    · obtain rfl := Option.some.inj (stands.symm.trans hx)
      rw [parties] at tap last
      refine ⟨tap y hy, fun i some => last y i hy fun none => some ?_⟩
      exact List.map_eq_nil_iff.mp none
  · next none =>
    exact ⟨⟨_, _, _, _, _, _, rfl⟩, fun _ => .refl _, fun _ _ => ⟨rfl, rfl⟩,
      fun _ h => (Option.some_ne_none _ (h.symm.trans none)).elim,
      fun _ _ h => (Option.some_ne_none _ (h.symm.trans none)).elim, fun _ => .refl _⟩

/-- What the lines' leaving does (R35, R67, R183, R185). -/
structure State.LinesLeft (s t : State) : Prop where
  alike : ∃ records taps ring streams channels marks, t = { s with
    records := records, taps := taps, ring := ring, streams := streams, channels := channels, marks := marks }
  channels : ∀ j : Fin 8, (s.channels[j]).ShedsTo t.channels[j]
  records : ∀ (k : Fin 8) (r : LineRecord), s.records[k] = some r → ∃ r' : LineRecord, t.records[k] = some r' ∧ r.HasLeft r'
  taps : ∀ (k : Fin 8) (r : LineRecord) (x : Tap), s.records[k] = some r → s.taps[k] = some x →
    t.taps[k] = some (x.left r.parties) ∧
    ∀ i : Fin 64, r.members ≠ [] → x.state = .recording → x.filling = some i →
      (t.ring[i]).owner = .ready ∧ (t.ring[i]).last = true ∧ (t.ring[i]).pairs = (s.ring[i]).pairs

theorem linesLeave_left (s : State) (away : s.awayFromFloor = true) : s.LinesLeft s.linesLeave := by
  have frame (l : List (Fin 8)) (u : State) (h : u.awayFromFloor = true) :
      (∃ records taps ring streams channels marks, l.foldl State.lineLeaves u = { u with
        records := records, taps := taps, ring := ring, streams := streams, channels := channels, marks := marks }) ∧
      (∀ j : Fin 8, (u.channels[j]).ShedsTo (l.foldl State.lineLeaves u).channels[j]) ∧
      (∀ i : Fin 64, (u.ring[i]).maybeClosed (l.foldl State.lineLeaves u).ring[i]) ∧
      ∀ j : Fin 8, j ∉ l → (l.foldl State.lineLeaves u).records[j] = u.records[j] ∧
        (l.foldl State.lineLeaves u).taps[j] = u.taps[j] := by
    induction l generalizing u with
    | nil => exact ⟨⟨_, _, _, _, _, _, rfl⟩, fun _ => .refl _, fun _ => .refl _, fun _ _ => ⟨rfl, rfl⟩⟩
    | cons k l ih =>
      have step := lineLeaves_left u k h
      rw [List.foldl_cons]
      generalize u.lineLeaves k = v at step ⊢
      obtain ⟨records, taps, ring, streams, channels, marks, fields⟩ := step.alike
      have away' : v.awayFromFloor = true := by rw [fields]; exact h
      obtain ⟨⟨records', taps', ring', streams', channels', marks', fields'⟩, sheds, closed, others⟩ := ih v away'
      generalize List.foldl State.lineLeaves v l = w at fields' sheds closed others ⊢
      refine ⟨⟨records', taps', ring', streams', channels', marks', by rw [fields', fields]⟩,
        fun j => (step.channels j).trans (sheds j), fun i => (step.ring i).trans (closed i), fun j hj => ?_⟩
      rw [List.mem_cons, not_or] at hj
      obtain ⟨record, tap⟩ := others j hj.2
      obtain ⟨record', tap'⟩ := step.others j hj.1
      exact ⟨record.trans record', tap.trans tap'⟩
  have turn (k : Fin 8) : ∃ v : State, (∃ records taps ring streams channels marks, v = { s with
        records := records, taps := taps, ring := ring, streams := streams, channels := channels, marks := marks }) ∧
      v.records[k] = s.records[k] ∧ v.taps[k] = s.taps[k] ∧ (∀ i : Fin 64, (s.ring[i]).maybeClosed v.ring[i]) ∧
      s.linesLeave.records[k] = (v.lineLeaves k).records[k] ∧ s.linesLeave.taps[k] = (v.lineLeaves k).taps[k] ∧
      ∀ i : Fin 64, ((v.lineLeaves k).ring[i]).maybeClosed s.linesLeave.ring[i] := by
    obtain ⟨split, before, after⟩ := ports_split k
    obtain ⟨fields, -, closed, same⟩ := frame (allPorts.take k.val) s away
    rw [linesLeave_eq, split, List.foldl_append, List.foldl_cons]
    generalize List.foldl State.lineLeaves s (allPorts.take k.val) = v at fields closed same ⊢
    have awayV : v.awayFromFloor = true := by
      obtain ⟨_, _, _, _, _, _, rfl⟩ := fields
      exact away
    have awayW : (v.lineLeaves k).awayFromFloor = true := by
      obtain ⟨_, _, _, _, _, _, left⟩ := (lineLeaves_left v k awayV).alike
      rw [left]
      exact awayV
    obtain ⟨-, -, closed', same'⟩ := frame (allPorts.drop (k.val + 1)) (v.lineLeaves k) awayW
    exact ⟨v, fields, (same k before).1, (same k before).2, closed, (same' k after).1, (same' k after).2, closed'⟩
  obtain ⟨alike, channels, closed, -⟩ := frame allPorts s away
  refine ⟨alike, channels, fun k r stands => ?_, fun k r x stands tapped => ?_⟩
  · obtain ⟨v, fields, record, -, -, last, -⟩ := turn k
    have awayV : v.awayFromFloor = true := by
      obtain ⟨_, _, _, _, _, _, rfl⟩ := fields
      exact away
    rw [last]
    exact (lineLeaves_left v k awayV).record r (record.trans stands)
  · obtain ⟨v, fields, record, tap, -, -, last, ended⟩ := turn k
    have awayV : v.awayFromFloor = true := by
      obtain ⟨_, _, _, _, _, _, rfl⟩ := fields
      exact away
    obtain ⟨left, ready⟩ := (lineLeaves_left v k awayV).tap r x (record.trans stands) (tap.trans tapped)
    refine ⟨last.trans left, fun i members recording filling => ?_⟩
    obtain ⟨owner, lastMark⟩ := ready i members recording filling
    obtain ⟨owner', lastMark'⟩ := (ended i).2 owner lastMark
    exact ⟨owner', lastMark', (closed i).1⟩

/-! ### Ports, position, speaker -/

theorem portsLeave_left (s : State) : ∃ (ports : Vector LinePort 8) (marks : Marks),
    s.portsLeave = { s with ports := ports, marks := marks } ∧
    ∀ k : Fin 8, ports[k] = if s.used k then (s.ports[k]).resetReceive else s.ports[k] := by
  have all (l : List (Fin 8)) (distinct : l.Nodup) (u : State) :
      ∃ (ports : Vector LinePort 8) (marks : Marks),
        l.foldl (fun s k => if s.used k then s.setPort k (s.ports[k]).resetReceive else s) u =
          { u with ports := ports, marks := marks } ∧
        ∀ k : Fin 8, ports[k] = if k ∈ l ∧ u.used k = true then (u.ports[k]).resetReceive else u.ports[k] := by
    induction l generalizing u with
    | nil => exact ⟨u.ports, u.marks, rfl, fun k => (if_neg fun h => List.not_mem_nil h.1).symm⟩
    | cons j l ih =>
      obtain ⟨new, rest⟩ := List.nodup_cons.mp distinct
      rw [List.foldl_cons]
      by_cases used : u.used j = true
      · rw [if_pos used]
        obtain ⟨ports, marks, fields, each⟩ := ih rest (u.setPort j (u.ports[j]).resetReceive)
        refine ⟨ports, marks, by rw [fields]; rfl, fun k => ?_⟩
        rw [each k, show (u.setPort j (u.ports[j]).resetReceive).used k = u.used k from rfl]
        by_cases here : k = j
        · subst here
          rw [if_neg fun h => new h.1, if_pos ⟨List.mem_cons_self, used⟩, State.setPort, Fin.getElem_fin,
            Vector.getElem_set_self]
        · have other : (u.setPort j (u.ports[j]).resetReceive).ports[k] = u.ports[k] := by
            rw [State.setPort, Fin.getElem_fin, Vector.getElem_set_ne _ _ fun h => here (Fin.ext h.symm)]
            rfl
          rw [other]
          simp only [List.mem_cons, here, false_or]
      · rw [if_neg used]
        obtain ⟨ports, marks, fields, each⟩ := ih rest u
        refine ⟨ports, marks, fields, fun k => ?_⟩
        rw [each k]
        by_cases here : k = j
        · subst here
          rw [if_neg fun h => new h.1, if_neg fun h => used h.2]
        · simp only [List.mem_cons, here, false_or]
  obtain ⟨ports, marks, fields, each⟩ := all allPorts (by decide) s
  exact ⟨ports, marks, fields, fun k => by rw [each k]; simp only [mem_allPorts, true_and]⟩

/-- Every mirror becomes UNKNOWN (R35, R96). -/
theorem mirrorsLeave (s : State) :
    ∃ mirrors marks notices overflow,
      s.mirrors.foldl (fun s m => s.setMirror m ⟨m.line, .unknown, none, none⟩) s =
        { s with mirrors := mirrors, marks := marks, notices := notices, overflow := overflow } ∧
      mirrors.map (·.line) = s.mirrors.map (·.line) ∧ ∀ m ∈ mirrors, m.state = .unknown ∧ m.timer = none := by
  have all (l : List Mirror) (u : State) : ∃ mirrors marks notices overflow,
      l.foldl (fun s m => s.setMirror m ⟨m.line, .unknown, none, none⟩) u =
        { u with mirrors := mirrors, marks := marks, notices := notices, overflow := overflow } ∧
      mirrors.map (·.line) = u.mirrors.map (·.line) ∧
      (∀ m ∈ mirrors, (∃ x ∈ l, x.line = m.line) → m.state = .unknown ∧ m.timer = none) ∧
      ∀ m ∈ mirrors, (∀ x ∈ l, x.line ≠ m.line) → m ∈ u.mirrors := by
    induction l generalizing u with
    | nil => exact ⟨_, _, _, _, rfl, rfl, fun _ _ h => absurd h (by simp), fun _ h _ => h⟩
    | cons x l ih =>
      obtain ⟨marks, notices, overflow, fields⟩ := setMirror_fields x ⟨x.line, .unknown, none, none⟩ u
      rw [List.foldl_cons, fields]
      obtain ⟨mirrors', marks', notices', overflow', fields', lines, unknown, kept⟩ := ih { u with
        mirrors := u.mirrors.map fun m => if m.line = x.line then ⟨x.line, .unknown, none, none⟩ else m
        marks := marks, notices := notices, overflow := overflow }
      refine ⟨mirrors', marks', notices', overflow', fields', lines.trans ?_, fun m hm listed => ?_, fun m hm others => ?_⟩
      · rw [List.map_map]
        refine List.map_congr_left fun m _ => ?_
        by_cases here : m.line = x.line
        · simp [here]
        · simp [here]
      · by_cases later : ∃ y ∈ l, y.line = m.line
        · exact unknown m hm later
        · obtain ⟨y, hy, line⟩ := listed
          have first : y = x := (List.mem_cons.mp hy).resolve_right fun h => later ⟨y, h, line⟩
          subst first
          obtain ⟨z, hz, mapped⟩ := List.mem_map.mp (kept m hm fun w hw same => later ⟨w, hw, same⟩)
          by_cases here : z.line = y.line
          · rw [if_pos here] at mapped
            rw [← mapped]
            exact ⟨rfl, rfl⟩
          · rw [if_neg here] at mapped
            exact absurd (mapped ▸ line.symm) here
      · obtain ⟨z, hz, mapped⟩ := List.mem_map.mp (kept m hm fun w hw => others w (List.mem_cons_of_mem _ hw))
        by_cases here : z.line = x.line
        · rw [if_pos here] at mapped
          exact absurd (congrArg Mirror.line mapped) (others x List.mem_cons_self)
        · rw [if_neg here] at mapped
          exact mapped ▸ hz
  obtain ⟨mirrors, marks, notices, overflow, fields, lines, unknown, -⟩ := all s.mirrors s
  refine ⟨mirrors, marks, notices, overflow, fields, lines, fun m hm => unknown m hm ?_⟩
  obtain ⟨x, hx, line⟩ := List.mem_map.mp (lines ▸ List.mem_map_of_mem hm)
  exact ⟨x, hx, line⟩

/-- A handset whose bindings are all removed (R35, R102). -/
def State.unbindHandset (s : State) (h : Fin 2) : State :=
  (s.handsets[h]).bindings.foldl (fun s b => s.removeBinding h b.circuit) s

theorem unbindHandset_rebinds (s : State) (h : Fin 2) : s.Rebinds h [] (s.unbindHandset h) := by
  have all (l : List Binding) (u : State) : u.Rebinds h
      ((u.handsets[h]).bindings.filter fun b => l.all fun x => b.circuit != x.circuit)
      (l.foldl (fun s b => s.removeBinding h b.circuit) u) := by
    induction l generalizing u with
    | nil =>
      have same : (u.handsets[h]).bindings.filter (fun b => ([] : List Binding).all fun x => b.circuit != x.circuit) =
          (u.handsets[h]).bindings := List.filter_eq_self.mpr fun _ _ => rfl
      rw [same]
      have stays : u.handsets.set h u.handsets[h] = u.handsets := by simp
      exact ⟨congrArg (fun x => { u with handsets := x }) stays.symm, fun _ => .refl _⟩
    | cons x l ih =>
      have freed := removeBinding_rebinds h x.circuit u
      have rest := ih (u.removeBinding h x.circuit)
      rw [freed.bindings] at rest
      rw [List.foldl_cons]
      generalize u.removeBinding h x.circuit = v at freed rest ⊢
      generalize List.foldl _ v l = w at rest ⊢
      have both : ((u.handsets[h]).bindings.filter fun b => b.circuit != x.circuit).filter
          (fun b => l.all fun x => b.circuit != x.circuit) =
          (u.handsets[h]).bindings.filter fun b => (x :: l).all fun x => b.circuit != x.circuit := by
        rw [List.filter_filter]
        refine List.filter_congr fun b _ => ?_
        rw [List.all_cons, Bool.and_comm]
      rw [← both]
      refine ⟨?_, fun k => (freed.channels k).trans (rest.channels k)⟩
      rw [rest.alike, freed.alike]
      simp [Vector.set_set]
  have whole := all (s.handsets[h]).bindings s
  have none : (s.handsets[h]).bindings.filter (fun b => (s.handsets[h]).bindings.all fun x => b.circuit != x.circuit) = [] := by
    refine List.filter_eq_nil_iff.mpr fun b hb every => ?_
    have self := List.all_eq_true.mp every b hb
    simp at self
  rw [none] at whole
  exact whole

/-- What the position's leaving does (R35, R96, R106, R107). -/
theorem positionLeaves_left (s : State) : ∃ mirrors handsets sequences streams channels marks notices overflow,
    s.positionLeaves = { s with
      mirrors := mirrors, handsets := handsets, held := [], pendingAsks := [], sequences := sequences, streams := streams
      channels := channels, marks := marks, notices := notices, overflow := overflow } ∧
    (mirrors.map (·.line) = s.mirrors.map (·.line) ∧ ∀ m ∈ mirrors, m.state = .unknown ∧ m.timer = none) ∧
    (∀ h : Fin 2, handsets[h] = { s.handsets[h] with bindings := [] }) ∧
    ∀ k : Fin 8, (s.channels[k]).ShedsTo channels[k] := by
  obtain ⟨mirrors, marks, notices, overflow, fields, unknown⟩ := mirrorsLeave s
  have stages : s.positionLeaves = { ((s.mirrors.foldl (fun s m => s.setMirror m ⟨m.line, .unknown, none, none⟩) s).unbindHandset
      0).unbindHandset 1 with held := [], pendingAsks := [] } := rfl
  rw [fields] at stages
  generalize hu : ({ s with mirrors := mirrors, marks := marks, notices := notices, overflow := overflow } : State) = u at stages
  have first := unbindHandset_rebinds u 0
  generalize u.unbindHandset 0 = v at stages first
  have second := unbindHandset_rebinds v 1
  generalize v.unbindHandset 1 = w at stages second
  have handsetsU : u.handsets = s.handsets := by rw [← hu]
  have channelsU : u.channels = s.channels := by rw [← hu]
  refine ⟨mirrors, w.handsets, w.sequences, w.streams, w.channels, w.marks, w.notices, w.overflow, ?_, unknown, fun h => ?_,
    fun k => ?_⟩
  · rw [stages, second.alike, first.alike, ← hu]
  · have cases : h = 0 ∨ h = 1 := by omega
    rcases cases with rfl | rfl
    · rw [second.others 0 (by decide), first.bindings, handsetsU]
    · rw [second.bindings, first.others 1 (by decide), handsetsU]
  · rw [← channelsU]
    exact (first.channels k).trans (second.channels k)

/-- What the speaker's leaving does (R35, R133). -/
theorem speakerLeaves_left (s : State) : ∃ sequences streams channels marks,
    s.speakerLeaves = { s with
      talk := none, sequences := sequences, streams := streams, channels := channels, marks := marks } ∧
    ∀ k : Fin 8, channels[k] = { s.channels[k] with binding := .unbound, talkers := [], wait := none, misses := 0 } := by
  have listens (t : State) : t.Listens (allPorts.foldl (fun s k => s.turnOff k) t) :=
    .foldl _ (fun s k => turnOff_listens k s) _ t
  have alike (t : State) : ∃ streams channels marks, allPorts.foldl (fun s k => s.turnOff k) t = { t with
      streams := streams, channels := channels, marks := marks } := by
    have all (l : List (Fin 8)) (u : State) : ∃ streams channels marks, l.foldl (fun s k => s.turnOff k) u = { u with
        streams := streams, channels := channels, marks := marks } := by
      induction l generalizing u with
      | nil => exact ⟨_, _, _, rfl⟩
      | cons k l ih =>
        have off := (turnOff_turnsOff k u).fields
        rw [List.foldl_cons]
        generalize u.turnOff k = v at off ⊢
        obtain ⟨streams, channels, marks, rfl⟩ := off
        exact ih _
    exact all _ t
  have off (t : State) (k : Fin 8) : (allPorts.foldl (fun s k => s.turnOff k) t).channels[k] =
      { t.channels[k] with binding := .unbound, talkers := [], wait := none, misses := 0 } := by
    obtain ⟨v, -, sheds, -, rest⟩ := foldl_channel (fun s k => s.turnOff k) (fun s k => turnOff_listens k s)
      (fun s j k apart => (turnOff_turnsOff j s).others k apart.symm) k t
    rw [(turnOff_turnsOff k v).off] at rest
    obtain ⟨l, -, shed⟩ := sheds
    rw [rest.of_silent rfl, shed]
  have fields := alike (s.setTalk none)
  have each := off (s.setTalk none)
  unfold State.speakerLeaves
  dsimp only
  generalize List.foldl (fun s k => State.turnOff k s) (s.setTalk none) allPorts = t at fields each ⊢
  obtain ⟨streams, channels, marks, rfl⟩ := fields
  exact ⟨_, streams, channels, marks, rfl, each⟩

/-- Every stream entry removed (R159). -/
theorem removeStreams_all (s : State) : ∃ streams channels marks,
    s.removeStreams (fun _ => true) = { s with streams := streams, channels := channels, marks := marks } ∧
    (∀ i : Fin 32, streams[i] = none) ∧ ∀ k : Fin 8, (s.channels[k]).ShedsTo channels[k] := by
  have retuned := removeStreams_retunes (fun _ => true) s
  have announced (l : List StreamEntry) (u : State) : (u.announceEnds l).streams = u.streams := by
    unfold State.announceEnds
    split <;> rfl
  have streams (i : Fin 32) : (s.removeStreams fun _ => true).streams[i] = none := by
    unfold State.removeStreams
    rw [announced]
    simp only [mapTable, Fin.getElem_fin, Vector.getElem_ofFn]
    split <;> rfl
  generalize s.removeStreams _ = t at retuned streams ⊢
  obtain ⟨st, channels, marks, rfl, sheds⟩ := retuned.fields
  exact ⟨st, channels, marks, rfl, streams, sheds⟩

end Sys2Proof.Machine
end

section
/-! PROOFS. LEAVE (R12, R35). -/

namespace Sys2Proof.Machine

/-- Every block at a LEAVE or CLASHED, the station already away from the floor (R35, R36). -/
theorem leaveBlocks_left (s : State) (away : s.awayFromFloor = true) : s.Leaves s.leaveBlocks ∧ s.HasLeft s.leaveBlocks := by
  have lines := linesLeave_left s away
  have ports := portsLeave_left s.linesLeave
  have position := positionLeaves_left s.linesLeave.portsLeave.callsLeave
  have speaker := speakerLeaves_left s.linesLeave.portsLeave.callsLeave.positionLeaves
  have streams := removeStreams_all s.linesLeave.portsLeave.callsLeave.positionLeaves.speakerLeaves
  unfold State.leaveBlocks
  generalize s.linesLeave = u1 at *
  generalize u1.portsLeave = u2 at *
  have f3 : u2.callsLeave = { u2 with
      slots := Vector.replicate 4 Slot.empty, signalWord := 0#16, setters := Vector.replicate 16 none } := rfl
  generalize u2.callsLeave = u3 at *
  generalize u3.positionLeaves = u4 at *
  generalize u4.speakerLeaves = u5 at *
  generalize u5.removeStreams (fun _ => true) = u6 at *
  obtain ⟨records, taps, ring, st1, ch1, mk1, f1⟩ := lines.alike
  obtain ⟨ports, mk2, f2, portsLeft⟩ := ports
  obtain ⟨mirrors, handsets, sq4, st4, ch4, mk4, nt4, of4, f4, mirrorsLeft, handsetsLeft, sheds4⟩ := position
  obtain ⟨sq5, st5, ch5, mk5, f5, off⟩ := speaker
  obtain ⟨st6, ch6, mk6, f6, gone, sheds6⟩ := streams
  have leaves : u1.Leaves u6 := by
    have l2 : u1.Leaves u2 := ⟨by rw [f2]⟩
    have l3 : u2.Leaves u3 := ⟨by rw [f3]⟩
    have l4 : u3.Leaves u4 := ⟨by rw [f4]⟩
    have l5 : u4.Leaves u5 := ⟨by rw [f5]⟩
    have l6 : u5.Leaves u6 := ⟨by rw [f6]⟩
    exact (((l2.trans l3).trans l4).trans l5).trans l6
  have recordsKept : u6.records = u1.records := by rw [f6, f5, f4, f3, f2]
  have tapsKept : u6.taps = u1.taps := by rw [f6, f5, f4, f3, f2]
  have ringKept : u6.ring = u1.ring := by rw [f6, f5, f4, f3, f2]
  have slotsLeft : u6.slots = u3.slots := by rw [f6, f5, f4]
  have wordLeft : u6.signalWord = u3.signalWord := by rw [f6, f5, f4]
  have settersLeft : u6.setters = u3.setters := by rw [f6, f5, f4]
  have portsKept : u6.ports = u2.ports := by rw [f6, f5, f4, f3]
  have mirrorsKept : u6.mirrors = u4.mirrors := by rw [f6, f5]
  have handsetsKept : u6.handsets = u4.handsets := by rw [f6, f5]
  have heldKept : u6.held = u4.held := by rw [f6, f5]
  have asksKept : u6.pendingAsks = u4.pendingAsks := by rw [f6, f5]
  have talkKept : u6.talk = u5.talk := by rw [f6]
  have channels4 : u4.channels = ch4 := by rw [f4]
  have channels5 : u5.channels = ch5 := by rw [f5]
  have channels3 : u3.channels = u1.channels := by rw [f3, f2]
  have start : s.Leaves u1 := ⟨by rw [f1]⟩
  have used (k : Fin 8) : u1.used k = s.used k := by rw [f1]; rfl
  have ports1 : u1.ports = s.ports := by rw [f1]
  have mirrors3 : u3.mirrors = s.mirrors := by rw [f3, f2, f1]
  have handsets3 : u3.handsets = s.handsets := by rw [f3, f2, f1]
  refine ⟨start.trans leaves, ?_⟩
  constructor
  case lines =>
    intro k r stands
    obtain ⟨r', record, left⟩ := lines.records k r stands
    rw [recordsKept]
    exact ⟨r', record, left.state, left.members, left.listeners, left.ring, left.holdOver, left.conflict, left.refresh,
      left.far⟩
  case slots =>
    intro i
    rw [slotsLeft, f3]
    exact Vector.getElem_replicate _
  case ports =>
    intro k
    rw [portsKept, f2]
    refine (portsLeft k).trans ?_
    rw [used k, ports1]
    rfl
  case taps =>
    rw [tapsKept, ringKept]
    exact lines.taps
  case signals =>
    refine ⟨by rw [wordLeft, f3], by rw [f6, f5, f4, f3, f2, f1], fun n => ?_⟩
    rw [settersLeft, f3]
    exact Vector.getElem_replicate _
  case mirrors =>
    rw [mirrorsKept, f4, ← mirrors3]
    exact mirrorsLeft
  case handsets =>
    intro h
    rw [handsetsKept, f4, ← handsets3]
    exact handsetsLeft h
  case asks => exact ⟨by rw [heldKept, f4], by rw [asksKept, f4]⟩
  case channels =>
    intro k
    have shed := lines.channels k
    rw [← channels3] at shed
    have shed' := shed.trans (sheds4 k)
    have last := sheds6 k
    rw [channels5] at last
    rw [channels4] at off
    have silent := last.of_silent (by rw [off k])
    rw [show u6.channels = ch6 by rw [f6], silent, off k]
    obtain ⟨l, -, cut⟩ := shed'
    rw [cut]
  case talk => rw [talkKept, f5]
  case streams =>
    intro i
    rw [show u6.streams = st6 by rw [f6]]
    exact gone i
  case kept =>
    exact ⟨by rw [f6, f5, f4, f3, f2, f1], by rw [f6, f5, f4, f3, f2, f1], by rw [f6, f5, f4, f3, f2, f1],
      by rw [f6, f5, f4, f3, f2, f1]⟩

/-- The station that a LEAVE takes off the floor, its blocks not yet left (R12, R35). -/
def State.leaving (s : State) : State :=
  let s1 := s.flushQueue.stopStationTimers.enter .left
  if s.isActive then s1.sendLeaving else s1

theorem leaveFloor_eq (s : State) : s.leaveFloor = s.leaving.leaveBlocks := rfl

theorem flushed_inTransmission (s : State) : s.flushQueue.inTransmission = s.inTransmission ∧ s.flushQueue.waiting = [] := by
  unfold State.flushQueue State.setWaiting State.inTransmission State.waiting
  cases s.transmitting <;> cases s.txQueue <;> exact ⟨rfl, rfl⟩

theorem leaving_fields (s : State) : ∃ queue sending idle looks,
    s.leaving = { s with
      txQueue := queue, transmitting := sending, mediumIdle := idle, mediumLooks := looks
      beaconTimer := none, listenTimer := none, stationState := .left, marks := (s.enter .left).marks } ∧
    (s.stationState = .active → queue = s.inTransmission ++
      [⟨Config.allStations, .beacon (s.card true), s.stationTime, s.blocks 100, false⟩]) ∧
    (s.stationState ≠ .active → queue = s.inTransmission ∧ sending = s.transmitting ∧ idle = s.mediumIdle) := by
  obtain ⟨sends, waits⟩ := flushed_inTransmission s
  by_cases active : s.stationState = .active
  · have left : s.leaving = (s.flushQueue.stopStationTimers.enter .left).sendLeaving := if_pos ((isActive_iff s).mpr active)
    have queue := acceptEntry_txQueue ((s.flushQueue.stopStationTimers.enter .left).newEntry Config.allStations
      (.beacon ((s.flushQueue.stopStationTimers.enter .left).card true))) (s.flushQueue.stopStationTimers.enter .left)
    have inTransmission : (s.flushQueue.stopStationTimers.enter .left).inTransmission = s.inTransmission := sends
    have waiting : (s.flushQueue.stopStationTimers.enter .left).waiting = [] := waits
    have alike : ∃ queue sending idle looks, (s.flushQueue.stopStationTimers.enter .left).sendLeaving =
        { s.flushQueue.stopStationTimers.enter .left with
          txQueue := queue, transmitting := sending, mediumIdle := idle, mediumLooks := looks } := by
      unfold State.sendLeaving State.acceptEntry State.seizeMedium
      dsimp only
      repeat' split
      all_goals exact ⟨_, _, _, _, rfl⟩
    rw [inTransmission, waiting] at queue
    obtain ⟨q, sending, idle, looks, fields⟩ := alike
    refine ⟨q, sending, idle, looks, by rw [left, fields]; rfl, fun _ => ?_, fun other => absurd active other⟩
    have named : q = (s.flushQueue.stopStationTimers.enter .left).sendLeaving.txQueue := by rw [fields]
    exact named.trans queue
  · have left : s.leaving = s.flushQueue.stopStationTimers.enter .left :=
      if_neg fun h => active ((isActive_iff s).mp h)
    refine ⟨s.inTransmission, s.transmitting, s.mediumIdle, s.mediumLooks, ?_, fun h => absurd h active,
      fun _ => ⟨rfl, rfl, rfl⟩⟩
    rw [left]
    have flushed : s.flushQueue = { s with txQueue := s.inTransmission } :=
      congrArg (fun q => { s with txQueue := q }) (List.append_nil _)
    rw [flushed]
    rfl

/-- Settles O19: the queue is flushed, the LEAVING beacon accepted from ACTIVE, and every block leaves. -/
theorem leaveTakesTheStationOff : Obligations.LeaveTakesTheStationOff := by
  unfold Obligations.LeaveTakesTheStationOff
  intro s answers
  refine ⟨fun state => ?_, fun state => ?_, fun state => request_refused _ answers ?_⟩
  · have allowed : s.leaveRefusal = none := by
      rcases state with state | state | state <;> rw [State.leaveRefusal, state]
    have onFloor : s.stationState ≠ .left := by
      rcases state with state | state | state <;> (rw [state]; nofun)
    have done := request_done (code := 2) (f := fun s : State => if s.stationState = .left then s else s.leaveFloor) answers
      allowed
    rw [if_neg onFloor, leaveFloor_eq] at done
    obtain ⟨queue, sending, idle, looks, fields, active, other⟩ := leaving_fields s
    have used (k : Fin 8) : s.used k = s.leaving.used k := by
      rw [fields]
      have loaded : s.loaded = true := by
        rcases state with state | state | state <;> rw [State.loaded, state]
      rw [State.used, loaded]
      rfl
    have away : s.leaving.awayFromFloor = true := by
      rw [fields]
      rfl
    obtain ⟨⟨alike⟩, left⟩ := leaveBlocks_left s.leaving away
    refine ⟨_, done, ?_⟩
    rw [fields] at alike left used
    rw [fields]
    generalize State.leaveBlocks _ = t at alike left ⊢
    refine ⟨by rw [alike], by rw [alike], by rw [alike], rfl, by rw [alike], ?_, fun h => ?_, fun h => ?_⟩
    · refine ⟨left.lines, left.slots, fun k => ?_, left.taps, left.signals, left.mirrors, left.handsets, left.asks,
        left.channels, left.talk, left.streams, left.kept⟩
      rw [used k]
      exact left.ports k
    · rw [show State.txQueue { t with panelAnswer := _ } = queue from congrArg State.txQueue alike]
      exact active h
    · obtain ⟨same, sends, idles⟩ := other h
      exact ⟨(congrArg State.txQueue alike).trans same, (congrArg State.transmitting alike).trans sends,
        (congrArg State.mediumIdle alike).trans idles⟩
  · have allowed : s.leaveRefusal = none := by rw [State.leaveRefusal, state]
    have done := request_done (code := 2) (f := fun s : State => if s.stationState = .left then s else s.leaveFloor) answers
      allowed
    rwa [if_pos state] at done
  · rcases state with state | state | state <;> rw [State.leaveRefusal, state]

end Sys2Proof.Machine
end

section
/-! SUPPORT. Following the homes of the lines the station keeps something of (R94, R95, R139). -/

namespace Sys2Proof.Machine

/-! ### The lines that are kept -/

theorem distinct_nodup {α : Type} [DecidableEq α] (l : List α) : (distinct l).Nodup := by
  refine foldl_preserves List.Nodup _ (fun acc a h => ?_) l [] List.nodup_nil
  by_cases old : a ∈ acc
  · rw [if_pos old]
    exact h
  · rw [if_neg old]
    exact List.nodup_append.mpr ⟨h, List.nodup_singleton a, fun x hx y hy same => old (by rwa [← List.mem_singleton.mp hy, ← same])⟩

/-- The station has nothing of a line but, perhaps, its mirror: no binding, held entry, pending ask or channel. -/
structure State.FreeOf (line : LineNo) (t : State) : Prop where
  bindings : ∀ h : Fin 2, ∀ b ∈ (t.handsets[h]).bindings, b.circuit ≠ .line line
  held : ∀ e ∈ t.held, e.line ≠ line
  asks : ∀ a ∈ t.pendingAsks, a.line ≠ line
  channels : ∀ k : Fin 8, (t.channels[k]).binding ≠ .line line

theorem State.FreeOf.forgoes {s t : State} {line : LineNo} (free : s.FreeOf line) (p : s.Forgoes t) : t.FreeOf line where
  bindings h b hb bound := by
    obtain ⟨x, hx, same⟩ := p.bindings h b hb
    exact free.bindings h x hx (same.trans bound)
  held e he here := by
    obtain ⟨x, hx, same⟩ := p.held e he
    exact free.held x hx (same.trans here)
  asks a ha := free.asks a (p.asks a ha)
  channels k bound := free.channels k (p.channels k line bound)

theorem mem_linesKept (s : State) (line : LineNo) : line ∈ s.linesKept ↔
    (∃ m ∈ s.mirrors, m.line = line) ∨ (∃ h : Fin 2, ∃ b ∈ (s.handsets[h]).bindings, b.circuit = .line line) ∨
    (∃ e ∈ s.held, e.line = line) ∨ (∃ a ∈ s.pendingAsks, a.line = line) ∨
    ∃ k : Fin 8, (s.channels[k]).binding = .line line := by
  have bound (b : Binding) : b.line = some line ↔ b.circuit = .line line := by
    unfold Binding.line
    cases b.circuit <;> simp
  have heard (c : Channel) : (match c.binding with | .line n => some n | _ => none) = some line ↔ c.binding = .line line := by
    cases c.binding <;> simp
  have speaker : (∃ c ∈ s.channels.toList, c.binding = .line line) ↔ ∃ k : Fin 8, (s.channels[k]).binding = .line line := by
    constructor
    · rintro ⟨c, hc, here⟩
      obtain ⟨i, hi, rfl⟩ := Vector.mem_iff_getElem.mp (Vector.mem_toList_iff.mp hc)
      exact ⟨⟨i, hi⟩, here⟩
    · rintro ⟨k, here⟩
      exact ⟨s.channels[k], Vector.mem_toList_iff.mpr (Vector.getElem_mem k.isLt), here⟩
  have both : (∃ h ∈ bothHandsets, ∃ b ∈ (s.handsets[h]).bindings, b.circuit = .line line) ↔
      ∃ h : Fin 2, ∃ b ∈ (s.handsets[h]).bindings, b.circuit = .line line := by
    have mem (h : Fin 2) : h ∈ bothHandsets := by revert h; decide
    exact ⟨fun ⟨h, _, there⟩ => ⟨h, there⟩, fun ⟨h, there⟩ => ⟨h, mem h, there⟩⟩
  unfold State.linesKept
  rw [mem_distinct]
  simp only [List.mem_append, List.mem_map, List.mem_flatMap, List.mem_filterMap, bound, or_assoc, both]
  refine or_congr_right (or_congr_right (or_congr_right (or_congr_right ?_)))
  rw [← speaker]
  exact exists_congr fun c => and_congr_right fun _ => heard c

theorem freeOf_unkept {s : State} {line : LineNo} (unkept : line ∉ s.linesKept) : s.FreeOf line := by
  rw [mem_linesKept] at unkept
  push Not at unkept
  obtain ⟨-, bindings, held, asks, channels⟩ := unkept
  exact ⟨bindings, held, asks, channels⟩

theorem mirrorOf_mem {s : State} {line : LineNo} {m : Mirror} (mirrored : s.mirrorOf line = some m) :
    m ∈ s.mirrors ∧ m.line = line :=
  ⟨List.mem_of_find?_eq_some mirrored, mirrorOf_line mirrored⟩

theorem kept_of_mirror {s : State} {line : LineNo} {m : Mirror} (mirrored : s.mirrorOf line = some m) :
    line ∈ s.linesKept :=
  (mem_linesKept s line).mpr (.inl ⟨m, mirrorOf_mem mirrored⟩)

/-! ### One change of home -/

theorem homeChanged_freeOf (s : State) (old : Option Station) (line : LineNo) (was : old ≠ none) :
    (s.homeChanged old line).FreeOf line := by
  obtain ⟨-, -, -, -, -, -, lost⟩ := homeChanged_tells s _ old line rfl
  obtain ⟨handsets, held, asks, channels, -⟩ := lost was
  generalize s.homeChanged old line = t at handsets held asks channels ⊢
  refine ⟨fun h b hb => ?_, fun e he => ?_, fun a ha => ?_, fun k bound => ?_⟩
  · rw [handsets] at hb
    exact bne_iff_ne.mp (List.mem_filter.mp hb).2
  · rw [held] at he
    exact bne_iff_ne.mp (List.mem_filter.mp he).2
  · rw [asks] at ha
    exact bne_iff_ne.mp (List.mem_filter.mp ha).2
  · by_cases here : (s.channels[k]).binding = .line line
    · rw [(channels k).1 here] at bound
      cases bound
    · rw [(channels k).2 here] at bound
      exact here bound

/-! ### All changes of home -/

/-- One line of the fold of `followHomes`. -/
def State.followHome (before s t : State) (line : LineNo) : State :=
  if before.homeOf line = s.homeOf line then t else t.homeChanged (before.homeOf line) line

theorem followHomes_eq (s before : State) : s.followHomes before = before.linesKept.foldl (before.followHome s) s := rfl

theorem followHome_lineWork (before s t : State) (line : LineNo) : t.LineWork (before.followHome s t line) := by
  unfold State.followHome
  split
  · exact .refl t
  · exact homeChanged_lineWork ..

theorem followHome_mirrorOf (before s t : State) {other line : LineNo} (apart : line ≠ other) :
    (before.followHome s t other).mirrorOf line = t.mirrorOf line := by
  unfold State.followHome
  split
  · rfl
  · obtain ⟨-, -, -, -, others, -, -⟩ := homeChanged_tells t _ (before.homeOf other) other rfl
    exact others line apart

theorem followHome_foldl_mirrorOf (before s : State) (line : LineNo) (l : List LineNo) (apart : line ∉ l) (t : State) :
    (l.foldl (before.followHome s) t).mirrorOf line = t.mirrorOf line := by
  induction l generalizing t with
  | nil => rfl
  | cons other l ih =>
    rw [List.mem_cons, not_or] at apart
    rw [List.foldl_cons, ih apart.2, followHome_mirrorOf before s t apart.1]

theorem foldl_still {α β : Type} (f : β → α → β) (l : List α) (b : β) (still : ∀ a ∈ l, f b a = b) : l.foldl f b = b := by
  induction l with
  | nil => rfl
  | cons a l ih =>
    rw [List.foldl_cons, still a List.mem_cons_self]
    exact ih fun x hx => still x (List.mem_cons_of_mem a hx)

theorem followHomes_still {s before : State} (same : ∀ line : LineNo, before.homeOf line = s.homeOf line) :
    s.followHomes before = s :=
  foldl_still _ _ _ fun line _ => if_pos (same line)

/-- The place of one line's change of home among the others. -/
theorem followHomes_place {s before : State} {line : LineNo} (kept : line ∈ before.linesKept)
    (moved : before.homeOf line ≠ s.homeOf line) : ∃ l u : _, line ∉ (l : List LineNo) ∧ s.LineWork u ∧
    u.mirrorOf line = s.mirrorOf line ∧
    s.followHomes before = l.foldl (before.followHome s) (u.homeChanged (before.homeOf line) line) := by
  obtain ⟨front, back, split⟩ := List.append_of_mem kept
  have once : before.linesKept.Nodup := distinct_nodup _
  rw [split, List.nodup_append, List.nodup_cons] at once
  obtain ⟨-, ⟨later, -⟩, earlier⟩ := once
  refine ⟨back, front.foldl (before.followHome s) s, later, .foldl _ (followHome_lineWork before s) front s,
    followHome_foldl_mirrorOf before s line front (fun h => earlier line h line List.mem_cons_self rfl) s, ?_⟩
  rw [followHomes_eq, split, List.foldl_append, List.foldl_cons]
  exact congrArg (fun t => back.foldl (before.followHome s) t) (if_neg moved)

/-- A line whose home was a station and has changed leaves nothing but its mirror (R95, R139). -/
theorem followHomes_freeOf {s before : State} {line : LineNo} (forgoes : before.Forgoes s)
    (was : before.homeOf line ≠ none) (moved : before.homeOf line ≠ s.homeOf line) : (s.followHomes before).FreeOf line := by
  by_cases kept : line ∈ before.linesKept
  · obtain ⟨l, u, -, -, -, followed⟩ := followHomes_place kept moved
    rw [followed]
    exact (homeChanged_freeOf u _ line was).forgoes
      (State.LineWork.foldl _ (followHome_lineWork before s) l (u.homeChanged (before.homeOf line) line)).forgoes
  · exact (freeOf_unkept kept).forgoes (forgoes.trans (followHomes_lineWork before s).forgoes)

/-- The mirror of a kept line whose home has changed (R95). -/
theorem followHomes_stale {s before : State} {line : LineNo} {m : Mirror} (kept : line ∈ before.linesKept)
    (moved : before.homeOf line ≠ s.homeOf line) (mirrored : s.mirrorOf line = some m) (current : m.state = .current) :
    (s.followHomes before).mirrorOf line = some { m with state := .stale, timer := none } := by
  obtain ⟨l, u, later, -, same, followed⟩ := followHomes_place kept moved
  obtain ⟨-, -, -, here, -⟩ := homeChanged_tells u _ (before.homeOf line) line rfl
  rw [followed, followHome_foldl_mirrorOf before s line l later, here m (same.trans mirrored), if_pos current]

/-- Only one kept line's home has changed. -/
theorem followHomes_once {s before : State} {line : LineNo} (kept : line ∈ before.linesKept)
    (moved : before.homeOf line ≠ s.homeOf line)
    (others : ∀ other : LineNo, other ≠ line → before.homeOf other = s.homeOf other) :
    s.followHomes before = s.homeChanged (before.homeOf line) line := by
  have still (l : List LineNo) (t : State) (apart : line ∉ l) : l.foldl (before.followHome s) t = t :=
    foldl_still _ _ _ fun other listed => if_pos (others other fun same => apart (same ▸ listed))
  obtain ⟨front, back, split⟩ := List.append_of_mem kept
  have once : before.linesKept.Nodup := distinct_nodup _
  rw [split, List.nodup_append, List.nodup_cons] at once
  obtain ⟨-, ⟨later, -⟩, earlier⟩ := once
  rw [followHomes_eq, split, List.foldl_append, List.foldl_cons,
    still front s fun h => earlier line h line List.mem_cons_self rfl, still back _ later]
  exact if_neg moved

end Sys2Proof.Machine
end

section
/-! PROOFS. Changes of home and the station's bindings (R94, R95, R139). -/

namespace Sys2Proof.Machine

/-! ### The home of a line -/

/-- The home of a line is its lowest candidate (R94). -/
theorem homeOf_iff (s : State) (line : LineNo) (p : Station) : s.homeOf line = some p ↔
    s.homeCandidate line p = true ∧ 1 ≤ p.toNat ∧ p.toNat ≤ Config.lastStation ∧
    ∀ q : Station, 1 ≤ q.toNat → q.toNat < p.toNat → s.homeCandidate line q = false := by
  have number (i : Nat) (h : i < Config.lastStation) : (BitVec.ofNat 6 (i + 1)).toNat = i + 1 := by
    have : Config.lastStation = 62 := rfl
    rw [BitVec.toNat_ofNat, Nat.mod_eq_of_lt (by omega)]
  have named (q : Station) (low : 1 ≤ q.toNat) : BitVec.ofNat 6 (q.toNat - 1 + 1) = q := by
    rw [Nat.sub_add_cancel low, BitVec.ofNat_toNat, BitVec.setWidth_eq]
  unfold State.homeOf allStationNumbers
  rw [List.find?_map, Option.map_eq_some_iff]
  constructor
  · rintro ⟨i, found, rfl⟩
    obtain ⟨here, listed, below⟩ := List.find?_range_eq_some.mp found
    rw [List.mem_range] at listed
    rw [number i listed]
    refine ⟨here, by omega, by omega, fun q low high => ?_⟩
    have none := below (q.toNat - 1) (by omega)
    rw [Function.comp, named q low] at none
    simpa using none
  · rintro ⟨here, low, high, below⟩
    refine ⟨p.toNat - 1, List.find?_range_eq_some.mpr ⟨?_, List.mem_range.mpr (by omega), fun j hj => ?_⟩, named p low⟩
    · rw [Function.comp, named p low]
      exact here
    · have small : j < Config.lastStation := by omega
      rw [Function.comp, below _ (by rw [number j small]; omega) (by rw [number j small]; omega)]
      rfl

/-! ### A BEACON of another station -/

theorem frame_source {octets : List Octet} {f : Frame} (good : readFrame octets = some f) :
    1 ≤ f.source.toNat ∧ f.source.toNat ≤ Config.lastStation := by
  obtain ⟨-, -, -, -, low, high, -⟩ := badFramesAreCounted.2 octets f good
  exact ⟨low, high⟩

/-- A good BEACON of another station: the peer table first, then its events (R22, R23). -/
theorem beacon_heard {s : State} {unit crc : List Octet} {source target : Station} {c : Card} (loaded : s.loaded = true)
    (other : source ≠ s.cfg.station) (good : readFrame (unit ++ crc) = some ⟨source, target, .beacon c⟩) :
    exec (.beaconReceived unit crc) s =
      .next ((s.findBusy.peerTakes source (.beacon c)).peerEvents s.findBusy source (.beacon c)) := by
  have heard : s.hearAs (·.kind == .beacon) (unit ++ crc) = s.hear (unit ++ crc) := hearAs_row _ _ _ s good rfl
  have taken : s.hear (unit ++ crc) = s.findBusy.takeOther source target (.beacon c) := by
    unfold State.hear
    rw [good]
    exact (if_pos loaded).trans (if_neg other)
  have handed : s.findBusy.takeOther source target (.beacon c) =
      (s.findBusy.peerTakes source (.beacon c)).peerEvents s.findBusy source (.beacon c) := by
    unfold State.takeOther
    exact ite_self _
  exact congrArg Host.Outcome.next ((heard.trans taken).trans handed)

/-- A station that has stored the card of a PRESENT one (R22). -/
def State.meeting (s : State) (st : Station) (c : Card) : State :=
  { s with mediumIdle := false, peers := s.peers.set (stationIndex st) ⟨.present, some c, some (s.blocks 400)⟩ }

theorem meeting_peer (s : State) (st : Station) (c : Card) :
    (s.meeting st c).peer st = ⟨.present, some c, some (s.blocks 400)⟩ := by
  rw [State.peer, State.meeting, Fin.getElem_fin, Vector.getElem_set_self]

theorem setPeer_peer_other {s : State} {st q : Station} {p : Peer} (apart : q ≠ st) :
    (s.setPeer st p).peer q = s.peer q := by
  have index : (stationIndex st).val ≠ (stationIndex q).val := fun same => apart (BitVec.eq_of_toNat_eq same.symm)
  rw [State.peer, State.setPeer, Fin.getElem_fin, Vector.getElem_set_ne _ _ index]
  rfl

theorem meeting_peer_other {s : State} {st q : Station} {c : Card} (apart : q ≠ st) :
    (s.meeting st c).peer q = s.peer q := setPeer_peer_other (s := s) apart

/-- What a BEACON with LEAVING clear leads to: the homes followed once, the card judged before or behind it (R23, R25;
log 13). -/
theorem beacon_met {s : State} {unit crc : List Octet} {source target : Station} {c : Card} (loaded : s.loaded = true)
    (other : source ≠ s.cfg.station) (good : readFrame (unit ++ crc) = some ⟨source, target, .beacon c⟩)
    (staying : c.leaving = false) : ∃ u v : State, (s.meeting source c).HomeWork u ∧ (u.followHomes s.findBusy).HomeWork v ∧
      exec (.beaconReceived unit crc) s = .next v := by
  have taken : s.findBusy.peerTakes source (.beacon c) = s.meeting source c := by
    rw [State.peerTakes, staying]
    rfl
  have heard := beacon_heard loaded other good
  rw [taken] at heard
  have present : ((s.meeting source c).peer source).state = .present := by rw [meeting_peer]
  cases known : (s.findBusy.peer source).state with
  | present =>
    refine ⟨(s.meeting source c).sightCard source, _, sightCard_homeWork source _, .refl _, heard.trans ?_⟩
    unfold State.peerEvents
    rw [known, present]
    rfl
  | absent | left | silent =>
    have followed := followHomes_lineWork s.findBusy (s.meeting source c)
    have sighted := sightCard_homeWork source ((s.meeting source c).followHomes s.findBusy)
    refine ⟨s.meeting source c, ((s.meeting source c).followHomes s.findBusy).sightCard source, .refl _, sighted,
      heard.trans ?_⟩
    unfold State.peerEvents
    rw [known, present]
    refine congrArg Host.Outcome.next (followHomes_still fun line => ?_)
    rw [sighted.work.homeOf, followed.homeOf]

/-- A line whose new home is the station met (R94). -/
theorem meeting_homeOf {s : State} {source p : Station} {c : Card} {line : LineNo} (range : 1 ≤ source.toNat)
    (lists : ∃ e ∈ c.homeLines, e.1 = line) (records : s.recordFor line = none) (home : s.homeOf line = some p)
    (lower : source.toNat < p.toNat) : (s.meeting source c).homeOf line = some source := by
  obtain ⟨-, -, high, below⟩ := (homeOf_iff s line p).mp home
  refine (homeOf_iff _ line source).mpr ⟨?_, range, by omega, fun q low small => ?_⟩
  · obtain ⟨e, listed, here⟩ := lists
    have any : ((s.meeting source c).peer source).lists line = true := by
      rw [meeting_peer]
      exact List.any_eq_true.mpr ⟨e, listed, beq_iff_eq.mpr here⟩
    unfold State.homeCandidate
    rw [any, meeting_peer]
    rfl
  · have apart : q ≠ source := fun same => by rw [same] at small; omega
    have before := below q low (by omega)
    unfold State.homeCandidate at before ⊢
    rw [meeting_peer_other apart, show (s.meeting source c).recordFor line = s.recordFor line from rfl, records]
    rw [records] at before
    exact before

/-- Settles O28: the operation's equations, the fold over the kept lines, and a BEACON of a lower station. -/
theorem homeChangesLoseTheLine : Obligations.HomeChangesLoseTheLine := by
  unfold Obligations.HomeChangesLoseTheLine
  refine ⟨fun s t old line ht => ?_, fun s before => ⟨followHomes_still, fun line moved others kept => ?_⟩,
    fun s unit crc source target p c line m loaded other good staying lists records home lower mirrored current => ?_⟩
  · obtain ⟨base, recordsKept, queue, mirror, otherMirrors, kept, lost⟩ := homeChanged_tells s t old line ht
    refine ⟨base, recordsKept, queue, mirror, otherMirrors, kept, fun was => ?_⟩
    obtain ⟨handsets, held, asks, channels, told⟩ := lost was
    refine ⟨handsets, held, asks, channels, fun events room calm named => ?_⟩
    have quiet (m : Mirror) (mirrored : s.mirrorOf line = some m) : m.ringing = false := by
      refine Bool.eq_false_iff.mpr fun rings => ?_
      obtain ⟨current, b, content, ringing⟩ := (ringing_iff m).mp rings
      exact (calm m mirrored).elim (fun h => h current) fun h => h b content ringing
    rw [named]
    refine (told quiet).joined ?_
    rw [named] at room
    exact room
  · exact followHomes_once ((mem_linesKept before line).mpr kept) moved others
  · obtain ⟨u, v, toU, toV, done⟩ := beacon_met loaded other good staying
    have new : u.homeOf line = some source :=
      (toU.work.homeOf line).trans (meeting_homeOf (frame_source good).1 lists records home lower)
    have old : s.findBusy.homeOf line = some p := home
    have moved : s.findBusy.homeOf line ≠ u.homeOf line := by
      rw [old, new]
      intro same
      rw [Option.some.inj same] at lower
      exact Nat.lt_irrefl _ lower
    have followed := followHomes_lineWork s.findBusy u
    have recordsU : u.recordFor line = none := (toU.work.recordFor line).trans records
    have forgoes : s.findBusy.Forgoes u := (State.Forgoes.of_same (s := s.findBusy) (t := s.meeting source c) rfl rfl rfl rfl).trans toU.work.forgoes
    have free := (followHomes_freeOf forgoes (by rw [old]; exact Option.some_ne_none p) moved).forgoes toV.work.forgoes
    have stale := followHomes_stale (s := u) (before := s.findBusy) (line := line) (m := m) (kept_of_mirror mirrored) moved
      ((toU.mirrors line records).trans mirrored) current
    refine ⟨v, done, ?_, ?_, free.bindings, free.held, free.asks, free.channels⟩
    · rw [toV.work.homeOf, followed.homeOf, new]
    · rw [toV.mirrors line ((followed.recordFor line).trans recordsU), stale]

end Sys2Proof.Machine
end

section
/-! SUPPORT. Peer lost at every block (R25, R91, R95, R127, R139, R159). -/

namespace Sys2Proof.Machine

/-! ### A record without entries of a station -/

/-- The record of a line port, if there is one, names a station nowhere. -/
def State.WithoutAt (p : Station) (k : Fin 8) (t : State) : Prop := ∀ r : LineRecord, t.records[k] = some r → r.without p

section
variable {p : Station} {k : Fin 8} {t : State}

theorem State.WithoutAt.of_record {u : State} (h : t.WithoutAt p k) (record : u.records[k] = t.records[k]) :
    u.WithoutAt p k := fun r stands => h r (record.symm.trans stands)

theorem settle_without {r : LineRecord} (before : LineState) (c : PortSettings) (out : Bool) (a : Alarms) (n : Nat)
    (h : r.without p) : (r.settle before c out a n).without p := by
  cases out with
  | false => exact h
  | true => exact ⟨fun _ hm => absurd hm List.not_mem_nil, fun _ hl => absurd hl List.not_mem_nil⟩

theorem commitRecord_without (h : t.WithoutAt p k) (j : Fin 8) (x : LineRecord) (changed : j = k → x.without p) :
    (t.commitRecord j x).WithoutAt p k := by
  by_cases here : j = k
  · subst here
    obtain ⟨before, record⟩ := commitRecord_here j x t
    intro r stands
    obtain rfl := Option.some.inj (record.symm.trans stands)
    exact settle_without _ _ _ _ _ (changed rfl)
  · exact h.of_record (commitRecord_other (Ne.symm here))

theorem dropped_without {r : LineRecord} (h : r.without p) (q : Party) : (r.dropped q).without p :=
  ⟨fun m hm => h.1 m (List.mem_of_mem_filter hm), fun l hl => h.2 l (List.mem_of_mem_filter hl)⟩

theorem dropRequest_without (h : t.WithoutAt p k) (line : LineNo) (q : LineRequest) (op : q.op = .drop) :
    (t.takeRequest line q).WithoutAt p k := by
  unfold State.takeRequest
  split
  · next j _ _ =>
    unfold State.changeRecord
    split
    · next x stands =>
      refine commitRecord_without h j _ fun here => ?_
      subst here
      have granted : x.granted (t.lineContext j) q = x.dropped q.requester := by rw [LineRecord.granted, op]
      dsimp only
      rw [granted]
      exact dropped_without (h x stands) q.requester
    · exact h
  · exact h

theorem restartRefresh_without (h : t.WithoutAt p k) (j : Fin 8) : (t.restartRefresh j).WithoutAt p k := by
  unfold State.restartRefresh
  split
  · next x stands =>
    split
    · by_cases here : j = k
      · subst here
        intro r set
        rw [State.setRecord, Fin.getElem_fin, Vector.getElem_set_self] at set
        obtain rfl := Option.some.inj set
        exact h x stands
      · exact h.of_record (records_set_other (Ne.symm here))
    · exact h
  · exact h

theorem announceWithin_without (n : Nat) (j : Fin 8) (t : State) (h : t.WithoutAt p k) :
    (t.announceWithin n j).WithoutAt p k := by
  induction n generalizing j t with
  | zero => exact h
  | succ n ih =>
    have dropped (line : LineNo) (u : State) (x : Port) (hu : u.WithoutAt p k) :
        (u.dropLocally (State.announceWithin n) line x).WithoutAt p k := by
      have tagged : u.takeTag.WithoutAt p k := hu
      unfold State.dropLocally
      split
      · have done := dropRequest_without tagged line (u.ownRequest .drop x x false) rfl
        dsimp only
        split
        · exact done
        · exact ih _ _ done
      · exact tagged
    unfold State.announceWithin
    split
    · next b _ =>
      have offered : ((t.send Config.allStations (.state b)).restartRefresh j).WithoutAt p k :=
        restartRefresh_without (h.of_record (by rw [send_records])) j
      generalize State.restartRefresh j _ = u at offered
      rw [handOver_eq]
      split
      · have positioned : (u.positionTakes u.cfg.station b).1.WithoutAt p k :=
          offered.of_record (by rw [(positionTakes_lineWork u.cfg.station b u).1.records])
        have spoken : ((u.positionTakes u.cfg.station b).1.speakerTakes u.cfg.station b).1.WithoutAt p k :=
          positioned.of_record (by rw [(speakerTakes_listens u.cfg.station b _).works.records])
        exact foldl_preserves _ _ (fun v x hv => dropped _ v x hv) _ _ spoken
      · exact offered
    · exact h

theorem announceChange_without (before : State) (j : Fin 8) (h : t.WithoutAt p k) :
    (t.announceChange before j).WithoutAt p k := by
  unfold State.announceChange
  split
  · exact h
  · exact announceWithin_without _ j t h

end

/-! ### The lines -/

/-- A record whose entries of a station are gone (R91). -/
def LineRecord.losing (p : Station) (r : LineRecord) : LineRecord :=
  { r with
    members := r.members.filter fun m => m.party.station != p
    listeners := r.listeners.filter fun l => l.party.station != p }

theorem losing_without (p : Station) (r : LineRecord) : (r.losing p).without p :=
  ⟨fun _ hm => bne_iff_ne.mp (List.mem_filter.mp hm).2, fun _ hl => bne_iff_ne.mp (List.mem_filter.mp hl).2⟩

/-- One line at peer lost (R91). -/
def State.lineLosesPeer (p : Station) (s : State) (k : Fin 8) : State :=
  match s.records[k] with
  | some r =>
    if r.members.any (fun m => m.party.station == p) || r.listeners.any (fun l => l.party.station == p) then
      (s.commitRecord k (r.losing p)).announceChange s k
    else s
  | none => s

theorem linesLosePeer_eq (p : Station) (s : State) : s.linesLosePeer p = allPorts.foldl (State.lineLosesPeer p) s := rfl

/-- A line without entries of the lost station stays as it is, each other one is put in place without them (R91). -/
theorem lineLosesPeer_cases (p : Station) (s : State) (k : Fin 8) :
    (s.lineLosesPeer p k = s ∧ ∀ r : LineRecord, s.records[k] = some r → r.losing p = r) ∨
    ∃ r : LineRecord, s.records[k] = some r ∧
      s.lineLosesPeer p k = (s.commitRecord k (r.losing p)).announceChange s k := by
  cases stands : s.records[k] with
  | none => exact .inl ⟨by rw [State.lineLosesPeer, stands], fun _ h => (Option.some_ne_none _ h.symm).elim⟩
  | some r =>
    by_cases named : (r.members.any (fun m => m.party.station == p) || r.listeners.any fun l => l.party.station == p) = true
    · refine .inr ⟨r, rfl, ?_⟩
      rw [State.lineLosesPeer, stands]
      exact if_pos named
    · refine .inl ⟨?_, fun x hx => ?_⟩
      · rw [State.lineLosesPeer, stands]
        exact if_neg named
      · obtain rfl := Option.some.inj hx
        rw [Bool.or_eq_true, not_or, List.any_eq_true, List.any_eq_true] at named
        obtain ⟨members, listeners⟩ := named
        have keepMembers : r.members.filter (fun m => m.party.station != p) = r.members :=
          List.filter_eq_self.mpr fun m hm => bne_iff_ne.mpr fun same => members ⟨m, hm, beq_iff_eq.mpr same⟩
        have keepListeners : r.listeners.filter (fun l => l.party.station != p) = r.listeners :=
          List.filter_eq_self.mpr fun l hl => bne_iff_ne.mpr fun same => listeners ⟨l, hl, beq_iff_eq.mpr same⟩
        rw [LineRecord.losing, keepMembers, keepListeners]

theorem lineLosesPeer_homeWork (p : Station) (s : State) (k : Fin 8) : s.HomeWork (s.lineLosesPeer p k) := by
  rcases lineLosesPeer_cases p s k with ⟨same, -⟩ | ⟨r, stands, changed⟩
  · rw [same]
    exact .refl s
  · rw [changed]
    exact (commitRecord_homeWork (by rw [stands]; rfl)).trans (announceChange_homeWork _ _ _)

theorem linesLosePeer_homeWork (p : Station) (s : State) : s.HomeWork (s.linesLosePeer p) :=
  .foldl _ (lineLosesPeer_homeWork p) allPorts s

theorem lineLosesPeer_without (p : Station) (s : State) (j : Fin 8) :
    (s.lineLosesPeer p j).WithoutAt p j ∧ ∀ k : Fin 8, s.WithoutAt p k → (s.lineLosesPeer p j).WithoutAt p k := by
  rcases lineLosesPeer_cases p s j with ⟨same, lost⟩ | ⟨r, stands, changed⟩
  · rw [same]
    refine ⟨fun r stands => ?_, fun _ h => h⟩
    rw [← lost r stands]
    exact losing_without p r
  · rw [changed]
    have every (k : Fin 8) (h : j ≠ k → s.WithoutAt p k) :
        ((s.commitRecord j (r.losing p)).announceChange s j).WithoutAt p k := by
      refine announceChange_without s j ?_
      by_cases here : j = k
      · subst here
        obtain ⟨before, record⟩ := commitRecord_here j (r.losing p) s
        intro x hx
        obtain rfl := Option.some.inj (record.symm.trans hx)
        exact settle_without _ _ _ _ _ (losing_without p r)
      · exact commitRecord_without (h here) j _ fun same => absurd same here
    exact ⟨every j fun apart => absurd rfl apart, fun k h => every k fun _ => h⟩

/-- After peer lost no record names the station (R91). -/
theorem linesLosePeer_without (p : Station) (s : State) (k : Fin 8) : (s.linesLosePeer p).WithoutAt p k := by
  obtain ⟨split, -, -⟩ := ports_split k
  rw [linesLosePeer_eq, split, List.foldl_append, List.foldl_cons]
  exact foldl_preserves (fun t => State.WithoutAt p k t) _ (fun t j h => (lineLosesPeer_without p t j).2 k h) _ _
    (lineLosesPeer_without p _ k).1

/-- A line in service without own entries keeps the entries of the other stations (R91). -/
theorem linesLosePeer_record {s : State} {p : Station} {k : Fin 8} {r : LineRecord} (stands : s.records[k] = some r)
    (inService : s.outCause k r = false) (foreign : r.foreign s.cfg.station) :
    ∃ r' : LineRecord, (s.linesLosePeer p).records[k] = some r' ∧ r'.members = (r.losing p).members ∧
      r'.listeners = (r.losing p).listeners := by
  have others {r : LineRecord} {l : List (Fin 8)} {t : State} (apart : k ∉ l) (foreign : r.foreign s.cfg.station)
      (cause : s.outCause k r = false) (kept : s.KeepsLine k r t) :
      s.KeepsLine k r (l.foldl (State.lineLosesPeer p) t) := by
    have empty : s.outCause k r = true → r.members = [] ∧ r.listeners = [] := fun out => by
      rw [cause] at out
      cases out
    induction l generalizing t with
    | nil => exact kept
    | cons j l ih =>
      rw [List.mem_cons, not_or] at apart
      refine ih apart.2 ?_
      rcases lineLosesPeer_cases p t j with ⟨same, -⟩ | ⟨x, -, changed⟩
      · rw [same]
        exact kept
      · rw [changed]
        exact announceChange_keepsLine foreign empty t j
          (commitRecord_keepsLine kept j _ (fun here => absurd here.symm apart.1) empty)
  obtain ⟨split, before, after⟩ := ports_split k
  have first := others before foreign inService (.start stands)
  rw [linesLosePeer_eq, split, List.foldl_append, List.foldl_cons]
  generalize List.foldl (State.lineLosesPeer p) s (allPorts.take k.val) = t at first ⊢
  obtain ⟨base, x, record, rests⟩ := first
  have cause : s.outCause k (x.losing p) = false := by
    rw [outCause_eq, LineRecord.losing, rests.conflict, ← outCause_eq]
    exact inService
  have foreign' : (x.losing p).foreign s.cfg.station := by
    obtain ⟨members, listeners⟩ := rests.foreign foreign
    exact ⟨fun m hm => members m (List.mem_of_mem_filter hm), fun l hl => listeners l (List.mem_of_mem_filter hl)⟩
  have here : s.KeepsLine k (x.losing p) (t.lineLosesPeer p k) := by
    rcases lineLosesPeer_cases p t k with ⟨same, lost⟩ | ⟨y, stands', changed⟩
    · rw [same, lost x record]
      exact ⟨base, x, record, .refl x⟩
    · obtain rfl := Option.some.inj (record.symm.trans stands')
      rw [changed]
      have empty : s.outCause k (x.losing p) = true → (x.losing p).members = [] ∧ (x.losing p).listeners = [] := fun out => by
        rw [cause] at out
        cases out
      obtain ⟨old, put⟩ := commitRecord_here k (x.losing p) t
      refine announceChange_keepsLine foreign' empty t k ⟨(commitRecord_base k _ t).trans base, _, put, ?_⟩
      have inputs := inputs_of_base base k
      have out : t.outCause k (x.losing p) = s.outCause k (x.losing p) := by rw [outCause_eq, outCause_eq, inputs]
      have alarms : (t.ports[k]).alarms = (s.ports[k]).alarms := congrArg (fun i => i.2.2.1) inputs
      rw [out, alarms]
      exact settle_rests _ _ _ empty
  obtain ⟨-, r', record', rests'⟩ := others after foreign' cause here
  refine ⟨r', record', ?_, ?_⟩
  · rw [rests'.members, LineRecord.losing, LineRecord.losing, rests.members]
  · rw [rests'.listeners, LineRecord.losing, LineRecord.losing, rests.listeners]

/-! ### The calls -/

/-- What ends calls leaves: the lines and the mirrors as they were, nothing new at the position. -/
structure State.EndsCalls (s t : State) : Prop where
  alike : t = { s with
    slots := t.slots, handsets := t.handsets, sequences := t.sequences, streams := t.streams, channels := t.channels
    marks := t.marks, notices := t.notices, overflow := t.overflow }
  forgoes : s.Forgoes t

theorem State.EndsCalls.trans {s t u : State} (p : s.EndsCalls t) (q : t.EndsCalls u) : s.EndsCalls u :=
  ⟨by rw [q.alike, p.alike], p.forgoes.trans q.forgoes⟩

theorem endCall_ends (i : Fin 4) (reason : CallReason) (s : State) : s.EndsCalls (s.endCall i reason) ∧
    (s.endCall i reason).slots = s.slots.set i Slot.empty := by
  have freed : s.EndsCalls (s.freeCall i) ∧ (s.freeCall i).slots = s.slots.set i Slot.empty := by
    unfold State.freeCall
    dsimp only
    split
    · next h _ _ =>
      have unbound := removeBinding_rebinds h (callCircuit (s.slots[i]).callId) (s.setSlot i Slot.empty)
      generalize State.removeBinding h _ _ = t at unbound
      obtain ⟨alike, sheds⟩ := unbound
      have channels (k : Fin 8) : (s.channels[k]).ShedsTo t.channels[k] := sheds k
      refine ⟨⟨by rw [alike]; rfl, fun j b hb => ?_, fun e he => ⟨e, ?_, rfl⟩, fun a ha => ?_, fun k => .inl (channels k).binding,
        fun j => ?_, fun k => (channels k).controls⟩, by rw [alike]; rfl⟩
      · rw [alike] at hb
        by_cases here : j = h
        · subst here
          simp only [Fin.getElem_fin, Vector.getElem_set_self] at hb
          exact ⟨b, List.mem_of_mem_filter hb, rfl⟩
        · simp only [Fin.getElem_fin, Vector.getElem_set_ne _ _ fun same => here (Fin.ext same.symm)] at hb
          exact ⟨b, hb, rfl⟩
      · rw [alike] at he
        exact he
      · rw [alike] at ha
        exact ha
      · rw [alike]
        by_cases here : j = h
        · subst here
          simp only [Fin.getElem_fin, Vector.getElem_set_self]
          rfl
        · simp only [Fin.getElem_fin, Vector.getElem_set_ne _ _ fun same => here (Fin.ext same.symm)]
          rfl
    · exact ⟨⟨rfl, .of_same rfl rfl rfl rfl⟩, rfl⟩
  have told := notify_lineWork (.callEnded i (s.slots[i]).callId reason) (s.freeCall i)
  obtain ⟨n, o, notified⟩ := notifyAll_frame [.callEnded i (s.slots[i]).callId reason] (s.freeCall i)
  rw [show (s.freeCall i).notifyAll [.callEnded i (s.slots[i]).callId reason] = s.endCall i reason from rfl] at notified
  exact ⟨freed.1.trans ⟨by rw [notified], told.forgoes⟩, by rw [notified]; exact freed.2⟩

/-- One slot at peer lost (R127). -/
def State.slotLosesPeer (p : Station) (s : State) (i : Fin 4) : State :=
  match (s.slots[i]).peer with
  | some q => if q.station = p then s.endCall i .peerLost else s
  | none => s

/-- A slot whose peer is the lost station. -/
def Slot.isWith (p : Station) (x : Slot) : Prop := ∃ q : Party, x.peer = some q ∧ q.station = p

theorem slotLosesPeer_cases (p : Station) (s : State) (i : Fin 4) :
    ((s.slots[i]).isWith p ∧ s.slotLosesPeer p i = s.endCall i .peerLost) ∨
    (¬(s.slots[i]).isWith p ∧ s.slotLosesPeer p i = s) := by
  cases named : (s.slots[i]).peer with
  | none =>
    refine .inr ⟨fun ⟨q, peer, _⟩ => ?_, by rw [State.slotLosesPeer, named]⟩
    rw [named] at peer
    exact Option.some_ne_none _ peer.symm
  | some q =>
    by_cases lost : q.station = p
    · refine .inl ⟨⟨q, named, lost⟩, ?_⟩
      rw [State.slotLosesPeer, named]
      exact if_pos lost
    · refine .inr ⟨fun ⟨x, peer, station⟩ => ?_, ?_⟩
      · obtain rfl := Option.some.inj (named.symm.trans peer)
        exact lost station
      · rw [State.slotLosesPeer, named]
        exact if_neg lost

/-- Peer lost at the call controller (R127). -/
theorem callsLosePeer_ends (p : Station) (s : State) : s.EndsCalls (s.callsLosePeer p) ∧
    ∀ i : Fin 4, ((s.slots[i]).isWith p → (s.callsLosePeer p).slots[i] = Slot.empty) ∧
      (¬(s.slots[i]).isWith p → (s.callsLosePeer p).slots[i] = s.slots[i]) := by
  have all (l : List (Fin 4)) (distinct : l.Nodup) (u : State) : u.EndsCalls (l.foldl (State.slotLosesPeer p) u) ∧
      ∀ i : Fin 4, (i ∈ l → (u.slots[i]).isWith p → (l.foldl (State.slotLosesPeer p) u).slots[i] = Slot.empty) ∧
        (i ∉ l ∨ ¬(u.slots[i]).isWith p → (l.foldl (State.slotLosesPeer p) u).slots[i] = u.slots[i]) := by
    induction l generalizing u with
    | nil => exact ⟨⟨rfl, .refl u⟩, fun i => ⟨fun h => absurd h List.not_mem_nil, fun _ => rfl⟩⟩
    | cons j l ih =>
      obtain ⟨new, rest⟩ := List.nodup_cons.mp distinct
      rw [List.foldl_cons]
      rcases slotLosesPeer_cases p u j with ⟨lost, step⟩ | ⟨kept, step⟩
      · rw [step]
        obtain ⟨ends, slots⟩ := endCall_ends j .peerLost u
        generalize u.endCall j .peerLost = v at ends slots ⊢
        obtain ⟨more, each⟩ := ih rest v
        refine ⟨ends.trans more, fun i => ?_⟩
        by_cases here : i = j
        · subst here
          refine ⟨fun _ _ => ((each i).2 (.inl new)).trans ?_, fun other => (other.elim (absurd List.mem_cons_self) (absurd lost))⟩
          rw [slots, Fin.getElem_fin, Vector.getElem_set_self]
        · have same : v.slots[i] = u.slots[i] := by
            rw [slots, Fin.getElem_fin, Vector.getElem_set_ne _ _ fun h => here (Fin.ext h.symm)]
            rfl
          have both := each i
          rw [same] at both
          refine ⟨fun listed => both.1 ((List.mem_cons.mp listed).resolve_left here), fun other => both.2 ?_⟩
          exact other.imp_left fun h g => h (List.mem_cons_of_mem _ g)
      · rw [step]
        obtain ⟨more, each⟩ := ih rest u
        refine ⟨more, fun i => ⟨fun listed lost => ?_, fun other => (each i).2 ?_⟩⟩
        · rcases List.mem_cons.mp listed with rfl | listed
          · exact absurd lost kept
          · exact (each i).1 listed lost
        · exact other.imp_left fun h g => h (List.mem_cons_of_mem _ g)
  have mem (i : Fin 4) : i ∈ allSlots := by revert i; decide
  obtain ⟨ends, each⟩ := all allSlots (by decide) s
  exact ⟨ends, fun i => ⟨(each i).1 (mem i), fun other => (each i).2 (.inr other)⟩⟩

/-! ### The talkers and the streams -/

theorem talkersLosePeer_works (p : Station) (s : State) : (∃ channels marks, s.talkersLosePeer p =
      { s with channels := channels, marks := marks }) ∧ s.Forgoes (s.talkersLosePeer p) ∧
    ∀ k : Fin 8, ∀ x ∈ ((s.talkersLosePeer p).channels[k]).talkers, x.party.station ≠ p := by
  have channel (k : Fin 8) : (s.talkersLosePeer p).channels[k] = { s.channels[k] with
      talkers := (s.channels[k]).talkers.filter fun x => x.party.station != p } := by
    show (mapTable s.channels fun _ c => { c with talkers := c.talkers.filter fun x => x.party.station != p })[k] = _
    rw [mapTable, Fin.getElem_fin, Vector.getElem_ofFn]
  refine ⟨⟨_, _, rfl⟩, ⟨fun _ b hb => ⟨b, hb, rfl⟩, fun e he => ⟨e, he, rfl⟩, fun _ h => h,
    fun k => .inl (by rw [channel k]), fun _ => rfl, fun k => by rw [channel k]; rfl⟩, fun k x hx => ?_⟩
  rw [channel k] at hx
  exact bne_iff_ne.mp (List.mem_filter.mp hx).2

theorem removeStreams_streams (q : StreamEntry → Bool) (s : State) (i : Fin 32) (e : StreamEntry)
    (stands : (s.removeStreams q).streams[i] = some e) : q e = false := by
  have announced (l : List StreamEntry) (u : State) : (u.announceEnds l).streams = u.streams := by
    unfold State.announceEnds
    split <;> rfl
  unfold State.removeStreams at stands
  rw [announced] at stands
  simp only [mapTable, Fin.getElem_fin, Vector.getElem_ofFn] at stands
  split at stands
  · split at stands
    · exact (Option.some_ne_none _ stands.symm).elim
    · next kept =>
      rw [← Option.some.inj stands]
      exact Bool.eq_false_iff.mpr kept
  · exact (Option.some_ne_none _ stands.symm).elim

end Sys2Proof.Machine
end

section
/-! PROOFS. BEACON_RECEIVED and PEER_SILENCE_EXPIRY (R17, R18, R22 to R25, R32). -/

namespace Sys2Proof.Machine

/-- Peer lost at every block (R25). -/
theorem peerLost_gaveUp (s : State) (p : Station) (x : Peer) (t : State) (ht : (s.setPeer p x).peerLost s p = t) :
    s.GaveUpPeer p t ∧ t.base = { s.base with peers := s.peers.set (stationIndex p) x, slots := t.slots } ∧
    ∀ k : Fin 8, t.records[k] = ((s.setPeer p x).linesLosePeer p).records[k] := by
  unfold State.peerLost at ht
  have lines := linesLosePeer_homeWork p (s.setPeer p x)
  have without := linesLosePeer_without p (s.setPeer p x)
  generalize State.linesLosePeer p (s.setPeer p x) = u1 at *
  have start : s.Forgoes u1 := (State.Forgoes.of_same (s := s) (t := s.setPeer p x) rfl rfl rfl rfl).trans lines.work.forgoes
  have homes := followHomes_lineWork s u1
  have homesWork := followHomes_works s u1
  have free (line : LineNo) := followHomes_freeOf (s := u1) (before := s) (line := line) start
  have stale (line : LineNo) (m : Mirror) := followHomes_stale (s := u1) (before := s) (line := line) (m := m)
  generalize u1.followHomes s = u2 at *
  obtain ⟨calls, slots⟩ := callsLosePeer_ends p u2
  generalize State.callsLosePeer p u2 = u3 at *
  obtain ⟨⟨ch4, mk4, fields4⟩, talkers, noTalker⟩ := talkersLosePeer_works p u3
  generalize State.talkersLosePeer p u3 = u4 at *
  have gone := removeStreams_streams (fun e => e.party.station == p) u4
  have retuned := removeStreams_retunes (fun e => e.party.station == p) u4
  generalize State.removeStreams _ u4 = u5 at *
  subst ht
  obtain ⟨st5, ch5, mk5, fields5, sheds⟩ := retuned.fields
  have records : u5.records = u1.records := by rw [fields5, fields4, calls.alike]; exact homesWork.records
  have mirrors : u5.mirrors = u2.mirrors := by rw [fields5, fields4, calls.alike]
  have slotsKept : u5.slots = u3.slots := by rw [fields5, fields4]
  have slotsBefore : u2.slots = s.slots :=
    (congrArg Base.slots homes.base).trans ((congrArg Base.slots lines.work.base).trans rfl)
  have base : u5.base = { s.base with peers := s.peers.set (stationIndex p) x, slots := u5.slots } := by
    have ended : u3.base = { u2.base with slots := u3.slots } := by rw [calls.alike]; rfl
    have last : u5.base = u3.base := by rw [fields5, fields4]; rfl
    rw [slotsKept, last, ended, homes.base, lines.work.base]
    rfl
  have homeOf (line : LineNo) : u5.homeOf line = u1.homeOf line := by
    have peers : u5.peers = u2.peers := by rw [fields5, fields4, calls.alike]
    have candidate : u5.homeCandidate line = u2.homeCandidate line := by
      funext q
      rw [fields5, fields4, calls.alike]
      rfl
    rw [State.homeOf, candidate]
    exact homes.homeOf line
  have forgoes : u2.Forgoes u5 := (calls.forgoes.trans talkers).trans retuned.lineWork.forgoes
  have moved {line : LineNo} (loses : s.LosesHome p u5 line) : s.homeOf line ≠ u1.homeOf line := by
    rw [loses.before, ← homeOf line]
    exact fun same => loses.after same.symm
  have freed {line : LineNo} (loses : s.LosesHome p u5 line) : u5.FreeOf line :=
    (free line (by rw [loses.before]; exact Option.some_ne_none p) (moved loses)).forgoes forgoes
  refine ⟨⟨fun i e stands => ?_, fun k y hy => ?_, fun k r stands => ?_, fun i q peer => ?_, fun i apart => ?_,
    fun line m loses mirrored current => ?_, fun line loses => ?_, fun line loses => (freed loses).channels⟩, base,
    fun k => by rw [records]⟩
  · exact beq_eq_false_iff_ne.mp (gone i e stands)
  · rw [show u5.channels = ch5 by rw [fields5]] at hy
    obtain ⟨l, shed, cut⟩ := sheds k
    rw [cut] at hy
    exact noTalker k y (shed.subset hy)
  · rw [records] at stands
    exact without k r stands
  · rw [slotsKept] at peer
    intro named
    by_cases lost : (u2.slots[i]).isWith p
    · rw [(slots i).1 lost] at peer
      cases peer
    · rw [(slots i).2 lost] at peer
      exact lost ⟨q, peer, named⟩
  · rw [slotsKept, (slots i).2, slotsBefore]
    rintro ⟨q, peer, named⟩
    rw [slotsBefore] at peer
    exact apart q peer named
  · have kept : u1.mirrorOf line = some m := (lines.mirrors line loses.foreign).trans mirrored
    have staled := stale line m (kept_of_mirror mirrored) (moved loses) kept current
    exact (congrArg (List.find? fun y : Mirror => y.line == line) mirrors).trans staled
  · exact ⟨(freed loses).bindings, (freed loses).held, (freed loses).asks⟩

/-! ### A BEACON with LEAVING set -/

theorem beacon_left {s : State} {unit crc : List Octet} {source target : Station} {c : Card} (loaded : s.loaded = true)
    (other : source ≠ s.cfg.station) (good : readFrame (unit ++ crc) = some ⟨source, target, .beacon c⟩)
    (leaving : c.leaving = true) : exec (.beaconReceived unit crc) s = .next
      (if (s.peer source).state = .present then (s.findBusy.setPeer source ⟨.left, some c, none⟩).peerLost s.findBusy source
       else s.findBusy.setPeer source ⟨.left, some c, none⟩) := by
  have heard := beacon_heard loaded other good
  have taken : s.findBusy.peerTakes source (.beacon c) = s.findBusy.setPeer source ⟨.left, some c, none⟩ := by
    rw [State.peerTakes, leaving]
    rfl
  have gone : ((s.findBusy.setPeer source ⟨.left, some c, none⟩).peer source).state = .left := by
    rw [State.peer, State.setPeer, Fin.getElem_fin, Vector.getElem_set_self]
  rw [heard, taken]
  unfold State.peerEvents
  rw [gone]
  have same : (s.findBusy.peer source).state = (s.peer source).state := rfl
  rw [same]
  cases (s.peer source).state with
  | present => exact congrArg Host.Outcome.next (if_pos rfl).symm
  | absent | left | silent => exact congrArg Host.Outcome.next (if_neg nofun).symm

/-! ### A BEACON of the station's own number -/

theorem own_heard {s : State} {unit crc : List Octet} {source target : Station} {c : Card} (loaded : s.loaded = true)
    (own : source = s.cfg.station) (good : readFrame (unit ++ crc) = some ⟨source, target, .beacon c⟩) :
    exec (.beaconReceived unit crc) s = .next (s.findBusy.takeOwnNumber (.beacon c)) := by
  have heard : s.hearAs (·.kind == .beacon) (unit ++ crc) = s.hear (unit ++ crc) := hearAs_row _ _ _ s good rfl
  have taken : s.hear (unit ++ crc) = s.findBusy.takeOwnNumber (.beacon c) := by
    unfold State.hear
    rw [good]
    exact (if_pos loaded).trans (if_pos own)
  exact congrArg Host.Outcome.next (heard.trans taken)

theorem enterDuplicate_told (s : State) : s.enterDuplicate.base =
      { s.base with stationState := .duplicate, listenTimer := none } ∧
    (s.notices.length < 32 → ⟨.duplicate, s.stationTime⟩ ∈ s.enterDuplicate.notices) := by
  have told := notify_judges .duplicate (State.enter .duplicate { s with listenTimer := none })
  have room := notify_room .duplicate (State.enter .duplicate { s with listenTimer := none })
  have followed := followHomes_lineWork s ((State.enter .duplicate { s with listenTimer := none }).notify .duplicate)
  have listed (free : s.notices.length < 32) : ⟨.duplicate, s.stationTime⟩ ∈
      ((State.enter .duplicate { s with listenTimer := none }).notify .duplicate).notices := by
    rw [room free]
    exact List.mem_append_right _ (List.mem_singleton_self _)
  unfold State.enterDuplicate
  have base := told.works.base
  generalize State.notify .duplicate _ = u at base listed followed ⊢
  exact ⟨followed.base.trans base, fun free => followed.queued.subset (listed free)⟩

/-- Settles O23: the card stored with its events, the station's own number, and the silence timer. -/
theorem beaconsAndSilenceMoveThePeer : Obligations.BeaconsAndSilenceMoveThePeer := by
  unfold Obligations.BeaconsAndSilenceMoveThePeer
  refine ⟨⟨fun s unit crc source target c loaded other good => ⟨fun staying => ?_, fun leaving absent => ?_,
    fun leaving present => ?_⟩, fun s unit crc source target c own good => ⟨fun sending loaded => ?_,
    fun silent listening => ?_, fun silent active few => ?_, fun silent state => ?_⟩⟩,
    fun s p => ⟨fun present due => ?_, fun kept => ?_⟩⟩
  · obtain ⟨u, v, toU, toV, done⟩ := beacon_met loaded other good staying
    refine ⟨v, done, ?_⟩
    rw [toV.work.base, (followHomes_lineWork s.findBusy u).base, toU.work.base]
    rfl
  · refine ⟨_, (beacon_left loaded other good leaving).trans (congrArg Host.Outcome.next (if_neg absent)), rfl⟩
  · obtain ⟨gave, base, -⟩ := peerLost_gaveUp s.findBusy source ⟨.left, some c, none⟩ _ rfl
    have done := (beacon_left loaded other good leaving).trans (congrArg Host.Outcome.next (if_pos present))
    generalize State.peerLost _ _ _ = t at gave base done
    refine ⟨t, done, base, ?_⟩
    have loses {line : LineNo} (h : s.LosesHome source t line) : s.findBusy.LosesHome source t line :=
      ⟨h.foreign, h.before, h.after⟩
    exact ⟨gave.streams, gave.talkers, gave.records, gave.calls, gave.calls_kept,
      fun line m h => gave.mirrors line m (loses h), fun line h => gave.position line (loses h),
      fun line h => gave.channels line (loses h)⟩
  · rw [own_heard loaded own good]
    exact congrArg Host.Outcome.next (if_pos sending)
  · have loaded : s.loaded = true := by rw [State.loaded, listening]
    have taken : s.findBusy.takeOwnNumber (.beacon c) = s.findBusy.enterDuplicate := by
      unfold State.takeOwnNumber
      rw [show s.findBusy.stationState = .listening from listening]
      exact if_neg (by rw [show s.findBusy.transmitting = false from silent]; exact Bool.false_ne_true)
    obtain ⟨base, told⟩ := enterDuplicate_told s.findBusy
    exact ⟨_, (own_heard loaded own good).trans (congrArg Host.Outcome.next taken), base, told⟩
  · have loaded : s.loaded = true := by rw [State.loaded, active]
    have taken : s.findBusy.takeOwnNumber (.beacon c) = s.findBusy.takeClash := by
      unfold State.takeOwnNumber
      rw [show s.findBusy.stationState = .active from active]
      exact if_neg (by rw [show s.findBusy.transmitting = false from silent]; exact Bool.false_ne_true)
    rw [own_heard loaded own good, taken]
    refine congrArg Host.Outcome.next ((if_pos ((isActive_iff s).mpr active)).trans (if_neg ?_))
    exact Nat.not_le.mpr few
  · have loaded : s.loaded = true := by
      rcases state with state | state | state <;> rw [State.loaded, state]
    rw [own_heard loaded own good]
    unfold State.takeOwnNumber
    rw [show s.findBusy.transmitting = false from silent]
    rcases state with state | state | state <;> (rw [show s.findBusy.stationState = _ from state]; rfl)
  · obtain ⟨gave, base, records⟩ := peerLost_gaveUp s p { s.peer p with state := .silent, silence := none } _ rfl
    have done : exec (.peerSilenceExpiry p) s = .next (s.silencePeer p) := by
      refine congrArg Host.Outcome.next (if_pos ?_)
      exact ⟨present, by rw [due]; rfl⟩
    refine ⟨_, done, base, gave, fun k r stands inService foreign => ?_⟩
    obtain ⟨r', record, members, listeners⟩ :=
      linesLosePeer_record (s := s.setPeer p { s.peer p with state := .silent, silence := none }) stands inService foreign
    exact ⟨r', (records k).trans record, members, listeners⟩
  · refine congrArg Host.Outcome.next (if_neg ?_)
    rintro ⟨present, due⟩
    exact kept.elim (fun h => h present) fun h => h (by simpa [Timer.due] using due)

end Sys2Proof.Machine
end

section
/-! SUPPORT. A line port's work put in place: what it leaves of the station (R57, R58, R63, R81, R182). -/

namespace Sys2Proof.Machine

/-- The station with a port's work in place: the port and its line's counters (R63). -/
def State.ported (k : Fin 8) (w : PortWork) (s : State) : State :=
  { s with ports := s.ports.set k w.port, live := s.live.addLine k w.parityErrors w.ooaPeriods w.lineSlips }

theorem ported_here (k : Fin 8) (w : PortWork) (s : State) : (s.ported k w).ports[k] = w.port := by
  rw [State.ported, Fin.getElem_fin, Vector.getElem_set_self]

theorem ported_other {j k : Fin 8} (w : PortWork) (s : State) (apart : j ≠ k) : (s.ported k w).ports[j] = s.ports[j] := by
  rw [State.ported, Fin.getElem_fin, Vector.getElem_set_ne _ _ fun h => apart (Fin.ext h.symm)]
  rfl

theorem addLine_here (k : Fin 8) (parity ooa slips : Nat) (c : Counters) : (c.addLine k parity ooa slips).lines[k] =
    ⟨(c.lines[k]).parityErrors.add parity, (c.lines[k]).ooaPeriods.add ooa, (c.lines[k]).lineSlips.add slips⟩ := by
  rw [Counters.addLine, modifyAt, Fin.getElem_fin, Vector.getElem_set_self]

theorem addLine_other {j k : Fin 8} (parity ooa slips : Nat) (c : Counters) (apart : j ≠ k) :
    (c.addLine k parity ooa slips).lines[j] = c.lines[j] := by
  rw [Counters.addLine, modifyAt, Fin.getElem_fin, Vector.getElem_set_ne _ _ fun h => apart (Fin.ext h.symm)]
  rfl

/-! ### Views, notices and the segment's mark -/

theorem setPort_marks (k : Fin 8) (p : LinePort) (s : State) : ∃ marks, s.setPort k p =
    { s with ports := s.ports.set k p, marks := marks } := ⟨_, rfl⟩

/-- A port whose alarm summary stays marks no view (R57). -/
theorem setPort_same {k : Fin 8} {p : LinePort} {s : State} (same : p.alarms = (s.ports[k]).alarms) :
    s.setPort k p = { s with ports := s.ports.set k p } := by
  have still : modifyAt s.marks.alarm k (fun v => v || (s.ports[k]).alarms != p.alarms) = s.marks.alarm := by
    rw [same, bne_self_eq_false, modifyAt]
    simp
  rw [State.setPort, still]

theorem markAlarm_ring (k : Fin 8) (s : State) : ∃ ring, s.markAlarm k = { s with ring := ring } := by
  unfold State.markAlarm
  split
  · exact ⟨_, rfl⟩
  · exact ⟨s.ring, rfl⟩

/-- The LINE_ALARM notices of a port's work, in order (R58). -/
def PortWork.events (line : LineNo) (k : Fin 8) (w : PortWork) : List Event :=
  w.notices.map fun (n : Defect × Bool) => Event.lineAlarm line k n.1 n.2

theorem portWorked_fields (k : Fin 8) (w : PortWork) (s : State) :
    ∃ (ring : Vector Descriptor 64) (marks : Marks) (overflow : Octet), s.portWorked k w = { s.ported k w with
      ring := ring, marks := marks, overflow := overflow, notices := (s.notifyAll (w.events (s.portCfg k).line k)).notices } := by
  have told (es : List Event) (u v : State) (n : u.notices = v.notices) (time : u.stationTime = v.stationTime)
      (o : u.overflow = v.overflow) : (u.notifyAll es).notices = (v.notifyAll es).notices := by
    induction es generalizing u v with
    | nil => exact n
    | cons e es ih =>
      refine ih (u.notify e) (v.notify e) ?_ ?_ ?_
      all_goals
        unfold State.notify
        rw [n]
        split
      all_goals simp [time, o]
  have same := told (w.events (s.portCfg k).line k)
    ((s.setPort k w.port).count (·.addLine k w.parityErrors w.ooaPeriods w.lineSlips)) s rfl rfl rfl
  obtain ⟨n, o, fields⟩ := notifyAll_frame (w.events (s.portCfg k).line k)
    ((s.setPort k w.port).count (·.addLine k w.parityErrors w.ooaPeriods w.lineSlips))
  rw [fields] at same
  have worked : s.portWorked k w = if (s.ports[k]).alarms.declaresMore w.port.alarms
      then (((s.setPort k w.port).count (·.addLine k w.parityErrors w.ooaPeriods w.lineSlips)).notifyAll
        (w.events (s.portCfg k).line k)).markAlarm k
      else ((s.setPort k w.port).count (·.addLine k w.parityErrors w.ooaPeriods w.lineSlips)).notifyAll
        (w.events (s.portCfg k).line k) := rfl
  rw [worked, fields, ← same]
  split
  · obtain ⟨ring, marked⟩ := markAlarm_ring k { (s.setPort k w.port).count
      (·.addLine k w.parityErrors w.ooaPeriods w.lineSlips) with notices := n, overflow := o }
    rw [marked]
    exact ⟨_, _, _, rfl⟩
  · exact ⟨_, _, _, rfl⟩

theorem portWorked_homeWork (k : Fin 8) (w : PortWork) (s : State) : (s.ported k w).HomeWork (s.portWorked k w) := by
  obtain ⟨ring, marks, overflow, fields⟩ := portWorked_fields k w s
  have queued := notifyAll_notices (w.events (s.portCfg k).line k) s
  refine .of_mirrors ⟨?_, fun _ => ?_, ?_, ?_, fun _ => ?_, ?_⟩ (by rw [fields])
  · rw [fields]
  · rw [fields]
    exact ⟨rfl, rfl, rfl, rfl, rfl⟩
  · rw [fields]
  · rw [fields]
    exact queued
  · rw [fields]
  · rw [fields]
    exact .of_same rfl rfl rfl rfl

/-! ### The work with its record -/

/-- A port's work either leaves the line's record alone or puts it in place anew and announces its change (R81, R87). -/
theorem commitPort_cases (k : Fin 8) (w : PortWork) (s : State) :
    (s.commitPort k w = s.portWorked k w ∧ ∀ r : LineRecord, (s.portWorked k w).records[k] = some r →
      (s.ports[k]).accepted = w.port.accepted ∧ (s.ports[k]).alarms = w.port.alarms) ∨
    ∃ r : LineRecord, (s.portWorked k w).records[k] = some r ∧
      s.commitPort k w = ((s.portWorked k w).commitRecord k
        (r.takePort ((s.portWorked k w).outCause k r) (s.ports[k]).accepted w.port)).announceChange s k := by
  rw [commitPort_eq]
  cases stands : (s.portWorked k w).records[k] with
  | none => exact .inl ⟨rfl, fun _ h => (Option.some_ne_none _ h.symm).elim⟩
  | some r =>
    dsimp only
    by_cases same : (s.ports[k]).accepted = w.port.accepted ∧ (s.ports[k]).alarms = w.port.alarms
    · exact .inl ⟨if_pos same, fun _ _ => same⟩
    · exact .inr ⟨r, rfl, if_neg same⟩

theorem commitPort_homeWork (k : Fin 8) (w : PortWork) (s : State) : (s.ported k w).HomeWork (s.commitPort k w) := by
  have worked := portWorked_homeWork k w s
  rcases commitPort_cases k w s with ⟨same, -⟩ | ⟨r, stands, changed⟩
  · rw [same]
    exact worked
  · rw [changed]
    exact (worked.trans (commitRecord_homeWork (by rw [stands]; rfl))).trans (announceChange_homeWork s k _)

/-- What a port's work leaves of the station's base and of the line counters, and the notice it begins with. -/
theorem commitPort_told (k : Fin 8) (w : PortWork) (s : State) :
    (s.commitPort k w).base = { s.base with ports := s.ports.set k w.port } ∧
    (s.commitPort k w).live.lines = (s.live.addLine k w.parityErrors w.ooaPeriods w.lineSlips).lines ∧
    (∀ (e : Defect × Bool) (rest : List (Defect × Bool)), w.notices = e :: rest → s.notices.length < 32 →
      ⟨.lineAlarm (s.portCfg k).line k e.1 e.2, s.stationTime⟩ ∈ (s.commitPort k w).notices) := by
  have worked := portWorked_homeWork k w s
  have queued : (s.portWorked k w).notices <+: (s.commitPort k w).notices := by
    rcases commitPort_cases k w s with ⟨same, -⟩ | ⟨r, stands, changed⟩
    · rw [same]
    · rw [changed]
      exact ((commitRecord_homeWork (by rw [stands]; rfl)).trans (announceChange_homeWork s k _)).work.queued
  have whole := commitPort_homeWork k w s
  refine ⟨whole.work.base, whole.work.lines, fun e rest first room => queued.subset ?_⟩
  obtain ⟨ring, marks, overflow, fields⟩ := portWorked_fields k w s
  rw [fields]
  have events : w.events (s.portCfg k).line k =
      Event.lineAlarm (s.portCfg k).line k e.1 e.2 :: rest.map fun n => Event.lineAlarm (s.portCfg k).line k n.1 n.2 := by
    rw [PortWork.events, first]
    rfl
  rw [events]
  refine (notifyAll_notices (rest.map fun n => Event.lineAlarm (s.portCfg k).line k n.1 n.2)
    (s.notify (Event.lineAlarm (s.portCfg k).line k e.1 e.2))).subset ?_
  rw [notify_room _ _ room]
  exact List.mem_append_right _ (List.mem_singleton_self _)

/-- A port's work without a change of alarms or of the accepted signalling changes the port and its counters alone. -/
theorem commitPort_quiet {k : Fin 8} {w : PortWork} {s : State} (alarms : w.port.alarms = (s.ports[k]).alarms)
    (accepted : w.port.accepted = (s.ports[k]).accepted) (silent : w.notices = []) : s.commitPort k w = s.ported k w := by
  have undeclared : (s.ports[k]).alarms.declaresMore w.port.alarms = false := by
    rw [alarms]
    simp [Alarms.declaresMore]
  have events : w.events (s.portCfg k).line k = [] := by rw [PortWork.events, silent]; rfl
  have worked : s.portWorked k w = s.ported k w := by
    have unfolded : s.portWorked k w = if (s.ports[k]).alarms.declaresMore w.port.alarms
        then (((s.setPort k w.port).count (·.addLine k w.parityErrors w.ooaPeriods w.lineSlips)).notifyAll
          (w.events (s.portCfg k).line k)).markAlarm k
        else ((s.setPort k w.port).count (·.addLine k w.parityErrors w.ooaPeriods w.lineSlips)).notifyAll
          (w.events (s.portCfg k).line k) := rfl
    rw [unfolded, undeclared, events, setPort_same alarms]
    rfl
  rw [commitPort_eq, worked]
  split
  · exact if_pos ⟨accepted.symm, alarms.symm⟩
  · rfl

/-! ### The whole work of a used port -/

/-- What a port's work does to the station when the port is used. -/
theorem workPort_used {s : State} {k : Fin 8} (used : s.used k = true) (f : PortSettings → PortWork → PortWork) :
    s.workPort k f = s.commitPort k (f (s.portCfg k) (PortWork.start s.ports[k])) := if_pos used

theorem workPort_unused {s : State} {k : Fin 8} (unused : s.used k = false) (f : PortSettings → PortWork → PortWork) :
    s.workPort k f = s := if_neg (by rw [unused]; exact Bool.false_ne_true)

/-- The ports and counters after a port's work. -/
structure State.PortDone (k : Fin 8) (w : PortWork) (s t : State) : Prop where
  base : t.base = { s.base with ports := t.ports }
  here : t.ports[k] = w.port
  others : ∀ j : Fin 8, j ≠ k → t.ports[j] = s.ports[j]
  counted : (t.live.lines[k]).parityErrors = (s.live.lines[k]).parityErrors.add w.parityErrors ∧
    (t.live.lines[k]).ooaPeriods = (s.live.lines[k]).ooaPeriods.add w.ooaPeriods ∧
    (t.live.lines[k]).lineSlips = (s.live.lines[k]).lineSlips.add w.lineSlips
  otherLines : ∀ j : Fin 8, j ≠ k → t.live.lines[j] = s.live.lines[j]
  told : ∀ (e : Defect × Bool) (rest : List (Defect × Bool)), w.notices = e :: rest → s.notices.length < 32 →
    ⟨.lineAlarm (s.portCfg k).line k e.1 e.2, s.stationTime⟩ ∈ t.notices

theorem commitPort_done (k : Fin 8) (w : PortWork) (s : State) : s.PortDone k w (s.commitPort k w) := by
  obtain ⟨base, lines, told⟩ := commitPort_told k w s
  have ports : (s.commitPort k w).ports = (s.ported k w).ports := congrArg Base.ports base
  refine ⟨?_, by rw [ports]; exact ported_here k w s, fun j apart => by rw [ports]; exact ported_other w s apart, ?_,
    fun j apart => by rw [lines]; exact addLine_other _ _ _ _ apart, told⟩
  · rw [base, ports]
    rfl
  · rw [lines, addLine_here]
    exact ⟨rfl, rfl, rfl⟩

theorem octet_heard {s : State} {k : Fin 8} (hears : s.hearsLine k) (o : Octet) :
    s.takeLineOctet k o = s.commitPort k ((PortWork.start s.ports[k]).takeOctet (s.portCfg k) o) :=
  (if_pos hears.2).trans (workPort_used hears.1 _)

end Sys2Proof.Machine
end

section
/-! PROOFS. LINE_PORT and LINE_FORCE (R42, R43, R67). -/

namespace Sys2Proof.Machine

/-! ### Their checks -/

theorem portRefusal_unloaded {s : State} (o : Octet) (unloaded : s.loaded = false) : s.portRefusal o = some .notActive := by
  rw [State.portRefusal, unloaded]
  rfl

theorem portRefusal_beyond {s : State} {o : Octet} (loaded : s.loaded = true)
    (bad : 7 < o.toNat ∨ ∃ k : Fin 8, o.toNat = k.val ∧ s.used k = false) : s.portRefusal o = some .badIndex := by
  have out : atIndex o s.used = false := by
    rcases bad with beyond | ⟨k, named, unused⟩
    · rw [atIndex, indexOf_out o beyond]
    · rw [atIndex_val o k named, unused]
  rw [State.portRefusal, loaded, out]
  rfl

theorem portRefusal_used {s : State} {o : Octet} {k : Fin 8} (used : s.used k = true) (named : o.toNat = k.val) :
    s.portRefusal o = none := by
  have loaded : s.loaded = true := (Bool.and_eq_true_iff.mp used).1
  rw [State.portRefusal, loaded, atIndex_val o k named, used]
  rfl

/-- A request on a used port is done (R42, R43). -/
theorem portRequest_done {s : State} {o : Octet} {k : Fin 8} (code : Nat) (f : Fin 8 → State → State)
    (answers : s.panelAnswers = true) (used : s.used k = true) (named : o.toNat = k.val) :
    (.next (s.panelRequest code (s.portRefusal o) [] (State.onIndex o f)) : Result) =
      .next { f k s with panelAnswer := some ⟨octet code, .done, []⟩ } := by
  rw [request_done answers (portRefusal_used used named), onIndex_val o k named]

theorem forceHunt_alarms (p : LinePort) : p.forceHunt.alarms = p.alarms := by
  unfold LinePort.forceHunt
  split <;> rfl

/-- A LINE_FORCE changes its port and no view (R43, R57). -/
theorem forceRequest_done {s : State} {o : Octet} {k : Fin 8} (f : LinePort → LinePort)
    (answers : s.panelAnswers = true) (used : s.used k = true) (named : o.toNat = k.val)
    (alarms : (f s.ports[k]).alarms = (s.ports[k]).alarms) :
    (.next (s.panelRequest 4 (s.portRefusal o) [] (State.onIndex o fun k s => s.setPort k (f s.ports[k]))) : Result) =
      .next { s with ports := s.ports.set k (f s.ports[k]), panelAnswer := some ⟨4#8, .done, []⟩ } := by
  rw [portRequest_done 4 (fun k s => s.setPort k (f s.ports[k])) answers used named, setPort_same alarms]
  rfl

/-! ### OUT and IN -/

/-- A line that is out of service at its change is put in place empty, and stays so when it is announced (R67). -/
theorem changeRecord_empties {s : State} {k : Fin 8} {r : LineRecord} (before : State) (stands : s.records[k] = some r)
    (out : s.outCause k r = true) : ∃ r' : LineRecord, ((s.changeRecord k id).announceChange before k).records[k] = some r' ∧
      r'.state = .outOfService ∧ r'.members = [] ∧ r'.listeners = [] ∧ r'.outRing = none ∧
      r'.farSignalling = r.farSignalling := by
  obtain ⟨old, record⟩ := commitRecord_here k r s
  have changed : s.changeRecord k id = s.commitRecord k r := by
    rw [State.changeRecord, stands]
    rfl
  rw [out, ← changed] at record
  have facts : ∃ x : LineRecord, (s.changeRecord k id).records[k] = some x ∧ x.state = .outOfService ∧ x.members = [] ∧
      x.listeners = [] ∧ x.outRing = none ∧ x.farSignalling = r.farSignalling ∧ x.conflict = r.conflict :=
    ⟨_, record, rfl, rfl, rfl, rfl, rfl, rfl⟩
  obtain ⟨x, record', state, members, listeners, ring, far, conflict⟩ := facts
  have out' : (s.changeRecord k id).outCause k x = true := by
    rw [(changeRecord_homeWork k id s).work.outCause, outCause_eq, conflict, ← outCause_eq]
    exact out
  have kept : (s.changeRecord k id).KeepsLine k x ((s.changeRecord k id).announceChange before k) := by
    refine announceChange_keepsLine ⟨?_, ?_⟩ (fun _ => ⟨members, listeners⟩) before k (.start record')
    · rw [members]; exact List.forall_mem_nil _
    · rw [listeners]; exact List.forall_mem_nil _
  obtain ⟨-, r', record'', rests⟩ := kept
  rw [out'] at rests
  exact ⟨r', record'', (rests.state state).trans state, rests.members.trans members, rests.listeners.trans listeners,
    rests.ring ring, rests.far.trans far⟩

theorem takePortOut_tells {s : State} {k : Fin 8} (t : State) (ht : s.takePortOut k = t) (inService : (s.ports[k]).out = false) :
    t.base = { s.base with ports := s.ports.set k (s.ports[k]).takeOut } ∧
    ∀ r : LineRecord, s.records[k] = some r → ∃ r' : LineRecord, t.records[k] = some r' ∧ r'.state = .outOfService ∧
      r'.members = [] ∧ r'.listeners = [] ∧ r'.outRing = none ∧ r'.farSignalling = r.farSignalling := by
  have taken : s.takePortOut k = ((s.setPort k (s.ports[k]).takeOut).changeRecord k id).announceChange s k :=
    if_neg (by rw [inService]; exact Bool.false_ne_true)
  have work := (changeRecord_homeWork k id (s.setPort k (s.ports[k]).takeOut)).trans (announceChange_homeWork s k _)
  have empties (r : LineRecord) (stands : s.records[k] = some r) :=
    changeRecord_empties (s := s.setPort k (s.ports[k]).takeOut) (k := k) s stands (by
      have out : ((s.setPort k (s.ports[k]).takeOut).ports[k]).out = true := by rw [setPort_at]; rfl
      rw [State.outCause, out]
      rfl)
  rw [← taken, ht] at work
  rw [← taken, ht] at empties
  exact ⟨work.work.base, empties⟩

theorem takePortIn_tells {s : State} {k : Fin 8} (t : State) (ht : s.takePortIn k = t) (out : (s.ports[k]).out = true) :
    t.base = { s.base with ports := s.ports.set k { s.ports[k] with out := false } } ∧
    ∀ r : LineRecord, s.records[k] = some r → r.members = [] → r.listeners = [] → r.conflict = none →
      s.awayFromFloor = false → ∃ r' : LineRecord, t.records[k] = some r' ∧ r'.members = [] ∧ r'.listeners = [] ∧
        r'.state ≠ .outOfService ∧ r'.farSignalling = (s.ports[k]).accepted := by
  have taken : s.takePortIn k =
      ((s.setPort k { s.ports[k] with out := false }).returnToService k).announceChange s k := if_pos out
  have work := (returnToService_homeWork k (s.setPort k { s.ports[k] with out := false })).trans (announceChange_homeWork s k _)
  have here : (s.setPort k { s.ports[k] with out := false }).ports[k] = { s.ports[k] with out := false } := setPort_at ..
  have base : (s.setPort k { s.ports[k] with out := false }).base =
      { s.base with ports := s.ports.set k { s.ports[k] with out := false } } := rfl
  have records : (s.setPort k { s.ports[k] with out := false }).records = s.records := rfl
  have away : (s.setPort k { s.ports[k] with out := false }).awayFromFloor = s.awayFromFloor := rfl
  generalize s.setPort k { s.ports[k] with out := false } = u at *
  rw [taken] at ht
  rw [ht] at work
  refine ⟨work.work.base.trans base, fun r stands members listeners conflict floor => ?_⟩
  rw [← records] at stands
  have inService : u.outCause k r = false := by rw [State.outCause, here, conflict, away, floor]; rfl
  obtain ⟨x, members', listeners', far, state, conflict', cause, kept⟩ := lineReturns_here stands members listeners inService
  have last := kept s
  rw [ht] at last
  obtain ⟨-, r', record, rests⟩ := last
  have same : (u.returnToService k).outCause k x = false := by
    rw [(returnToService_homeWork k u).work.outCause]
    exact cause
  have alarms : ((u.returnToService k).ports[k]).alarms = (u.ports[k]).alarms := by
    rw [(returnToService_homeWork k u).work.ports]
  rw [same, alarms] at rests
  have inState : x.state ≠ .outOfService := by
    rw [state, derive_empty members']
    split
    · nofun
    · split <;> nofun
  refine ⟨r', record, rests.members.trans members', rests.listeners.trans listeners', ?_, rests.far.trans (far.trans ?_)⟩
  · rw [rests.state state]
    exact inState
  · rw [here]

/-- Settles O38: OUT and IN with the line's record, the forcing marks, and the checks in their order. -/
theorem linePortAndForceRequests : Obligations.LinePortAndForceRequests := by
  unfold Obligations.LinePortAndForceRequests
  refine ⟨fun s o k answers used named => ⟨fun out => ?_, fun inService => ?_, fun inService => ?_, fun out => ?_⟩,
    fun s o answers => ⟨fun k used named => ⟨fun hunts => ?_, fun framed => ?_, ?_, ?_⟩, fun c kind v request refused => ?_⟩⟩
  · refine (portRequest_done 3 State.takePortOut answers used named).trans ?_
    rw [State.takePortOut, if_pos out]
    rfl
  · refine (portRequest_done 3 State.takePortIn answers used named).trans ?_
    rw [State.takePortIn, if_neg (by rw [inService]; exact Bool.false_ne_true)]
    rfl
  · obtain ⟨base, records⟩ := takePortOut_tells _ rfl inService
    have done := portRequest_done 3 State.takePortOut answers used named
    generalize s.takePortOut k = t at base records done
    have ports : t.ports = s.ports.set k (s.ports[k]).takeOut := congrArg Base.ports base
    have here : t.ports[k] = (s.ports[k]).takeOut := by rw [ports, Fin.getElem_fin, Vector.getElem_set_self]
    refine ⟨_, done, ?_, fun j apart => ?_, ?_⟩
    · refine (congrArg (fun b : Base => { b with panelAnswer := some ⟨octet 3, .done, []⟩ }) base).trans ?_
      rw [← ports]
      rfl
    · show t.ports[j] = _
      rw [ports, Fin.getElem_fin, Vector.getElem_set_ne _ _ fun h => apart (Fin.ext h.symm)]
      rfl
    · show (t.ports[k]).out = true ∧ _
      rw [show ∀ a, State.ports { t with panelAnswer := a } = t.ports from fun _ => rfl, here]
      exact ⟨rfl, rfl, rfl, rfl, rfl, rfl, rfl, rfl, rfl, rfl, rfl, records⟩
  · obtain ⟨base, records⟩ := takePortIn_tells _ rfl out
    have done := portRequest_done 3 State.takePortIn answers used named
    generalize s.takePortIn k = t at base records done
    refine ⟨_, done, ?_, records⟩
    exact congrArg (fun b : Base => { b with panelAnswer := some ⟨octet 3, .done, []⟩ }) base
  · refine (forceRequest_done LinePort.forceHunt answers used named (forceHunt_alarms _)).trans ?_
    rw [LinePort.forceHunt, if_pos hunts]
  · refine (forceRequest_done LinePort.forceHunt answers used named (forceHunt_alarms _)).trans ?_
    rw [LinePort.forceHunt, if_neg framed]
    rfl
  · exact forceRequest_done (fun p => { p with forceRd := true }) answers used named rfl
  · exact forceRequest_done (fun p => { p with forceOoa := false, forceRd := false }) answers used named rfl
  · have judged : s.portRefusal o = some v := by
      rcases refused with ⟨unloaded, rfl⟩ | ⟨loaded, bad, rfl⟩
      · exact portRefusal_unloaded o unloaded
      · exact portRefusal_beyond loaded bad
    rcases request with ⟨rfl, rfl | rfl⟩ | ⟨rfl, rfl | rfl | rfl⟩ <;> exact request_refused v answers judged

end Sys2Proof.Machine
end

section
/-! SUPPORT. One port's work on an event: defects, the end of a frame period, and what each leaves of the port (R39, R47
to R49, R58). -/

namespace Sys2Proof.Machine

/-! ### Defects -/

theorem put_holds (a : Alarms) (d : Defect) : a.put d (a.holds d) = a := by cases d <;> rfl

/-- The port after a defect is declared or cleared, whether that changed it or not (R58). -/
theorem setDefect_port (d : Defect) (v : Bool) (w : PortWork) :
    (w.setDefect d v).port = { w.port with alarms := w.port.alarms.put d v } := by
  unfold PortWork.setDefect
  split
  · next same => rw [← same, put_holds]
  · rfl

theorem setDefect_counts (d : Defect) (v : Bool) (w : PortWork) : (w.setDefect d v).parityErrors = w.parityErrors ∧
    (w.setDefect d v).ooaPeriods = w.ooaPeriods ∧ (w.setDefect d v).lineSlips = w.lineSlips := by
  unfold PortWork.setDefect
  split <;> exact ⟨rfl, rfl, rfl⟩

theorem setDefect_queued (d : Defect) (v : Bool) (w : PortWork) : w.notices <+: (w.setDefect d v).notices := by
  unfold PortWork.setDefect
  split
  · exact List.prefix_refl _
  · dsimp only
    split
    · exact List.prefix_refl _
    · exact List.prefix_append _ _

/-- A defect that changes, no higher one holding, is notified (R58). -/
theorem setDefect_told {d : Defect} {v : Bool} {w : PortWork} (changes : w.port.alarms.holds d ≠ v)
    (highest : w.port.alarms.suppresses d = false) : (w.setDefect d v).notices = w.notices ++ [(d, v)] := by
  rw [PortWork.setDefect, if_neg changes]
  exact if_neg (by rw [highest]; exact Bool.false_ne_true)

theorem setDefect_still {d : Defect} {v : Bool} {w : PortWork} (same : w.port.alarms.holds d = v) : w.setDefect d v = w :=
  if_pos same

/-! ### What an event counts -/

/-- Two works that count alike, but for the periods out of alignment, and whose notices extend one another. -/
structure PortWork.Extends (w w' : PortWork) : Prop where
  parity : w'.parityErrors = w.parityErrors
  slips : w'.lineSlips = w.lineSlips
  queued : w.notices <+: w'.notices

namespace PortWork.Extends

variable {w w' w'' : PortWork}

theorem refl (w : PortWork) : w.Extends w := ⟨rfl, rfl, List.prefix_refl _⟩

theorem trans (p : w.Extends w') (q : w'.Extends w'') : w.Extends w'' :=
  ⟨q.parity.trans p.parity, q.slips.trans p.slips, p.queued.trans q.queued⟩

theorem of_onPort (f : LinePort → LinePort) (w : PortWork) : w.Extends (w.onPort f) := ⟨rfl, rfl, List.prefix_refl _⟩

theorem of_setDefect (d : Defect) (v : Bool) (w : PortWork) : w.Extends (w.setDefect d v) :=
  ⟨(setDefect_counts d v w).1, (setDefect_counts d v w).2.2, setDefect_queued d v w⟩

end PortWork.Extends

/-! ### LOS at the end of a period (R48) -/

theorem stepLos_still {w : PortWork} {whole : Bool} (h : w.port.alarms.los = false ∨ whole = false) :
    w.stepLos whole = w := by
  refine if_neg fun ⟨los, was⟩ => ?_
  rcases h with h | h
  · rw [h] at los
    cases los
  · rw [h] at was
    cases was

/-- What R48 leaves of a port: its carrier count and LOS alone may change. -/
theorem stepLos_fields (whole : Bool) (w : PortWork) : w.Extends (w.stepLos whole) ∧
    (w.stepLos whole).ooaPeriods = w.ooaPeriods ∧ ∃ count los, (w.stepLos whole).port =
      { w.port with carrierCount := count, alarms := { w.port.alarms with los := los } } := by
  unfold PortWork.stepLos
  dsimp only
  split
  · split
    · refine ⟨(PortWork.Extends.of_onPort _ w).trans (.of_setDefect _ _ _), (setDefect_counts _ _ _).2.1, w.port.carrierCount + 1,
        false, ?_⟩
      rw [setDefect_port]
      rfl
    · exact ⟨.of_onPort _ w, rfl, w.port.carrierCount + 1, w.port.alarms.los, rfl⟩
  · exact ⟨.refl w, rfl, w.port.carrierCount, w.port.alarms.los, rfl⟩

/-! ### LOL at the end of a period (R49) -/

theorem declareLol_port (w : PortWork) : w.declareLol.port = { w.port with
    alarms := { w.port.alarms with lol := true }, store := [], storeRunning := false, lastBlock := Block.silence
    accepted := .idle } := by
  unfold PortWork.declareLol PortWork.onPort LinePort.emptyStore
  dsimp only
  rw [setDefect_port]
  rfl

theorem declareLol_extends (w : PortWork) : w.Extends w.declareLol ∧ w.declareLol.ooaPeriods = w.ooaPeriods :=
  ⟨(PortWork.Extends.of_setDefect .lol true w).trans (.of_onPort _ _), (setDefect_counts .lol true w).2.1⟩

/-- R49 in the words of its cases. -/
theorem stepLol_ooa (c : PortSettings) (w : PortWork) (clear : w.port.alarms.lol = false) : w.stepLol c true =
    if c.lolSet ≤ w.port.lolCount + 1 then (w.onPort fun p => { p with lolCount := p.lolCount + 1 }).declareLol
    else w.onPort fun p => { p with lolCount := p.lolCount + 1 } := by
  simp only [PortWork.stepLol, clear, if_true, Bool.false_eq_true, if_false, ge_iff_le]

theorem stepLol_declared (c : PortSettings) (w : PortWork) (set : w.port.alarms.lol = true) : w.stepLol c true = w := by
  simp only [PortWork.stepLol, set, if_true]

theorem stepLol_clears (c : PortSettings) (w : PortWork) (set : w.port.alarms.lol = true)
    (run : c.lolClear ≤ w.port.alignedRun) : w.stepLol c false =
      (w.setDefect .lol false).onPort fun p => { p with lolCount := 0 } := by
  simp only [PortWork.stepLol, set, run, if_true, Bool.false_eq_true, if_false, ge_iff_le]

/-- What R49 leaves of a port. -/
theorem stepLol_fields (c : PortSettings) (ooa : Bool) (w : PortWork) : w.Extends (w.stepLol c ooa) ∧
    (w.stepLol c ooa).ooaPeriods = w.ooaPeriods ∧ ∃ count lol accepted store running last, (w.stepLol c ooa).port =
      { w.port with
        lolCount := count, alarms := { w.port.alarms with lol := lol }, accepted := accepted, store := store
        storeRunning := running, lastBlock := last } := by
  have still : ∃ count lol accepted store running last, w.port = { w.port with
      lolCount := count, alarms := { w.port.alarms with lol := lol }, accepted := accepted, store := store
      storeRunning := running, lastBlock := last } :=
    ⟨w.port.lolCount, w.port.alarms.lol, w.port.accepted, w.port.store, w.port.storeRunning, w.port.lastBlock, rfl⟩
  have counted (n : Nat) : ∃ count lol accepted store running last, ({ w.port with lolCount := n } : LinePort) =
      { w.port with
        lolCount := count, alarms := { w.port.alarms with lol := lol }, accepted := accepted, store := store
        storeRunning := running, lastBlock := last } :=
    ⟨n, w.port.alarms.lol, w.port.accepted, w.port.store, w.port.storeRunning, w.port.lastBlock, rfl⟩
  unfold PortWork.stepLol
  dsimp only
  split
  · split
    · exact ⟨.refl w, rfl, still⟩
    · split
      · obtain ⟨extended, ooaKept⟩ := declareLol_extends (w.onPort fun p => { p with lolCount := p.lolCount + 1 })
        refine ⟨(PortWork.Extends.of_onPort _ w).trans extended, ooaKept, ?_⟩
        rw [declareLol_port]
        exact ⟨_, true, _, _, _, _, rfl⟩
      · exact ⟨.of_onPort _ w, rfl, counted _⟩
  · split
    · split
      · refine ⟨(PortWork.Extends.of_setDefect _ _ w).trans (.of_onPort _ _), (setDefect_counts _ _ w).2.1, ?_⟩
        unfold PortWork.onPort
        dsimp only
        rw [setDefect_port]
        exact ⟨0, false, w.port.accepted, w.port.store, w.port.storeRunning, w.port.lastBlock, rfl⟩
      · exact ⟨.refl w, rfl, still⟩
    · split
      · exact ⟨.of_onPort _ w, rfl, counted _⟩
      · exact ⟨.refl w, rfl, still⟩

/-! ### The end of a period (R39, R47) -/

/-- A period out of alignment, before it is judged for LOS and LOL (R47). -/
def PortWork.periodOut (w : PortWork) : PortWork :=
  { w with ooaPeriods := w.ooaPeriods + 1, port := { w.port with periodOctets := 0, alignedRun := 0 } }

/-- An aligned period, before it is judged for LOS and LOL (R47). -/
def PortWork.periodAligned (w : PortWork) : PortWork :=
  { w with port := { w.port with periodOctets := 0, alignedRun := min 63 (w.port.alignedRun + 1) } }

theorem endPeriod_marked (c : PortSettings) (whole : Bool) {w : PortWork} (out : w.port.out = true) :
    w.endPeriod c whole = (w.onPort fun p => { p with periodOctets := 0 }).stepLos whole := if_pos out

theorem endPeriod_unaligned (c : PortSettings) (whole : Bool) {w : PortWork} (inService : w.port.out = false)
    (unaligned : w.port.framer ≠ .aligned) : w.endPeriod c whole = (w.periodOut.stepLos whole).stepLol c true := by
  have judged : (w.port.framer != .aligned) = true := bne_iff_ne.mpr unaligned
  unfold PortWork.endPeriod PortWork.onPort
  dsimp only
  refine (if_neg (by rw [inService]; exact Bool.false_ne_true)).trans ?_
  rw [judged]
  rfl

theorem endPeriod_aligned (c : PortSettings) (whole : Bool) {w : PortWork} (inService : w.port.out = false)
    (aligned : w.port.framer = .aligned) : w.endPeriod c whole = (w.periodAligned.stepLos whole).stepLol c false := by
  have judged : (w.port.framer != .aligned) = false := by rw [aligned]; rfl
  unfold PortWork.endPeriod PortWork.onPort
  dsimp only
  refine (if_neg (by rw [inService]; exact Bool.false_ne_true)).trans ?_
  rw [judged]
  rfl

/-- What the end of a period leaves of a port. -/
theorem endPeriod_fields (c : PortSettings) (whole : Bool) (w : PortWork) : w.Extends (w.endPeriod c whole) ∧
    ∃ run count lols los lol accepted store running last, (w.endPeriod c whole).port = { w.port with
      periodOctets := 0, alignedRun := run, carrierCount := count, lolCount := lols
      alarms := { w.port.alarms with los := los, lol := lol }, accepted := accepted, store := store
      storeRunning := running, lastBlock := last } := by
  have both (v : PortWork) (run : Nat) (ooa : Bool) (extended : w.Extends v)
      (port : v.port = { w.port with periodOctets := 0, alignedRun := run }) :
      w.Extends ((v.stepLos whole).stepLol c ooa) ∧
      ∃ run count lols los lol accepted store running last, ((v.stepLos whole).stepLol c ooa).port = { w.port with
        periodOctets := 0, alignedRun := run, carrierCount := count, lolCount := lols
        alarms := { w.port.alarms with los := los, lol := lol }, accepted := accepted, store := store
        storeRunning := running, lastBlock := last } := by
    obtain ⟨first, -, count, los, port'⟩ := stepLos_fields whole v
    obtain ⟨second, -, lols, lol, accepted, store, running, last, port''⟩ := stepLol_fields c ooa (v.stepLos whole)
    refine ⟨(extended.trans first).trans second, run, count, lols, los, lol, accepted, store, running, last, ?_⟩
    rw [port'', port', port]
  by_cases out : w.port.out = true
  · rw [endPeriod_marked c whole out]
    obtain ⟨extended, -, count, los, port⟩ := stepLos_fields whole (w.onPort fun p => { p with periodOctets := 0 })
    refine ⟨(PortWork.Extends.of_onPort _ w).trans extended, w.port.alignedRun, count, w.port.lolCount, los,
      w.port.alarms.lol, w.port.accepted, w.port.store, w.port.storeRunning, w.port.lastBlock, ?_⟩
    rw [port]
    rfl
  · have inService := Bool.eq_false_iff.mpr out
    by_cases aligned : w.port.framer = .aligned
    · rw [endPeriod_aligned c whole inService aligned]
      exact both w.periodAligned _ false ⟨rfl, rfl, List.prefix_refl _⟩ rfl
    · rw [endPeriod_unaligned c whole inService aligned]
      exact both w.periodOut 0 true ⟨rfl, rfl, List.prefix_refl _⟩ rfl

/-- A work that has judged one period of a port for OOA_PERIODS and the aligned run (R47). -/
structure PortWork.Judged (p : LinePort) (ooa : Bool) (w : PortWork) : Prop where
  out : w.port.out = p.out
  marked : p.out = true → w.ooaPeriods = 0 ∧ w.port.alignedRun = p.alignedRun
  judged : p.out = false → w.ooaPeriods = (if ooa = true then 1 else 0) ∧
    w.port.alignedRun = if ooa = true then 0 else min 63 (p.alignedRun + 1)

theorem endPeriod_judged (c : PortSettings) (whole : Bool) (w : PortWork) (fresh : w.ooaPeriods = 0) :
    PortWork.Judged w.port (decide (w.port.framer ≠ .aligned)) (w.endPeriod c whole) := by
  refine ⟨endPeriod_out c whole w, fun out => ?_, fun inService => ?_⟩
  · rw [endPeriod_marked c whole out]
    obtain ⟨-, ooa, count, los, port⟩ := stepLos_fields whole (w.onPort fun p => { p with periodOctets := 0 })
    rw [ooa, port]
    exact ⟨fresh, rfl⟩
  · by_cases aligned : w.port.framer = .aligned
    · rw [endPeriod_aligned c whole inService aligned, decide_eq_false (not_not_intro aligned)]
      obtain ⟨-, ooa, count, los, port⟩ := stepLos_fields whole w.periodAligned
      obtain ⟨-, ooa', lols, lol, accepted, store, running, last, port'⟩ := stepLol_fields c false (w.periodAligned.stepLos whole)
      rw [ooa', ooa, port', port]
      exact ⟨fresh, rfl⟩
    · rw [endPeriod_unaligned c whole inService aligned, decide_eq_true aligned]
      obtain ⟨-, ooa, count, los, port⟩ := stepLos_fields whole w.periodOut
      obtain ⟨-, ooa', lols, lol, accepted, store, running, last, port'⟩ := stepLol_fields c true (w.periodOut.stepLos whole)
      rw [ooa', ooa, port', port]
      exact ⟨congrArg (· + 1) fresh, rfl⟩

end Sys2Proof.Machine
end

section
/-! SUPPORT. The overhead and the samples of an evaluated frame (R50 to R56, R59). -/

namespace Sys2Proof.Machine

/-! ### The label (R51, R52) -/

theorem completeLabel_fields (c : PortSettings) (l : Label) (w : PortWork) : w.Extends (w.completeLabel c l) ∧
    (w.completeLabel c l).ooaPeriods = w.ooaPeriods ∧ ∃ candidate count settled mismatch, (w.completeLabel c l).port =
      { w.port with
        candidate := candidate, matchCount := count, settled := settled
        alarms := { w.port.alarms with labelMismatch := mismatch } } := by
  unfold PortWork.completeLabel
  dsimp only
  generalize (if w.port.candidate = some l then min 3 (w.port.matchCount + 1) else 1) = n
  have judged (v : PortWork) (mismatch : Bool) (extended : w.Extends v) (ooa : v.ooaPeriods = w.ooaPeriods)
      (port : v.port = { w.port with candidate := some l, matchCount := n, settled := some l }) :
      w.Extends (v.setDefect .labelMismatch mismatch) ∧ (v.setDefect .labelMismatch mismatch).ooaPeriods = w.ooaPeriods ∧
      ∃ candidate count settled mismatch', (v.setDefect .labelMismatch mismatch).port = { w.port with
        candidate := candidate, matchCount := count, settled := settled
        alarms := { w.port.alarms with labelMismatch := mismatch' } } := by
    refine ⟨extended.trans (.of_setDefect _ _ _), (setDefect_counts _ _ v).2.1.trans ooa, some l, n, some l, mismatch, ?_⟩
    rw [setDefect_port, port]
    rfl
  split
  · exact judged _ _ ⟨rfl, rfl, List.prefix_refl _⟩ rfl rfl
  · exact ⟨.of_onPort _ w, rfl, some l, n, w.port.settled, w.port.alarms.labelMismatch, rfl⟩

/-- Whether a label differs from the one expected (R52). -/
def PortSettings.mismatches (c : PortSettings) (l : Label) : Bool := c.expectedLabel.any (· != l)

theorem mismatches_iff (c : PortSettings) (l : Label) :
    c.mismatches l = true ↔ ∃ e, c.expectedLabel = some e ∧ e ≠ l := by
  unfold PortSettings.mismatches
  cases c.expectedLabel with
  | none => simp
  | some e => simp

/-- The third equal multiframe in a row settles its label (R52). -/
theorem completeLabel_settles {c : PortSettings} {l : Label} {w : PortWork} (candidate : w.port.candidate = some l)
    (twice : 2 ≤ w.port.matchCount) : (w.completeLabel c l).port = { w.port with
      candidate := some l, matchCount := 3, settled := some l
      alarms := { w.port.alarms with labelMismatch := c.mismatches l } } := by
  have third : (if w.port.candidate = some l then min 3 (w.port.matchCount + 1) else 1) = 3 := by
    rw [if_pos candidate]
    omega
  unfold PortWork.completeLabel
  dsimp only
  rw [third, if_pos rfl, setDefect_port]
  have judged : (match c.expectedLabel with | some e => e != l | none => false) = c.mismatches l := by
    unfold PortSettings.mismatches
    cases c.expectedLabel <;> rfl
  rw [← judged]
  rfl

theorem takeLabel_fields (c : PortSettings) (mf : Bool) (o : Octet) (w : PortWork) : w.Extends (w.takeLabel c mf o) ∧
    (w.takeLabel c mf o).ooaPeriods = w.ooaPeriods ∧ ∃ octets candidate count settled mismatch,
      (w.takeLabel c mf o).port = { w.port with
        labelOctets := octets, candidate := candidate, matchCount := count, settled := settled
        alarms := { w.port.alarms with labelMismatch := mismatch } } := by
  have restarted (octets : Option (List Octet)) (n : Nat) (v : PortWork)
      (hv : v = w.onPort fun p => { p with labelOctets := octets, matchCount := n }) : w.Extends v ∧
      v.ooaPeriods = w.ooaPeriods ∧ ∃ octets candidate count settled mismatch, v.port = { w.port with
        labelOctets := octets, candidate := candidate, matchCount := count, settled := settled
        alarms := { w.port.alarms with labelMismatch := mismatch } } := by
    subst hv
    exact ⟨.of_onPort _ w, rfl, octets, w.port.candidate, n, w.port.settled, w.port.alarms.labelMismatch, rfl⟩
  unfold PortWork.takeLabel
  split
  · exact restarted (some [o]) w.port.matchCount _ rfl
  · exact restarted (some [o]) _ _ rfl
  · exact ⟨.refl w, rfl, w.port.labelOctets, w.port.candidate, w.port.matchCount, w.port.settled,
      w.port.alarms.labelMismatch, rfl⟩
  · next l _ =>
    split
    · dsimp only
      split
      · obtain ⟨extended, ooa, candidate, count, settled, mismatch, port⟩ := completeLabel_fields c (labelOfList (l ++ [o]))
          (w.onPort fun p => { p with labelOctets := some (l ++ [o]) })
        refine ⟨(PortWork.Extends.of_onPort _ w).trans extended, ooa, some (l ++ [o]), candidate, count, settled, mismatch, ?_⟩
        rw [port]
        rfl
      · exact restarted (some (l ++ [o])) w.port.matchCount _ rfl
    · exact restarted none 0 _ rfl

theorem takeLabel_settles {c : PortSettings} {o : Octet} {w : PortWork} {l : List Octet} {label : Label}
    (under : w.port.labelOctets = some l) (length : l.length = 15) (whole : label = labelOfList (l ++ [o]))
    (candidate : w.port.candidate = some label) (twice : 2 ≤ w.port.matchCount) :
    (w.takeLabel c false o).port = { w.port with
      labelOctets := some (l ++ [o]), candidate := some label, matchCount := 3, settled := some label
      alarms := { w.port.alarms with labelMismatch := c.mismatches label } } := by
  have taken : w.takeLabel c false o =
      (w.onPort fun p => { p with labelOctets := some (l ++ [o]) }).completeLabel c label := by
    unfold PortWork.takeLabel
    rw [under]
    dsimp only
    rw [if_pos (by omega), if_pos (by rw [List.length_append, length]; rfl), whole]
  rw [taken, completeLabel_settles (w := w.onPort fun p => { p with labelOctets := some (l ++ [o]) }) candidate twice]
  rfl

/-! ### The degrade window (R54) -/

/-- The errored frames of the window with the frame under way. -/
def LinePort.windowErrors (p : LinePort) : Nat := p.degradeErrors + if p.errored then 1 else 0

/-- The degrade window emptied. -/
def PortWork.emptyWindow (w : PortWork) : PortWork := w.onPort fun p => { p with degradeFrames := 0, degradeErrors := 0 }

theorem stepDegrade_eq (c : PortSettings) (w : PortWork) : w.stepDegrade c =
    if 500 ≤ w.port.degradeFrames + 1 then
      if w.port.alarms.degraded then
        if w.port.windowErrors < max 1 (c.degradeThreshold / 2) then w.emptyWindow.setDefect .degraded false
        else w.emptyWindow
      else if c.degradeThreshold ≤ w.port.windowErrors then w.emptyWindow.setDefect .degraded true
      else w.emptyWindow
    else w.onPort fun p => { p with degradeFrames := p.degradeFrames + 1, degradeErrors := w.port.windowErrors } := rfl

theorem stepDegrade_cases (c : PortSettings) (w : PortWork) : (∃ v, w.stepDegrade c = w.emptyWindow.setDefect .degraded v) ∨
    ∃ frames errors, w.stepDegrade c = w.onPort fun p => { p with degradeFrames := frames, degradeErrors := errors } := by
  rw [stepDegrade_eq]
  split
  · split
    · split
      · exact .inl ⟨false, rfl⟩
      · exact .inr ⟨0, 0, rfl⟩
    · split
      · exact .inl ⟨true, rfl⟩
      · exact .inr ⟨0, 0, rfl⟩
  · exact .inr ⟨_, _, rfl⟩

theorem stepDegrade_fields (c : PortSettings) (w : PortWork) : w.Extends (w.stepDegrade c) ∧
    (w.stepDegrade c).ooaPeriods = w.ooaPeriods ∧ ∃ frames errors degraded, (w.stepDegrade c).port =
      { w.port with
        degradeFrames := frames, degradeErrors := errors, alarms := { w.port.alarms with degraded := degraded } } := by
  rcases stepDegrade_cases c w with ⟨v, step⟩ | ⟨frames, errors, step⟩
  · rw [step]
    refine ⟨(PortWork.Extends.of_onPort _ w).trans (.of_setDefect _ _ _), (setDefect_counts _ _ _).2.1, 0, 0, v, ?_⟩
    rw [setDefect_port]
    rfl
  · rw [step]
    exact ⟨.of_onPort _ w, rfl, frames, errors, w.port.alarms.degraded, rfl⟩

/-- The end of the degrade window (R54). -/
theorem stepDegrade_ends {c : PortSettings} {w : PortWork} (last : w.port.degradeFrames = 499) :
    ∃ degraded, (w.stepDegrade c).port = { w.port with
      degradeFrames := 0, degradeErrors := 0, alarms := { w.port.alarms with degraded := degraded } } ∧
    (w.port.alarms.degraded = false → degraded = decide (c.degradeThreshold ≤ w.port.windowErrors)) ∧
    (w.port.alarms.degraded = true → degraded = !decide (w.port.windowErrors < max 1 (c.degradeThreshold / 2))) := by
  have judged (v : Bool) : (w.emptyWindow.setDefect .degraded v).port = { w.port with
      degradeFrames := 0, degradeErrors := 0, alarms := { w.port.alarms with degraded := v } } := by
    rw [setDefect_port]
    rfl
  have kept (v : Bool) (held : w.port.alarms.degraded = v) : w.emptyWindow.port = { w.port with
      degradeFrames := 0, degradeErrors := 0, alarms := { w.port.alarms with degraded := v } } := by
    rw [← held]
    rfl
  rw [stepDegrade_eq, if_pos (by omega)]
  cases held : w.port.alarms.degraded with
  | true =>
    rw [if_pos rfl]
    by_cases few : w.port.windowErrors < max 1 (c.degradeThreshold / 2)
    · exact ⟨false, by rw [if_pos few]; exact judged false, nofun, fun _ => by rw [decide_eq_true few]; rfl⟩
    · exact ⟨true, by rw [if_neg few]; exact kept true held, nofun, fun _ => by rw [decide_eq_false few]; rfl⟩
  | false =>
    rw [if_neg Bool.false_ne_true]
    by_cases many : c.degradeThreshold ≤ w.port.windowErrors
    · exact ⟨true, by rw [if_pos many]; exact judged true, fun _ => (decide_eq_true many).symm, nofun⟩
    · exact ⟨false, by rw [if_neg many]; exact kept false held, fun _ => (decide_eq_false many).symm, nofun⟩

/-! ### Signalling and RD (R55, R56) -/

/-- The run of a signalling value with one more frame of it. -/
def LinePort.signallingRunOf (p : LinePort) (sig : Signalling) : Nat :=
  if p.signallingCandidate = some sig then min 3 (p.signallingRun + 1) else 1

/-- The run of an RD value with one more frame of it. -/
def LinePort.rdRunOf (p : LinePort) (rd : Bool) : Nat := if p.rdValue = some rd then min 3 (p.rdRun + 1) else 1

theorem takeSignalling_port (sig : Signalling) (w : PortWork) : (w.takeSignalling sig).port = { w.port with
    signallingCandidate := some sig, signallingRun := w.port.signallingRunOf sig
    accepted := if w.port.signallingRunOf sig = 3 then sig else w.port.accepted } := rfl

theorem takeRd_fields (rd : Bool) (w : PortWork) : w.Extends (w.takeRd rd) ∧ (w.takeRd rd).ooaPeriods = w.ooaPeriods ∧
    (w.takeRd rd).port = { w.port with
      rdValue := some rd, rdRun := w.port.rdRunOf rd
      alarms := { w.port.alarms with
        farDefect := if w.port.rdRunOf rd = 3 then rd else w.port.alarms.farDefect } } := by
  have unfolded : w.takeRd rd = if w.port.rdRunOf rd = 3
      then (w.onPort fun p => { p with rdValue := some rd, rdRun := w.port.rdRunOf rd }).setDefect .farDefect rd
      else w.onPort fun p => { p with rdValue := some rd, rdRun := w.port.rdRunOf rd } := rfl
  rw [unfolded]
  split
  · refine ⟨(PortWork.Extends.of_onPort _ w).trans (.of_setDefect _ _ _), (setDefect_counts _ _ _).2.1, ?_⟩
    rw [setDefect_port]
    rfl
  · exact ⟨.of_onPort _ w, rfl, rfl⟩

/-! ### The elastic store (R59) -/

theorem writeStore_eq (b : Block) (w : PortWork) : w.writeStore b =
    if w.port.storeRunning then
      if w.port.store.length < 3 then w.onPort fun p => { p with store := p.store ++ [b] }
      else { w.onPort (fun p => { p with store := p.store.tail ++ [b] }) with lineSlips := w.lineSlips + 1 }
    else w.onPort fun p =>
      { p with store := p.store ++ [b], storeRunning := decide (w.port.store.length + 1 ≥ 2) } := rfl

/-- What a block written to the elastic store changes of it (R59). -/
theorem writeStore_fields (b : Block) (w : PortWork) : (w.writeStore b).parityErrors = w.parityErrors ∧
    (w.writeStore b).notices = w.notices ∧ (w.writeStore b).ooaPeriods = w.ooaPeriods ∧ ∃ store running,
      (w.writeStore b).port = { w.port with store := store, storeRunning := running } ∧
      (w.port.storeRunning = false → store = w.port.store ++ [b] ∧ running = decide (1 ≤ w.port.store.length) ∧
        (w.writeStore b).lineSlips = w.lineSlips) ∧
      (w.port.storeRunning = true → running = true ∧
        (w.port.store.length < 3 → store = w.port.store ++ [b] ∧ (w.writeStore b).lineSlips = w.lineSlips) ∧
        (3 ≤ w.port.store.length → store = w.port.store.tail ++ [b] ∧
          (w.writeStore b).lineSlips = w.lineSlips + 1)) := by
  rw [writeStore_eq]
  cases run : w.port.storeRunning with
  | false =>
    rw [if_neg Bool.false_ne_true]
    refine ⟨rfl, rfl, rfl, w.port.store ++ [b], decide (w.port.store.length + 1 ≥ 2), rfl, fun _ => ⟨rfl, ?_, rfl⟩, nofun⟩
    exact decide_eq_decide.mpr (by omega)
  | true =>
    rw [if_pos rfl]
    by_cases room : w.port.store.length < 3
    · rw [if_pos room]
      refine ⟨rfl, rfl, rfl, w.port.store ++ [b], true, ?_, nofun, fun _ => ⟨rfl, fun _ => ⟨rfl, rfl⟩, fun full => ?_⟩⟩
      · rw [← run]
        rfl
      · exact absurd room (by omega)
    · rw [if_neg room]
      refine ⟨rfl, rfl, rfl, w.port.store.tail ++ [b], true, ?_, nofun,
        fun _ => ⟨rfl, fun less => absurd less room, fun _ => ⟨rfl, rfl⟩⟩⟩
      rw [← run]
      rfl

end Sys2Proof.Machine
end

section
/-! SUPPORT. The octets of a line port, one by one, and the end of a frame (R39, R44 to R56). -/

namespace Sys2Proof.Machine

/-! ### An evaluated frame -/

/-- What the overhead and the samples of an evaluated frame make of a port (R50 to R56, R59). -/
structure PortWork.Evaluated (c : PortSettings) (w e : PortWork) : Prop where
  port : ∃ octets candidate count settled mismatch frames errors degraded signal run accepted value rds far store running,
    e.port = { w.port with
      labelOctets := octets, candidate := candidate, matchCount := count, settled := settled
      degradeFrames := frames, degradeErrors := errors, signallingCandidate := signal, signallingRun := run
      accepted := accepted, rdValue := value, rdRun := rds, store := store, storeRunning := running
      alarms := { w.port.alarms with labelMismatch := mismatch, degraded := degraded, farDefect := far } }
  label : ∀ (l : List Octet) (label : Label), (w.port.frameOctet 1).getLsbD 4 = false → w.port.labelOctets = some l →
    l.length = 15 → label = labelOfList (l ++ [w.port.frameOctet 2]) → w.port.candidate = some label →
    2 ≤ w.port.matchCount → e.port.labelOctets = some (l ++ [w.port.frameOctet 2]) ∧ e.port.settled = some label ∧
      e.port.matchCount = 3 ∧
      e.port.alarms.labelMismatch = c.mismatches label
  signalling : ∀ sig : Signalling, sig = Signalling.ofCode ((w.port.frameOctet 1).toNat / 64) →
    e.port.signallingRun = w.port.signallingRunOf sig ∧
    e.port.accepted = if w.port.signallingRunOf sig = 3 then sig else w.port.accepted
  rd : ∀ rd : Bool, rd = (w.port.frameOctet 1).getLsbD 5 → e.port.rdRun = w.port.rdRunOf rd ∧
    e.port.alarms.farDefect = if w.port.rdRunOf rd = 3 then rd else w.port.alarms.farDefect
  degrade : w.port.degradeFrames = 499 → e.port.degradeFrames = 0 ∧ e.port.degradeErrors = 0 ∧
    (w.port.alarms.degraded = false → e.port.alarms.degraded = decide (c.degradeThreshold ≤ w.port.windowErrors)) ∧
    (w.port.alarms.degraded = true →
      e.port.alarms.degraded = !decide (w.port.windowErrors < max 1 (c.degradeThreshold / 2)))
  parity : e.parityErrors = w.parityErrors + if c.parityFrame then
    min 1 (bitsDiffering (w.port.frameOctet 3) w.port.parityReference)
    else bitsDiffering (w.port.frameOctet 3) w.port.parityReference
  periods : e.ooaPeriods = w.ooaPeriods
  starting : w.port.storeRunning = false → e.port.store = w.port.store ++ [w.port.frameSamples] ∧
    e.port.storeRunning = decide (1 ≤ w.port.store.length) ∧ e.lineSlips = w.lineSlips
  running : w.port.storeRunning = true → e.port.storeRunning = true ∧
    (w.port.store.length < 3 → e.port.store = w.port.store ++ [w.port.frameSamples] ∧ e.lineSlips = w.lineSlips) ∧
    (3 ≤ w.port.store.length → e.port.store = w.port.store.tail ++ [w.port.frameSamples] ∧
      e.lineSlips = w.lineSlips + 1)

theorem evaluate_evaluated (c : PortSettings) (w : PortWork) : PortWork.Evaluated c w (w.evaluate c) := by
  have stages : w.evaluate c = (((((w.takeLabel c ((w.port.frameOctet 1).getLsbD 4) (w.port.frameOctet 2)).takeParity
    c).stepDegrade c).takeSignalling (Signalling.ofCode ((w.port.frameOctet 1).toNat / 64))).takeRd
    ((w.port.frameOctet 1).getLsbD 5)).writeStore w.port.frameSamples := rfl
  rw [stages]
  have settles := fun (l : List Octet) (label : Label) => takeLabel_settles (c := c) (o := w.port.frameOctet 2) (w := w)
    (l := l) (label := label)
  obtain ⟨labelled, ooa1, octets, candidate, count, settled, mismatch, port1⟩ :=
    takeLabel_fields c ((w.port.frameOctet 1).getLsbD 4) (w.port.frameOctet 2) w
  have label : ∀ (l : List Octet) (label : Label), (w.port.frameOctet 1).getLsbD 4 = false → w.port.labelOctets = some l →
      l.length = 15 → label = labelOfList (l ++ [w.port.frameOctet 2]) → w.port.candidate = some label →
      2 ≤ w.port.matchCount → octets = some (l ++ [w.port.frameOctet 2]) ∧ settled = some label ∧ count = 3 ∧
        mismatch = c.mismatches label := by
    intro l label mf under length whole cand twice
    have same := port1
    rw [mf] at same
    have port := same.symm.trans (settles l label under length whole cand twice)
    exact ⟨congrArg LinePort.labelOctets port, congrArg LinePort.settled port, congrArg LinePort.matchCount port,
      congrArg (fun p => p.alarms.labelMismatch) port⟩
  generalize w.takeLabel c _ _ = w1 at *
  have parity2 : (w1.takeParity c).parityErrors = w.parityErrors + if c.parityFrame then
      min 1 (bitsDiffering (w.port.frameOctet 3) w.port.parityReference)
      else bitsDiffering (w.port.frameOctet 3) w.port.parityReference := by
    rw [← labelled.parity, show w.port.frameOctet 3 = w1.port.frameOctet 3 by rw [port1]; rfl,
      show w.port.parityReference = w1.port.parityReference by rw [port1]]
    rfl
  have port2 : (w1.takeParity c).port = w1.port := rfl
  have ooa2 : (w1.takeParity c).ooaPeriods = w1.ooaPeriods := rfl
  have slips2 : (w1.takeParity c).lineSlips = w1.lineSlips := rfl
  generalize w1.takeParity c = w2 at *
  rw [port1] at port2
  have errors2 : w2.port.windowErrors = w.port.windowErrors := by rw [port2]; rfl
  obtain ⟨degraded, ooa3, frames, errors, bad, port3⟩ := stepDegrade_fields c w2
  have window : w.port.degradeFrames = 499 → frames = 0 ∧ errors = 0 ∧
      (w.port.alarms.degraded = false → bad = decide (c.degradeThreshold ≤ w.port.windowErrors)) ∧
      (w.port.alarms.degraded = true → bad = !decide (w.port.windowErrors < max 1 (c.degradeThreshold / 2))) := by
    intro last
    obtain ⟨v, port, clear, set⟩ := stepDegrade_ends (c := c) (w := w2) (by rw [port2]; exact last)
    rw [port3] at port
    have value : bad = v := congrArg (fun p => p.alarms.degraded) port
    rw [errors2, port2] at clear set
    exact ⟨congrArg LinePort.degradeFrames port, congrArg LinePort.degradeErrors port, fun h => value.trans (clear h),
      fun h => value.trans (set h)⟩
  generalize w2.stepDegrade c = w3 at *
  rw [port2] at port3
  have port4 := takeSignalling_port (Signalling.ofCode ((w.port.frameOctet 1).toNat / 64)) w3
  have ooa4 : (w3.takeSignalling (Signalling.ofCode ((w.port.frameOctet 1).toNat / 64))).ooaPeriods = w3.ooaPeriods := rfl
  have parity4 : (w3.takeSignalling (Signalling.ofCode ((w.port.frameOctet 1).toNat / 64))).parityErrors = w3.parityErrors := rfl
  have slips4 : (w3.takeSignalling (Signalling.ofCode ((w.port.frameOctet 1).toNat / 64))).lineSlips = w3.lineSlips := rfl
  generalize w3.takeSignalling _ = w4 at *
  rw [port3] at port4
  obtain ⟨decided, ooa5, port5⟩ := takeRd_fields ((w.port.frameOctet 1).getLsbD 5) w4
  generalize w4.takeRd _ = w5 at *
  rw [port4] at port5
  obtain ⟨parity6, -, ooa6, store, run, port6, starting, running⟩ := writeStore_fields w.port.frameSamples w5
  generalize w5.writeStore _ = w6 at *
  rw [port5] at port6 starting running
  have slips : w5.lineSlips = w.lineSlips := by rw [decided.slips, slips4, degraded.slips, slips2, labelled.slips]
  refine ⟨⟨_, _, _, _, _, _, _, _, _, _, _, _, _, _, _, _, port6⟩, fun l lb mf under length whole cand twice => ?_,
    fun sig hsig => ?_, fun rd hrd => ?_, fun last => ?_, ?_, ?_, fun still => ?_, fun runs => ?_⟩
  · obtain ⟨ho, hs, hc, hm⟩ := label l lb mf under length whole cand twice
    rw [port6]
    exact ⟨ho, hs, hc, hm⟩
  · subst hsig
    rw [port6]
    exact ⟨rfl, rfl⟩
  · subst hrd
    rw [port6]
    exact ⟨rfl, rfl⟩
  · rw [port6]
    exact window last
  · rw [parity6, decided.parity, parity4, degraded.parity, parity2]
  · rw [ooa6, ooa5, ooa4, ooa3, ooa2, ooa1]
  · obtain ⟨hs, hr, slip⟩ := starting still
    rw [port6]
    exact ⟨hs, hr, slip.trans slips⟩
  · obtain ⟨hr, less, full⟩ := running runs
    rw [port6]
    exact ⟨hr, fun h => ⟨(less h).1, (less h).2.trans slips⟩, fun h => ⟨(full h).1, (full h).2.trans (congrArg (· + 1) slips)⟩⟩

/-! ### The end of a frame (R39, R50, R53) -/

/-- An aligned period of a port without LOS or LOL (R47, R49). -/
theorem endPeriod_trusted (c : PortSettings) (whole : Bool) {w : PortWork} (inService : w.port.out = false)
    (aligned : w.port.framer = .aligned) (los : w.port.alarms.los = false) (lol : w.port.alarms.lol = false) :
    ∃ run lols, w.endPeriod c whole =
      { w with port := { w.port with periodOctets := 0, alignedRun := run, lolCount := lols } } := by
  rw [endPeriod_aligned c whole inService aligned, stepLos_still (w := w.periodAligned) (.inl los)]
  have clear : w.periodAligned.port.alarms.lol = false := lol
  unfold PortWork.stepLol
  dsimp only
  rw [if_neg Bool.false_ne_true, clear, if_neg Bool.false_ne_true]
  split
  · exact ⟨_, _, rfl⟩
  · exact ⟨_, _, rfl⟩

/-- A port with the octet that ends its frame (R39). -/
def LinePort.withLast (p : LinePort) (o : Octet) : LinePort :=
  { p with frame := p.frame ++ [o], periodOctets := p.periodOctets + 1 }

theorem takeOctet_last {c : PortSettings} {p : LinePort} {o : Octet} (framed : p.framer ≠ .hunt)
    (last : p.periodOctets = 35) :
    (PortWork.start p).takeOctet c o = (PortWork.start (p.withLast o)).endFrame c := by
  have inner : (PortWork.start p).innerOctet c o = (PortWork.start (p.withLast o)).endFrame c :=
    if_pos (show p.periodOctets + 1 ≥ 36 by omega)
  unfold PortWork.takeOctet
  have starts : (PortWork.start p).port.periodOctets ≠ 0 := by
    show p.periodOctets ≠ 0
    omega
  cases framer : p.framer with
  | hunt => exact absurd framer framed
  | confirm =>
    rw [show (PortWork.start p).port.framer = .confirm from framer]
    exact (if_neg starts).trans inner
  | aligned =>
    rw [show (PortWork.start p).port.framer = .aligned from framer]
    exact (if_neg starts).trans inner

/-- The last octet of an evaluated frame. -/
theorem takeOctet_evaluated {c : PortSettings} {p : LinePort} (o : Octet) (ends : p.EndsEvaluated) :
    ∃ (e : PortWork) (run lols : Nat), PortWork.Evaluated c (PortWork.start (p.withLast o)) e ∧
      (PortWork.start p).takeOctet c o = { e with port := { e.port with
        parityReference := xorAll (p.frame ++ [o]), frame := [], periodOctets := 0, alignedRun := run, lolCount := lols } } := by
  obtain ⟨aligned, last, los, lol, inService⟩ := ends
  have evaluated := evaluate_evaluated c (PortWork.start (p.withLast o))
  have framed : (PortWork.start p).takeOctet c o = ((((PortWork.start (p.withLast o)).evaluate c).onPort fun q =>
      { q with parityReference := xorAll (p.frame ++ [o]), frame := [] }).endPeriod c true) := by
    rw [takeOctet_last (by rw [aligned]; nofun) last]
    have judged : (!(PortWork.start (p.withLast o)).port.alarms.los && !(PortWork.start (p.withLast o)).port.alarms.lol &&
        !(PortWork.start (p.withLast o)).port.out) = true := by
      show (!p.alarms.los && !p.alarms.lol && !p.out) = true
      rw [los, lol, inService]
      rfl
    unfold PortWork.endFrame
    dsimp only
    rw [if_pos (show (PortWork.start (p.withLast o)).port.framer = .aligned from aligned), if_pos judged]
    rfl
  generalize (PortWork.start (p.withLast o)).evaluate c = e at evaluated framed
  obtain ⟨_, _, _, _, _, _, _, _, _, _, _, _, _, _, _, _, port⟩ := evaluated.port
  obtain ⟨run, lols, done⟩ := endPeriod_trusted c true (w := e.onPort fun q =>
      { q with parityReference := xorAll (p.frame ++ [o]), frame := [] })
    (by show e.port.out = false; rw [port]; exact inService) (by show e.port.framer = .aligned; rw [port]; exact aligned)
    (by show e.port.alarms.los = false; rw [port]; exact los) (by show e.port.alarms.lol = false; rw [port]; exact lol)
  exact ⟨e, run, lols, evaluated, framed.trans done⟩

/-- The last octet of a frame that is not evaluated (R50). -/
theorem takeOctet_unevaluated {c : PortSettings} {p : LinePort} (o : Octet) (framed : p.framer ≠ .hunt)
    (last : p.periodOctets = 35)
    (untrusted : p.framer = .confirm ∨ p.alarms.los = true ∨ p.alarms.lol = true ∨ p.out = true) :
    ∃ octets, (PortWork.start p).takeOctet c o = (PortWork.start { p with
      labelOctets := octets, parityReference := xorAll (p.frame ++ [o]), frame := []
      periodOctets := 36 }).endPeriod c true := by
  have full : p.periodOctets + 1 = 36 := by omega
  rw [takeOctet_last framed last]
  unfold PortWork.endFrame
  dsimp only
  rw [show (PortWork.start (p.withLast o)).port.framer = p.framer from rfl]
  by_cases aligned : p.framer = .aligned
  · have judged : (!(PortWork.start (p.withLast o)).port.alarms.los && !(PortWork.start (p.withLast o)).port.alarms.lol &&
        !(PortWork.start (p.withLast o)).port.out) = false := by
      show (!p.alarms.los && !p.alarms.lol && !p.out) = false
      rcases untrusted with h | h | h | h
      · rw [aligned] at h
        cases h
      · rw [h]; rfl
      · rw [h, Bool.not_true, Bool.and_false]; rfl
      · rw [h, Bool.not_true, Bool.and_false]
    rw [if_pos aligned, if_neg (by rw [judged]; exact Bool.false_ne_true)]
    refine ⟨none, ?_⟩
    rw [← full]
    rfl
  · rw [if_neg aligned]
    refine ⟨p.labelOctets, ?_⟩
    rw [← full]
    rfl

end Sys2Proof.Machine
end

section
/-! PROOFS. The decisions of an evaluated frame (R51 to R56, R81). -/

namespace Sys2Proof.Machine

/-- A step that takes a line octet for the decision it leads to (log 2). -/
theorem octet_decides {s : State} {k : Fin 8} {o : Octet} {decided : LinePort → LinePort → Bool} (hears : s.hearsLine k)
    (w : PortWork) (hw : (PortWork.start s.ports[k]).takeOctet (s.portCfg k) o = w)
    (falls : decided s.ports[k] w.port = true) :
    s.ifDecided k decided (s.takeLineOctet k o) = s.commitPort k w := by
  have done := commitPort_done k w s
  rw [octet_heard hears o, hw, State.ifDecided, done.here, if_pos falls]

/-- A step whose decision the octet does not lead to changes nothing (log 2). -/
theorem octet_undecided {s : State} {k : Fin 8} {o : Octet} {decided : LinePort → LinePort → Bool} (hears : s.hearsLine k)
    (w : PortWork) (hw : (PortWork.start s.ports[k]).takeOctet (s.portCfg k) o = w)
    (other : decided s.ports[k] w.port = false) :
    s.ifDecided k decided (s.takeLineOctet k o) = s := by
  have done := commitPort_done k w s
  rw [octet_heard hears o, hw, State.ifDecided, done.here, if_neg (by rw [other]; exact Bool.false_ne_true)]

/-- A line in service, none of whose entries is the station's own, takes a new far-end signalling (R81). -/
theorem commitPort_far {s : State} {k : Fin 8} {w : PortWork} {r : LineRecord} (stands : s.records[k] = some r)
    (inService : s.outCause k r = false) (foreign : r.foreign s.cfg.station) (out : w.port.out = (s.ports[k]).out)
    (new : w.port.accepted ≠ (s.ports[k]).accepted) :
    ∃ r' : LineRecord, (s.commitPort k w).records[k] = some r' ∧ r'.farSignalling = w.port.accepted ∧
      r'.members = r.members ∧ r'.listeners = r.listeners ∧
      (w.port.accepted = .ring ∨ w.port.accepted = .offhook → r'.outRing = none) := by
  obtain ⟨ring, marks, overflow, fields⟩ := portWorked_fields k w s
  have base : (s.portWorked k w).base = { s.base with ports := s.ports.set k w.port } := by rw [fields]; rfl
  have record : (s.portWorked k w).records[k] = some r := by rw [fields]; exact stands
  have cause (x : LineRecord) (conflict : x.conflict = r.conflict) : (s.portWorked k w).outCause k x = false := by
    have port : (s.portWorked k w).ports[k] = w.port := by rw [fields]; exact ported_here k w s
    have away : (s.portWorked k w).awayFromFloor = s.awayFromFloor := by rw [fields]; rfl
    rw [State.outCause, port, out, conflict, away]
    exact inService
  rcases commitPort_cases k w s with ⟨-, same⟩ | ⟨x, stands', changed⟩
  · exact absurd (same r record).1.symm new
  · obtain rfl := Option.some.inj (record.symm.trans stands')
    have taken : r.takePort ((s.portWorked k w).outCause k r) (s.ports[k]).accepted w.port = { r with
        farSignalling := w.port.accepted
        outRing := if w.port.accepted = .ring ∨ w.port.accepted = .offhook then none else r.outRing } := by
      rw [cause r rfl, LineRecord.takePort]
      exact if_neg (by simpa using new)
    rw [taken] at changed
    have cause' := cause { r with
      farSignalling := w.port.accepted
      outRing := if w.port.accepted = .ring ∨ w.port.accepted = .offhook then none else r.outRing } rfl
    obtain ⟨before, put⟩ := commitRecord_here k { r with
      farSignalling := w.port.accepted
      outRing := if w.port.accepted = .ring ∨ w.port.accepted = .offhook then none else r.outRing } (s.portWorked k w)
    rw [cause'] at put
    have facts : ∃ y : LineRecord, ((s.portWorked k w).commitRecord k { r with
        farSignalling := w.port.accepted
        outRing := if w.port.accepted = .ring ∨ w.port.accepted = .offhook then none else r.outRing }).records[k] = some y ∧
        y.farSignalling = w.port.accepted ∧ y.members = r.members ∧ y.listeners = r.listeners ∧ y.conflict = r.conflict ∧
        (w.port.accepted = .ring ∨ w.port.accepted = .offhook → y.outRing = none) := by
      refine ⟨_, put, rfl, rfl, rfl, rfl, fun answered => ?_⟩
      show (if _ then (if _ then none else r.outRing) else none) = none
      rw [if_pos answered, ite_self]
    have base' := (commitRecord_base k { r with
      farSignalling := w.port.accepted
      outRing := if w.port.accepted = .ring ∨ w.port.accepted = .offhook then none else r.outRing } (s.portWorked k w)).trans base
    generalize State.commitRecord k _ (s.portWorked k w) = u at changed facts base'
    obtain ⟨y, record', far, members, listeners, conflict, quiet⟩ := facts
    have causeU : u.outCause k y = false := by
      rw [outCause_eq, inputs_of_base (base'.trans base.symm), ← outCause_eq]
      exact cause y conflict
    have station : u.cfg.station = s.cfg.station := congrArg (fun b => b.cfg.station) base'
    have foreignU : y.foreign u.cfg.station := by
      unfold LineRecord.foreign
      rw [members, listeners, station]
      exact foreign
    obtain ⟨-, r', record'', rests⟩ := announceChange_keepsLine foreignU (fun out => by rw [causeU] at out; cases out) s k
      (.start record')
    rw [changed]
    exact ⟨r', record'', rests.far.trans far, rests.members.trans members, rests.listeners.trans listeners,
      fun answered => rests.ring (quiet answered)⟩

/-- Settles O36: the last octet of an evaluated frame, read off the work it makes. -/
theorem evaluatedFramesDecide : Obligations.EvaluatedFramesDecide := by
  unfold Obligations.EvaluatedFramesDecide
  refine ⟨fun s k o p overhead hp hears ends hoverhead => ?_, fun s k o p errors hp hears ends last herrors => ?_⟩
  · subst hp hoverhead
    obtain ⟨e, run, lols, evaluated, done⟩ := takeOctet_evaluated (c := s.portCfg k) o ends
    obtain ⟨_, _, _, _, _, _, _, _, _, _, _, _, _, _, _, _, port⟩ := evaluated.port
    have final := fun (decided : LinePort → LinePort → Bool) => octet_decides (decided := decided) hears _ done
    have out : e.port.out = (s.ports[k]).out := by rw [port]; rfl
    clear port
    generalize hw : ({ e with port := { e.port with
        parityReference := xorAll ((s.ports[k]).frame ++ [o]), frame := [], periodOctets := 0
        alignedRun := run, lolCount := lols } } : PortWork) = w at final
    have worked := commitPort_done k w s
    have settled : w.port.settled = e.port.settled := by rw [← hw]
    have octets : w.port.labelOctets = e.port.labelOctets := by rw [← hw]
    have matches3 : w.port.matchCount = e.port.matchCount := by rw [← hw]
    have alarms : w.port.alarms = e.port.alarms := by rw [← hw]
    have accepted : w.port.accepted = e.port.accepted := by rw [← hw]
    have signals : w.port.signallingRun = e.port.signallingRun := by rw [← hw]
    have rds : w.port.rdRun = e.port.rdRun := by rw [← hw]
    have outW : w.port.out = (s.ports[k]).out := by rw [← hw]; exact out
    refine ⟨fun l label mf under length whole candidate twice => ?_, fun sig hsig candidate twice new => ?_,
      fun rd hrd value twice changes => ?_⟩
    · obtain ⟨stored, settles, third, judged⟩ := evaluated.label l label mf under length whole candidate twice
      have fifteen : (s.ports[k]).labelPosition = 15 := by
        rw [LinePort.labelPosition, under]
        exact length
      have sixteen : w.port.labelPosition = 16 := by
        rw [LinePort.labelPosition, octets, stored]
        show (l ++ [_]).length = 16
        rw [List.length_append, length]
        rfl
      have falls : labelSettles s.ports[k] w.port = true := by
        rw [labelSettles, fifteen, sixteen, matches3, third]
        rfl
      refine ⟨_, congrArg Host.Outcome.next (final _ falls), worked.base, worked.others, ?_, ?_, ?_⟩
      · rw [worked.here, settled, settles]
      · rw [worked.here, matches3, third]
      · rw [worked.here, alarms, judged, Bool.eq_iff_iff, mismatches_iff, decide_eq_true_iff]
    · obtain ⟨counted, takes⟩ := evaluated.signalling sig hsig
      have three : (PortWork.start ((s.ports[k]).withLast o)).port.signallingRunOf sig = 3 := by
        show (if (s.ports[k]).signallingCandidate = some sig then min 3 ((s.ports[k]).signallingRun + 1) else 1) = 3
        rw [if_pos candidate]
        omega
      rw [three] at counted takes
      rw [if_pos rfl] at takes
      have falls : signallingAccepts s.ports[k] w.port = true := by
        rw [signallingAccepts, accepted, signals, takes, counted, bne_iff_ne.mpr new]
        rfl
      refine ⟨_, congrArg Host.Outcome.next (final _ falls), worked.base, worked.others, ?_, fun r stands inService foreign => ?_⟩
      · rw [worked.here, accepted, takes]
      · have far := commitPort_far stands inService foreign outW (by rw [accepted, takes]; exact new.symm)
        rw [accepted, takes] at far
        exact far
    · obtain ⟨counted, decides⟩ := evaluated.rd rd hrd
      have three : (PortWork.start ((s.ports[k]).withLast o)).port.rdRunOf rd = 3 := by
        show (if (s.ports[k]).rdValue = some rd then min 3 ((s.ports[k]).rdRun + 1) else 1) = 3
        rw [if_pos value]
        omega
      rw [three] at counted decides
      rw [if_pos rfl] at decides
      have falls : farDefectDecides s.ports[k] w.port = true := by
        rw [farDefectDecides, alarms, rds, decides, counted, bne_iff_ne.mpr changes]
        rfl
      refine ⟨_, congrArg Host.Outcome.next (final _ falls), worked.base, worked.others, ?_⟩
      rw [worked.here, alarms, decides]
  · subst hp
    obtain ⟨e, run, lols, evaluated, done⟩ := takeOctet_evaluated (c := s.portCfg k) o ends
    obtain ⟨frames, counts, clear, set⟩ := evaluated.degrade last
    have windowed : (PortWork.start ((s.ports[k]).withLast o)).port.windowErrors = errors := by
      rw [herrors]
      show _ + (if (((s.ports[k]).frame ++ [o]).getD 3 0#8 != (s.ports[k]).parityReference) = true then 1 else 0) = _
      by_cases same : ((s.ports[k]).frame ++ [o]).getD 3 0#8 = (s.ports[k]).parityReference
      · rw [same, bne_self_eq_false, if_neg Bool.false_ne_true, if_pos rfl]
        rfl
      · rw [if_pos (bne_iff_ne.mpr same), if_neg same]
        rfl
    rw [windowed] at clear set
    have final := octet_decides (decided := degradeWindowEnds) hears _ done (by
      show ((s.ports[k]).degradeFrames + 1 == 500 && e.port.degradeFrames == 0) = true
      rw [last, frames]
      rfl)
    refine ⟨_, congrArg Host.Outcome.next final, (commitPort_done k _ s).base, (commitPort_done k _ s).others, ?_⟩
    rw [(commitPort_done k _ s).here]
    exact ⟨frames, counts, clear, set⟩

end Sys2Proof.Machine
end

section
/-! SUPPORT. A block boundary, stage by stage: what each stage changes of the station (log 17). -/

namespace Sys2Proof.Machine

/-! ### The line ports at a boundary -/

/-- The frame period that the boundary ends on a port without carrier (R39). -/
def State.standIn (s : State) (k : Fin 8) : State :=
  if s.carrier[k] then s else s.workPort k fun c w => w.endPeriod c false

theorem standInPeriods_eq (s : State) : s.standInPeriods = allPorts.foldl State.standIn s := rfl

/-- With carrier on every port no period ends at a boundary. -/
theorem standInPeriods_still {s : State} (carried : ∀ k : Fin 8, s.carrier[k] = true) : s.standInPeriods = s :=
  foldl_still _ _ _ fun k _ => if_pos (carried k)

/-- The work of a boundary on one port without carrier, or on none. -/
theorem standIn_cases (s : State) (k : Fin 8) : s.standIn k = s ∧ (s.used k = false ∨ s.carrier[k] = true) ∨
    s.used k = true ∧ s.carrier[k] = false ∧
      s.standIn k = s.commitPort k ((PortWork.start s.ports[k]).endPeriod (s.portCfg k) false) := by
  cases carried : s.carrier[k] with
  | true => exact .inl ⟨if_pos carried, .inr rfl⟩
  | false =>
    have worked : s.standIn k = s.workPort k fun c w => w.endPeriod c false :=
      if_neg (by rw [carried]; exact Bool.false_ne_true)
    cases used : s.used k with
    | false => exact .inl ⟨worked.trans (workPort_unused used _), .inl rfl⟩
    | true => exact .inr ⟨rfl, rfl, worked.trans (workPort_used used _)⟩

/-- What the periods that a boundary ends leave: the ports apart, only the lines' own work (R39, R57). -/
structure State.StoodIn (s t : State) : Prop where
  base : t.base = { s.base with ports := t.ports }
  forgoes : s.Forgoes t
  present : ∀ k : Fin 8, (t.records[k]).isSome = (s.records[k]).isSome
  still : ∀ k : Fin 8, s.used k = false ∨ s.carrier[k] = true →
    t.ports[k] = s.ports[k] ∧ t.live.lines[k] = s.live.lines[k]
  marks : ∀ k : Fin 8, (t.ports[k]).txIndex = (s.ports[k]).txIndex ∧ (t.ports[k]).txParity = (s.ports[k]).txParity ∧
    (t.ports[k]).out = (s.ports[k]).out ∧ (t.ports[k]).forceRd = (s.ports[k]).forceRd

namespace State.StoodIn

variable {s t u : State}

theorem refl (s : State) : s.StoodIn s :=
  ⟨rfl, .refl s, fun _ => rfl, fun _ _ => ⟨rfl, rfl⟩, fun _ => ⟨rfl, rfl, rfl, rfl⟩⟩

theorem cfg (p : s.StoodIn t) : t.cfg = s.cfg := by rw [show t.cfg = t.base.cfg from rfl, p.base]; rfl
theorem carrier (p : s.StoodIn t) : t.carrier = s.carrier := by rw [show t.carrier = t.base.carrier from rfl, p.base]; rfl
theorem stationState (p : s.StoodIn t) : t.stationState = s.stationState := by
  rw [show t.stationState = t.base.stationState from rfl, p.base]
  rfl

theorem used (p : s.StoodIn t) (k : Fin 8) : t.used k = s.used k := by
  unfold State.used State.portCfg State.loaded
  rw [p.cfg, p.stationState]

theorem trans (p : s.StoodIn t) (q : t.StoodIn u) : s.StoodIn u where
  base := by rw [q.base, p.base]
  forgoes := p.forgoes.trans q.forgoes
  present k := (q.present k).trans (p.present k)
  still k h := by
    have later := q.still k (by rw [p.used k, p.carrier]; exact h)
    exact ⟨later.1.trans (p.still k h).1, later.2.trans (p.still k h).2⟩
  marks k := by
    obtain ⟨a, b, c, d⟩ := p.marks k
    obtain ⟨a', b', c', d'⟩ := q.marks k
    exact ⟨a'.trans a, b'.trans b, c'.trans c, d'.trans d⟩

end State.StoodIn

theorem standIn_stoodIn (s : State) (k : Fin 8) : s.StoodIn (s.standIn k) := by
  rcases standIn_cases s k with ⟨same, -⟩ | ⟨used, dark, worked⟩
  · rw [same]
    exact .refl s
  · obtain ⟨-, run, count, lols, los, lol, accepted, store, running, last, port⟩ :=
      endPeriod_fields (s.portCfg k) false (PortWork.start s.ports[k])
    have done := commitPort_done k ((PortWork.start s.ports[k]).endPeriod (s.portCfg k) false) s
    have work := (commitPort_homeWork k ((PortWork.start s.ports[k]).endPeriod (s.portCfg k) false) s).work
    have forgoes := (State.Forgoes.of_same (s := s)
      (t := s.ported k ((PortWork.start s.ports[k]).endPeriod (s.portCfg k) false)) rfl rfl rfl rfl).trans work.forgoes
    have present := work.present
    rw [worked]
    generalize s.commitPort k _ = t at done forgoes present
    have apart {j : Fin 8} (h : s.used j = false ∨ s.carrier[j] = true) : j ≠ k := by
      rintro rfl
      rcases h with h | h
      · rw [used] at h
        cases h
      · rw [dark] at h
        cases h
    refine ⟨done.base, forgoes, present, fun j h => ⟨done.others j (apart h), done.otherLines j (apart h)⟩, fun j => ?_⟩
    by_cases here : j = k
    · subst here
      rw [done.here, port]
      exact ⟨rfl, rfl, rfl, rfl⟩
    · rw [done.others j here]
      exact ⟨rfl, rfl, rfl, rfl⟩

theorem standInPeriods_stoodIn (s : State) : s.StoodIn s.standInPeriods :=
  foldl_preserves (fun t => s.StoodIn t) _ (fun t k ht => ht.trans (standIn_stoodIn t k)) allPorts s (.refl s)

/-- The period that a boundary ends on a used port without carrier (R39). -/
theorem standInPeriods_here {s : State} {k : Fin 8} (used : s.used k = true) (dark : s.carrier[k] = false) :
    (s.standInPeriods.ports[k]) = ((PortWork.start s.ports[k]).endPeriod (s.portCfg k) false).port ∧
    (s.standInPeriods.live.lines[k]).ooaPeriods = (s.live.lines[k]).ooaPeriods.add
      ((PortWork.start s.ports[k]).endPeriod (s.portCfg k) false).ooaPeriods := by
  have others (l : List (Fin 8)) (apart : k ∉ l) (t : State) :
      t.StoodIn (l.foldl State.standIn t) ∧ (l.foldl State.standIn t).ports[k] = t.ports[k] ∧
      (l.foldl State.standIn t).live.lines[k] = t.live.lines[k] := by
    induction l generalizing t with
    | nil => exact ⟨.refl t, rfl, rfl⟩
    | cons j l ih =>
      rw [List.mem_cons, not_or] at apart
      rw [List.foldl_cons]
      have step : (t.standIn j).ports[k] = t.ports[k] ∧ (t.standIn j).live.lines[k] = t.live.lines[k] := by
        rcases standIn_cases t j with ⟨same, -⟩ | ⟨-, -, worked⟩
        · rw [same]
          exact ⟨rfl, rfl⟩
        · have done := commitPort_done j ((PortWork.start t.ports[j]).endPeriod (t.portCfg j) false) t
          rw [worked]
          exact ⟨done.others k apart.1, done.otherLines k apart.1⟩
      obtain ⟨more, port, lines⟩ := ih apart.2 (t.standIn j)
      exact ⟨(standIn_stoodIn t j).trans more, port.trans step.1, lines.trans step.2⟩
  obtain ⟨split, before, after⟩ := ports_split k
  rw [standInPeriods_eq, split, List.foldl_append, List.foldl_cons]
  obtain ⟨first, port, lines⟩ := others (allPorts.take k.val) before s
  generalize List.foldl State.standIn s (allPorts.take k.val) = t at first port lines ⊢
  have cfg : t.portCfg k = s.portCfg k := by rw [State.portCfg, first.cfg]; rfl
  obtain ⟨-, port', lines'⟩ := others (allPorts.drop (k.val + 1)) after (t.standIn k)
  rw [port', lines']
  rcases standIn_cases t k with ⟨-, h⟩ | ⟨-, -, worked⟩
  · rw [first.used, first.carrier, used, dark] at h
    rcases h with h | h <;> cases h
  · have done := commitPort_done k ((PortWork.start t.ports[k]).endPeriod (t.portCfg k) false) t
    rw [worked]
    obtain ⟨-, ooa, -⟩ := done.counted
    rw [port, cfg, lines] at ooa
    rw [port, cfg] at done ⊢
    exact ⟨done.here, ooa⟩

/-! ### The elastic stores at a boundary (R60) -/

/-- A port whose store is read at a boundary (R60). -/
structure LinePort.Plays (p : LinePort) : Prop where
  los : p.alarms.los = false
  lol : p.alarms.lol = false
  aligned : p.framer = .aligned
  inService : p.out = false
  running : p.storeRunning = true

theorem readStore_judged_iff (p : LinePort) :
    (p.alarms.los || p.alarms.lol || p.framer != .aligned || p.out || !p.storeRunning) = false ↔ p.Plays := by
  simp only [Bool.or_eq_false_iff, bne_eq_false_iff_eq, Bool.not_eq_false', and_assoc]
  exact ⟨fun ⟨a, b, c, d, e⟩ => ⟨a, b, c, d, e⟩, fun h => ⟨h.los, h.lol, h.aligned, h.inService, h.running⟩⟩

theorem readStore_silent {w : PortWork} (still : ¬w.port.Plays) :
    w.readStore = w.onPort fun p => { p with lastBlock := Block.silence } :=
  if_pos (Bool.not_eq_false _ ▸ fun h => still ((readStore_judged_iff w.port).mp h))

theorem readStore_oldest {w : PortWork} {b : Block} {rest : List Block} (plays : w.port.Plays)
    (store : w.port.store = b :: rest) : w.readStore = w.onPort fun p => { p with lastBlock := b, store := rest } := by
  unfold PortWork.readStore
  dsimp only
  rw [(readStore_judged_iff w.port).mpr plays, store]
  rfl

theorem readStore_empty {w : PortWork} (plays : w.port.Plays) (store : w.port.store = []) : w.readStore =
    { w.onPort (fun p => { p with lastBlock := halveBlock p.lastBlock }) with lineSlips := w.lineSlips + 1 } := by
  unfold PortWork.readStore
  dsimp only
  rw [(readStore_judged_iff w.port).mpr plays, store]
  rfl

/-- What the read of a store leaves of its port. -/
theorem readStore_quiet (w : PortWork) : (w.readStore).notices = w.notices ∧
    (w.readStore).parityErrors = w.parityErrors ∧ (w.readStore).ooaPeriods = w.ooaPeriods ∧
    ∃ store last, (w.readStore).port = { w.port with store := store, lastBlock := last } := by
  by_cases plays : w.port.Plays
  · cases store : w.port.store with
    | nil =>
      rw [readStore_empty plays store]
      exact ⟨rfl, rfl, rfl, w.port.store, halveBlock w.port.lastBlock, rfl⟩
    | cons b rest =>
      rw [readStore_oldest plays store]
      exact ⟨rfl, rfl, rfl, rest, b, rfl⟩
  · rw [readStore_silent plays]
    exact ⟨rfl, rfl, rfl, w.port.store, Block.silence, rfl⟩

/-- A port's work of a boundary on its store. -/
def LinePort.readWork (p : LinePort) : PortWork := (PortWork.start p).readStore

theorem readPort_eq (s : State) (k : Fin 8) : s.workPort k (fun _ w => w.readStore) =
    if s.used k then s.ported k (s.ports[k]).readWork else s := by
  cases used : s.used k with
  | false => exact (workPort_unused used _).trans (if_neg Bool.false_ne_true).symm
  | true =>
    rw [workPort_used used, if_pos rfl]
    obtain ⟨silent, -, -, store, last, port⟩ := readStore_quiet (PortWork.start s.ports[k])
    exact commitPort_quiet (by rw [port]; rfl) (by rw [port]; rfl) silent

/-- The read of every used port's store: the ports and their counters, nothing else (R60). -/
theorem readStores_fields (s : State) : ∃ ports lines, s.readStores =
    { s with ports := ports, live := { s.live with lines := lines } } ∧
    ∀ k : Fin 8, ports[k] = (if s.used k then (s.ports[k]).readWork.port else s.ports[k]) ∧
      lines[k] = if s.used k then ⟨(s.live.lines[k]).parityErrors, (s.live.lines[k]).ooaPeriods,
        (s.live.lines[k]).lineSlips.add (s.ports[k]).readWork.lineSlips⟩ else s.live.lines[k] := by
  have all (l : List (Fin 8)) (distinct : l.Nodup) (u : State) : ∃ ports lines,
      l.foldl (fun s k => s.workPort k fun _ w => w.readStore) u =
        { u with ports := ports, live := { u.live with lines := lines } } ∧
      ∀ k : Fin 8, ports[k] = (if k ∈ l ∧ u.used k = true then (u.ports[k]).readWork.port else u.ports[k]) ∧
        lines[k] = if k ∈ l ∧ u.used k = true then ⟨(u.live.lines[k]).parityErrors, (u.live.lines[k]).ooaPeriods,
          (u.live.lines[k]).lineSlips.add (u.ports[k]).readWork.lineSlips⟩ else u.live.lines[k] := by
    induction l generalizing u with
    | nil => exact ⟨u.ports, u.live.lines, rfl, fun k => ⟨(if_neg fun h => List.not_mem_nil h.1).symm,
        (if_neg fun h => List.not_mem_nil h.1).symm⟩⟩
    | cons j l ih =>
      obtain ⟨new, rest⟩ := List.nodup_cons.mp distinct
      rw [List.foldl_cons, readPort_eq]
      cases used : u.used j with
      | false =>
        rw [if_neg Bool.false_ne_true]
        obtain ⟨ports, lines, fields, each⟩ := ih rest u
        refine ⟨ports, lines, fields, fun k => ?_⟩
        obtain ⟨port, line⟩ := each k
        by_cases here : k = j
        · subst here
          have idle : ¬(k ∈ k :: l ∧ u.used k = true) := fun h => by
            rw [used] at h
            cases h.2
          rw [if_neg idle, if_neg idle, port, line]
          exact ⟨if_neg fun h => new h.1, if_neg fun h => new h.1⟩
        · simp only [List.mem_cons, here, false_or]
          exact ⟨port, line⟩
      | true =>
        rw [if_pos rfl]
        obtain ⟨ports, lines, fields, each⟩ := ih rest (u.ported j (u.ports[j]).readWork)
        refine ⟨ports, lines, by rw [fields]; rfl, fun k => ?_⟩
        obtain ⟨port, line⟩ := each k
        rw [show (u.ported j (u.ports[j]).readWork).used k = u.used k from rfl] at port line
        have counts : (u.ported j (u.ports[j]).readWork).live.lines[k] = ((u.live.addLine j (u.ports[j]).readWork.parityErrors
            (u.ports[j]).readWork.ooaPeriods (u.ports[j]).readWork.lineSlips).lines)[k] := rfl
        by_cases here : k = j
        · subst here
          rw [if_neg fun h => new h.1, ported_here] at port
          rw [if_neg fun h => new h.1, counts, addLine_here] at line
          rw [port, line, if_pos ⟨List.mem_cons_self, used⟩, if_pos ⟨List.mem_cons_self, used⟩]
          obtain ⟨-, parity, ooa, -⟩ := readStore_quiet (PortWork.start u.ports[k])
          refine ⟨rfl, ?_⟩
          rw [show (u.ports[k]).readWork.parityErrors = 0 from parity, show (u.ports[k]).readWork.ooaPeriods = 0 from ooa,
            count_zero, count_zero]
        · rw [ported_other _ _ here] at port line
          rw [counts, addLine_other _ _ _ _ here] at line
          simp only [List.mem_cons, here, false_or]
          exact ⟨port, line⟩
  obtain ⟨ports, lines, fields, each⟩ := all allPorts (by decide) s
  refine ⟨ports, lines, fields, fun k => ?_⟩
  obtain ⟨port, line⟩ := each k
  simp only [mem_allPorts, true_and] at port line
  exact ⟨port, line⟩

end Sys2Proof.Machine
end

section
/-! SUPPORT. A block boundary behind the line ports: streams, levels, admission, mixes, frames, voices and taps (log 17). -/

namespace Sys2Proof.Machine

/-! ### Up to the mixes -/

/-- The station at a boundary once the line ports have taken it. -/
@[irreducible] def State.atPorts (s : State) : State := s.reachBoundary.standInPeriods.readStores

/-- The station at a boundary with its mixes made. -/
@[irreducible] def State.mixed (io : AudioIn) (s : State) : State :=
  ((s.beforeAdmission io).admitAll s.boundaryYields).mix io s.boundaryYields

theorem atPorts_eq (s : State) : s.atPorts = s.reachBoundary.standInPeriods.readStores := by
  unfold State.atPorts
  exact rfl

theorem mixed_eq (io : AudioIn) (s : State) :
    s.mixed io = ((s.beforeAdmission io).admitAll s.boundaryYields).mix io s.boundaryYields := by
  unfold State.mixed
  exact rfl

theorem beforeAdmission_eq (io : AudioIn) (s : State) :
    s.beforeAdmission io = (s.atPorts.yieldStreams).updateLocalLevels io := by
  rw [atPorts_eq]
  exact rfl

theorem boundaryYields_eq (s : State) : s.boundaryYields = s.atPorts.yields := by
  rw [atPorts_eq]
  exact rfl

/-- What the yields change (R156). -/
theorem yieldStreams_alike (u : State) : u.yieldStreams = { u with
    streams := u.yieldStreams.streams, live := { u.live with underruns := u.yieldStreams.live.underruns } } := rfl

theorem yieldStreams_streams (u : State) :
    u.yieldStreams.streams = mapTable u.streams fun _ e => e.map fun x => (StreamEntry.yield x).2 := rfl

theorem yieldStreams_underruns (u : State) : u.yieldStreams.live.underruns =
    u.live.underruns.add (u.yields.filter fun y => y.kind == .concealed).length := rfl

theorem updateLocalLevels_alike (io : AudioIn) (u : State) :
    u.updateLocalLevels io = { u with localLevels := (u.updateLocalLevels io).localLevels } := rfl

/-- What admission changes (R141). -/
theorem admitAll_alike (ys : List Yielded) (u : State) : u.admitAll ys = { u with
    channels := mapTable u.channels fun k c => { c with talkers := (
      if u.channelPlays k then admitSources u.talkerLimit u.cfg.gate u.cfg.hangover (u.sources ys k) c.talkers
      else c.talkers) }
    marks := (u.admitAll ys).marks } := rfl

/-- What the mixes change (R166 to R169, R173). -/
theorem mix_alike (io : AudioIn) (ys : List Yielded) (u : State) : u.mix io ys = { u with
    earpieceOut := (u.mix io ys).earpieceOut, speakerOut := (u.mix io ys).speakerOut, lineOut := (u.mix io ys).lineOut
    live := { u.live with
      clipsHandset := (u.mix io ys).live.clipsHandset, clipsSpeaker := (u.mix io ys).live.clipsSpeaker
      clipsLine := (u.mix io ys).live.clipsLine } } := rfl

/-- What a boundary changes between the line ports' work and the mixes. -/
structure State.MixedFrom (io : AudioIn) (u m : State) : Prop where
  alike : m = { u with
    streams := mapTable u.streams fun _ e => e.map fun x => (StreamEntry.yield x).2
    localLevels := ((u.yieldStreams).updateLocalLevels io).localLevels
    channels := m.channels, marks := m.marks
    earpieceOut := m.earpieceOut, speakerOut := m.speakerOut, lineOut := m.lineOut
    live := { u.live with
      underruns := u.live.underruns.add (u.yields.filter fun y => y.kind == .concealed).length
      clipsHandset := m.live.clipsHandset, clipsSpeaker := m.live.clipsSpeaker, clipsLine := m.live.clipsLine } }
  channels : m.channels = (((u.yieldStreams).updateLocalLevels io).admitAll u.yields).channels

theorem mixed_from (io : AudioIn) (s : State) : s.atPorts.MixedFrom io (s.mixed io) := by
  have each (u : State) : u.MixedFrom io ((((u.yieldStreams).updateLocalLevels io).admitAll u.yields).mix io u.yields) := by
    have yielded := yieldStreams_alike u
    rw [yieldStreams_streams, yieldStreams_underruns] at yielded
    have levelled := updateLocalLevels_alike io u.yieldStreams
    refine ⟨?_, by rw [mix_alike]⟩
    generalize ((u.yieldStreams).updateLocalLevels io).localLevels = l at levelled ⊢
    rw [levelled]
    generalize u.yieldStreams = v at yielded ⊢
    subst yielded
    rw [mix_alike, admitAll_alike]
  rw [mixed_eq, beforeAdmission_eq, boundaryYields_eq]
  exact each s.atPorts

/-! ### The transmit frames (R61, R62) -/

/-- A line port with the frame that it sends for a boundary. -/
def State.framedPort (m : State) (k : Fin 8) : LinePort :=
  if m.used k then (m.ports[k]).buildFrame (m.portCfg k) (m.nearSignalling k) m.lineOut[k] else m.ports[k]

theorem buildFrame_alarms (c : PortSettings) (sig : Signalling) (b : Block) (p : LinePort) :
    (p.buildFrame c sig b).alarms = p.alarms := rfl

/-- A boundary builds the frame of every used port and changes nothing else. -/
theorem buildFrames_eq (m : State) : ∃ ports, m.buildFrames = { m with ports := ports } ∧
    ∀ k : Fin 8, ports[k] = m.framedPort k := by
  have all (l : List (Fin 8)) (distinct : l.Nodup) (u : State) (alike : u = { m with ports := u.ports })
      (ahead : ∀ k ∈ l, u.ports[k] = m.ports[k]) : ∃ ports,
      l.foldl (fun s k => if s.used k then s.setPort k ((s.ports[k]).buildFrame (s.portCfg k) (s.nearSignalling k)
        s.lineOut[k]) else s) u = { m with ports := ports } ∧
      ∀ k : Fin 8, ports[k] = if k ∈ l then m.framedPort k else u.ports[k] := by
    induction l generalizing u with
    | nil => exact ⟨u.ports, alike, fun k => (if_neg List.not_mem_nil).symm⟩
    | cons j l ih =>
      obtain ⟨new, rest⟩ := List.nodup_cons.mp distinct
      have same := ahead j List.mem_cons_self
      rw [List.foldl_cons]
      have step : (if u.used j then u.setPort j ((u.ports[j]).buildFrame (u.portCfg j) (u.nearSignalling j) u.lineOut[j])
          else u) = { m with ports := u.ports.set j (m.framedPort j) } := by
        have judged : u.used j = m.used j := by rw [alike]; rfl
        unfold State.framedPort
        rw [judged]
        split
        · rw [setPort_same (buildFrame_alarms ..), same]
          generalize u.ports = v at alike
          rw [alike]
          rfl
        · rw [← same, show u.ports.set j u.ports[j] = u.ports from Vector.set_getElem_self _]
          generalize u.ports = v at alike ⊢
          exact alike
      rw [step]
      obtain ⟨ports, fields, each⟩ := ih rest { m with ports := u.ports.set j (m.framedPort j) } rfl fun k hk => by
        have apart : j.val ≠ k.val := fun h => new (Fin.ext h ▸ hk)
        exact (Vector.getElem_set_ne j.isLt k.isLt apart).trans (ahead k (List.mem_cons_of_mem _ hk))
      refine ⟨ports, fields, fun k => ?_⟩
      rw [each k]
      by_cases here : k = j
      · subst here
        rw [if_neg new, if_pos List.mem_cons_self]
        exact Vector.getElem_set_self _
      · have apart : j.val ≠ k.val := fun h => here (Fin.ext h.symm)
        simp only [List.mem_cons, here, false_or]
        rw [show (u.ports.set j (m.framedPort j))[k] = u.ports[k] from Vector.getElem_set_ne j.isLt k.isLt apart]
  obtain ⟨ports, fields, each⟩ := all allPorts (by decide) m rfl fun _ _ => rfl
  exact ⟨ports, fields, fun k => (each k).trans (if_pos (mem_allPorts k))⟩

/-! ### The voices (R2, R104, R144) -/

/-- What offering VOICE frames changes: the queue, where no waiting frame gives way, and the counts. -/
structure State.VoiceWork (s t : State) : Prop where
  alike : t = { s with
    txQueue := t.txQueue, transmitting := t.transmitting, mediumIdle := t.mediumIdle, mediumLooks := t.mediumLooks
    sequences := t.sequences, live := { s.live with txOverruns := t.live.txOverruns } }
  kept : s.txQueue.Sublist t.txQueue

namespace State.VoiceWork

variable {s t u : State}

theorem refl (s : State) : s.VoiceWork s := ⟨rfl, List.Sublist.refl _⟩

theorem trans (p : s.VoiceWork t) (q : t.VoiceWork u) : s.VoiceWork u :=
  ⟨by rw [q.alike, p.alike], p.kept.trans q.kept⟩

end State.VoiceWork

theorem acceptEntry_voiceWork (e : TxEntry) (s : State) : s.VoiceWork (s.acceptEntry e) := by
  refine ⟨?_, ?_⟩
  · unfold State.acceptEntry State.seizeMedium
    dsimp only
    split
    · split <;> rfl
    · rfl
  · rw [acceptEntry_txQueue]
    obtain ⟨pre, post, split, placed⟩ := placeEntry_inserts e s.waiting
    rw [placed, ← inTransmission_waiting s, split]
    exact ((List.Sublist.refl pre).append (List.sublist_cons_self e post)).append_left _

theorem send_voiceWork (target : Station) (v : Voice) (s : State) : s.VoiceWork (s.send target (.voice v)) := by
  unfold State.send State.offer State.offerAllowed
  rw [replaceIn_none _ _ _ fun e _ => replaces_other (.voice v) ⟨nofun, nofun⟩ e.body]
  split
  · dsimp only
    split
    · exact acceptEntry_voiceWork ..
    · rw [if_pos (show (Body.voice v).kind = Kind.voice from rfl)]
      exact ⟨rfl, List.Sublist.refl _⟩
  · exact .refl s

theorem sendVoice_voiceWork (x : Sending) (s : State) : s.VoiceWork (s.sendVoice x) :=
  State.VoiceWork.trans (t := s.advanceSequence x.circuit x.port) ⟨rfl, List.Sublist.refl _⟩ (send_voiceWork ..)

theorem sendVoices_voiceWork (io : AudioIn) (s : State) : s.VoiceWork (s.sendVoices io) :=
  State.VoiceWork.trans (t := s.dropSilentCounts (s.sendings io)) ⟨rfl, List.Sublist.refl _⟩
    (foldl_preserves (fun t => (s.dropSilentCounts (s.sendings io)).VoiceWork t) _
      (fun t x ht => ht.trans (sendVoice_voiceWork x t)) _ _ (.refl _))

/-! ### The taps (R171, R177) -/

/-- What a tap's work at a boundary changes (R180, R184 to R186). -/
structure State.TapsWork (s t : State) : Prop where
  alike : t = { s with
    taps := t.taps, recordingCount := t.recordingCount, ring := t.ring, claimIndex := t.claimIndex
    notices := t.notices, overflow := t.overflow, live := { s.live with lostPairs := t.live.lostPairs } }
  queued : s.notices <+: t.notices

namespace State.TapsWork

variable {s t u : State}

theorem refl (s : State) : s.TapsWork s := ⟨rfl, List.prefix_refl _⟩

theorem trans (p : s.TapsWork t) (q : t.TapsWork u) : s.TapsWork u :=
  ⟨by rw [q.alike, p.alike], p.queued.trans q.queued⟩

theorem of_work (p : s.TapWork t) : s.TapsWork t := ⟨by rw [p.alike], p.queued⟩

end State.TapsWork

theorem openSegment_tapsWork (k : Fin 8) (x : Tap) (i : Fin 64) (s : State) : s.TapsWork (s.openSegment k x i) :=
  ⟨rfl, List.prefix_refl _⟩

theorem claim_tapsWork {s t : State} {i : Fin 64} (claimed : s.claim = some (i, t)) : s.TapsWork t := by
  unfold State.claim at claimed
  split at claimed
  · obtain ⟨-, rfl⟩ := Prod.mk.injEq .. ▸ Option.some.inj claimed
    exact ⟨rfl, List.prefix_refl _⟩
  · cases claimed

theorem tapAppend_tapsWork (k : Fin 8) (near far : Block) (gap : Bool) (s : State) :
    s.TapsWork (s.tapAppend k near far gap) := by
  have rung (ring : Vector Descriptor 64) : s.TapsWork { s with ring := ring } := ⟨rfl, List.prefix_refl _⟩
  unfold State.tapAppend
  split
  · next x _ =>
    split
    · dsimp only
      split
      · exact rung _
      · exact (rung _).trans ((State.TapsWork.of_work (closeSegment_tapWork x false _)).trans
          (.of_work (claimOrStarve_tapWork k _ _)))
    · exact .refl s
  · exact .refl s

theorem countOwed_tapsWork (k : Fin 8) (x : Tap) (s : State) : s.TapsWork (s.countOwed k x).2 := by
  unfold State.countOwed
  split
  · split
    · exact .refl s
    · exact ⟨rfl, List.prefix_refl _⟩
  · exact .refl s

theorem afterOwedLast_tapsWork (k : Fin 8) (x : Tap) (s : State) : s.TapsWork (s.afterOwedLast k x) := by
  unfold State.afterOwedLast
  split
  · exact .of_work (setTap_tapWork ..)
  · next c _ =>
    have began : s.TapsWork (s.beginRecording { x with lostPairs := c, owedStart := none }).2 :=
      ⟨rfl, List.prefix_refl _⟩
    dsimp only
    split
    · exact began.trans (.of_work (setTap_tapWork ..))
    · exact began.trans (.of_work ((setTap_tapWork k _ _).trans (notify_tapWork _ _)))

theorem closingBoundary_tapsWork (k : Fin 8) (x : Tap) (s : State) : s.TapsWork (s.closingBoundary k x) := by
  unfold State.closingBoundary
  split
  · next i t claimed =>
    have written : t.TapsWork (t.writeOwedLast k x i) := ⟨rfl, List.prefix_refl _⟩
    exact (claim_tapsWork claimed).trans (written.trans ((countOwed_tapsWork ..).trans (afterOwedLast_tapsWork ..)))
  · exact (countOwed_tapsWork ..).trans (.of_work (setTap_tapWork ..))

theorem tapBoundary_tapsWork (k : Fin 8) (near far : Block) (gap : Bool) (s : State) :
    s.TapsWork (s.tapBoundary k near far gap) := by
  unfold State.tapBoundary
  split
  · exact .refl s
  · split
    · exact .refl s
    · exact tapAppend_tapsWork ..
    · split
      · next i t claimed =>
        exact (claim_tapsWork claimed).trans ((openSegment_tapsWork ..).trans (tapAppend_tapsWork ..))
      · exact ⟨rfl, List.prefix_refl _⟩
    · exact closingBoundary_tapsWork ..

theorem recordTaps_tapsWork (ys : List Yielded) (s : State) : s.TapsWork (s.recordTaps ys) :=
  foldl_preserves (fun t => s.TapsWork t) _ (fun t k ht => ht.trans (tapBoundary_tapsWork k _ _ _ t)) allPorts s (.refl s)

/-! ### The streams that retire (R158) -/

theorem announceEnds_nil (s : State) : s.announceEnds [] = s := if_pos rfl

/-- A table without the entries that meet a condition, with no talker that an ended entry had (R159). -/
theorem removeStreams_fields (q : StreamEntry → Bool) (s : State) : ∃ channels marks, s.removeStreams q = { s with
    streams := mapTable s.streams fun _ e => e.filter fun x => !q x, channels := channels, marks := marks } ∧
    (∀ k : Fin 8, (s.channels[k]).ShedsTo channels[k]) ∧
    ((∀ (i : Fin 32) (e : StreamEntry), s.streams[i] = some e → q e = false) → channels = s.channels) := by
  have ended (none : ∀ (i : Fin 32) (e : StreamEntry), s.streams[i] = some e → q e = false) :
      s.streams.toList.filterMap (Option.filter q) = [] := by
    refine List.filterMap_eq_nil_iff.mpr fun e he => ?_
    obtain ⟨i, hi, rfl⟩ := List.getElem_of_mem he
    rw [Vector.getElem_toList]
    cases h : s.streams[i]'(by simpa using hi) with
    | none => rfl
    | some x =>
      have apart := none ⟨i, by simpa using hi⟩ x h
      simp [Option.filter, apart]
  have table : s.removeStreams q = State.announceEnds (s.streams.toList.filterMap (Option.filter q))
      { s with streams := mapTable s.streams fun _ e => e.filter fun x => !q x } := by
    unfold State.removeStreams
    refine congrArg (fun f => State.announceEnds (s.streams.toList.filterMap (Option.filter q))
      { s with streams := mapTable s.streams f }) (funext fun _ => funext fun e => ?_)
    cases e with
    | none => rfl
    | some x => cases h : q x <;> simp [Option.filter, h]
  rw [table]
  generalize s.streams.toList.filterMap (Option.filter q) = l at ended
  have announced := announceEnds_retunes l { s with streams := mapTable s.streams fun _ e => e.filter fun x => !q x }
  refine ⟨_, (State.announceEnds l { s with streams := mapTable s.streams fun _ e => e.filter fun x => !q x }).marks,
    ?_, announced.channels, fun none => ?_⟩
  · have alike := announced.alike
    have streams : (State.announceEnds l { s with streams := mapTable s.streams fun _ e => e.filter fun x => !q x }).streams =
        mapTable s.streams fun _ e => e.filter fun x => !q x := by
      unfold State.announceEnds
      split <;> rfl
    rw [streams] at alike
    exact alike
  · rw [ended none]
    rw [announceEnds_nil]

/-! ### The whole boundary behind the mixes -/

/-- What a boundary leaves behind its mixes: frames, voices, the taps' work and the streams that have retired. -/
structure State.Finishes (m t : State) : Prop where
  alike : t = { m with
    ports := t.ports
    txQueue := t.txQueue, transmitting := t.transmitting, mediumIdle := t.mediumIdle, mediumLooks := t.mediumLooks
    sequences := t.sequences
    taps := t.taps, recordingCount := t.recordingCount, ring := t.ring, claimIndex := t.claimIndex
    notices := t.notices, overflow := t.overflow
    live := { m.live with txOverruns := t.live.txOverruns, lostPairs := t.live.lostPairs }
    streams := mapTable m.streams fun _ e => e.filter fun x => !(x.silence == 0)
    channels := t.channels, marks := t.marks }
  ports : ∀ k : Fin 8, t.ports[k] = m.framedPort k
  kept : m.txQueue.Sublist t.txQueue
  queued : m.notices <+: t.notices
  sheds : ∀ k : Fin 8, (m.channels[k]).ShedsTo t.channels[k]
  steady : (∀ (i : Fin 32) (e : StreamEntry), m.streams[i] = some e → e.silence ≠ 0) → t.channels = m.channels

/-- The station of a loaded part behind a boundary. -/
theorem boundary_loaded {s : State} (io : AudioIn) (loaded : s.loaded = true) :
    s.boundary io = (((s.mixed io).buildFrames.sendVoices io).recordTaps s.boundaryYields).retireStreams := by
  rw [mixed_eq]
  exact if_pos loaded

theorem boundary_finishes {s : State} (io : AudioIn) (loaded : s.loaded = true) :
    (s.mixed io).Finishes (s.boundary io) := by
  rw [boundary_loaded io loaded]
  generalize s.mixed io = m
  generalize s.boundaryYields = ys
  obtain ⟨ports, framed, each⟩ := buildFrames_eq m
  rw [framed]
  have voiced := sendVoices_voiceWork io { m with ports := ports }
  generalize State.sendVoices io { m with ports := ports } = v at voiced ⊢
  have taped := recordTaps_tapsWork ys v
  generalize v.recordTaps ys = w at taped ⊢
  obtain ⟨channels, marks, retired, sheds, steady⟩ := removeStreams_fields (fun e => e.silence == 0) w
  have alike : w = { m with
      ports := ports
      txQueue := v.txQueue, transmitting := v.transmitting, mediumIdle := v.mediumIdle, mediumLooks := v.mediumLooks
      sequences := v.sequences
      taps := w.taps, recordingCount := w.recordingCount, ring := w.ring, claimIndex := w.claimIndex
      notices := w.notices, overflow := w.overflow
      live := { m.live with txOverruns := v.live.txOverruns, lostPairs := w.live.lostPairs } } := by
    rw [taped.alike, voiced.alike]
  have queued := taped.queued
  rw [show v.notices = m.notices by rw [voiced.alike]] at queued
  have kept := voiced.kept
  rw [State.retireStreams, retired]
  clear taped voiced retired framed
  generalize w.taps = a1, w.recordingCount = a2, w.ring = a3, w.claimIndex = a4, w.notices = a5, w.overflow = a6,
    w.live.lostPairs = a7 at alike queued
  subst alike
  exact ⟨rfl, each, kept, queued, sheds, fun some => steady fun i e he => beq_eq_false_iff_ne.mpr (some i e he)⟩

end Sys2Proof.Machine
end

section
/-! PROOFS. Carrier and octets at the framer: its states and its periods (R39, R44 to R48). -/

namespace Sys2Proof.Machine

/-! ### A period that did not have carrier throughout (R39, R48) -/

/-- R49 leaves the accepted signalling and the store, or empties both. -/
theorem stepLol_silences (c : PortSettings) (ooa : Bool) (w : PortWork) :
    (w.stepLol c ooa).port.accepted = w.port.accepted ∧ (w.stepLol c ooa).port.store = w.port.store ∨
    (w.stepLol c ooa).port.accepted = .idle ∧ (w.stepLol c ooa).port.store = [] := by
  unfold PortWork.stepLol PortWork.onPort
  dsimp only
  repeat' split
  · exact .inl ⟨rfl, rfl⟩
  · rw [declareLol_port]
    exact .inr ⟨rfl, rfl⟩
  · exact .inl ⟨rfl, rfl⟩
  · rw [setDefect_port]
    exact .inl ⟨rfl, rfl⟩
  · exact .inl ⟨rfl, rfl⟩
  · exact .inl ⟨rfl, rfl⟩
  · exact .inl ⟨rfl, rfl⟩

/-- What the end of a broken period leaves of a port. -/
theorem endPeriod_broken (c : PortSettings) (w : PortWork) : ∃ run lols lol accepted store running last,
    (w.endPeriod c false).port = { w.port with
      periodOctets := 0, alignedRun := run, lolCount := lols, alarms := { w.port.alarms with lol := lol }
      accepted := accepted, store := store, storeRunning := running, lastBlock := last } ∧
    (accepted = w.port.accepted ∧ store = w.port.store ∨ accepted = .idle ∧ store = []) := by
  have judged (v : PortWork) (run : Nat) (ooa : Bool) (port : v.port = { w.port with periodOctets := 0, alignedRun := run }) :
      ∃ run lols lol accepted store running last, ((v.stepLos false).stepLol c ooa).port = { w.port with
        periodOctets := 0, alignedRun := run, lolCount := lols, alarms := { w.port.alarms with lol := lol }
        accepted := accepted, store := store, storeRunning := running, lastBlock := last } ∧
      (accepted = w.port.accepted ∧ store = w.port.store ∨ accepted = .idle ∧ store = []) := by
    rw [stepLos_still (.inr rfl)]
    obtain ⟨-, -, lols, lol, accepted, store, running, last, port'⟩ := stepLol_fields c ooa v
    have silences := stepLol_silences c ooa v
    rw [port', port] at silences
    exact ⟨run, lols, lol, accepted, store, running, last, by rw [port', port], silences⟩
  by_cases out : w.port.out = true
  · rw [endPeriod_marked c false out, stepLos_still (.inr rfl)]
    exact ⟨w.port.alignedRun, w.port.lolCount, w.port.alarms.lol, w.port.accepted, w.port.store, w.port.storeRunning,
      w.port.lastBlock, rfl, .inl ⟨rfl, rfl⟩⟩
  · have inService := Bool.eq_false_iff.mpr out
    by_cases aligned : w.port.framer = .aligned
    · rw [endPeriod_aligned c false inService aligned]
      exact judged w.periodAligned _ false rfl
    · rw [endPeriod_unaligned c false inService aligned]
      exact judged w.periodOut 0 true rfl

/-- A broken period out of alignment that had no LOL yet raises the integrator and is judged by it (R49). -/
theorem endPeriod_broken_lol (c : PortSettings) {w : PortWork} (inService : w.port.out = false)
    (unaligned : w.port.framer ≠ .aligned) (clear : w.port.alarms.lol = false) :
    (w.endPeriod c false).port.lolCount = w.port.lolCount + 1 ∧
    (w.endPeriod c false).port.alarms.lol = decide (c.lolSet ≤ w.port.lolCount + 1) := by
  rw [endPeriod_unaligned c false inService unaligned, stepLos_still (.inr rfl), stepLol_ooa c w.periodOut clear,
    show w.periodOut.port.lolCount = w.port.lolCount from rfl]
  split
  · next reached =>
    rw [declareLol_port, decide_eq_true reached]
    exact ⟨rfl, rfl⟩
  · next below =>
    rw [decide_eq_false below]
    exact ⟨rfl, clear⟩

/-! ### The carrier input -/

/-- A port at a fall of its carrier, before the period under way is ended (R48). -/
def PortWork.fallen (w : PortWork) : PortWork :=
  (if w.port.alarms.los then w
    else (w.setDefect .los true).onPort fun p => { p.enterHunt with accepted := .idle }).onPort
      fun p => { p with carrierCount := 0 }

theorem takeCarrierFall_eq (c : PortSettings) (w : PortWork) : w.takeCarrierFall c = w.fallen.endPeriod c false := rfl

theorem fallen_lost {w : PortWork} (los : w.port.alarms.los = true) :
    w.fallen = w.onPort fun p => { p with carrierCount := 0 } := by
  unfold PortWork.fallen
  rw [if_pos los]

theorem fallen_found {w : PortWork} (los : w.port.alarms.los = false) : w.fallen =
    { w.setDefect .los true with port := { w.port.enterHunt with
        accepted := .idle, carrierCount := 0, alarms := { w.port.alarms with los := true } } } := by
  unfold PortWork.fallen
  rw [if_neg (by rw [los]; exact Bool.false_ne_true)]
  unfold PortWork.onPort
  dsimp only
  rw [setDefect_port]
  rfl

theorem fallen_ooa (w : PortWork) : w.fallen.ooaPeriods = w.ooaPeriods := by
  cases los : w.port.alarms.los with
  | true => rw [fallen_lost los]; rfl
  | false => rw [fallen_found los]; exact (setDefect_counts .los true w).2.1

/-- What a fall leaves of the fields that its rows speak of. -/
theorem fallen_fields (w : PortWork) : w.fallen.port.alarms.los = true ∧ w.fallen.port.carrierCount = 0 ∧
    w.fallen.port.out = w.port.out ∧ w.fallen.port.alignedRun = w.port.alignedRun ∧
    w.fallen.port.alarms.lol = w.port.alarms.lol ∧ w.fallen.port.lolCount = w.port.lolCount ∧
    w.fallen.port.framer = if w.port.alarms.los then w.port.framer else .hunt := by
  cases los : w.port.alarms.los with
  | true => rw [fallen_lost los]; exact ⟨los, rfl, rfl, rfl, rfl, rfl, rfl⟩
  | false => rw [fallen_found los]; exact ⟨rfl, rfl, rfl, rfl, rfl, rfl, rfl⟩

theorem fallCarrier_heard {s : State} {k : Fin 8} (used : s.used k = true) (carried : s.carrier[k] = true) :
    s.fallCarrier k = State.commitPort k ((PortWork.start s.ports[k]).fallen.endPeriod (s.portCfg k) false)
      { s with carrier := s.carrier.set k false } :=
  (if_pos carried).trans (workPort_used (s := { s with carrier := s.carrier.set k false }) used _)

theorem raiseCarrier_heard {s : State} {k : Fin 8} (used : s.used k = true) (dark : s.carrier[k] = false) :
    s.raiseCarrier k = State.commitPort k ((PortWork.start s.ports[k]).endPeriod (s.portCfg k) false)
      { s with carrier := s.carrier.set k true } :=
  (if_neg (by rw [dark]; exact Bool.false_ne_true)).trans
    (workPort_used (s := { s with carrier := s.carrier.set k true }) used _)

/-! ### Octets within a frame and in HUNT -/

/-- An octet that changes neither alarms nor the accepted signalling and ends no period. -/
theorem octet_moves {s : State} {k : Fin 8} {o : Octet} {p q : LinePort} (here : p = s.ports[k]) (hears : s.hearsLine k)
    (moves : (PortWork.start p).takeOctet (s.portCfg k) o = PortWork.start q) (alarms : q.alarms = p.alarms)
    (accepted : q.accepted = p.accepted) : s.takeLineOctet k o = { s with ports := s.ports.set k q } := by
  subst here
  rw [octet_heard hears o, moves, commitPort_quiet alarms accepted rfl]
  unfold State.ported
  rw [show (PortWork.start q).parityErrors = 0 from rfl, show (PortWork.start q).ooaPeriods = 0 from rfl,
    show (PortWork.start q).lineSlips = 0 from rfl, addLine_zero]
  rfl

section
variable {c : PortSettings} {p : LinePort} {o : Octet}

theorem takeOctet_hunt (framer : p.framer = .hunt) :
    (PortWork.start p).takeOctet c o = (PortWork.start p).huntOctet c o := by
  unfold PortWork.takeOctet
  rw [show (PortWork.start p).port.framer = .hunt from framer]

theorem takeOctet_confirm (framer : p.framer = .confirm) (starts : p.periodOctets = 0) :
    (PortWork.start p).takeOctet c o = (PortWork.start p).confirmOctet c o := by
  unfold PortWork.takeOctet
  rw [show (PortWork.start p).port.framer = .confirm from framer]
  exact if_pos starts

theorem takeOctet_aligned (framer : p.framer = .aligned) (starts : p.periodOctets = 0) :
    (PortWork.start p).takeOctet c o = (PortWork.start p).alignedOctet c o := by
  unfold PortWork.takeOctet
  rw [show (PortWork.start p).port.framer = .aligned from framer]
  exact if_pos starts

/-- The alignment octet that sets the phase in HUNT (R44). -/
theorem huntOctet_found (free : p.alarms.los = false ∧ p.forceOoa = false ∧ p.out = false) (found : o = 0x5C#8) :
    (PortWork.start p).huntOctet c o =
      (if p.periodOctets = 0 then PortWork.start p else (PortWork.start p).endPeriod c true).onPort fun p =>
        { p with framer := .confirm, confirmCount := 0, frame := [o], periodOctets := 1 } := by
  obtain ⟨los, force, out⟩ := free
  refine if_pos ?_
  show (!(p.alarms.los || p.forceOoa || p.out) && o == 0x5C#8) = true
  rw [los, force, out, found]
  rfl

/-- Any other octet in HUNT is counted (R39, R44). -/
theorem huntOctet_counted (other : o ≠ 0x5C#8 ∨ p.alarms.los = true ∨ p.forceOoa = true ∨ p.out = true) :
    (PortWork.start p).huntOctet c o = if 36 ≤ p.periodOctets + 1
      then (PortWork.start { p with periodOctets := p.periodOctets + 1 }).endPeriod c true
      else PortWork.start { p with periodOctets := p.periodOctets + 1 } := by
  refine if_neg fun found => ?_
  have found : (!(p.alarms.los || p.forceOoa || p.out) && o == 0x5C#8) = true := found
  rw [Bool.and_eq_true, Bool.not_eq_true', Bool.or_eq_false_iff, Bool.or_eq_false_iff, beq_iff_eq] at found
  obtain ⟨⟨⟨los, force⟩, out⟩, same⟩ := found
  rcases other with h | h | h | h
  · exact h same
  · rw [los] at h; cases h
  · rw [force] at h; cases h
  · rw [out] at h; cases h

/-- An octet inside a frame (R39). -/
theorem takeOctet_inner (framed : p.framer ≠ .hunt) (started : 1 ≤ p.periodOctets) (short : p.periodOctets < 35) :
    (PortWork.start p).takeOctet c o = PortWork.start (p.withLast o) := by
  have inner : (PortWork.start p).innerOctet c o = PortWork.start (p.withLast o) :=
    if_neg (show ¬p.periodOctets + 1 ≥ 36 by omega)
  have inside : (PortWork.start p).port.periodOctets ≠ 0 := by
    show p.periodOctets ≠ 0
    omega
  unfold PortWork.takeOctet
  cases framer : p.framer with
  | hunt => exact absurd framer framed
  | confirm =>
    rw [show (PortWork.start p).port.framer = .confirm from framer]
    exact (if_neg inside).trans inner
  | aligned =>
    rw [show (PortWork.start p).port.framer = .aligned from framer]
    exact (if_neg inside).trans inner

/-- The first octet of a frame in CONFIRM (R45). -/
theorem confirmOctet_found (found : o = 0x5C#8) : (PortWork.start p).confirmOctet c o =
    PortWork.start (if c.alignEnter ≤ p.confirmCount + 1
      then { p with
        framer := .aligned, confirmCount := p.confirmCount + 1, missCount := 0, frame := [o], periodOctets := 1 }
      else { p with confirmCount := p.confirmCount + 1, frame := [o], periodOctets := 1 }) := by
  unfold PortWork.confirmOctet PortWork.onPort
  dsimp only
  rw [if_pos found]
  rfl

theorem confirmOctet_missed (missed : o ≠ 0x5C#8) :
    (PortWork.start p).confirmOctet c o = PortWork.start { p.enterHunt with periodOctets := 1 } := by
  unfold PortWork.confirmOctet PortWork.onPort
  dsimp only
  rw [if_neg missed]
  rfl

/-- The first octet of a frame in ALIGNED (R46). -/
theorem alignedOctet_found (found : o = 0x5C#8) : (PortWork.start p).alignedOctet c o =
    PortWork.start { p with missCount := 0, frame := [o], periodOctets := 1 } := by
  unfold PortWork.alignedOctet PortWork.onPort
  dsimp only
  rw [if_pos found]
  rfl

theorem alignedOctet_missed (missed : o ≠ 0x5C#8) : (PortWork.start p).alignedOctet c o =
    PortWork.start (if c.alignExit ≤ p.missCount + 1 then { p.enterHunt with periodOctets := 1 }
      else { p with missCount := p.missCount + 1, frame := [o], periodOctets := 1 }) := by
  unfold PortWork.alignedOctet PortWork.onPort
  dsimp only
  rw [if_neg missed]
  rfl

end

end Sys2Proof.Machine
end

section
/-! PROOFS. CARRIER_FALL, CARRIER_RISE and the octets that move the framer (R39, R44 to R48). -/

namespace Sys2Proof.Machine

/-! ### The carrier rows -/

/-- CARRIER_FALL at a used port with carrier (R48). -/
theorem fallCarrier_falls {s : State} {k : Fin 8} (used : s.used k = true) (carried : s.carrier[k] = true) :
    (s.fallCarrier k).base = { s.base with carrier := s.carrier.set k false, ports := (s.fallCarrier k).ports } ∧
    (∀ j : Fin 8, j ≠ k → (s.fallCarrier k).ports[j] = s.ports[j]) ∧
    ((s.fallCarrier k).ports[k]).alarms.los = true ∧ ((s.fallCarrier k).ports[k]).carrierCount = 0 ∧
    ((s.fallCarrier k).ports[k]).periodOctets = 0 ∧
    ((s.ports[k]).alarms.los = false → ((s.fallCarrier k).ports[k]).framer = .hunt ∧
      ((s.fallCarrier k).ports[k]).accepted = .idle ∧ ((s.fallCarrier k).ports[k]).store = [] ∧
      ((s.fallCarrier k).ports[k]).settled = none ∧ ((s.fallCarrier k).ports[k]).frame = []) ∧
    ((s.ports[k]).out = false → (s.ports[k]).alarms.los = false → (s.ports[k]).alarms.lol = false →
      ((s.fallCarrier k).ports[k]).lolCount = (s.ports[k]).lolCount + 1 ∧
      ((s.fallCarrier k).ports[k]).alarms.lol = decide ((s.portCfg k).lolSet ≤ (s.ports[k]).lolCount + 1)) := by
  have done := commitPort_done k ((PortWork.start s.ports[k]).fallen.endPeriod (s.portCfg k) false)
    { s with carrier := s.carrier.set k false }
  rw [fallCarrier_heard used carried]
  obtain ⟨los, count, out, -, lol, lols, framer⟩ := fallen_fields (PortWork.start s.ports[k])
  obtain ⟨run, lols', lol', accepted, store, running, last, port, silences⟩ :=
    endPeriod_broken (s.portCfg k) (PortWork.start s.ports[k]).fallen
  refine ⟨done.base, done.others, ?_, ?_, ?_, fun found => ?_, fun inService found clear => ?_⟩
  · rw [done.here, port]
    exact los
  · rw [done.here, port]
    exact count
  · rw [done.here, port]
  · rw [done.here, port]
    rw [fallen_found found] at silences ⊢
    obtain ⟨same, emptied⟩ | ⟨idle, emptied⟩ := silences
    · exact ⟨rfl, same, emptied, rfl, rfl⟩
    · exact ⟨rfl, idle, emptied, rfl, rfl⟩
  · have hunting : (PortWork.start s.ports[k]).fallen.port.framer ≠ .aligned := by
      rw [framer, if_neg (by show ¬(s.ports[k]).alarms.los = true; rw [found]; exact Bool.false_ne_true)]
      nofun
    have judged := endPeriod_broken_lol (s.portCfg k) (out.trans inService) hunting (lol.trans clear)
    rw [lols] at judged
    rw [done.here]
    exact judged

/-- CARRIER_RISE at a used port without carrier (R39). -/
theorem raiseCarrier_rises {s : State} {k : Fin 8} (used : s.used k = true) (dark : s.carrier[k] = false) :
    (s.raiseCarrier k).base = { s.base with carrier := s.carrier.set k true, ports := (s.raiseCarrier k).ports } ∧
    (∀ j : Fin 8, j ≠ k → (s.raiseCarrier k).ports[j] = s.ports[j]) ∧
    ((s.raiseCarrier k).ports[k]).alarms.los = (s.ports[k]).alarms.los ∧
    ((s.raiseCarrier k).ports[k]).carrierCount = (s.ports[k]).carrierCount ∧
    ((s.raiseCarrier k).ports[k]).framer = (s.ports[k]).framer ∧ ((s.raiseCarrier k).ports[k]).periodOctets = 0 := by
  have done := commitPort_done k ((PortWork.start s.ports[k]).endPeriod (s.portCfg k) false)
    { s with carrier := s.carrier.set k true }
  rw [raiseCarrier_heard used dark]
  obtain ⟨run, lols', lol', accepted, store, running, last, port, -⟩ :=
    endPeriod_broken (s.portCfg k) (PortWork.start s.ports[k])
  rw [done.here, port]
  exact ⟨done.base, done.others, rfl, rfl, rfl, rfl⟩

theorem carriers_move (s : State) (k : Fin 8) :
    (s.carrier[k] = false → exec (.carrierFall k) s = .next s) ∧
    (s.carrier[k] = true → exec (.carrierRise k) s = .next s) ∧
    (s.used k = false → exec (.carrierFall k) s = .next { s with carrier := s.carrier.set k false } ∧
      exec (.carrierRise k) s = .next { s with carrier := s.carrier.set k true }) := by
  have falls : exec (.carrierFall k) s = .next (s.fallCarrier k) := rfl
  have rises : exec (.carrierRise k) s = .next (s.raiseCarrier k) := rfl
  have low (dark : s.carrier[k] = false) : s.fallCarrier k = s :=
    if_neg (by rw [dark]; exact Bool.false_ne_true)
  have high (carried : s.carrier[k] = true) : s.raiseCarrier k = s := if_pos carried
  have set (b : Bool) (same : s.carrier[k] = b) : { s with carrier := s.carrier.set k b } = s := by
    rw [← same, show s.carrier.set k s.carrier[k] = s.carrier from Vector.set_getElem_self _]
  rw [falls, rises]
  refine ⟨fun dark => by rw [low dark], fun carried => by rw [high carried], fun unused => ?_⟩
  cases carrier : s.carrier[k] with
  | false =>
    rw [low carrier, set false carrier]
    exact ⟨rfl, congrArg Host.Outcome.next ((if_neg (by rw [carrier]; exact Bool.false_ne_true)).trans
      (workPort_unused (s := { s with carrier := s.carrier.set k true }) unused _))⟩
  | true =>
    rw [high carrier, set true carrier]
    exact ⟨congrArg Host.Outcome.next ((if_pos carrier).trans
      (workPort_unused (s := { s with carrier := s.carrier.set k false }) unused _)), rfl⟩

/-! ### The end of a period in OOA_PERIODS and the aligned run (R47) -/

/-- What one judged period leaves of a port's run and of its counter. -/
def State.PeriodCounted (s t : State) (k : Fin 8) (ooa : Bool) : Prop :=
  (t.ports[k]).out = (s.ports[k]).out ∧
  ((s.ports[k]).out = true → (t.live.lines[k]).ooaPeriods = (s.live.lines[k]).ooaPeriods ∧
    (t.ports[k]).alignedRun = (s.ports[k]).alignedRun) ∧
  ((s.ports[k]).out = false →
    (t.live.lines[k]).ooaPeriods =
      (if ooa = true then (s.live.lines[k]).ooaPeriods.add 1 else (s.live.lines[k]).ooaPeriods) ∧
    (t.ports[k]).alignedRun = if ooa = true then 0 else min 63 ((s.ports[k]).alignedRun + 1))

/-- The counts of a work that has judged one period. -/
theorem periodCounted_of {s t : State} {k : Fin 8} {ooa : Bool} {w : PortWork}
    (judged : PortWork.Judged s.ports[k] ooa w) (out : (t.ports[k]).out = w.port.out)
    (run : (t.ports[k]).alignedRun = w.port.alignedRun)
    (counted : (t.live.lines[k]).ooaPeriods = (s.live.lines[k]).ooaPeriods.add w.ooaPeriods) : s.PeriodCounted t k ooa := by
  refine ⟨out.trans judged.out, fun marked => ?_, fun inService => ?_⟩
  · obtain ⟨none, same⟩ := judged.marked marked
    rw [counted, none, count_zero, run]
    exact ⟨rfl, same⟩
  · obtain ⟨one, same⟩ := judged.judged inService
    rw [counted, one, run]
    refine ⟨?_, same⟩
    cases ooa with
    | true => rfl
    | false => exact count_zero _

/-- A judged period does not depend on what the framer has gathered of its frame. -/
theorem PortWork.Judged.of_alike {p q : LinePort} {ooa : Bool} {w : PortWork} (judged : PortWork.Judged q ooa w)
    (out : q.out = p.out) (run : q.alignedRun = p.alignedRun) : PortWork.Judged p ooa w :=
  ⟨judged.out.trans out, fun h => by rw [← run]; exact judged.marked (out.trans h),
    fun h => by rw [← run]; exact judged.judged (out.trans h)⟩

/-- The last octet of a period is judged once. -/
theorem takeOctet_judged (c : PortSettings) (p : LinePort) (o : Octet) (last : p.periodOctets = 35)
    (plain : p.framer = .hunt → o ≠ 0x5C#8 ∨ p.alarms.los = true ∨ p.forceOoa = true ∨ p.out = true) :
    PortWork.Judged p (decide (p.framer ≠ .aligned)) ((PortWork.start p).takeOctet c o) := by
  by_cases hunting : p.framer = .hunt
  · rw [takeOctet_hunt hunting, huntOctet_counted (plain hunting), if_pos (by omega)]
    exact (endPeriod_judged c true (PortWork.start { p with periodOctets := p.periodOctets + 1 }) rfl).of_alike rfl rfl
  · by_cases ends : p.EndsEvaluated
    · obtain ⟨aligned, -, los, lol, inService⟩ := ends
      rw [takeOctet_last hunting last]
      have evaluated := evaluate_evaluated c (PortWork.start (p.withLast o))
      have framed : (PortWork.start (p.withLast o)).endFrame c = (((PortWork.start (p.withLast o)).evaluate c).onPort fun q =>
          { q with parityReference := xorAll (p.withLast o).frame, frame := [] }).endPeriod c true := by
        have trusted : (!p.alarms.los && !p.alarms.lol && !p.out) = true := by rw [los, lol, inService]; rfl
        unfold PortWork.endFrame
        dsimp only
        rw [if_pos (show (PortWork.start (p.withLast o)).port.framer = .aligned from aligned)]
        exact congrArg (fun w : PortWork => (w.onPort fun q =>
          { q with parityReference := xorAll (p.withLast o).frame, frame := [] }).endPeriod c true) (if_pos trusted)
      rw [framed]
      generalize (PortWork.start (p.withLast o)).evaluate c = e at evaluated
      obtain ⟨_, _, _, _, _, _, _, _, _, _, _, _, _, _, _, _, port⟩ := evaluated.port
      have judged := endPeriod_judged c true (e.onPort fun q =>
        { q with parityReference := xorAll (p.withLast o).frame, frame := [] }) evaluated.periods
      rw [show (e.onPort fun q => { q with parityReference := xorAll (p.withLast o).frame, frame := [] }).port.framer =
        p.framer by rw [PortWork.onPort, port]; rfl] at judged
      exact judged.of_alike (by rw [PortWork.onPort, port]; rfl) (by rw [PortWork.onPort, port]; rfl)
    · obtain ⟨octets, unevaluated⟩ := takeOctet_unevaluated (c := c) o hunting last (by
        by_contra trusted
        rw [not_or, not_or, not_or] at trusted
        obtain ⟨confirm, los, lol, out⟩ := trusted
        refine ends ⟨?_, last, Bool.eq_false_iff.mpr los, Bool.eq_false_iff.mpr lol, Bool.eq_false_iff.mpr out⟩
        cases framer : p.framer with
        | hunt => exact absurd framer hunting
        | confirm => exact absurd framer confirm
        | aligned => rfl)
      rw [unevaluated]
      exact (endPeriod_judged c true (PortWork.start { p with
        labelOctets := octets, parityReference := xorAll (p.frame ++ [o]), frame := [], periodOctets := 36 })
        rfl).of_alike rfl rfl

/-! ### A period that a boundary ends -/

/-- What building its frame leaves of a port. -/
theorem framedPort_eq (m : State) (k : Fin 8) : ∃ frame index parity, m.framedPort k = { m.ports[k] with
    txFrame := frame, txIndex := index, txParity := parity } := by
  unfold State.framedPort
  split
  · exact ⟨_, _, _, rfl⟩
  · exact ⟨(m.ports[k]).txFrame, (m.ports[k]).txIndex, (m.ports[k]).txParity, rfl⟩

/-- Behind the line ports' work a boundary leaves their receive sides and their counters. -/
theorem State.MixedFrom.ports {io : AudioIn} {u m t : State} (mixed : u.MixedFrom io m) (finishes : m.Finishes t)
    (k : Fin 8) : (∃ frame index parity, t.ports[k] = { u.ports[k] with
      txFrame := frame, txIndex := index, txParity := parity }) ∧ t.live.lines = u.live.lines := by
  have ports : m.ports = u.ports := by rw [mixed.alike]
  have lines : t.live.lines = u.live.lines := by rw [finishes.alike, mixed.alike]
  refine ⟨?_, lines⟩
  rw [finishes.ports k, ← ports]
  exact framedPort_eq m k

theorem boundary_port {s : State} (io : AudioIn) (loaded : s.loaded = true) (k : Fin 8) :
    (∃ frame index parity, (s.boundary io).ports[k] = { s.atPorts.ports[k] with
      txFrame := frame, txIndex := index, txParity := parity }) ∧ (s.boundary io).live.lines = s.atPorts.live.lines :=
  (mixed_from io s).ports (boundary_finishes io loaded) k

/-- The read of the stores at a used port and at its counter. -/
theorem readStores_used {u : State} {k : Fin 8} (used : u.used k = true) :
    u.readStores.ports[k] = (u.ports[k]).readWork.port ∧
    u.readStores.live.lines[k] = ⟨(u.live.lines[k]).parityErrors, (u.live.lines[k]).ooaPeriods,
      (u.live.lines[k]).lineSlips.add (u.ports[k]).readWork.lineSlips⟩ := by
  obtain ⟨ports, lines, read, each⟩ := readStores_fields u
  obtain ⟨port, line⟩ := each k
  rw [used, if_pos rfl] at port line
  rw [read]
  exact ⟨port, line⟩

/-- A boundary ends one period of a used port without carrier. -/
theorem boundary_counts {s : State} {k : Fin 8} (io : AudioIn) (loaded : s.loaded = true) (used : s.used k = true)
    (dark : s.carrier[k] = false) :
    ((s.boundary io).ports[k]).out = ((PortWork.start s.ports[k]).endPeriod (s.portCfg k) false).port.out ∧
    ((s.boundary io).ports[k]).alignedRun = ((PortWork.start s.ports[k]).endPeriod (s.portCfg k) false).port.alignedRun ∧
    ((s.boundary io).ports[k]).alarms = ((PortWork.start s.ports[k]).endPeriod (s.portCfg k) false).port.alarms ∧
    ((s.boundary io).live.lines[k]).ooaPeriods = (s.live.lines[k]).ooaPeriods.add
      ((PortWork.start s.ports[k]).endPeriod (s.portCfg k) false).ooaPeriods := by
  have ended := standInPeriods_here (s := s.reachBoundary) (k := k) used dark
  have stands := ((standInPeriods_stoodIn s.reachBoundary).used k).trans used
  obtain ⟨⟨frame, index, parity, port⟩, lines⟩ := boundary_port io loaded k
  rw [port, lines, atPorts_eq]
  generalize s.reachBoundary.standInPeriods = u at ended stands
  obtain ⟨here, counted⟩ := ended
  obtain ⟨read, line⟩ := readStores_used stands
  obtain ⟨-, -, -, store, last, kept⟩ := readStore_quiet (PortWork.start u.ports[k])
  rw [read, line, LinePort.readWork, kept]
  generalize u.ports[k] = q at here
  subst here
  exact ⟨rfl, rfl, rfl, counted⟩

/-! ### The stimuli that end a period -/

/-- The stimuli of R39 that end a period under way, each with its judgement. -/
theorem stimulus_counts {s : State} {k : Fin 8} {c : Instr} {ooa : Bool} (used : s.used k = true)
    (loaded : s.loaded = true)
    (ends : s.carrier[k] = true ∧ ooa = decide ((s.ports[k]).framer ≠ .aligned) ∧
        (∃ o : Octet, c = .lineOctetReceived k o ∧ (s.ports[k]).periodOctets = 35 ∧
          ((s.ports[k]).framer = .hunt → o ≠ 0x5C#8 ∨ (s.ports[k]).alarms.los = true ∨ (s.ports[k]).forceOoa = true ∨
            (s.ports[k]).out = true)) ∨
      s.carrier[k] = true ∧ ooa = decide ((s.ports[k]).framer ≠ .aligned ∨ (s.ports[k]).alarms.los = false) ∧
        c = .carrierFall k ∨
      s.carrier[k] = false ∧ ooa = decide ((s.ports[k]).framer ≠ .aligned) ∧
        (c = .carrierRise k ∨ ∃ io : AudioIn, c = .blockBoundary io)) :
    ∃ t, exec c s = .next t ∧ s.PeriodCounted t k ooa := by
  have committed {u : State} {w : PortWork} (ports : u.ports = s.ports) (live : u.live = s.live)
      (judged : PortWork.Judged s.ports[k] ooa w) : s.PeriodCounted (u.commitPort k w) k ooa := by
    have done := commitPort_done k w u
    obtain ⟨-, counted, -⟩ := done.counted
    rw [live] at counted
    exact periodCounted_of judged (by rw [done.here]) (by rw [done.here]) counted
  rcases ends with ⟨carried, rfl, o, rfl, last, plain⟩ | ⟨carried, rfl, rfl⟩ | ⟨dark, rfl, rfl | ⟨io, rfl⟩⟩
  · refine ⟨_, show exec (.lineOctetReceived k o) s = .next (s.takeLineOctet k o) from rfl, ?_⟩
    rw [octet_heard ⟨used, carried⟩ o]
    exact committed rfl rfl (takeOctet_judged (s.portCfg k) s.ports[k] o last plain)
  · refine ⟨_, show exec (.carrierFall k) s = .next (s.fallCarrier k) from rfl, ?_⟩
    rw [fallCarrier_heard used carried]
    obtain ⟨-, -, out, run, -, -, framer⟩ := fallen_fields (PortWork.start s.ports[k])
    have judged := endPeriod_judged (s.portCfg k) false (PortWork.start s.ports[k]).fallen (fallen_ooa _)
    refine committed rfl rfl ?_
    have same : decide ((PortWork.start s.ports[k]).fallen.port.framer ≠ .aligned) =
        decide ((s.ports[k]).framer ≠ .aligned ∨ (s.ports[k]).alarms.los = false) := by
      rw [framer]
      refine decide_eq_decide.mpr ?_
      show (if (s.ports[k]).alarms.los then (s.ports[k]).framer else .hunt) ≠ Framer.aligned ↔ _
      cases (s.ports[k]).alarms.los <;> simp
    rw [same] at judged
    exact judged.of_alike out run
  · refine ⟨_, show exec (.carrierRise k) s = .next (s.raiseCarrier k) from rfl, ?_⟩
    rw [raiseCarrier_heard used dark]
    exact committed rfl rfl (endPeriod_judged (s.portCfg k) false (PortWork.start s.ports[k]) rfl)
  · refine ⟨_, show exec (.blockBoundary io) s = .next (s.boundary io) from rfl, ?_⟩
    obtain ⟨out, run, -, counted⟩ := boundary_counts io loaded used dark
    exact periodCounted_of (endPeriod_judged (s.portCfg k) false (PortWork.start s.ports[k]) rfl) out run counted

end Sys2Proof.Machine
end

section
/-! PROOFS. An octet in HUNT, CONFIRM and ALIGNED; the carrier and octet rows of the framer (R39, R44 to R48). -/

namespace Sys2Proof.Machine

/-! ### The alignment octet in HUNT behind a period under way (R44) -/

/-- The phase set by an octet that ends a period out of alignment. -/
theorem phase_set {s : State} {k : Fin 8} {o : Octet} {p : LinePort} (here : p = s.ports[k]) (hears : s.hearsLine k)
    (framer : p.framer = .hunt) (free : p.alarms.los = false ∧ p.forceOoa = false ∧ p.out = false) (found : o = 0x5C#8)
    (under : 1 ≤ p.periodOctets) : ∃ t, exec (.lineOctetReceived k o) s = .next t ∧
      (p.alarms.lol = true ∨ p.lolCount + 1 < (s.portCfg k).lolSet → t = { s with
        ports := s.ports.set k { p with
          framer := .confirm, confirmCount := 0, frame := [o], periodOctets := 1, alignedRun := 0
          lolCount := if p.alarms.lol then p.lolCount else p.lolCount + 1 }
        live := s.live.addLine k 0 1 0 }) ∧
      (p.alarms.lol = false → (s.portCfg k).lolSet ≤ p.lolCount + 1 →
        (t.ports[k]).framer = .confirm ∧ (t.ports[k]).frame = [o] ∧ (t.ports[k]).periodOctets = 1 ∧
        (t.ports[k]).alarms.lol = true) := by
  obtain ⟨los, force, out⟩ := free
  have taken : (PortWork.start p).takeOctet (s.portCfg k) o =
      ((PortWork.start p).periodOut.stepLol (s.portCfg k) true).onPort fun p =>
        { p with framer := .confirm, confirmCount := 0, frame := [o], periodOctets := 1 } := by
    have ended : (PortWork.start p).endPeriod (s.portCfg k) true = (PortWork.start p).periodOut.stepLol (s.portCfg k) true := by
      rw [endPeriod_unaligned (s.portCfg k) true (w := PortWork.start p) out
        (by rw [show (PortWork.start p).port.framer = .hunt from framer]; nofun), stepLos_still (.inl los)]
    rw [takeOctet_hunt framer, huntOctet_found ⟨los, force, out⟩ found, if_neg (by omega), ended]
  refine ⟨_, show exec (.lineOctetReceived k o) s = .next (s.takeLineOctet k o) from rfl, ?_⟩
  subst here
  rw [octet_heard hears o, taken]
  refine ⟨fun quiet => ?_, fun clear reached => ?_⟩
  · have stepped : (PortWork.start s.ports[k]).periodOut.stepLol (s.portCfg k) true =
        { (PortWork.start s.ports[k]).periodOut with port := { (PortWork.start s.ports[k]).periodOut.port with
          lolCount := if (s.ports[k]).alarms.lol then (s.ports[k]).lolCount else (s.ports[k]).lolCount + 1 } } := by
      cases lol : (s.ports[k]).alarms.lol with
      | true =>
        rw [stepLol_declared _ _ (by exact lol)]
        rfl
      | false =>
        rw [lol] at quiet
        have below := quiet.resolve_left Bool.false_ne_true
        rw [stepLol_ooa _ _ (by exact lol)]
        exact if_neg (Nat.not_le.mpr below)
    rw [stepped]
    exact commitPort_quiet rfl rfl rfl
  · have stepped : (PortWork.start s.ports[k]).periodOut.stepLol (s.portCfg k) true =
        ((PortWork.start s.ports[k]).periodOut.onPort fun p => { p with lolCount := p.lolCount + 1 }).declareLol := by
      rw [stepLol_ooa _ _ (by exact clear)]
      exact if_pos reached
    rw [stepped]
    generalize declared : PortWork.declareLol _ = v
    have lol : v.port.alarms.lol = true := by rw [← declared, declareLol_port]
    have done := commitPort_done k (v.onPort fun p =>
      { p with framer := .confirm, confirmCount := 0, frame := [o], periodOctets := 1 }) s
    rw [done.here]
    exact ⟨rfl, rfl, rfl, lol⟩

/-! ### The octets that end no period -/

theorem octets_move {s : State} {k : Fin 8} {o : Octet} {p : LinePort} (here : p = s.ports[k]) (hears : s.hearsLine k) :
    (p.framer = .hunt → p.alarms.los = false → p.forceOoa = false → p.out = false → o = 0x5C#8 →
      p.periodOctets = 0 → exec (.lineOctetReceived k o) s = .next { s with
        ports := s.ports.set k { p with framer := .confirm, confirmCount := 0, frame := [o], periodOctets := 1 } }) ∧
    (p.framer = .hunt → o ≠ 0x5C#8 ∨ p.alarms.los = true ∨ p.forceOoa = true ∨ p.out = true → p.periodOctets < 35 →
      exec (.lineOctetReceived k o) s = .next { s with
        ports := s.ports.set k { p with periodOctets := p.periodOctets + 1 } }) ∧
    (p.framer ≠ .hunt → 1 ≤ p.periodOctets → p.periodOctets < 35 →
      exec (.lineOctetReceived k o) s = .next { s with
        ports := s.ports.set k { p with frame := p.frame ++ [o], periodOctets := p.periodOctets + 1 } }) ∧
    (p.framer = .confirm → p.periodOctets = 0 → o = 0x5C#8 → p.confirmCount + 1 < (s.portCfg k).alignEnter →
      exec (.lineOctetReceived k o) s = .next { s with
        ports := s.ports.set k { p with confirmCount := p.confirmCount + 1, frame := [o], periodOctets := 1 } }) ∧
    (p.framer = .confirm → p.periodOctets = 0 → o ≠ 0x5C#8 →
      exec (.lineOctetReceived k o) s = .next { s with
        ports := s.ports.set k { p.enterHunt with periodOctets := 1 } }) ∧
    (p.framer = .aligned → p.periodOctets = 0 → o = 0x5C#8 →
      exec (.lineOctetReceived k o) s = .next { s with
        ports := s.ports.set k { p with missCount := 0, frame := [o], periodOctets := 1 } }) ∧
    (p.framer = .aligned → p.periodOctets = 0 → o ≠ 0x5C#8 → p.missCount + 1 < (s.portCfg k).alignExit →
      exec (.lineOctetReceived k o) s = .next { s with
        ports := s.ports.set k { p with missCount := p.missCount + 1, frame := [o], periodOctets := 1 } }) := by
  have moved {q : LinePort} (moves : (PortWork.start p).takeOctet (s.portCfg k) o = PortWork.start q)
      (alarms : q.alarms = p.alarms) (accepted : q.accepted = p.accepted) :
      exec (.lineOctetReceived k o) s = .next { s with ports := s.ports.set k q } :=
    congrArg Host.Outcome.next (octet_moves here hears moves alarms accepted)
  refine ⟨fun framer los force out found starts => moved ?_ rfl rfl, fun framer other short => moved ?_ rfl rfl,
    fun framed started short => moved (takeOctet_inner framed started short) rfl rfl,
    fun framer starts found below => moved ?_ rfl rfl, fun framer starts missed => moved ?_ rfl rfl,
    fun framer starts found => moved ?_ rfl rfl, fun framer starts missed below => moved ?_ rfl rfl⟩
  · rw [takeOctet_hunt framer, huntOctet_found ⟨los, force, out⟩ found, if_pos starts]
    rfl
  · rw [takeOctet_hunt framer, huntOctet_counted other, if_neg (by omega)]
  · rw [takeOctet_confirm framer starts, confirmOctet_found found, if_neg (by omega)]
  · rw [takeOctet_confirm framer starts, confirmOctet_missed missed]
  · rw [takeOctet_aligned framer starts, alignedOctet_found found]
  · rw [takeOctet_aligned framer starts, alignedOctet_missed missed, if_neg (by omega)]

/-! ### ALIGNMENT_CONFIRMED and ALIGNMENT_LOST -/

/-- An octet that decides its row and changes neither alarms nor the accepted signalling. -/
theorem decision_moves {s : State} {k : Fin 8} {o : Octet} {p q : LinePort} {decided : LinePort → LinePort → Bool}
    (here : p = s.ports[k]) (hears : s.hearsLine k)
    (moves : (PortWork.start p).takeOctet (s.portCfg k) o = PortWork.start q) (alarms : q.alarms = p.alarms)
    (accepted : q.accepted = p.accepted) (falls : decided p q = true) :
    s.ifDecided k decided (s.takeLineOctet k o) = { s with ports := s.ports.set k q } := by
  subst here
  have moved := octet_moves rfl hears moves alarms accepted
  have decides : s.ifDecided k decided (s.takeLineOctet k o) = s.takeLineOctet k o :=
    (octet_decides hears _ moves falls).trans (by rw [octet_heard hears o, moves])
  exact decides.trans moved

theorem alignment_decided {s : State} {k : Fin 8} {o : Octet} {p : LinePort} (here : p = s.ports[k])
    (hears : s.hearsLine k) (starts : p.periodOctets = 0) :
    (p.framer = .confirm → o = 0x5C#8 → (s.portCfg k).alignEnter ≤ p.confirmCount + 1 →
      exec (.alignmentConfirmed k o) s = .next { s with
        ports := s.ports.set k { p with
          framer := .aligned, confirmCount := p.confirmCount + 1, missCount := 0, frame := [o], periodOctets := 1 } }) ∧
    (p.framer = .aligned → o ≠ 0x5C#8 → (s.portCfg k).alignExit ≤ p.missCount + 1 →
      exec (.alignmentLost k o) s = .next { s with ports := s.ports.set k { p.enterHunt with periodOctets := 1 } }) := by
  refine ⟨fun framer found reached => congrArg Host.Outcome.next (decision_moves here hears ?_ rfl rfl ?_),
    fun framer missed reached => congrArg Host.Outcome.next (decision_moves here hears ?_ rfl rfl ?_)⟩
  · rw [takeOctet_confirm framer starts, confirmOctet_found found, if_pos reached]
  · rw [alignmentGained, framer]
    rfl
  · rw [takeOctet_aligned framer starts, alignedOctet_missed missed, if_pos reached]
  · rw [alignmentDropped, framer]
    rfl

/-- An octet that decides neither row changes nothing under them (log 2). -/
theorem alignment_undecided {s : State} {k : Fin 8} {o : Octet} {p : LinePort} (here : p = s.ports[k])
    (hears : s.hearsLine k) (starts : p.periodOctets = 0) :
    (p.framer ≠ .confirm ∨ o ≠ 0x5C#8 → exec (.alignmentConfirmed k o) s = .next s) ∧
    (p.framer ≠ .aligned ∨ o = 0x5C#8 → exec (.alignmentLost k o) s = .next s) := by
  subst here
  refine ⟨fun other => congrArg Host.Outcome.next (octet_undecided hears _ rfl ?_),
    fun other => congrArg Host.Outcome.next (octet_undecided hears _ rfl ?_)⟩
  · by_cases framer : (s.ports[k]).framer = .confirm
    · rw [takeOctet_confirm framer starts, confirmOctet_missed (other.resolve_left (not_not_intro framer)),
        alignmentGained, framer]
      rfl
    · rw [alignmentGained, beq_eq_false_iff_ne.mpr framer]
      rfl
  · by_cases framer : (s.ports[k]).framer = .aligned
    · rw [takeOctet_aligned framer starts, alignedOctet_found (other.resolve_left (not_not_intro framer)),
        alignmentDropped, framer]
      rfl
    · rw [alignmentDropped, beq_eq_false_iff_ne.mpr framer]
      rfl

/-- Settles O34, by the framer's work on each stimulus and what a port's work leaves of the station. -/
theorem carrierAndOctetsMoveTheFramer : Obligations.CarrierAndOctetsMoveTheFramer := by
  unfold Obligations.CarrierAndOctetsMoveTheFramer
  refine ⟨fun s k => ?_, fun s k p c ooa here used loaded ends => ?_, fun s k o p here => ⟨?_, fun hears => ?_⟩,
    fun s k o p here hears starts => ?_⟩
  · obtain ⟨low, high, unused⟩ := carriers_move s k
    exact ⟨low, high, unused,
      fun used carried => ⟨s.fallCarrier k, rfl, fallCarrier_falls used carried⟩,
      fun used dark => ⟨s.raiseCarrier k, rfl, raiseCarrier_rises used dark⟩⟩
  · subst here
    obtain ⟨t, done, out, marked, judged⟩ := stimulus_counts used loaded ends
    exact ⟨t, done, out, marked, judged⟩
  · rintro (unused | dark)
    · refine congrArg Host.Outcome.next ?_
      show (if s.carrier[k] then s.workPort k fun c w => w.takeOctet c o else s) = s
      rw [workPort_unused unused, ite_self]
    · exact congrArg Host.Outcome.next (if_neg (by rw [dark]; exact Bool.false_ne_true))
  · obtain ⟨found, counted, inner, confirmed, unconfirmed, kept, missed⟩ := octets_move (o := o) here hears
    exact ⟨found, fun framer los force out same under => phase_set here hears framer ⟨los, force, out⟩ same under,
      counted, inner, confirmed, unconfirmed, kept, missed⟩
  · obtain ⟨gained, dropped⟩ := alignment_decided (o := o) here hears starts
    obtain ⟨ungained, undropped⟩ := alignment_undecided (o := o) here hears starts
    exact ⟨gained, dropped, ungained, undropped⟩

end Sys2Proof.Machine
end

section
/-! PROOFS. LOS_CLEARED, LOL_CLEARED and LOL_DECLARED: the period whose end decides (R47 to R49, R58). -/

namespace Sys2Proof.Machine

/-! ### Periods that decide -/

/-- The tenth whole period with carrier clears LOS, its notice first (R48, R58). -/
theorem endPeriod_clears_los {c : PortSettings} {p : LinePort} (los : p.alarms.los = true) (nine : p.carrierCount = 9) :
    ((PortWork.start p).endPeriod c true).port.alarms.los = false ∧
    ((PortWork.start p).endPeriod c true).port.framer = p.framer ∧
    ((PortWork.start p).endPeriod c true).port.periodOctets = 0 ∧
    ∃ rest, ((PortWork.start p).endPeriod c true).notices = (.los, false) :: rest := by
  have cleared (w : PortWork) (same : w.port.alarms = p.alarms) (count : w.port.carrierCount = 9) :
      (w.stepLos true).port.alarms.los = false ∧ (w.stepLos true).notices = w.notices ++ [(.los, false)] := by
    have stepped : w.stepLos true =
        (w.onPort fun p => { p with carrierCount := p.carrierCount + 1 }).setDefect .los false := by
      refine (if_pos ⟨by rw [same]; exact los, rfl⟩).trans (if_pos ?_)
      show w.port.carrierCount + 1 ≥ 10
      omega
    rw [stepped, setDefect_told (by show w.port.alarms.los ≠ false; rw [same, los]; nofun) rfl, setDefect_port]
    exact ⟨rfl, rfl⟩
  have judged (w : PortWork) (ooa : Bool) (same : w.port.alarms = p.alarms) (count : w.port.carrierCount = 9)
      (silent : w.notices = []) : ((w.stepLos true).stepLol c ooa).port.alarms.los = false ∧
      ∃ rest, ((w.stepLos true).stepLol c ooa).notices = (.los, false) :: rest := by
    obtain ⟨clear, told⟩ := cleared w same count
    obtain ⟨extends', -, _, _, _, _, _, _, port⟩ := stepLol_fields c ooa (w.stepLos true)
    obtain ⟨rest, queued⟩ := extends'.queued
    rw [told, silent] at queued
    exact ⟨by rw [port]; exact clear, rest, queued.symm⟩
  obtain ⟨-, _, _, _, _, _, _, _, _, _, port⟩ := endPeriod_fields c true (PortWork.start p)
  have both : ((PortWork.start p).endPeriod c true).port.alarms.los = false ∧
      ∃ rest, ((PortWork.start p).endPeriod c true).notices = (.los, false) :: rest := by
    by_cases out : p.out = true
    · rw [endPeriod_marked c true (w := PortWork.start p) out]
      obtain ⟨clear, told⟩ := cleared ((PortWork.start p).onPort fun p => { p with periodOctets := 0 }) rfl nine
      exact ⟨clear, [], told⟩
    · have inService : (PortWork.start p).port.out = false := Bool.eq_false_iff.mpr out
      by_cases aligned : p.framer = .aligned
      · rw [endPeriod_aligned c true inService aligned]
        exact judged _ false rfl nine rfl
      · rw [endPeriod_unaligned c true inService aligned]
        exact judged _ true rfl nine rfl
  exact ⟨both.1, by rw [port]; rfl, by rw [port], both.2⟩

/-- The aligned period that brings the run to LOL_CLEAR clears LOL (R49). -/
theorem endPeriod_clears_lol {c : PortSettings} {p : LinePort} (whole : Bool)
    (inService : p.out = false ∧ p.framer = .aligned ∧ p.alarms.los = false) (set : p.alarms.lol = true)
    (reached : c.lolClear ≤ min 63 (p.alignedRun + 1)) : (PortWork.start p).endPeriod c whole =
      { PortWork.start { p with
          periodOctets := 0, alignedRun := min 63 (p.alignedRun + 1), lolCount := 0
          alarms := { p.alarms with lol := false } } with notices := [(.lol, false)] } := by
  obtain ⟨out, aligned, los⟩ := inService
  have told : ((PortWork.start p).periodAligned.setDefect .lol false).notices = [(.lol, false)] := by
    refine setDefect_told ?_ ?_
    · show p.alarms.lol ≠ false
      rw [set]
      nofun
    · show p.alarms.suppresses .lol = false
      exact los
  have counts := setDefect_counts .lol false (PortWork.start p).periodAligned
  have port := setDefect_port .lol false (PortWork.start p).periodAligned
  rw [endPeriod_aligned c whole (w := PortWork.start p) out aligned, stepLos_still (.inl los),
    stepLol_clears c _ set reached]
  generalize (PortWork.start p).periodAligned.setDefect .lol false = w at told counts port
  obtain ⟨q, notices, parity, ooa, slips⟩ := w
  obtain ⟨hparity, hooa, hslips⟩ := counts
  dsimp only at told port hparity hooa hslips
  subst told port hparity hooa hslips
  rfl

/-- The period out of alignment that brings the integrator to LOL_SET declares LOL (R49, R55, R59). -/
theorem endPeriod_declares_lol {c : PortSettings} {p : LinePort} (whole : Bool)
    (inService : p.out = false ∧ p.framer ≠ .aligned ∧ p.alarms.los = false) (clear : p.alarms.lol = false)
    (reached : c.lolSet ≤ p.lolCount + 1) :
    ((PortWork.start p).endPeriod c whole).port.alarms = { p.alarms with lol := true } ∧
    ((PortWork.start p).endPeriod c whole).port.lolCount = p.lolCount + 1 ∧
    ((PortWork.start p).endPeriod c whole).port.accepted = .idle ∧
    ((PortWork.start p).endPeriod c whole).port.store = [] ∧
    ((PortWork.start p).endPeriod c whole).notices = [(.lol, true)] := by
  obtain ⟨out, unaligned, los⟩ := inService
  have told : ((((PortWork.start p).periodOut.onPort fun p => { p with lolCount := p.lolCount + 1 }).setDefect
      .lol true)).notices = [(.lol, true)] := by
    refine setDefect_told ?_ ?_
    · show p.alarms.lol ≠ true
      rw [clear]
      nofun
    · show p.alarms.suppresses .lol = false
      exact los
  have stepped : (PortWork.start p).periodOut.stepLol c true =
      ((PortWork.start p).periodOut.onPort fun p => { p with lolCount := p.lolCount + 1 }).declareLol := by
    rw [stepLol_ooa c _ (by exact clear)]
    exact if_pos reached
  rw [endPeriod_unaligned c whole (w := PortWork.start p) out unaligned, stepLos_still (.inl los), stepped,
    declareLol_port]
  exact ⟨rfl, rfl, rfl, rfl, told⟩

/-! ### The rows -/

/-- A row whose octet decides it: what it leaves of the station. -/
theorem decision_done {s : State} {k : Fin 8} {o : Octet} {decided : LinePort → LinePort → Bool} (hears : s.hearsLine k)
    {w : PortWork} (hw : (PortWork.start s.ports[k]).takeOctet (s.portCfg k) o = w)
    (falls : decided s.ports[k] w.port = true) :
    s.PortDone k w (s.ifDecided k decided (s.takeLineOctet k o)) := by
  rw [octet_decides hears w hw falls]
  exact commitPort_done k w s

/-- A row whose stimulus decides it is that stimulus (log 2). -/
theorem stimulus_decides {s : State} {k : Fin 8} {x : FramerStimulus} (clear : (s.ports[k]).alarms.lol = false)
    (declared : ((s.stimulate k x).ports[k]).alarms.lol = true) :
    exec (.lolDeclared k x) s = .next (s.stimulate k x) := by
  refine congrArg Host.Outcome.next (if_pos ?_)
  rw [lolDeclares, clear, declared]
  rfl

/-- LOL declared by a broken period out of alignment (R49). -/
theorem broken_declares {s : State} {k : Fin 8} {w : PortWork} (c : PortSettings) (inService : w.port.out = false)
    (unaligned : w.port.framer ≠ .aligned) (clear : w.port.alarms.lol = false) (reached : c.lolSet ≤ w.port.lolCount + 1) :
    ((s.commitPort k (w.endPeriod c false)).ports[k]).alarms.lol = true ∧
    ((s.commitPort k (w.endPeriod c false)).ports[k]).alarms.los = w.port.alarms.los := by
  obtain ⟨_, _, _, _, _, _, _, port, -⟩ := endPeriod_broken c w
  obtain ⟨-, lol⟩ := endPeriod_broken_lol c inService unaligned clear
  rw [(commitPort_done k (w.endPeriod c false) s).here]
  refine ⟨by rw [lol]; exact decide_eq_true reached, by rw [port]⟩

theorem losCleared_decided {s : State} {k : Fin 8} {p : LinePort} (o : Octet) (here : p = s.ports[k])
    (hears : s.hearsLine k) (last : p.periodOctets = 35) (framer : p.framer = .hunt) (los : p.alarms.los = true)
    (nine : p.carrierCount = 9) : ∃ t, exec (.losCleared k o) s = .next t ∧
      t.base = { s.base with ports := t.ports } ∧ (∀ j : Fin 8, j ≠ k → t.ports[j] = s.ports[j]) ∧
      (t.ports[k]).alarms.los = false ∧ (t.ports[k]).framer = .hunt ∧ (t.ports[k]).periodOctets = 0 ∧
      (s.notices.length < 32 → ⟨.lineAlarm (s.portCfg k).line k .los false, s.stationTime⟩ ∈ t.notices) := by
  subst here
  have taken : (PortWork.start s.ports[k]).takeOctet (s.portCfg k) o =
      (PortWork.start { s.ports[k] with periodOctets := (s.ports[k]).periodOctets + 1 }).endPeriod (s.portCfg k) true := by
    rw [takeOctet_hunt framer, huntOctet_counted (.inr (.inl los)), if_pos (by omega)]
  obtain ⟨clear, framer', octets, rest, told⟩ := endPeriod_clears_los (c := s.portCfg k)
    (p := { s.ports[k] with periodOctets := (s.ports[k]).periodOctets + 1 }) los nine
  have done := decision_done hears taken (decided := losClears) (by rw [losClears, los, clear]; rfl)
  refine ⟨_, rfl, done.base, done.others, ?_, ?_, ?_, fun room => done.told _ _ told room⟩
  · rw [done.here]
    exact clear
  · rw [done.here, framer']
    exact framer
  · rw [done.here]
    exact octets

theorem lolCleared_decided {s : State} {k : Fin 8} {p : LinePort} (o : Octet) (here : p = s.ports[k])
    (hears : s.hearsLine k) (last : p.periodOctets = 35) (framer : p.framer = .aligned) (out : p.out = false)
    (los : p.alarms.los = false) (lol : p.alarms.lol = true) (small : (s.portCfg k).lolClear ≤ 63)
    (reached : (s.portCfg k).lolClear ≤ p.alignedRun + 1) : ∃ t, exec (.lolCleared k o) s = .next t ∧
      t.base = { s.base with ports := t.ports } ∧ (∀ j : Fin 8, j ≠ k → t.ports[j] = s.ports[j]) ∧
      (t.ports[k]).alarms = { p.alarms with lol := false } ∧ (t.ports[k]).lolCount = 0 ∧
      (t.ports[k]).framer = .aligned ∧ (t.ports[k]).frame = [] ∧ (t.ports[k]).periodOctets = 0 ∧
      (s.notices.length < 32 → ⟨.lineAlarm (s.portCfg k).line k .lol false, s.stationTime⟩ ∈ t.notices) := by
  subst here
  obtain ⟨octets, taken⟩ := takeOctet_unevaluated (c := s.portCfg k) o (by rw [framer]; nofun) last (.inr (.inr (.inl lol)))
  have cleared := endPeriod_clears_lol (c := s.portCfg k) (p := { s.ports[k] with
    labelOctets := octets, parityReference := xorAll ((s.ports[k]).frame ++ [o]), frame := [], periodOctets := 36 })
    true ⟨out, framer, los⟩ lol (le_min small reached)
  have taken := taken.trans cleared
  have done := decision_done hears taken (decided := lolClears) (by rw [lolClears, lol]; rfl)
  refine ⟨_, rfl, done.base, done.others, ?_, ?_, ?_, ?_, ?_, fun room => done.told _ _ rfl room⟩
  all_goals rw [done.here]
  · rfl
  · rfl
  · exact framer
  · rfl
  · rfl

theorem lolDeclared_octet {s : State} {k : Fin 8} {p : LinePort} (o : Octet) (here : p = s.ports[k])
    (hears : s.hearsLine k) (out : p.out = false) (clear : p.alarms.lol = false)
    (reached : (s.portCfg k).lolSet ≤ p.lolCount + 1) (framer : p.framer = .hunt) (last : p.periodOctets = 35)
    (los : p.alarms.los = false) (other : o ≠ 0x5C#8) : ∃ t, exec (.lolDeclared k (.octet o)) s = .next t ∧
      t.base = { s.base with ports := t.ports } ∧ (∀ j : Fin 8, j ≠ k → t.ports[j] = s.ports[j]) ∧
      (t.ports[k]).alarms = { p.alarms with lol := true } ∧ (t.ports[k]).lolCount = p.lolCount + 1 ∧
      (t.ports[k]).accepted = .idle ∧ (t.ports[k]).store = [] ∧
      (s.notices.length < 32 → ⟨.lineAlarm (s.portCfg k).line k .lol true, s.stationTime⟩ ∈ t.notices) := by
  subst here
  have taken : (PortWork.start s.ports[k]).takeOctet (s.portCfg k) o =
      (PortWork.start { s.ports[k] with periodOctets := (s.ports[k]).periodOctets + 1 }).endPeriod (s.portCfg k) true := by
    rw [takeOctet_hunt framer, huntOctet_counted (.inl other), if_pos (by omega)]
  obtain ⟨alarms, lols, accepted, store, told⟩ := endPeriod_declares_lol (c := s.portCfg k)
    (p := { s.ports[k] with periodOctets := (s.ports[k]).periodOctets + 1 }) true
    ⟨out, by rw [framer]; nofun, los⟩ clear reached
  have done := decision_done hears taken (decided := lolDeclares) (by rw [lolDeclares, clear, alarms]; rfl)
  refine ⟨s.ifDecided k lolDeclares (s.takeLineOctet k o), rfl, done.base, done.others, ?_, ?_, ?_, ?_,
    fun room => done.told _ _ told room⟩
  all_goals rw [done.here]
  · exact alarms
  · exact lols
  · exact accepted
  · exact store

/-- Settles O35, by the period whose end decides each row. -/
theorem lossesAreDeclaredAndClear : Obligations.LossesAreDeclaredAndClear := by
  unfold Obligations.LossesAreDeclaredAndClear
  refine ⟨fun s k o p here hears last => ⟨losCleared_decided o here hears last, lolCleared_decided o here hears last⟩,
    fun s k p here used out clear reached => ⟨fun o carried framer last los other =>
      lolDeclared_octet o here ⟨used, carried⟩ out clear reached framer last los other,
      fun carried hunts => ?_, fun dark framer los => ?_, fun io dark framer los => ?_⟩⟩
  · obtain ⟨lost, -, out', -, lol, lols, framer⟩ := fallen_fields (PortWork.start s.ports[k])
    subst here
    have hunting : (PortWork.start s.ports[k]).fallen.port.framer ≠ .aligned := by
      rw [framer]
      split
      · next los =>
        rw [show (PortWork.start s.ports[k]).port.framer = .hunt from hunts los]
        nofun
      · nofun
    obtain ⟨declared, los⟩ := broken_declares (s := { s with carrier := s.carrier.set k false }) (k := k) (s.portCfg k)
      (out'.trans out) hunting (lol.trans clear) (by rw [lols]; exact reached)
    rw [← fallCarrier_heard used carried] at declared los
    have row := stimulus_decides (x := .carrierFall) clear declared
    refine ⟨row, fun t done => ?_⟩
    have same : s.fallCarrier k = t := Host.Outcome.next.inj (row.symm.trans done)
    rw [← same]
    exact ⟨los.trans lost, declared⟩
  · subst here
    obtain ⟨declared, -⟩ := broken_declares (s := { s with carrier := s.carrier.set k true }) (k := k)
      (w := PortWork.start s.ports[k]) (s.portCfg k) out
      (by rw [show (PortWork.start s.ports[k]).port.framer = .hunt from framer]; nofun) clear reached
    rw [← raiseCarrier_heard used dark] at declared
    exact stimulus_decides (x := .carrierRise) clear declared
  · subst here
    have loaded : s.loaded = true := (Bool.and_eq_true_iff.mp used).1
    obtain ⟨-, -, alarms, -⟩ := boundary_counts io loaded used dark
    obtain ⟨-, lol⟩ := endPeriod_broken_lol (s.portCfg k) (w := PortWork.start s.ports[k]) out
      (by rw [show (PortWork.start s.ports[k]).port.framer = .hunt from framer]; nofun) clear
    have declared : ((s.boundary io).ports[k]).alarms.lol = true := by
      rw [alarms, lol]
      exact decide_eq_true reached
    have row := stimulus_decides (x := .boundary io) clear declared
    refine ⟨row, fun t done => ?_⟩
    have same : s.boundary io = t := Host.Outcome.next.inj (row.symm.trans done)
    rw [← same]
    exact declared

end Sys2Proof.Machine
end

section
/-! PROOFS. Parity and the elastic store, at the end of a frame and at a boundary (R53, R59, R60). -/

namespace Sys2Proof.Machine

/-! ### Parity (R53) -/

theorem bitsDiffering_countP (a b : Octet) :
    bitsDiffering a b = (List.finRange 8).countP fun i => a.getLsbD i.val != b.getLsbD i.val := by
  rw [List.countP_eq_length_filter, bitsDiffering,
    show [0, 1, 2, 3, 4, 5, 6, 7] = (List.finRange 8).map Fin.val from rfl, List.filter_map, List.length_map]
  congr 2

theorem bitsDiffering_eq_zero (a b : Octet) : bitsDiffering a b = 0 ↔ a = b := by
  rw [bitsDiffering_countP, List.countP_eq_zero]
  constructor
  · intro same
    refine BitVec.eq_of_getLsbD_eq fun i hi => ?_
    have bit := same ⟨i, hi⟩ (List.mem_finRange _)
    simpa using bit
  · rintro rfl i -
    simp

/-- The errored frames that R53 counts by PARITY_MODE. -/
theorem parityCount_eq (c : PortSettings) (a b : Octet) :
    (if c.parityFrame then min 1 (bitsDiffering a b) else bitsDiffering a b) =
      if c.parityFrame = true then if a = b then 0 else 1
      else (List.finRange 8).countP fun i => a.getLsbD i.val != b.getLsbD i.val := by
  rw [← bitsDiffering_countP]
  congr 1
  by_cases same : a = b
  · rw [if_pos same, (bitsDiffering_eq_zero a b).mpr same]
    rfl
  · rw [if_neg same]
    have differ : bitsDiffering a b ≠ 0 := fun h => same ((bitsDiffering_eq_zero a b).mp h)
    omega

/-! ### The last octet of a frame -/

/-- The last octet of a frame, evaluated or not, gives the next parity reference (R53). -/
theorem takeOctet_reference (c : PortSettings) {p : LinePort} (o : Octet) (framed : p.framer ≠ .hunt)
    (last : p.periodOctets = 35) :
    ((PortWork.start p).takeOctet c o).port.parityReference = xorAll (p.frame ++ [o]) ∧
    ((PortWork.start p).takeOctet c o).port.frame = [] := by
  by_cases untrusted : p.framer = .confirm ∨ p.alarms.los = true ∨ p.alarms.lol = true ∨ p.out = true
  · obtain ⟨octets, taken⟩ := takeOctet_unevaluated (c := c) o framed last untrusted
    obtain ⟨-, _, _, _, _, _, _, _, _, _, port⟩ := endPeriod_fields c true (PortWork.start { p with
      labelOctets := octets, parityReference := xorAll (p.frame ++ [o]), frame := [], periodOctets := 36 })
    rw [taken, port]
    exact ⟨rfl, rfl⟩
  · rw [not_or, not_or, not_or] at untrusted
    obtain ⟨confirm, los, lol, out⟩ := untrusted
    have aligned : p.framer = .aligned := by
      cases framer : p.framer with
      | hunt => exact absurd framer framed
      | confirm => exact absurd framer confirm
      | aligned => rfl
    obtain ⟨e, run, lols, -, taken⟩ := takeOctet_evaluated (c := c) o
      ⟨aligned, last, Bool.eq_false_iff.mpr los, Bool.eq_false_iff.mpr lol, Bool.eq_false_iff.mpr out⟩
    rw [taken]
    exact ⟨rfl, rfl⟩

/-- A frame that is not evaluated counts no parity and no slip (R50). -/
theorem takeOctet_uncounted (c : PortSettings) {p : LinePort} (o : Octet) (framed : p.framer ≠ .hunt)
    (last : p.periodOctets = 35)
    (untrusted : p.framer = .confirm ∨ p.alarms.los = true ∨ p.alarms.lol = true ∨ p.out = true) :
    ((PortWork.start p).takeOctet c o).parityErrors = 0 ∧ ((PortWork.start p).takeOctet c o).lineSlips = 0 := by
  obtain ⟨octets, taken⟩ := takeOctet_unevaluated (c := c) o framed last untrusted
  obtain ⟨extended, -⟩ := endPeriod_fields c true (PortWork.start { p with
    labelOctets := octets, parityReference := xorAll (p.frame ++ [o]), frame := [], periodOctets := 36 })
  rw [taken]
  exact ⟨extended.parity, extended.slips⟩

/-- The octet that ends a frame, at the station. -/
theorem frame_ends {s : State} {k : Fin 8} {p : LinePort} {f : List Octet} (o : Octet) (here : p = s.ports[k])
    (hears : s.hearsLine k) (framed : p.framer ≠ .hunt) (last : p.periodOctets = 35) (whole : f = p.frame ++ [o]) :
    ∃ t, exec (.lineOctetReceived k o) s = .next t ∧ (∀ j : Fin 8, j ≠ k → t.ports[j] = s.ports[j]) ∧
      (t.ports[k]).parityReference = f.foldl (· ^^^ ·) 0#8 ∧ (t.ports[k]).frame = [] ∧
      (p.framer = .confirm ∨ p.alarms.los = true ∨ p.alarms.lol = true ∨ p.out = true →
        (t.live.lines[k]).parityErrors = (s.live.lines[k]).parityErrors ∧
        (t.live.lines[k]).lineSlips = (s.live.lines[k]).lineSlips) ∧
      (p.EndsEvaluated → (t.ports[k]).lastBlock = p.lastBlock ∧
        (t.live.lines[k]).parityErrors = (s.live.lines[k]).parityErrors.add
          (if (s.portCfg k).parityFrame = true then if f.getD 3 0#8 = p.parityReference then 0 else 1
          else (List.finRange 8).countP fun i =>
            (f.getD 3 0#8).getLsbD i.val != p.parityReference.getLsbD i.val) ∧
        ∃ b : Block, (∀ i : Fin 16, b[i] = f.getD (4 + 2 * i.val) 0#8 ++ f.getD (5 + 2 * i.val) 0#8) ∧
          (p.storeRunning = false → (t.ports[k]).store = p.store ++ [b] ∧
            (t.ports[k]).storeRunning = decide (1 ≤ p.store.length) ∧
            (t.live.lines[k]).lineSlips = (s.live.lines[k]).lineSlips) ∧
          (p.storeRunning = true → (t.ports[k]).storeRunning = true ∧
            (p.store.length < 3 → (t.ports[k]).store = p.store ++ [b] ∧
              (t.live.lines[k]).lineSlips = (s.live.lines[k]).lineSlips) ∧
            (3 ≤ p.store.length → (t.ports[k]).store = p.store.tail ++ [b] ∧
              (t.live.lines[k]).lineSlips = (s.live.lines[k]).lineSlips.add 1))) := by
  subst here whole
  have done := commitPort_done k ((PortWork.start s.ports[k]).takeOctet (s.portCfg k) o) s
  obtain ⟨reference, emptied⟩ := takeOctet_reference (s.portCfg k) o framed last
  obtain ⟨parity, -, slips⟩ := done.counted
  refine ⟨_, show exec (.lineOctetReceived k o) s = .next (s.takeLineOctet k o) from rfl, ?_⟩
  rw [octet_heard hears o]
  generalize s.commitPort k _ = t at done parity slips
  refine ⟨done.others, by rw [done.here]; exact reference, by rw [done.here]; exact emptied, fun untrusted => ?_,
    fun ends => ?_⟩
  · obtain ⟨none, none'⟩ := takeOctet_uncounted (s.portCfg k) o framed last untrusted
    rw [none, count_zero] at parity
    rw [none', count_zero] at slips
    exact ⟨parity, slips⟩
  · obtain ⟨e, run, lols, evaluated, taken⟩ := takeOctet_evaluated (c := s.portCfg k) o ends
    rw [taken] at done parity slips
    have store : (t.ports[k]).store = e.port.store := by rw [done.here]
    have running : (t.ports[k]).storeRunning = e.port.storeRunning := by rw [done.here]
    have counted := evaluated.parity
    refine ⟨?_, ?_, ((s.ports[k]).withLast o).frameSamples, fun i => ?_, fun starting => ?_, fun runs => ?_⟩
    · obtain ⟨_, _, _, _, _, _, _, _, _, _, _, _, _, _, _, _, port⟩ := evaluated.port
      rw [done.here]
      show e.port.lastBlock = _
      rw [port]
      rfl
    · rw [parity, ← parityCount_eq]
      refine congrArg _ ?_
      rw [show (PortWork.start ((s.ports[k]).withLast o)).parityErrors = 0 from rfl, Nat.zero_add] at counted
      exact counted
    · rw [LinePort.frameSamples, Fin.getElem_fin, Vector.getElem_ofFn]
      rfl
    · obtain ⟨put, runs, same⟩ := evaluated.starting starting
      rw [store, running, slips]
      refine ⟨put, runs, ?_⟩
      show Count.add _ e.lineSlips = _
      rw [same]
      exact count_zero _
    · obtain ⟨still, room, full⟩ := evaluated.running runs
      rw [store, running, slips]
      refine ⟨still, fun short => ?_, fun long => ?_⟩
      · obtain ⟨put, same⟩ := room short
        refine ⟨put, ?_⟩
        show Count.add _ e.lineSlips = _
        rw [same]
        exact count_zero _
      · obtain ⟨put, one⟩ := full long
        refine ⟨put, ?_⟩
        show Count.add _ e.lineSlips = _
        rw [one]
        rfl

/-! ### The stores at a boundary (R60) -/

theorem halveBlock_toInt (b : Block) (i : Fin 16) : ((halveBlock b)[i]).toInt = (b[i]).toInt / 2 := by
  rw [halveBlock, mapTable, Fin.getElem_fin, Vector.getElem_ofFn, BitVec.toInt_sshiftRight, Int.shiftRight_eq_div_pow]
  rfl

/-- With carrier on every port the line ports take a boundary by the reads of their stores alone. -/
theorem atPorts_carried {s : State} (carried : ∀ k : Fin 8, s.carrier[k] = true) :
    s.atPorts = s.reachBoundary.readStores := by
  rw [atPorts_eq, standInPeriods_still (s := s.reachBoundary) carried]

/-- A boundary at a used port, with carrier on every port (R60). -/
theorem boundary_reads {s : State} (io : AudioIn) (loaded : s.loaded = true) (carried : ∀ k : Fin 8, s.carrier[k] = true)
    {k : Fin 8} (used : s.used k = true) :
    ((s.boundary io).ports[k]).lastBlock = (s.ports[k]).readWork.port.lastBlock ∧
    ((s.boundary io).ports[k]).store = (s.ports[k]).readWork.port.store ∧
    ((s.boundary io).ports[k]).storeRunning = (s.ports[k]).readWork.port.storeRunning ∧
    ((s.boundary io).live.lines[k]).lineSlips = (s.live.lines[k]).lineSlips.add (s.ports[k]).readWork.lineSlips := by
  obtain ⟨⟨frame, index, parity, port⟩, lines⟩ := boundary_port io loaded k
  obtain ⟨read, line⟩ := readStores_used (u := s.reachBoundary) (k := k) used
  rw [port, lines, atPorts_carried carried, read, line]
  exact ⟨rfl, rfl, rfl, rfl⟩

theorem store_read {s : State} (io : AudioIn) (loaded : s.loaded = true) (carried : ∀ k : Fin 8, s.carrier[k] = true)
    {k : Fin 8} {p : LinePort} (here : p = s.ports[k]) (used : s.used k = true) :
    (p.alarms.los = true ∨ p.alarms.lol = true ∨ p.framer ≠ .aligned ∨ p.out = true ∨ p.storeRunning = false →
      ((s.boundary io).ports[k]).lastBlock = Block.silence ∧ ((s.boundary io).ports[k]).store = p.store ∧
      ((s.boundary io).live.lines[k]).lineSlips = (s.live.lines[k]).lineSlips) ∧
    (p.alarms.los = false → p.alarms.lol = false → p.framer = .aligned → p.out = false → p.storeRunning = true →
      (∀ (b : Block) (rest : List Block), p.store = b :: rest → ((s.boundary io).ports[k]).lastBlock = b ∧
        ((s.boundary io).ports[k]).store = rest ∧
        ((s.boundary io).live.lines[k]).lineSlips = (s.live.lines[k]).lineSlips) ∧
      (p.store = [] → (∀ i : Fin 16, (((s.boundary io).ports[k]).lastBlock[i]).toInt = (p.lastBlock[i]).toInt / 2) ∧
        ((s.boundary io).ports[k]).store = [] ∧ ((s.boundary io).ports[k]).storeRunning = true ∧
        ((s.boundary io).live.lines[k]).lineSlips = (s.live.lines[k]).lineSlips.add 1)) := by
  subst here
  obtain ⟨last, store, running, slips⟩ := boundary_reads io loaded carried used
  rw [last, store, running, slips]
  unfold LinePort.readWork
  refine ⟨fun silent => ?_, fun los lol aligned out runs => ⟨fun b rest stored => ?_, fun empty => ?_⟩⟩
  · have still : ¬(PortWork.start s.ports[k]).port.Plays := by
      rintro ⟨los, lol, aligned, out, running⟩
      rcases silent with h | h | h | h | h
      · exact Bool.false_ne_true (los.symm.trans h)
      · exact Bool.false_ne_true (lol.symm.trans h)
      · exact h aligned
      · exact Bool.false_ne_true (out.symm.trans h)
      · exact Bool.false_ne_true (h.symm.trans running)
    rw [readStore_silent still]
    exact ⟨rfl, rfl, count_zero _⟩
  · rw [readStore_oldest (w := PortWork.start s.ports[k]) ⟨los, lol, aligned, out, runs⟩ stored]
    exact ⟨rfl, rfl, count_zero _⟩
  · rw [readStore_empty (w := PortWork.start s.ports[k]) ⟨los, lol, aligned, out, runs⟩ empty]
    exact ⟨fun i => halveBlock_toInt _ i, empty, runs, rfl⟩

/-- Settles O37, by the end of a frame and the read of the stores. -/
theorem elasticStoreAndParity : Obligations.ElasticStoreAndParity := by
  unfold Obligations.ElasticStoreAndParity
  exact ⟨fun s k o p f here hears framed last whole => frame_ends o here hears framed last whole,
    fun s io loaded carried => ⟨s.boundary io, rfl, fun k p here used => store_read io loaded carried here used⟩⟩

end Sys2Proof.Machine
end

section
/-! PROOFS. Station time, timers, streams and levels at a block boundary (00 section 5, R156 to R158, R172). -/

namespace Sys2Proof.Machine

/-- Admission at one channel (R141). -/
theorem admitAll_channel (ys : List Yielded) (v : State) (k : Fin 8) : (v.admitAll ys).channels[k] = { v.channels[k] with
    talkers := (if v.channelPlays k
      then admitSources v.talkerLimit v.cfg.gate v.cfg.hangover (v.sources ys k) (v.channels[k]).talkers
      else (v.channels[k]).talkers) } := by
  have channels : (v.admitAll ys).channels = mapTable v.channels fun k c => { c with talkers := (
      if v.channelPlays k then admitSources v.talkerLimit v.cfg.gate v.cfg.hangover (v.sources ys k) c.talkers
      else c.talkers) } := by
    rw [admitAll_alike]
  rw [channels, mapTable_get]

/-! ### What a boundary leaves behind the line ports' work -/

/-- A boundary between the line ports' work and its end, field by field. -/
structure State.Passes (io : AudioIn) (u t : State) : Prop where
  base : t.base = { u.base with
    ports := t.ports, localLevels := t.localLevels, earpieceOut := t.earpieceOut, speakerOut := t.speakerOut
    lineOut := t.lineOut }
  records : t.records = u.records
  mirrors : t.mirrors = u.mirrors
  pendingAsks : t.pendingAsks = u.pendingAsks
  handsets : t.handsets = u.handsets
  queue : u.txQueue.Sublist t.txQueue
  channels : ∀ k : Fin 8, t.channels[k] = { u.channels[k] with talkers := (t.channels[k]).talkers }
  streams : t.streams = mapTable u.streams fun _ e => (e.map fun x => x.yield.2).filter fun x => !(x.silence == 0)
  levels : t.localLevels = ((u.yieldStreams).updateLocalLevels io).localLevels
  underruns : t.live.underruns =
    u.live.underruns.add (u.yields.filter fun y => y.kind == .concealed).length

theorem State.MixedFrom.passes {io : AudioIn} {u m t : State} (mixed : u.MixedFrom io m) (finishes : m.Finishes t) :
    u.Passes io t where
  base := by
    have same : t.base = { m.base with ports := t.ports } := by rw [finishes.alike]; rfl
    have before : m.base = { u.base with
        localLevels := m.localLevels, earpieceOut := m.earpieceOut, speakerOut := m.speakerOut, lineOut := m.lineOut } := by
      rw [mixed.alike]
      rfl
    have outs : t.localLevels = m.localLevels ∧ t.earpieceOut = m.earpieceOut ∧ t.speakerOut = m.speakerOut ∧
        t.lineOut = m.lineOut := by
      rw [finishes.alike]
      exact ⟨rfl, rfl, rfl, rfl⟩
    obtain ⟨levels, ear, speaker, line⟩ := outs
    rw [same, before, levels, ear, speaker, line]
  records := by rw [finishes.alike, mixed.alike]
  mirrors := by rw [finishes.alike, mixed.alike]
  pendingAsks := by rw [finishes.alike, mixed.alike]
  handsets := by rw [finishes.alike, mixed.alike]
  queue := by
    have kept := finishes.kept
    rw [show m.txQueue = u.txQueue by rw [mixed.alike]] at kept
    exact kept
  channels k := by
    obtain ⟨talkers, -, shed⟩ := finishes.sheds k
    obtain ⟨admitted, channel⟩ : ∃ admitted, m.channels[k] = { u.channels[k] with talkers := admitted } := by
      have same : ((u.yieldStreams).updateLocalLevels io).channels = u.channels := by
        rw [updateLocalLevels_alike, yieldStreams_alike]
      rw [mixed.channels, admitAll_channel, same]
      exact ⟨_, rfl⟩
    rw [shed, channel]
  streams := by
    have ended : t.streams = mapTable m.streams fun _ e => e.filter fun x => !(x.silence == 0) := by
      rw [finishes.alike]
    have yielded : m.streams = mapTable u.streams fun _ e => e.map fun x => (StreamEntry.yield x).2 := by
      rw [mixed.alike]
    rw [ended, yielded]
    refine Vector.ext fun i hi => ?_
    simp only [mapTable, Vector.getElem_ofFn, Fin.getElem_fin]
  levels := by rw [finishes.alike, mixed.alike]
  underruns := by rw [finishes.alike, mixed.alike]

theorem boundary_passes {s : State} (io : AudioIn) (loaded : s.loaded = true) :
    s.atPorts.Passes io (s.boundary io) :=
  (mixed_from io s).passes (boundary_finishes io loaded)

/-- The read of the stores leaves the rest of the station. -/
theorem readStores_rest (u : State) : u.readStores.base = { u.base with ports := u.readStores.ports } ∧
    u.readStores.records = u.records ∧ u.readStores.mirrors = u.mirrors ∧ u.readStores.pendingAsks = u.pendingAsks ∧
    u.readStores.handsets = u.handsets ∧ u.readStores.channels = u.channels ∧ u.readStores.streams = u.streams ∧
    u.readStores.txQueue = u.txQueue ∧ u.readStores.sequences = u.sequences ∧
    u.readStores.live.underruns = u.live.underruns := by
  obtain ⟨ports, lines, read, -⟩ := readStores_fields u
  rw [read]
  exact ⟨rfl, rfl, rfl, rfl, rfl, rfl, rfl, rfl, rfl, rfl⟩

/-! ### Time (00 section 5) -/

theorem nextBoundary_phase (t : Time) : (nextBoundary t).toNat % 16 = 0 := by
  rw [nextBoundary, BitVec.toNat_add, BitVec.toNat_sub, BitVec.toNat_ofNat, BitVec.toNat_ofNat]
  omega

/-- The base of a loaded station at a boundary. -/
theorem atPorts_base (s : State) : s.atPorts.base = { s.reachBoundary.base with ports := s.atPorts.ports } := by
  have stood := (standInPeriods_stoodIn s.reachBoundary).base
  have read := (readStores_rest s.reachBoundary.standInPeriods).1
  rw [atPorts_eq]
  generalize s.reachBoundary.standInPeriods = u at stood read ⊢
  rw [read, stood]

theorem reachBoundary_base (s : State) : s.reachBoundary.base = { s.base with
    stationTime := nextBoundary s.stationTime
    monitorTimer := s.monitorTimer - 1, listenTimer := s.listenTimer.map (· - 1)
    beaconTimer := s.beaconTimer.map (· - 1), clashWindow := s.clashWindow.map (· - 1)
    peers := s.reachBoundary.peers, slots := s.reachBoundary.slots } := rfl

/-- A boundary at every station moves the time and the timers that its statement lists. -/
theorem boundary_base (io : AudioIn) (s : State) : (s.boundary io).base = { s.reachBoundary.base with
    ports := (s.boundary io).ports, localLevels := (s.boundary io).localLevels
    earpieceOut := (s.boundary io).earpieceOut, speakerOut := (s.boundary io).speakerOut
    lineOut := (s.boundary io).lineOut } := by
  cases loaded : s.loaded with
  | false =>
    rw [show s.boundary io = s.reachBoundary from if_neg (by rw [loaded]; exact Bool.false_ne_true)]
    rfl
  | true =>
    have passes := (boundary_passes io loaded).base
    generalize s.boundary io = t at passes
    rw [passes, atPorts_base]

/-! ### Streams (R156 to R158) -/

/-- What a yield leaves of an entry. -/
theorem yield_fields (e : StreamEntry) : ∃ queue playing concealed last level, e.yield.2 = { e with
    queue := queue, playing := playing, concealed := concealed, lastBlock := last, level := level } := by
  unfold StreamEntry.yield
  dsimp only
  split
  · exact ⟨_, _, _, _, _, rfl⟩
  · exact ⟨_, _, _, _, _, rfl⟩
  · exact ⟨_, _, _, _, _, rfl⟩
  · split
    · exact ⟨_, _, _, _, _, rfl⟩
    · exact ⟨_, _, _, _, _, rfl⟩

theorem yield_silence (e : StreamEntry) : e.yield.2.silence = e.silence := by
  obtain ⟨_, _, _, _, _, fields⟩ := yield_fields e
  rw [fields]

/-- The table that a boundary leaves, entry by entry. -/
theorem State.Passes.stream {io : AudioIn} {u t : State} (passes : u.Passes io t) (i : Fin 32) :
    (u.streams[i] = none → t.streams[i] = none) ∧ ∀ e : StreamEntry, u.streams[i] = some e →
      t.streams[i] = if e.silence = 0 then none else some e.yield.2 := by
  rw [passes.streams, mapTable_get]
  refine ⟨fun none => by rw [none]; rfl, fun e stands => ?_⟩
  rw [stands, Option.map_some, Option.filter_some, yield_silence]
  by_cases ended : e.silence = 0
  · rw [if_pos ended, ended]
    rfl
  · rw [if_neg ended, beq_eq_false_iff_ne.mpr ended]
    rfl

/-- An entry at the moment a boundary is reached. -/
theorem reachBoundary_stream (s : State) (i : Fin 32) : s.reachBoundary.streams[i] =
    (s.streams[i]).map fun e => { e with silence := e.silence - 1 } := mapTable_get _ _ i

/-- With carrier on every port the stream table is what it was, one boundary on. -/
theorem atPorts_stream {s : State} (carried : ∀ k : Fin 8, s.carrier[k] = true) (i : Fin 32) : s.atPorts.streams[i] =
    (s.streams[i]).map fun e => { e with silence := e.silence - 1 } := by
  obtain ⟨-, -, -, -, -, -, streams, -⟩ := readStores_rest s.reachBoundary
  rw [atPorts_carried carried, streams]
  exact reachBoundary_stream s i

theorem boundary_stream {s : State} (io : AudioIn) (loaded : s.loaded = true)
    (carried : ∀ k : Fin 8, s.carrier[k] = true) (i : Fin 32) :
    (s.streams[i] = none → (s.boundary io).streams[i] = none) ∧ ∀ e : StreamEntry, s.streams[i] = some e →
      (e.silence ≤ 1 → (s.boundary io).streams[i] = none) ∧
      (1 < e.silence → (s.boundary io).streams[i] = some (StreamEntry.yield { e with silence := e.silence - 1 }).2) := by
  obtain ⟨empty, each⟩ := (boundary_passes io loaded).stream i
  rw [atPorts_stream carried] at empty each
  refine ⟨fun none => empty (by rw [none]; rfl), fun e stands => ⟨fun ends => ?_, fun goes => ?_⟩⟩
  · rw [each _ (by rw [stands]; rfl)]
    exact if_pos (show e.silence - 1 = 0 by omega)
  · rw [each _ (by rw [stands]; rfl)]
    exact if_neg (show ¬e.silence - 1 = 0 by omega)

end Sys2Proof.Machine
end

section
/-! PROOFS. Station time, timers, levels and yields at a block boundary (00 section 5, R156 to R158, R172). -/

namespace Sys2Proof.Machine

/-! ### Energy and running level (R172) -/

theorem energy_eq (b : Block) : energy b = (b.toList.map fun x => x.toInt.natAbs).sum / 16 := by
  have summed (l : List Sample) (a : Nat) :
      l.foldl (fun a x => a + magnitude x) a = a + (l.map fun x => x.toInt.natAbs).sum := by
    induction l generalizing a with
    | nil => simp
    | cons x l ih =>
      rw [List.foldl_cons, ih, List.map_cons, List.sum_cons, magnitude]
      omega
  rw [energy, summed, Nat.zero_add]

theorem energy_le (b : Block) : energy b ≤ 32768 := by
  have bound : ∀ n ∈ b.toList.map fun x => x.toInt.natAbs, n ≤ 32768 := by
    intro n hn
    obtain ⟨x, -, rfl⟩ := List.mem_map.mp hn
    have low := BitVec.le_toInt x
    have high := BitVec.toInt_lt (x := x)
    omega
  have total := List.sum_le_card_nsmul _ _ bound
  rw [energy_eq]
  simp only [List.length_map, Vector.length_toList, smul_eq_mul] at total
  omega

theorem levelAfter_eq (l : Nat) (b : Block) :
    levelAfter l b = if energy b ≥ l then l + (energy b - l + 3) / 4 else l - (l - energy b) / 8 := rfl

theorem levelAfter_follows (l : Nat) (b : Block) :
    (l ≤ energy b → levelAfter l b = l + (energy b - l + 3) / 4) ∧
    (energy b < l → levelAfter l b = l - (l - energy b) / 8) ∧
    (l < energy b → l < levelAfter l b) ∧ (l ≤ energy b → levelAfter l b ≤ energy b) ∧
    (energy b < l → energy b ≤ levelAfter l b) ∧ (energy b ≤ l → l < energy b + 8 → levelAfter l b = l) ∧
    (l ≤ 32768 → levelAfter l b ≤ 32768) := by
  have loudest := energy_le b
  rw [levelAfter_eq]
  generalize energy b = e at loudest
  split <;> omega

theorem levelAfter_silence (l : Nat) (loud : 8 ≤ l) : levelAfter l Block.silence < l := by
  have falls := (levelAfter_follows l Block.silence).2.1
  have quiet : energy Block.silence = 0 := by decide
  rw [quiet] at falls
  rw [falls (by omega)]
  omega

theorem yield_level (e : StreamEntry) : e.yield.2.level = levelAfter e.level e.yield.2.lastBlock := by
  unfold StreamEntry.yield
  dsimp only
  split
  · rfl
  · rfl
  · rfl
  · split <;> rfl

theorem localLevel_new {s : State} {p : Port} (new : ∀ e ∈ s.localLevels, e.1 ≠ p) : s.localLevel p = 0 := by
  have none : s.localLevels.find? (fun e => e.1 == p) = none :=
    List.find?_eq_none.mpr fun e he => by simpa using new e he
  rw [State.localLevel, none]

theorem localBlock_far (s : State) (io : AudioIn) (k : Fin 8) {r : LineRecord} (stands : s.records[k] = some r)
    (busy : r.state = .engaged ∨ r.state = .held) : s.localBlock io (.linePort k) = (s.ports[k]).lastBlock := by
  show s.farBlock k = _
  unfold State.farBlock
  rw [stands]
  exact if_pos busy

theorem localLevels_eq (io : AudioIn) (u : State) : (u.updateLocalLevels io).localLevels =
    u.allLocalSources.map fun p => (p, levelAfter (u.localLevel p) (u.localBlock io p)) := rfl

theorem yieldStreams_localLevel (u : State) (p : Port) : u.yieldStreams.localLevel p = u.localLevel p := by
  unfold State.localLevel
  rw [yieldStreams_alike]

theorem yieldStreams_localBlock (u : State) (io : AudioIn) (p : Port) :
    u.yieldStreams.localBlock io p = u.localBlock io p := by
  unfold State.localBlock State.farBlock
  rw [yieldStreams_alike]

/-- The levels that a boundary leaves for the local sources. -/
theorem updateLocalLevels_each (io : AudioIn) (u : State) : ∀ x ∈ ((u.yieldStreams).updateLocalLevels io).localLevels,
    x.2 = levelAfter (u.localLevel x.1) (u.localBlock io x.1) := by
  intro x hx
  rw [localLevels_eq] at hx
  obtain ⟨p, -, rfl⟩ := List.mem_map.mp hx
  exact congrArg₂ levelAfter (yieldStreams_localLevel u p) (yieldStreams_localBlock u io p)

/-- The fields of a base, each by its name. -/
theorem base_fields {t : State} {b : Base} (same : t.base = b) : t.peers = b.peers ∧ t.slots = b.slots ∧
    t.stationTime = b.stationTime ∧ t.localLevels = b.localLevels := by
  subst same
  exact ⟨rfl, rfl, rfl, rfl⟩

theorem boundary_levels {s : State} (io : AudioIn) (loaded : s.loaded = true) :
    ∀ x ∈ (s.boundary io).localLevels, x.2 = levelAfter (s.localLevel x.1) (s.atPorts.localBlock io x.1) := by
  have levels := (boundary_passes io loaded).levels
  obtain ⟨-, -, -, same⟩ := base_fields (atPorts_base s)
  have before (p : Port) : s.atPorts.localLevel p = s.localLevel p := by
    unfold State.localLevel
    rw [same]
    rfl
  generalize (s.boundary io).localLevels = l at levels
  intro x hx
  rw [levels] at hx
  rw [updateLocalLevels_each io s.atPorts x hx, before]

/-- Settles O13, by the arithmetic of the level and the order of a boundary's stages. -/
theorem levelsFollowTheEnergy : Obligations.LevelsFollowTheEnergy := by
  unfold Obligations.LevelsFollowTheEnergy
  refine ⟨fun b => ⟨energy_eq b, energy_le b⟩, levelAfter_follows, levelAfter_silence, fun _ _ _ _ => rfl,
    fun s p new => localLevel_new new, yield_level,
    fun s io h k => ⟨rfl, fun r stands busy => localBlock_far s io k stands busy⟩, fun s m io loaded at_ports => ?_⟩
  rw [← atPorts_eq] at at_ports
  subst at_ports
  exact ⟨s.boundary io, rfl, boundary_levels io loaded,
    fun i e stands => ((boundary_passes io loaded).stream i).2 e stands⟩

/-! ### Time and timers -/

/-- The timers of a station without a line event at a boundary. -/
theorem boundary_timers {s : State} (io : AudioIn) (loaded : s.loaded = true)
    (carried : ∀ k : Fin 8, s.carrier[k] = true) :
    (s.boundary io).records = s.reachBoundary.records ∧ (s.boundary io).mirrors = s.reachBoundary.mirrors ∧
    (s.boundary io).pendingAsks = s.reachBoundary.pendingAsks ∧
    (∀ k : Fin 8, ((s.boundary io).channels[k]).wait = (s.reachBoundary.channels[k]).wait) ∧
    s.reachBoundary.txQueue.Sublist (s.boundary io).txQueue := by
  have passes := boundary_passes io loaded
  obtain ⟨-, records, mirrors, asks, -, channels, -, queue, -⟩ := readStores_rest s.reachBoundary
  have queued := passes.queue
  rw [atPorts_carried carried] at passes queued
  rw [queue] at queued
  refine ⟨passes.records.trans records, passes.mirrors.trans mirrors, passes.pendingAsks.trans asks, fun k => ?_, queued⟩
  rw [passes.channels k, channels]

theorem boundary_unloaded {s : State} (io : AudioIn) (unloaded : s.loaded = false) : s.boundary io = s.reachBoundary :=
  if_neg (by rw [unloaded]; exact Bool.false_ne_true)

theorem reachBoundary_tables (s : State) :
    (∀ p : Fin 64, s.reachBoundary.peers[p] = { s.peers[p] with silence := (s.peers[p]).silence.map (· - 1) }) ∧
    (∀ i : Fin 4, s.reachBoundary.slots[i] = { s.slots[i] with timer := (s.slots[i]).timer.map (· - 1) }) ∧
    ∀ k : Fin 8, (s.reachBoundary.channels[k]).wait =
      (s.channels[k]).wait.map fun w => { w with timer := w.timer - 1 } := by
  have peers : s.reachBoundary.peers = mapTable s.peers fun _ p => { p with silence := p.silence.tick } := rfl
  have slots : s.reachBoundary.slots = mapTable s.slots fun _ x => { x with timer := x.timer.tick } := rfl
  have channels : s.reachBoundary.channels = mapTable s.channels fun _ c =>
      { c with wait := c.wait.map fun w => { w with timer := w.timer - 1 } } := rfl
  rw [peers, slots, channels]
  exact ⟨fun p => mapTable_get .., fun i => mapTable_get .., fun k => by rw [mapTable_get]⟩

/-- Settles O39, by the timers that a boundary moves and what its later stages leave. -/
theorem boundaryMovesTimeAndTimers : Obligations.BoundaryMovesTimeAndTimers := by
  unfold Obligations.BoundaryMovesTimeAndTimers
  intro s io
  have base := boundary_base io s
  obtain ⟨peers, slots, time, -⟩ := base_fields base
  have peers : (s.boundary io).peers = s.reachBoundary.peers := peers
  have slots : (s.boundary io).slots = s.reachBoundary.slots := slots
  have time : (s.boundary io).stationTime = nextBoundary s.stationTime := time
  obtain ⟨peerTimers, slotTimers, waits⟩ := reachBoundary_tables s
  refine ⟨s.boundary io, rfl, ?_, by rw [time]; exact nextBoundary_phase _, fun p => ?_, fun i => ?_, fun unloaded => ?_,
    fun loaded carried => ⟨fun k r stands => ?_, ?_, ?_, fun k => ?_, fun i e stands => ?_, ?_⟩⟩
  · rw [peers, slots, base, reachBoundary_base]
    rfl
  · rw [peers]
    exact peerTimers p
  · rw [slots]
    exact slotTimers i
  · rw [boundary_unloaded io unloaded]
    exact ⟨rfl, rfl, rfl, rfl, rfl, rfl, rfl, rfl, rfl, rfl, rfl, rfl⟩
  · rw [(boundary_timers io loaded carried).1, reachBoundary_records, stands]
    rfl
  · exact (boundary_timers io loaded carried).2.1
  · exact (boundary_timers io loaded carried).2.2.1
  · obtain ⟨-, -, -, kept, -⟩ := boundary_timers io loaded carried
    rw [kept k]
    exact waits k
  · obtain ⟨ends, goes⟩ := (boundary_stream io loaded carried i).2 e stands
    refine ⟨ends, fun long => ⟨_, goes long, ?_⟩⟩
    obtain ⟨_, _, _, _, _, fields⟩ := yield_fields { e with silence := e.silence - 1 }
    rw [fields]
    exact ⟨rfl, rfl, rfl, rfl⟩
  · obtain ⟨-, -, -, -, queued⟩ := boundary_timers io loaded carried
    exact queued

/-! ### Yields (R156 to R158) -/

/-- The silence timer plays no part in a yield. -/
theorem yield_ticked (e : StreamEntry) (n : Nat) :
    StreamEntry.yield { e with silence := n } = (e.yield.1, { e.yield.2 with silence := n }) := by
  unfold StreamEntry.yield
  dsimp only
  split
  · rfl
  · rfl
  · rfl
  · split <;> rfl

theorem yield_concealed (e : StreamEntry) :
    (e.yield.1 == .concealed) = (e.playing && e.queue.isEmpty && decide (e.concealed ≤ 1)) := by
  unfold StreamEntry.yield
  dsimp only
  split
  · next playing _ => rw [playing]; rfl
  · next playing _ => rw [playing]; rfl
  · next playing queue => rw [queue, List.isEmpty_cons, Bool.and_false]; rfl
  · next playing queue =>
    rw [playing, queue]
    split
    · next few => rw [decide_eq_true (by omega : e.concealed ≤ 1)]; rfl
    · next many => rw [decide_eq_false (by omega : ¬e.concealed ≤ 1)]; rfl

/-- What an entry yields, with its key (R158). -/
def StreamEntry.yielded (e : StreamEntry) : Yielded :=
  ⟨e.circuit, e.party, e.yield.1, e.yield.2.lastBlock, e.yield.2.level⟩

theorem yields_eq (u : State) : u.yields = u.streams.toList.filterMap fun e => e.map StreamEntry.yielded := rfl

theorem yielded_ticked (e : StreamEntry) (n : Nat) : StreamEntry.yielded { e with silence := n } = e.yielded := by
  unfold StreamEntry.yielded
  rw [yield_ticked]

/-- With carrier on every port the yields are those of the table as it stands. -/
theorem boundaryYields_carried {s : State} (carried : ∀ k : Fin 8, s.carrier[k] = true) : s.boundaryYields = s.yields := by
  have table : s.atPorts.streams = mapTable s.streams fun _ e => e.map fun x => { x with silence := x.silence - 1 } := by
    refine Vector.ext fun i hi => ?_
    exact (atPorts_stream carried ⟨i, hi⟩).trans
      (mapTable_get s.streams (fun _ e => e.map fun x => { x with silence := x.silence - 1 }) ⟨i, hi⟩).symm
  have listed (v : Vector (Option StreamEntry) 32) (f : Option StreamEntry → Option StreamEntry) :
      (mapTable v fun _ e => f e).toList = v.toList.map f := by
    refine List.ext_getElem (by simp) fun i hi _ => ?_
    simp [mapTable]
  rw [boundaryYields_eq, yields_eq, yields_eq, table, listed, List.filterMap_map]
  refine congrArg (fun f => List.filterMap f s.streams.toList) (funext fun e => ?_)
  cases e with
  | none => rfl
  | some x => exact congrArg some (yielded_ticked x _)

/-- The concealed blocks of a table (R156). -/
theorem concealed_count (l : List (Option StreamEntry)) (q : Option StreamEntry → Bool) (none : q none = false)
    (each : ∀ e : StreamEntry, q (some e) = (e.playing && e.queue.isEmpty && decide (e.concealed ≤ 1))) :
    ((l.filterMap fun e => e.map StreamEntry.yielded).filter fun y => y.kind == .concealed).length = l.countP q := by
  induction l with
  | nil => rfl
  | cons x l ih =>
    cases x with
    | none => rw [List.filterMap_cons_none rfl, List.countP_cons_of_neg (by rw [none]; exact Bool.false_ne_true), ih]
    | some e =>
      have first : (some e :: l).filterMap (fun e => e.map StreamEntry.yielded) =
          e.yielded :: l.filterMap fun e => e.map StreamEntry.yielded := rfl
      have judged : (e.yielded.kind == .concealed) = q (some e) := (yield_concealed e).trans (each e).symm
      rw [first, List.filter_cons, List.countP_cons, ← ih, judged]
      cases q (some e) <;> rfl

/-- A PLAYING entry without a block (R156, R157). -/
theorem yield_dry {e : StreamEntry} (playing : e.playing = true) (dry : e.queue = []) : e.yield =
    if e.concealed < 2 then (.concealed, { e with
      concealed := e.concealed + 1, lastBlock := halveBlock e.lastBlock, level := levelAfter e.level (halveBlock e.lastBlock) })
    else (.silent, { e with
      playing := false, concealed := 0, lastBlock := Block.silence, level := levelAfter e.level Block.silence }) := by
  unfold StreamEntry.yield
  dsimp only
  rw [playing, dry]

theorem yield_cases (e : StreamEntry) (next : StreamEntry → Block → StreamEntry)
    (hnext : next = fun x b => { x with lastBlock := b, level := levelAfter e.level b }) :
    (e.playing = false → e.queue.length ≤ 1 → e.yield = (.silent, next e Block.silence)) ∧
    (∀ (x : Octet × Block) (rest : List (Octet × Block)), e.queue = x :: rest → e.playing = true ∨ rest ≠ [] →
      e.yield = (.real, next { e with playing := true, queue := rest, concealed := 0 } x.2)) ∧
    (e.playing = true → e.queue = [] → e.concealed ≤ 1 → ∃ b : Block,
      (∀ i : Fin 16, (b[i]).toInt = (e.lastBlock[i]).toInt / 2) ∧
      e.yield = (.concealed, next { e with concealed := e.concealed + 1 } b)) ∧
    (e.playing = true → e.queue = [] → 2 ≤ e.concealed →
      e.yield = (.silent, next { e with playing := false, concealed := 0 } Block.silence)) := by
  subst hnext
  refine ⟨fun filling short => ?_, fun x rest queue some => ?_, fun playing dry few => ?_, fun playing dry many => ?_⟩
  · unfold StreamEntry.yield
    dsimp only
    rw [filling]
    match queue : e.queue, short with
    | [], _ => rfl
    | [x], _ => rfl
  · unfold StreamEntry.yield
    dsimp only
    rw [queue]
    cases playing : e.playing with
    | true => rfl
    | false =>
      obtain ⟨y, t, rfl⟩ := List.exists_cons_of_ne_nil (some.resolve_left (by rw [playing]; exact Bool.false_ne_true))
      rfl
  · rw [yield_dry playing dry, if_pos (by omega)]
    exact ⟨halveBlock e.lastBlock, halveBlock_toInt e.lastBlock, rfl⟩
  · rw [yield_dry playing dry, if_neg (by omega)]

/-- Settles O45, by the cases of a yield and the table that a boundary leaves. -/
theorem streamsYieldAtABoundary : Obligations.StreamsYieldAtABoundary := by
  unfold Obligations.StreamsYieldAtABoundary
  refine ⟨yield_cases, fun s io loaded carried => ⟨s.boundary io, rfl, ?_, fun i => ⟨?_, fun e stands => ⟨?_, fun long => ?_⟩⟩⟩⟩
  · have before : s.atPorts.live.underruns = s.live.underruns := by
      obtain ⟨-, -, -, -, -, -, -, -, -, underruns⟩ := readStores_rest s.reachBoundary
      rw [atPorts_carried carried, underruns]
      rfl
    rw [(boundary_passes io loaded).underruns, before, ← boundaryYields_eq, boundaryYields_carried carried, yields_eq]
    exact congrArg _ (concealed_count _ _ rfl fun _ => rfl)
  · exact (boundary_stream io loaded carried i).1
  · rw [boundaryYields_carried carried, yields_eq]
    refine List.mem_filterMap.mpr ⟨s.streams[i], ?_, by rw [stands]; rfl⟩
    rw [Vector.mem_toList_iff]
    exact Vector.getElem_mem i.isLt
  · rw [((boundary_stream io loaded carried i).2 e stands).2 long, yield_ticked]

end Sys2Proof.Machine
end

section
/-! PROOFS. The mixes of a boundary as clamped sums (R162 to R173). -/

namespace Sys2Proof.Machine

/-! ### Sums and clamps (R164) -/

theorem clampInt_eq (x : Int) : clampInt x = if x < -32768 then -32768 else if 32767 < x then 32767 else x := by
  unfold clampInt
  split
  · omega
  · split <;> omega

theorem clampInt_range (x : Int) : -32768 ≤ clampInt x ∧ clampInt x ≤ 32767 := by
  unfold clampInt
  omega

theorem clampInt_sample (x : Sample) : clampInt x.toInt = x.toInt := by
  have low := BitVec.le_toInt x
  have high := BitVec.toInt_lt (x := x)
  unfold clampInt
  omega

theorem ofInt_clampInt (x : Int) : (BitVec.ofInt 16 (clampInt x)).toInt = clampInt x := by
  have range := clampInt_range x
  refine BitVec.toInt_ofInt_eq_self (by omega) ?_ ?_ <;> omega

theorem sum_foldl {α : Type} (f : α → Int) (l : List α) : l.foldl (fun a b => a + f b) 0 = (l.map f).sum := by
  have all (a : Int) : l.foldl (fun a b => a + f b) a = a + (l.map f).sum := by
    induction l generalizing a with
    | nil => simp
    | cons x l ih =>
      rw [List.foldl_cons, ih, List.map_cons, List.sum_cons]
      omega
  rw [all 0, Int.zero_add]

theorem sumBlocks_at (bs : List Block) (i : Fin 16) : (sumBlocks bs)[i] = (bs.map fun b => (b[i]).toInt).sum := by
  rw [sumBlocks, Fin.getElem_fin, Vector.getElem_ofFn]
  exact sum_foldl (fun b : Block => (b[i]).toInt) bs

theorem sumScaled_at (bs : List (Block × Nat)) (i : Fin 16) :
    (sumScaled bs)[i] = (bs.map fun b => scale (b.1[i]).toInt b.2).sum := by
  rw [sumScaled, Fin.getElem_fin, Vector.getElem_ofFn]
  exact sum_foldl (fun b : Block × Nat => scale (b.1[i]).toInt b.2) bs

theorem clampAll_at (t : Totals) (i : Fin 16) : (clampAll t)[i] = BitVec.ofInt 16 (clampInt t[i]) := mapTable_get ..

theorem clampAll_toInt (t : Totals) (i : Fin 16) : ((clampAll t)[i]).toInt = clampInt t[i] := by
  rw [clampAll_at, ofInt_clampInt]

/-- Two blocks with the same sample values. -/
theorem block_ext {a b : Block} (same : ∀ i : Fin 16, (a[i]).toInt = (b[i]).toInt) : a = b :=
  Vector.ext fun i hi => BitVec.eq_of_toInt_eq (same ⟨i, hi⟩)

theorem clampAll_silent {t : Totals} (zero : ∀ i : Fin 16, t[i] = 0) : clampAll t = Block.silence := by
  refine block_ext fun i => ?_
  rw [clampAll_toInt, zero, Block.silence, Fin.getElem_fin, Vector.getElem_replicate]
  rfl

/-- A mix of one block is that block. -/
theorem clampAll_single (b : Block) : clampAll (sumBlocks [b]) = b := by
  refine block_ext fun i => ?_
  rw [clampAll_toInt, sumBlocks_at, List.map_cons, List.map_nil, List.sum_cons, List.sum_nil, Int.add_zero,
    clampInt_sample]

theorem clips_iff (x : Int) : clips x = true ↔ clampInt x ≠ x := by
  rw [clips, Bool.or_eq_true, decide_eq_true_iff, decide_eq_true_iff]
  unfold clampInt
  omega

theorem anyClip_iff (t : Totals) : anyClip t = true ↔ ∃ i : Fin 16, clampInt t[i] ≠ t[i] := by
  rw [anyClip, List.any_eq_true]
  constructor
  · rintro ⟨x, hx, clipped⟩
    obtain ⟨i, hi, rfl⟩ := List.getElem_of_mem hx
    exact ⟨⟨i, by simpa using hi⟩, (clips_iff _).mp clipped⟩
  · rintro ⟨i, changes⟩
    exact ⟨t[i], by rw [Vector.mem_toList_iff]; exact Vector.getElem_mem i.isLt, (clips_iff _).mpr changes⟩

/-- A count raised where a Bool holds, by the proposition it decides. -/
theorem count_if {n : Count} {b : Bool} {p : Prop} [Decidable p] (same : b = true ↔ p) :
    n.add (if b = true then 1 else 0) = n.add (if p then 1 else 0) := by
  by_cases h : p
  · rw [if_pos h, if_pos (same.mpr h)]
  · rw [if_neg h, if_neg fun hb => h (same.mp hb)]

/-! ### Sources (R165) -/

theorem farBlock_eq {s : State} {k : Fin 8} {r : LineRecord} (stands : s.records[k] = some r) : s.farBlock k =
    if r.state = .engaged ∨ r.state = .held then (s.ports[k]).lastBlock else Block.silence := by
  unfold State.farBlock
  rw [stands]

theorem sourceBlock_handset (s : State) (io : AudioIn) (ys : List Yielded) (c : Circuit) (h : Fin 2) :
    s.sourceBlock io ys c (s.own (.handset h)) =
      if (s.handsets[h]).onHook = true ∨ (s.handsets[h]).muted = true then Block.silence else io.mouthpiece[h] := by
  have own : s.sourceBlock io ys c (s.own (.handset h)) = s.mouthpiece io h := if_pos rfl
  rw [own, State.mouthpiece]
  exact if_congr Bool.or_eq_true_iff rfl rfl

theorem sourceBlock_far (s : State) (io : AudioIn) (ys : List Yielded) (c : Circuit) (k : Fin 8) :
    s.sourceBlock io ys c (s.own (.linePort k)) = s.farBlock k := if_pos rfl

theorem sourceBlock_remote (s : State) (io : AudioIn) (ys : List Yielded) (c : Circuit) {p : Party}
    (remote : p.station ≠ s.cfg.station) : s.sourceBlock io ys c p = blockOf ys c p := if_neg remote

theorem blockOf_missing {ys : List Yielded} {c : Circuit} {p : Party}
    (missing : ∀ y ∈ ys, y.circuit = c → y.party ≠ p) : blockOf ys c p = Block.silence := by
  have none : ys.find? (fun y => y.circuit == c && y.party == p) = none := by
    refine List.find?_eq_none.mpr fun y hy found => ?_
    rw [Bool.and_eq_true, beq_iff_eq, beq_iff_eq] at found
    exact missing y hy found.1 found.2
  rw [blockOf, none]

theorem blockOf_first {pre post : List Yielded} {y : Yielded} {c : Circuit} {p : Party} (circuit : y.circuit = c)
    (party : y.party = p) (first : ∀ z ∈ pre, z.circuit = c → z.party ≠ p) : blockOf (pre ++ y :: post) c p = y.block := by
  have before : pre.find? (fun y => y.circuit == c && y.party == p) = none := by
    refine List.find?_eq_none.mpr fun z hz found => ?_
    rw [Bool.and_eq_true, beq_iff_eq, beq_iff_eq] at found
    exact first z hz found.1 found.2
  have some : (pre ++ y :: post).find? (fun y => y.circuit == c && y.party == p) = some y := by
    rw [List.find?_append, before, Option.none_or]
    exact List.find?_cons_of_pos (by rw [circuit, party, beq_self_eq_true, beq_self_eq_true]; rfl)
  rw [blockOf, some]

/-! ### Lines (R166) -/

theorem activeSet_eq {s : State} {k : Fin 8} {r : LineRecord} (stands : s.records[k] = some r) : s.activeSet k =
    if r.state = .engaged then (r.members.filter fun m => m.mode == .active).map (·.party) else [] := by
  unfold State.activeSet
  rw [stands]

theorem mix_line (s : State) (io : AudioIn) (ys : List Yielded) (k : Fin 8) : (s.mix io ys).lineOut[k] =
      (if s.used k then clampAll (s.lineTotals io ys k) else s.lineOut[k]) ∧
    (s.mix io ys).live.clipsLine[k] =
      (s.live.clipsLine[k]).add (if (s.used k && anyClip (s.lineTotals io ys k)) = true then 1 else 0) := by
  have out : (s.mix io ys).lineOut =
      mapTable s.lineOut fun k b => if s.used k then clampAll (s.lineTotals io ys k) else b := rfl
  have clipped : (s.mix io ys).live.clipsLine = mapTable s.live.clipsLine fun k n =>
      n.add (if s.used k && anyClip (s.lineTotals io ys k) then 1 else 0) := rfl
  rw [out, clipped, mapTable_get, mapTable_get]
  exact ⟨rfl, rfl⟩

theorem lineTotals_idle {s : State} (io : AudioIn) (ys : List Yielded) {k : Fin 8} (idle : s.activeSet k = []) :
    (∀ i : Fin 16, (s.lineTotals io ys k)[i] = 0) ∧ anyClip (s.lineTotals io ys k) = false := by
  have zero (i : Fin 16) : (s.lineTotals io ys k)[i] = 0 := by
    rw [State.lineTotals, idle, sumBlocks_at]
    rfl
  refine ⟨zero, Bool.eq_false_iff.mpr fun clipped => ?_⟩
  obtain ⟨i, changes⟩ := (anyClip_iff _).mp clipped
  rw [zero i] at changes
  exact changes rfl

theorem line_mixed (s : State) (io : AudioIn) (ys : List Yielded) (k : Fin 8) :
    (s.used k = false → (s.mix io ys).lineOut[k] = s.lineOut[k] ∧
      (s.mix io ys).live.clipsLine[k] = s.live.clipsLine[k]) ∧
    (s.used k = true → ∀ r : LineRecord, s.records[k] = some r →
      (r.state ≠ .engaged → (s.mix io ys).lineOut[k] = Block.silence ∧
        (s.mix io ys).live.clipsLine[k] = s.live.clipsLine[k]) ∧
      (r.state = .engaged → ∀ total : Fin 16 → Int,
        (∀ i : Fin 16, total i = ((r.members.filter fun m => m.mode == .active).map fun m =>
          ((s.sourceBlock io ys (.line (s.portCfg k).line) m.party)[i]).toInt).sum) →
        (∀ i : Fin 16, (((s.mix io ys).lineOut[k])[i]).toInt = clampInt (total i)) ∧
        (s.mix io ys).live.clipsLine[k] =
          (s.live.clipsLine[k]).add (if ∃ i : Fin 16, clampInt (total i) ≠ total i then 1 else 0))) := by
  obtain ⟨out, clipped⟩ := mix_line s io ys k
  rw [out, clipped]
  refine ⟨fun unused => ?_, fun used r stands => ⟨fun idle => ?_, fun engaged total sums => ?_⟩⟩
  · rw [unused]
    exact ⟨rfl, count_zero _⟩
  · obtain ⟨zero, unclipped⟩ := lineTotals_idle io ys ((activeSet_eq stands).trans (if_neg idle))
    rw [used, unclipped, if_pos rfl, clampAll_silent zero]
    exact ⟨rfl, count_zero _⟩
  · have totals (i : Fin 16) : (s.lineTotals io ys k)[i] = total i := by
      rw [State.lineTotals, activeSet_eq stands, if_pos engaged, sumBlocks_at, sums i, List.map_map, List.map_map]
      rfl
    rw [used, if_pos rfl]
    refine ⟨fun i => by rw [clampAll_toInt, totals], count_if ?_⟩
    rw [Bool.true_and, anyClip_iff]
    exact exists_congr fun i => by rw [totals]

/-! ### Bindings and earpieces (R167, R168) -/

theorem bindingSources_home {s : State} (ys : List Yielded) (h : Fin 2) {n : LineNo} {k : Fin 8}
    (home : s.homeOf n = some s.cfg.station) (record : s.recordFor n = some k) :
    s.bindingSources ys h (.line n) = (ys.filter fun y => y.circuit == .line n).map (·.block) ++ [s.farBlock k] := by
  unfold State.bindingSources
  dsimp only
  rw [home, record]
  dsimp only
  rw [if_pos rfl]

theorem bindingSources_away {s : State} (ys : List Yielded) (h : Fin 2) {n : LineNo}
    (away : s.homeOf n ≠ some s.cfg.station ∨ s.recordFor n = none) :
    s.bindingSources ys h (.line n) = (ys.filter fun y => y.circuit == .line n).map (·.block) := by
  have none : s.bindingSources ys h (.line n) = (ys.filter fun y => y.circuit == .line n).map (·.block) ++ [] := by
    unfold State.bindingSources
    dsimp only
    refine congrArg _ ?_
    cases home : s.homeOf n with
    | none => rfl
    | some st =>
      cases record : s.recordFor n with
      | none => rfl
      | some k =>
        refine if_neg fun own => ?_
        rcases away with h | h
        · exact h (home.trans (congrArg some own))
        · exact Option.some_ne_none k (record.symm.trans h)
  rw [none, List.append_nil]

theorem bindingMix_line (s : State) (ys : List Yielded) (h : Fin 2) (n : LineNo) (i : Fin 16) :
    (∀ k : Fin 8, s.homeOf n = some s.cfg.station → s.recordFor n = some k → ((s.bindingMix ys h (.line n))[i]).toInt =
      clampInt (((ys.filter fun y => y.circuit == .line n).map fun y => (y.block[i]).toInt).sum + ((s.farBlock k)[i]).toInt)) ∧
    (s.homeOf n ≠ some s.cfg.station ∨ s.recordFor n = none → ((s.bindingMix ys h (.line n))[i]).toInt =
      clampInt (((ys.filter fun y => y.circuit == .line n).map fun y => (y.block[i]).toInt).sum + 0)) := by
  rw [State.bindingMix, clampAll_toInt, sumBlocks_at]
  refine ⟨fun k home record => ?_, fun away => ?_⟩
  · rw [bindingSources_home ys h home record, List.map_append, List.sum_append, List.map_map, List.map_cons, List.map_nil,
      List.sum_cons, List.sum_nil, Int.add_zero]
    rfl
  · rw [bindingSources_away ys h away, List.map_map, Int.add_zero]
    rfl

theorem bindingMix_call {s : State} (ys : List Yielded) {h : Fin 2} {n : Nat} {j : Fin 4} {p : Party}
    (slot : s.slotOfBinding h (.call n) = some j) (peer : (s.slots[j]).peer = some p) :
    s.bindingMix ys h (.call n) = blockOf ys (.call n) p := by
  have sources : s.bindingSources ys h (.call n) = [blockOf ys (.call n) p] := by
    unfold State.bindingSources
    rw [slot]
    dsimp only
    rw [peer]
  rw [State.bindingMix, sources, clampAll_single]

theorem mix_earpiece (s : State) (io : AudioIn) (ys : List Yielded) (h : Fin 2) :
    (s.mix io ys).earpieceOut[h] = (s.earpiece io ys h).1 ∧
    (s.mix io ys).live.clipsHandset[h] =
      (s.live.clipsHandset[h]).add (if (s.earpiece io ys h).2 = true then 1 else 0) := by
  have out : (s.mix io ys).earpieceOut = mapTable s.earpieceOut fun h _ => (s.earpiece io ys h).1 := rfl
  have clipped : (s.mix io ys).live.clipsHandset = mapTable s.live.clipsHandset fun h n =>
      n.add (if (s.earpiece io ys h).2 then 1 else 0) := rfl
  rw [out, clipped, mapTable_get, mapTable_get]
  exact ⟨rfl, rfl⟩

theorem earpieceTotals_at (s : State) (io : AudioIn) (ys : List Yielded) (h : Fin 2) (i : Fin 16) :
    (s.earpieceTotals io ys h)[i] = scale (clampInt (((s.handsets[h]).bindings.map fun b =>
      scale ((s.bindingMix ys h b.circuit)[i]).toInt b.balance).sum +
      scale ((io.mouthpiece[h])[i]).toInt s.cfg.sidetone)) (s.handsets[h]).volume := by
  unfold State.earpieceTotals
  dsimp only
  rw [sumScaled_at, List.map_cons, List.map_nil, List.sum_cons, List.sum_nil, Int.add_zero]
  dsimp only
  rw [clampAll_toInt, sumScaled_at, List.map_append, List.sum_append, List.map_map, List.map_cons, List.map_nil,
    List.sum_cons, List.sum_nil, Int.add_zero]
  rfl

theorem earpiece_mixed (s : State) (io : AudioIn) (ys : List Yielded) (h : Fin 2) :
    ((s.handsets[h]).onHook = true → (s.mix io ys).earpieceOut[h] = Block.silence ∧
      (s.mix io ys).live.clipsHandset[h] = s.live.clipsHandset[h]) ∧
    ((s.handsets[h]).onHook = false → ∀ out : Fin 16 → Int,
      (∀ i : Fin 16, out i = scale (clampInt (((s.handsets[h]).bindings.map fun b =>
        scale ((s.bindingMix ys h b.circuit)[i]).toInt b.balance).sum +
        scale ((io.mouthpiece[h])[i]).toInt s.cfg.sidetone)) (s.handsets[h]).volume) →
      (∀ i : Fin 16, (((s.mix io ys).earpieceOut[h])[i]).toInt = clampInt (out i)) ∧
      (s.mix io ys).live.clipsHandset[h] =
        (s.live.clipsHandset[h]).add (if ∃ i : Fin 16, clampInt (out i) ≠ out i then 1 else 0)) := by
  obtain ⟨ear, clipped⟩ := mix_earpiece s io ys h
  rw [ear, clipped]
  unfold State.earpiece
  refine ⟨fun hook => ?_, fun hook out sums => ?_⟩
  · rw [hook]
    exact ⟨rfl, count_zero _⟩
  · have totals (i : Fin 16) : (s.earpieceTotals io ys h)[i] = out i := (earpieceTotals_at ..).trans (sums i).symm
    rw [hook, if_neg Bool.false_ne_true]
    refine ⟨fun i => by rw [clampAll_toInt, totals], count_if ?_⟩
    rw [anyClip_iff]
    exact exists_congr fun i => by rw [totals]

/-! ### Speakers (R169) -/

theorem channelSum_at {s : State} (io : AudioIn) (ys : List Yielded) {k : Fin 8} {c : Circuit}
    (bound : (s.channels[k]).binding.circuit = some c) (i : Fin 16) : ((s.channelSum io ys k)[i]).toInt =
      clampInt ((s.channels[k]).talkers.map fun x => ((s.sourceBlock io ys c x.party)[i]).toInt).sum := by
  unfold State.channelSum State.channelCircuit
  rw [bound]
  dsimp only
  rw [clampAll_toInt, sumBlocks_at, List.map_map]
  rfl

theorem outputChannels_eq (s : State) (o : Fin 2) : s.outputChannels o = allPorts.filter fun k =>
    decide ((s.channels[k]).output = o) && !(s.channels[k]).muted && decide ((s.channels[k]).binding ≠ .unbound) := by
  unfold State.outputChannels
  congr 1
  funext k
  rw [Bool.beq_eq_decide_eq, bne, Bool.beq_eq_decide_eq, decide_not]

theorem ducks_iff (s : State) (o : Fin 2) :
    s.ducks o = true ↔ ∃ k : Fin 8, s.talk = some k ∧ (s.channels[k]).output = o := by
  unfold State.ducks
  cases s.talk with
  | none => exact ⟨fun h => absurd h Bool.false_ne_true, fun ⟨_, h, _⟩ => (Option.some_ne_none _ h.symm).elim⟩
  | some k =>
    exact ⟨fun h => ⟨k, rfl, beq_iff_eq.mp h⟩, fun ⟨_, h, out⟩ => beq_iff_eq.mpr (Option.some.inj h ▸ out)⟩

theorem mix_speaker (s : State) (io : AudioIn) (ys : List Yielded) (o : Fin 2) :
    (s.mix io ys).speakerOut[o] = (s.speaker io ys o).1 ∧
    (s.mix io ys).live.clipsSpeaker[o] =
      (s.live.clipsSpeaker[o]).add (if (s.speaker io ys o).2 = true then 1 else 0) := by
  have out : (s.mix io ys).speakerOut = mapTable s.speakerOut fun o _ => (s.speaker io ys o).1 := rfl
  have clipped : (s.mix io ys).live.clipsSpeaker = mapTable s.live.clipsSpeaker fun o n =>
      n.add (if (s.speaker io ys o).2 then 1 else 0) := rfl
  rw [out, clipped, mapTable_get, mapTable_get]
  exact ⟨rfl, rfl⟩

/-- The totals of a speaker's master stage (R169). -/
def State.masterTotals (s : State) (io : AudioIn) (ys : List Yielded) (o : Fin 2) : Totals :=
  sumScaled [(clampAll (sumScaled ((s.outputChannels o).map fun k => (s.channelSum io ys k, (s.channels[k]).volume))),
    s.masters[o])]

/-- The totals of its duck stage (R144, R169). -/
def State.duckTotals (s : State) (io : AudioIn) (ys : List Yielded) (o : Fin 2) : Totals :=
  sumScaled [(clampAll (s.masterTotals io ys o), s.cfg.duck)]

theorem speaker_eq (s : State) (io : AudioIn) (ys : List Yielded) (o : Fin 2) : s.speaker io ys o =
    if s.ducks o then (clampAll (s.duckTotals io ys o), anyClip (s.masterTotals io ys o) || anyClip (s.duckTotals io ys o))
    else (clampAll (s.masterTotals io ys o), anyClip (s.masterTotals io ys o)) := rfl

theorem masterTotals_at (s : State) (io : AudioIn) (ys : List Yielded) (o : Fin 2) (i : Fin 16) :
    (s.masterTotals io ys o)[i] = scale (clampInt ((s.outputChannels o).map fun k =>
      scale ((s.channelSum io ys k)[i]).toInt (s.channels[k]).volume).sum) s.masters[o] := by
  unfold State.masterTotals
  rw [sumScaled_at, List.map_cons, List.map_nil, List.sum_cons, List.sum_nil, Int.add_zero]
  dsimp only
  rw [clampAll_toInt, sumScaled_at, List.map_map]
  rfl

theorem duckTotals_at (s : State) (io : AudioIn) (ys : List Yielded) (o : Fin 2) (i : Fin 16) :
    (s.duckTotals io ys o)[i] = scale (clampInt (s.masterTotals io ys o)[i]) s.cfg.duck := by
  unfold State.duckTotals
  rw [sumScaled_at, List.map_cons, List.map_nil, List.sum_cons, List.sum_nil, Int.add_zero]
  dsimp only
  rw [clampAll_toInt]

theorem speaker_mixed (s : State) (io : AudioIn) (ys : List Yielded) (o : Fin 2) (master duck : Fin 16 → Int)
    (ducked : Bool)
    (hmaster : ∀ i : Fin 16, master i = scale (clampInt ((allPorts.filter fun k => decide ((s.channels[k]).output = o) &&
        !(s.channels[k]).muted && decide ((s.channels[k]).binding ≠ .unbound)).map fun k =>
      scale ((s.channelSum io ys k)[i]).toInt (s.channels[k]).volume).sum) s.masters[o])
    (hduck : ∀ i : Fin 16, duck i = scale (clampInt (master i)) s.cfg.duck)
    (hducked : ducked = true ↔ ∃ k : Fin 8, s.talk = some k ∧ (s.channels[k]).output = o) :
    (∀ i : Fin 16, (((s.mix io ys).speakerOut[o])[i]).toInt = clampInt (if ducked then duck i else master i)) ∧
    (s.mix io ys).live.clipsSpeaker[o] = (s.live.clipsSpeaker[o]).add
      (if (∃ i : Fin 16, clampInt (master i) ≠ master i) ∨
        ducked = true ∧ ∃ i : Fin 16, clampInt (duck i) ≠ duck i then 1 else 0) := by
  have masters (i : Fin 16) : (s.masterTotals io ys o)[i] = master i := by
    rw [masterTotals_at, outputChannels_eq, hmaster i]
  have ducks (i : Fin 16) : (s.duckTotals io ys o)[i] = duck i := by rw [duckTotals_at, masters, hduck i]
  have same : s.ducks o = ducked := Bool.eq_iff_iff.mpr ((ducks_iff s o).trans hducked.symm)
  have masterClips : anyClip (s.masterTotals io ys o) = true ↔ ∃ i : Fin 16, clampInt (master i) ≠ master i := by
    rw [anyClip_iff]
    exact exists_congr fun i => by rw [masters]
  have duckClips : anyClip (s.duckTotals io ys o) = true ↔ ∃ i : Fin 16, clampInt (duck i) ≠ duck i := by
    rw [anyClip_iff]
    exact exists_congr fun i => by rw [ducks]
  obtain ⟨out, clipped⟩ := mix_speaker s io ys o
  rw [out, clipped, speaker_eq, same]
  cases ducked with
  | true =>
    refine ⟨fun i => ?_, count_if ?_⟩
    · rw [if_pos rfl, if_pos rfl, clampAll_toInt, ducks]
    · rw [if_pos rfl, Bool.or_eq_true, masterClips, duckClips]
      exact or_congr Iff.rfl (iff_and_self.mpr fun _ => rfl)
  | false =>
    refine ⟨fun i => ?_, count_if ?_⟩
    · rw [if_neg Bool.false_ne_true, if_neg Bool.false_ne_true, clampAll_toInt, masters]
    · rw [if_neg Bool.false_ne_true, masterClips]
      exact (or_iff_left fun h => Bool.false_ne_true h.1).symm

/-! ### The boundary makes these mixes (log 17) -/

theorem State.Finishes.mixes {m t : State} (finishes : m.Finishes t) : t.earpieceOut = m.earpieceOut ∧
    t.speakerOut = m.speakerOut ∧ t.lineOut = m.lineOut ∧ t.live.clipsHandset = m.live.clipsHandset ∧
    t.live.clipsSpeaker = m.live.clipsSpeaker ∧ t.live.clipsLine = m.live.clipsLine := by
  rw [finishes.alike]
  exact ⟨rfl, rfl, rfl, rfl, rfl, rfl⟩

/-- Settles O42, by the sums of each mix and what a boundary leaves behind them. -/
theorem mixesAreClampedSums : Obligations.MixesAreClampedSums := by
  unfold Obligations.MixesAreClampedSums
  refine ⟨clampInt_eq, fun s io ys c => ⟨sourceBlock_handset s io ys c,
    fun k => ⟨sourceBlock_far s io ys c k, fun r stands => farBlock_eq stands⟩, fun p remote => ⟨fun missing => ?_,
      fun pre post y split circuit party first => ?_⟩⟩, fun s t io ys made => ?_, fun s m io loaded made => ?_⟩
  · rw [sourceBlock_remote s io ys c remote, blockOf_missing missing]
  · rw [sourceBlock_remote s io ys c remote, split, blockOf_first circuit party first]
  · subst made
    refine ⟨line_mixed s io ys, fun h n i => ?_,
      fun h n j p slot peer => bindingMix_call ys slot peer, earpiece_mixed s io ys,
      fun o master duck ducked hmaster hduck hducked => ⟨fun k c bound => channelSum_at io ys bound,
        speaker_mixed s io ys o master duck ducked hmaster hduck hducked⟩⟩
    obtain ⟨home, away⟩ := bindingMix_line s ys h n i
    cases record : s.recordFor n with
    | none => exact away (.inr record)
    | some k =>
      dsimp only
      by_cases own : s.homeOf n = some s.cfg.station
      · rw [if_pos own]
        exact home k own record
      · rw [if_neg own]
        exact away (.inl own)
  · rw [← mixed_eq] at made
    subst made
    exact ⟨s.boundary io, rfl, (boundary_finishes io loaded).mixes⟩

end Sys2Proof.Machine
end

section
/-! PROOFS. The transmit frames and the simple mixes of a boundary (R38, R61, R62, R69, R166, R168, R169). -/

namespace Sys2Proof.Machine

/-! ### What reaches the mixes -/

/-- What the line ports' work of a boundary leaves of the station's own settings. -/
structure State.ReachesPorts (s u : State) : Prop where
  cfg : u.cfg = s.cfg
  stationState : u.stationState = s.stationState
  talk : u.talk = s.talk
  masters : u.masters = s.masters
  handsets : ∀ h : Fin 2, (u.handsets[h]).controls = (s.handsets[h]).controls
  unbound : ∀ h : Fin 2, (s.handsets[h]).bindings = [] → (u.handsets[h]).bindings = []
  channels : ∀ k : Fin 8, (u.channels[k]).controls = (s.channels[k]).controls ∧
    ((u.channels[k]).binding = (s.channels[k]).binding ∨ (u.channels[k]).binding = .unbound)
  present : ∀ k : Fin 8, (u.records[k]).isSome = (s.records[k]).isSome
  marks : ∀ k : Fin 8, (u.ports[k]).txIndex = (s.ports[k]).txIndex ∧ (u.ports[k]).txParity = (s.ports[k]).txParity ∧
    (u.ports[k]).forceRd = (s.ports[k]).forceRd

theorem State.StoodIn.readStores {s u : State} (p : s.StoodIn u) : s.ReachesPorts u.readStores := by
  have base : u.readStores.base = { s.base with ports := u.readStores.ports } := by
    rw [(readStores_rest u).1, p.base]
  have fields (t : State) (b : Base) (same : t.base = b) :
      t.cfg = b.cfg ∧ t.stationState = b.stationState ∧ t.talk = b.talk ∧ t.masters = b.masters := by
    subst same
    exact ⟨rfl, rfl, rfl, rfl⟩
  obtain ⟨cfg, stationState, talk, masters⟩ := fields _ _ base
  obtain ⟨-, records, -, -, handsets, channels, -⟩ := readStores_rest u
  refine ⟨cfg, stationState, talk, masters, fun h => ?_, fun h none => ?_, fun k => ?_, fun k => ?_, fun k => ?_⟩
  · rw [handsets]
    exact p.forgoes.handsetControls h
  · rw [handsets]
    refine List.eq_nil_iff_forall_not_mem.mpr fun b hb => ?_
    obtain ⟨x, hx, -⟩ := p.forgoes.bindings h b hb
    rw [none] at hx
    exact List.not_mem_nil hx
  · rw [channels]
    exact ⟨p.forgoes.channelControls k, p.forgoes.channelBindings k⟩
  · rw [records]
    exact p.present k
  · obtain ⟨index, parity, -, force⟩ := p.marks k
    obtain ⟨ports, lines, read, each⟩ := readStores_fields u
    have port : u.readStores.ports[k] = ports[k] := by rw [read]
    rw [port, (each k).1, ← index, ← parity, ← force]
    split
    · obtain ⟨-, -, -, store, last, kept⟩ := readStore_quiet (PortWork.start u.ports[k])
      rw [LinePort.readWork, kept]
      exact ⟨rfl, rfl, rfl⟩
    · exact ⟨rfl, rfl, rfl⟩

theorem atPorts_reaches (s : State) : s.ReachesPorts s.atPorts := by
  have stood := (standInPeriods_stoodIn s.reachBoundary).readStores
  rw [← atPorts_eq] at stood
  have channels (k : Fin 8) : (s.reachBoundary.channels[k]).controls = (s.channels[k]).controls ∧
      (s.reachBoundary.channels[k]).binding = (s.channels[k]).binding := by
    have table : s.reachBoundary.channels = mapTable s.channels fun _ c =>
        { c with wait := c.wait.map fun w => { w with timer := w.timer - 1 } } := rfl
    rw [table, mapTable_get]
    exact ⟨rfl, rfl⟩
  refine ⟨stood.cfg, stood.stationState, stood.talk, stood.masters, stood.handsets, stood.unbound, fun k => ?_,
    fun k => ?_, stood.marks⟩
  · obtain ⟨controls, binding⟩ := channels k
    obtain ⟨controls', binding'⟩ := stood.channels k
    rw [controls, binding] at *
    exact ⟨controls', binding'⟩
  · rw [stood.present k, reachBoundary_records, Option.isSome_map]

/-- The station that a boundary mixes: the line ports' work, the yields, the levels and the admission behind it. -/
theorem mixed_admitted (io : AudioIn) (s : State) : ∃ v : State, s.mixed io = v.mix io s.boundaryYields ∧
    v = { s.atPorts with
      streams := v.streams, live := v.live, localLevels := v.localLevels, channels := v.channels, marks := v.marks } ∧
    ∀ k : Fin 8, v.channels[k] = { s.atPorts.channels[k] with talkers := (v.channels[k]).talkers } := by
  refine ⟨(s.beforeAdmission io).admitAll s.boundaryYields, mixed_eq io s, ?_, fun k => ?_⟩
  · rw [beforeAdmission_eq]
    generalize s.atPorts = u
    rw [admitAll_alike, updateLocalLevels_alike, yieldStreams_alike]
  · have before : (s.beforeAdmission io).channels = s.atPorts.channels := by
      rw [beforeAdmission_eq, updateLocalLevels_alike, yieldStreams_alike]
    rw [admitAll_channel, before]

/-! ### The transmit frames (R38, R61, R62) -/

theorem framedPort_used {m : State} {k : Fin 8} (used : m.used k = true) :
    m.framedPort k = (m.ports[k]).buildFrame (m.portCfg k) (m.nearSignalling k) m.lineOut[k] := if_pos used

theorem lineFrame_length (overhead label parity : Octet) (b : Block) : (lineFrame overhead label parity b).length = 36 := by
  have octets (l : List Sample) : (l.flatMap octets16).length = 2 * l.length := by
    induction l with
    | nil => rfl
    | cons x l ih =>
      rw [List.flatMap_cons, List.length_append, ih, List.length_cons, show (octets16 x).length = 2 from rfl]
      omega
  rw [lineFrame, List.length_append, Block.octets, octets, Vector.length_toList]
  rfl

theorem nearSignalling_none {m : State} {k : Fin 8} (none : m.records[k] = none) : (m.nearSignalling k).code = 0 := by
  unfold State.nearSignalling
  rw [none]
  rfl

theorem nearSignalling_code {m : State} {k : Fin 8} {r : LineRecord} (stands : m.records[k] = some r) :
    (m.nearSignalling k).code =
      if r.outRing.isSome then 1 else if r.state = .engaged ∨ r.state = .held then 2 else 0 := by
  unfold State.nearSignalling
  rw [stands]
  dsimp only
  split
  · rfl
  · split <;> rfl

theorem overhead_eq (sig : Signalling) (p : LinePort) (n : Nat) (code : sig.code = n) :
    overheadOctet sig p.sendsRd (p.txIndex == 0) = BitVec.ofNat 8 (64 * n +
      (if p.alarms.los ∨ p.alarms.lol ∨ p.forceRd then 32 else 0) + (if p.txIndex = 0 then 16 else 0)) := by
  have rd : (if p.sendsRd = true then 32 else 0) = if p.alarms.los ∨ p.alarms.lol ∨ p.forceRd then 32 else 0 := by
    refine if_congr ?_ rfl rfl
    rw [LinePort.sendsRd, Bool.or_eq_true, Bool.or_eq_true, or_assoc]
  have mf : (if (p.txIndex == 0) = true then 16 else 0) = if p.txIndex = 0 then 16 else 0 :=
    if_congr beq_iff_eq rfl rfl
  rw [overheadOctet, rd, mf, code, Nat.mul_comm n 64]
  rfl

/-- The frame that a boundary builds for a used port. -/
theorem boundary_frame {s : State} (io : AudioIn) {k : Fin 8} (used : s.used k = true) (n : Nat)
    (code : ((s.mixed io).nearSignalling k).code = n) (i : Fin 16) (now : (s.ports[k]).txIndex = i) :
    ((s.boundary io).ports[k]).txFrame =
      [0x5C#8,
        BitVec.ofNat 8 (64 * n +
          (if ((s.boundary io).ports[k]).alarms.los ∨ ((s.boundary io).ports[k]).alarms.lol ∨ (s.ports[k]).forceRd
            then 32 else 0) +
          (if i = 0 then 16 else 0)),
        (s.portCfg k).transmitLabel[i], (s.ports[k]).txParity] ++
      ((s.boundary io).lineOut[k]).toList.flatMap (fun x : Sample => [(x >>> 8).setWidth 8, x.setWidth 8]) ∧
    ((s.boundary io).ports[k]).txFrame.length = 36 ∧ ((s.boundary io).ports[k]).txIndex = i + 1 ∧
    ((s.boundary io).ports[k]).txParity = ((s.boundary io).ports[k]).txFrame.foldl (· ^^^ ·) 0#8 := by
  have loaded : s.loaded = true := (Bool.and_eq_true_iff.mp used).1
  have finishes := boundary_finishes io loaded
  have mixed := mixed_from io s
  have reaches := atPorts_reaches s
  obtain ⟨index, parity, force⟩ := reaches.marks k
  have ports : (s.mixed io).ports = s.atPorts.ports := by rw [mixed.alike]
  have cfg : (s.mixed io).cfg = s.cfg := by rw [mixed.alike]; exact reaches.cfg
  have floor : (s.mixed io).stationState = s.stationState := by rw [mixed.alike]; exact reaches.stationState
  have lineOut : (s.boundary io).lineOut = (s.mixed io).lineOut := finishes.mixes.2.2.1
  have port := finishes.ports k
  generalize s.boundary io = t at port lineOut ⊢
  generalize s.mixed io = m at *
  have used' : m.used k = true := by
    unfold State.used State.portCfg State.loaded
    rw [cfg, floor]
    exact used
  have settings : m.portCfg k = s.portCfg k := by rw [State.portCfg, cfg]; rfl
  rw [framedPort_used used', settings, ports] at port
  rw [port, lineOut]
  rw [← parity, ← force]
  have index := index.trans now
  subst index
  refine ⟨?_, lineFrame_length .., rfl, rfl⟩
  show lineFrame _ _ _ _ = _
  rw [overhead_eq _ _ n code]
  rfl

/-! ### The simple mixes (R166, R168, R169) -/

theorem scale_zero (c : Nat) : scale 0 c = 0 := by simp [scale]

theorem speaker_unbound {v : State} (io : AudioIn) (ys : List Yielded) {o : Fin 2}
    (unbound : ∀ k : Fin 8, (v.channels[k]).binding = .unbound ∨ (v.channels[k]).output ≠ o) :
    (v.mix io ys).speakerOut[o] = Block.silence := by
  have none : v.outputChannels o = [] := by
    refine List.filter_eq_nil_iff.mpr fun k _ => ?_
    rw [Bool.and_eq_true, Bool.and_eq_true, beq_iff_eq, bne_iff_ne]
    rintro ⟨⟨out, -⟩, bound⟩
    rcases unbound k with h | h
    · exact bound h
    · exact h out
  have master (i : Fin 16) : (v.masterTotals io ys o)[i] = 0 := by
    rw [masterTotals_at, none]
    exact scale_zero _
  have duck (i : Fin 16) : (v.duckTotals io ys o)[i] = 0 := by
    rw [duckTotals_at, master]
    exact scale_zero _
  rw [(mix_speaker v io ys o).1, speaker_eq]
  split
  · exact clampAll_silent duck
  · exact clampAll_silent master

theorem earpiece_plain {v : State} (io : AudioIn) (ys : List Yielded) {h : Fin 2} (hook : (v.handsets[h]).onHook = false)
    (unbound : (v.handsets[h]).bindings = []) (i : Fin 16) : ((v.mix io ys).earpieceOut[h])[i] =
      BitVec.ofInt 16 (clampInt (scale (clampInt (scale (io.mouthpiece[h])[i].toInt v.cfg.sidetone))
        (v.handsets[h]).volume)) := by
  have totals := earpieceTotals_at v io ys h i
  rw [unbound, List.map_nil, List.sum_nil, Int.zero_add] at totals
  rw [(mix_earpiece v io ys h).1, State.earpiece, hook, if_neg Bool.false_ne_true, clampAll_at, totals]

theorem line_silent {v : State} (io : AudioIn) (ys : List Yielded) {k : Fin 8} (used : v.used k = true)
    (idle : ∀ r : LineRecord, v.records[k] = some r → r.state ≠ .engaged) :
    (v.mix io ys).lineOut[k] = Block.silence := by
  have none : v.activeSet k = [] := by
    unfold State.activeSet
    split
    · next r stands => exact if_neg (idle r stands)
    · rfl
  rw [(mix_line v io ys k).1, if_pos used, clampAll_silent (lineTotals_idle io ys none).1]

theorem line_spoken {v : State} (io : AudioIn) (ys : List Yielded) {k : Fin 8} {r : LineRecord} {h : Fin 2}
    (used : v.used k = true) (stands : v.records[k] = some r) (engaged : r.state = .engaged)
    (alone : (r.members.filter fun m => m.mode == .active).map (·.party) = [v.own (.handset h)])
    (hook : (v.handsets[h]).onHook = false) (open_ : (v.handsets[h]).muted = false) :
    (v.mix io ys).lineOut[k] = io.mouthpiece[h] := by
  rw [(mix_line v io ys k).1, if_pos used, State.lineTotals, activeSet_eq stands, if_pos engaged, alone, List.map_cons,
    List.map_nil, clampAll_single, sourceBlock_handset, hook, open_]
  exact if_neg fun h => Bool.false_ne_true (or_self_iff.mp h)

/-- The mixes of a boundary in the words of the station before it. -/
theorem boundary_mixes {s : State} (io : AudioIn) (loaded : s.loaded = true) :
    (∀ h : Fin 2,
      ((s.handsets[h]).onHook = true → (s.boundary io).earpieceOut[h] = Block.silence) ∧
      ((s.handsets[h]).onHook = false → (s.handsets[h]).bindings = [] → ∀ i : Fin 16,
        ((s.boundary io).earpieceOut[h])[i] = BitVec.ofInt 16 (clampInt (scale
          (clampInt (scale (io.mouthpiece[h])[i].toInt s.cfg.sidetone)) (s.handsets[h]).volume)))) ∧
    (∀ o : Fin 2, (∀ k : Fin 8, (s.channels[k]).binding = .unbound ∨ (s.channels[k]).output ≠ o) →
      (s.boundary io).speakerOut[o] = Block.silence) ∧
    ∀ k : Fin 8, s.used k = true →
      ((∀ r : LineRecord, (s.boundary io).records[k] = some r → r.state ≠ .engaged) →
        (s.boundary io).lineOut[k] = Block.silence) ∧
      ∀ (r : LineRecord) (h : Fin 2), (s.boundary io).records[k] = some r → r.state = .engaged →
        (r.members.filter fun m => m.mode == .active).map (·.party) = [s.own (.handset h)] →
        ((s.boundary io).handsets[h]).onHook = false → ((s.boundary io).handsets[h]).muted = false →
        (s.boundary io).lineOut[k] = io.mouthpiece[h] := by
  have finishes := boundary_finishes io loaded
  have passes := boundary_passes io loaded
  have reaches := atPorts_reaches s
  obtain ⟨v, mixed, alike, channels⟩ := mixed_admitted io s
  obtain ⟨ear, speaker, line, -⟩ := finishes.mixes
  rw [mixed] at ear speaker line
  have records := passes.records
  have handsets := passes.handsets
  rw [ear, speaker, line, records, handsets]
  clear passes finishes mixed ear speaker line records handsets
  generalize s.boundaryYields = ys
  generalize s.atPorts = u at reaches alike channels ⊢
  have vrecords : v.records = u.records := by rw [alike]
  have vhandsets : v.handsets = u.handsets := by rw [alike]
  have vcfg : v.cfg = s.cfg := by rw [alike]; exact reaches.cfg
  have vused (k : Fin 8) : v.used k = s.used k := by
    have floor : v.stationState = s.stationState := by rw [alike]; exact reaches.stationState
    unfold State.used State.portCfg State.loaded
    rw [vcfg, floor]
  rw [← vrecords, ← vhandsets]
  have controls (h : Fin 2) : (v.handsets[h]).onHook = (s.handsets[h]).onHook ∧
      (v.handsets[h]).volume = (s.handsets[h]).volume := by
    have same := reaches.handsets h
    rw [← vhandsets] at same
    exact ⟨congrArg (·.1) same, congrArg (·.2.2) same⟩
  refine ⟨fun h => ⟨fun hook => ?_, fun hook unbound i => ?_⟩, fun o unbound => ?_, fun k used => ⟨fun idle => ?_,
    fun r h stands engaged alone hook open_ => ?_⟩⟩
  · exact ((earpiece_mixed v io ys h).1 ((controls h).1.trans hook)).1
  · rw [earpiece_plain io ys ((controls h).1.trans hook) (by rw [vhandsets]; exact reaches.unbound h unbound) i, vcfg,
      (controls h).2]
  · refine speaker_unbound io ys fun k => ?_
    rw [channels k]
    obtain ⟨controls, binding⟩ := reaches.channels k
    rcases unbound k with off | other
    · exact .inl (binding.elim (fun same => same.trans off) id)
    · exact .inr (by rw [show (u.channels[k]).output = (s.channels[k]).output from congrArg (·.1) controls]; exact other)
  · exact line_silent io ys ((vused k).trans used) idle
  · exact line_spoken io ys ((vused k).trans used) stands engaged (by rw [alone, State.own, State.own, vcfg]) hook open_

/-- Settles O40, by the frame that each used port builds and the mixes made before it. -/
theorem boundaryFramesAndMixes : Obligations.BoundaryFramesAndMixes := by
  unfold Obligations.BoundaryFramesAndMixes
  refine ⟨fun s io k used => ⟨s.boundary io, rfl, ?_⟩, fun s io loaded => ⟨s.boundary io, rfl, boundary_mixes io loaded⟩⟩
  have loaded : s.loaded = true := (Bool.and_eq_true_iff.mp used).1
  have records : (s.boundary io).records = (s.mixed io).records := by
    rw [(boundary_passes io loaded).records, (mixed_from io s).alike]
  cases stands : (s.mixed io).records[k] with
  | none =>
    rw [records, stands]
    exact boundary_frame io used 0 (nearSignalling_none stands) _ rfl
  | some r =>
    rw [records, stands]
    exact boundary_frame io used _ (nearSignalling_code stands) _ rfl

end Sys2Proof.Machine
end

section
/-! SUPPORT. The lines' work at a boundary makes no stream entry and restarts no silence timer (R148, R158). -/

namespace Sys2Proof.Machine

/-- Every entry of the table stood there before, its silence timer as it was. -/
structure State.Thins (s t : State) : Prop where
  entry : ∀ (i : Fin 32) (e : StreamEntry), t.streams[i] = some e → ∃ x, s.streams[i] = some x ∧ x.silence = e.silence

namespace State.Thins

variable {s t u : State}

theorem of_same (same : t.streams = s.streams) : s.Thins t :=
  ⟨fun _ e stands => ⟨e, same ▸ stands, rfl⟩⟩

theorem refl (s : State) : s.Thins s := .of_same rfl

theorem trans (p : s.Thins t) (q : t.Thins u) : s.Thins u := by
  refine ⟨fun i e stands => ?_⟩
  obtain ⟨x, stands', silence⟩ := q.entry i e stands
  obtain ⟨y, stands'', silence'⟩ := p.entry i x stands'
  exact ⟨y, stands'', silence'.trans silence⟩

theorem foldl {α : Type} (f : State → α → State) (h : ∀ (s : State) a, s.Thins (f s a)) (l : List α) (s : State) :
    s.Thins (l.foldl f s) :=
  foldl_preserves (fun t => s.Thins t) f (fun t a ht => ht.trans (h t a)) l s (.refl s)

end State.Thins

theorem removeStreams_thins (q : StreamEntry → Bool) (s : State) : s.Thins (s.removeStreams q) := by
  obtain ⟨channels, marks, removed, -⟩ := removeStreams_fields q s
  have table : (s.removeStreams q).streams = mapTable s.streams fun _ e => e.filter fun x => !q x := by rw [removed]
  refine ⟨fun i e stands => ?_⟩
  rw [table, mapTable_get] at stands
  exact ⟨e, (Option.filter_eq_some_iff.mp stands).1, rfl⟩

theorem syncStreams_thins (s : State) : s.Thins s.syncStreams := by
  have removed := removeStreams_thins (fun e => (s.interest e.circuit).isNone) s
  have table : s.syncStreams.streams = mapTable (s.removeStreams fun e => (s.interest e.circuit).isNone).streams
    fun _ e => e.map fun x => { x with cls := (s.interest x.circuit).getD x.cls } := rfl
  refine ⟨fun i e stands => ?_⟩
  rw [table, mapTable_get] at stands
  obtain ⟨x, kept, rfl⟩ := Option.map_eq_some_iff.mp stands
  exact removed.entry i x kept

theorem send_thins (target : Station) (b : Body) (s : State) : s.Thins (s.send target b) := by
  obtain ⟨_, _, _, _, _, sent⟩ := alike_fields (send_alike target b s)
  exact .of_same (by rw [sent])

theorem notify_thins (e : Event) (s : State) : s.Thins (s.notify e) := .of_same (notify_streams e s)

theorem notifyAll_thins (es : List Event) (s : State) : s.Thins (s.notifyAll es) := .foldl _ (fun s e => notify_thins e s) _ s

theorem TapWork_thins {s t : State} (work : s.TapWork t) : s.Thins t := .of_same (by rw [work.alike])

theorem setMirror_thins (old new : Mirror) (s : State) : s.Thins (s.setMirror old new) := by
  unfold State.setMirror
  extract_lets s1 s2
  have marked : s.Thins s2 := by
    unfold s2
    split
    · exact .of_same rfl
    · exact .of_same rfl
  split
  · exact marked
  · exact marked.trans (notify_thins ..)

theorem setBindings_thins (h : Fin 2) (bs : List Binding) (s : State) : s.Thins (s.setBindings h bs) :=
  State.Thins.trans (.of_same (setHandset_streams h _ s)) (syncStreams_thins _)

theorem removeBinding_thins (h : Fin 2) (c : Circuit) (s : State) : s.Thins (s.removeBinding h c) :=
  State.Thins.trans (t := s.dropSequence c _) (.of_same rfl) (setBindings_thins ..)

theorem lostBindings_thins (b : LineStatus) (h : Fin 2) (s : State) : s.Thins (s.lostBindings b h) := by
  have counted (hs : Vector Handset 2) : s.Thins { s with handsets := hs } := .of_same rfl
  unfold State.lostBindings
  dsimp only
  split
  · exact (counted _).trans ((removeBinding_thins ..).trans (notify_thins ..))
  · exact counted _

theorem lostHeld_thins (b : LineStatus) (s : State) : s.Thins (s.lostHeld b) := by
  have kept (hs : List HeldLine) : s.Thins { s with held := hs } := .of_same rfl
  exact (kept _).trans (notifyAll_thins _ _)

theorem mirrorTakes_thins (b : LineStatus) (s : State) : s.Thins (s.mirrorTakes b) := by
  unfold State.mirrorTakes
  split
  · exact .refl s
  · exact (setMirror_thins ..).trans (notifyAll_thins ..)

theorem positionTakes_thins (st : Station) (b : LineStatus) (s : State) : s.Thins (s.positionTakes st b).1 := by
  unfold State.positionTakes
  split
  · exact (mirrorTakes_thins b s).trans ((lostBindings_thins ..).trans ((lostBindings_thins ..).trans (lostHeld_thins ..)))
  · exact .refl s

theorem setChannel_thins (k : Fin 8) (c : Channel) (s : State) : s.Thins (s.setChannel k c) :=
  .of_same (setChannel_streams k c s)

theorem turnOff_thins (k : Fin 8) (s : State) : s.Thins (s.turnOff k) :=
  (setChannel_thins k _ s).trans (syncStreams_thins _)

theorem lostChannel_thins (b : LineStatus) (s : State) (k : Fin 8) : s.Thins (s.lostChannel b k) := by
  unfold State.lostChannel
  split
  · dsimp only
    split
    · exact (turnOff_thins k s).trans (notify_thins ..)
    · exact setChannel_thins ..
  · exact .refl s

theorem speakerTakes_thins (st : Station) (b : LineStatus) (s : State) : s.Thins (s.speakerTakes st b).1 := by
  have kept (s : State) (k : Fin 8) : s.Thins
      (if s.listensTo b.line k then s.setChannel k { s.channels[k] with misses := 0 } else s) := by
    split
    · exact setChannel_thins ..
    · exact .refl s
  unfold State.speakerTakes
  split
  · split
    · dsimp only
      exact .foldl _ kept allPorts s
    · dsimp only
      exact .foldl _ (lostChannel_thins b) allPorts s
  · exact .refl s

theorem commitRecord_thins (k : Fin 8) (r : LineRecord) (s : State) : s.Thins (s.commitRecord k r) := by
  unfold State.commitRecord
  exact (State.Thins.of_same (s := s) (setRecord_streams ..)).trans
    ((TapWork_thins (tapEvent_tapWork ..)).trans (syncStreams_thins _))

theorem takeRequest_thins (line : LineNo) (q : LineRequest) (s : State) : s.Thins (s.takeRequest line q) := by
  unfold State.takeRequest State.changeRecord
  split
  · split
    · exact commitRecord_thins ..
    · exact .refl s
  · exact .refl s

theorem restartRefresh_thins (k : Fin 8) (s : State) : s.Thins (s.restartRefresh k) := by
  unfold State.restartRefresh
  split
  · split
    · exact .of_same (setRecord_streams ..)
    · exact .refl s
  · exact .refl s

theorem dropLocally_thins (f : Fin 8 → State → State) (hf : ∀ (k : Fin 8) (s : State), s.Thins (f k s)) (line : LineNo)
    (s : State) (p : Port) : s.Thins (s.dropLocally f line p) := by
  have tagged : s.Thins s.takeTag := .of_same rfl
  unfold State.dropLocally
  split
  · dsimp only
    split
    · exact tagged.trans (takeRequest_thins ..)
    · exact tagged.trans ((takeRequest_thins ..).trans (hf ..))
  · exact tagged

theorem announceWithin_thins (n : Nat) (k : Fin 8) (s : State) : s.Thins (s.announceWithin n k) := by
  induction n generalizing k s with
  | zero => exact .refl s
  | succ n ih =>
    unfold State.announceWithin
    split
    · next b _ =>
      refine (send_thins Config.allStations (.state b) s).trans ((restartRefresh_thins k _).trans ?_)
      rw [handOver_eq]
      split
      · exact (positionTakes_thins ..).trans ((speakerTakes_thins ..).trans
          (.foldl _ (fun s p => dropLocally_thins _ (fun k s => ih k s) _ s p) _ _))
      · exact .refl _
    · exact .refl s

theorem announceChange_thins (s before : State) (k : Fin 8) : s.Thins (s.announceChange before k) := by
  unfold State.announceChange
  split
  · exact .refl s
  · exact announceWithin_thins ..

theorem commitPort_thins (k : Fin 8) (w : PortWork) (s : State) : s.Thins (s.commitPort k w) := by
  obtain ⟨ring, marks, overflow, fields⟩ := portWorked_fields k w s
  have worked : s.Thins (s.portWorked k w) := .of_same (by rw [fields]; rfl)
  rcases commitPort_cases k w s with ⟨same, -⟩ | ⟨r, -, changed⟩
  · rw [same]
    exact worked
  · rw [changed]
    exact worked.trans ((commitRecord_thins ..).trans (announceChange_thins ..))

/-- The table once the line ports have taken a boundary, whatever the lines' work was. -/
theorem atPorts_thins (s : State) : s.reachBoundary.Thins s.atPorts := by
  have stood : s.reachBoundary.Thins s.reachBoundary.standInPeriods :=
    .foldl _ (fun s k => by
      rcases standIn_cases s k with ⟨same, -⟩ | ⟨-, -, worked⟩
      · exact .of_same (congrArg State.streams same)
      · rw [show (if s.carrier[k] then s else s.workPort k fun c w => w.endPeriod c false) = s.standIn k from rfl, worked]
        exact commitPort_thins ..) allPorts _
  rw [atPorts_eq]
  exact stood.trans (.of_same (readStores_rest _).2.2.2.2.2.2.1)

/-- An entry of the table once the line ports have taken a boundary. -/
theorem atPorts_entry {s : State} {i : Fin 32} {e : StreamEntry} (stands : s.atPorts.streams[i] = some e) :
    ∃ x, s.streams[i] = some x ∧ e.silence = x.silence - 1 := by
  obtain ⟨y, reached, silence⟩ := (atPorts_thins s).entry i e stands
  rw [reachBoundary_stream] at reached
  obtain ⟨x, before, rfl⟩ := Option.map_eq_some_iff.mp reached
  exact ⟨x, before, silence.symm⟩

end Sys2Proof.Machine
end

section
/-! PROOFS. The sources of a channel and talker admission at a boundary (R140, R141). -/

namespace Sys2Proof.Machine

/-! ### Who leaves: steps 1 and 2 of R141 -/

/-- The talkers that stay, one by one (R141, steps 1 and 2). -/
def keptTalker (gate hangover : Nat) (src : List Source) (x : Talker) : Option Talker :=
  (src.find? fun y => y.party == x.party).bind fun y =>
    if gate ≤ y.level then some ⟨x.party, 0, y.level⟩
    else if x.hangover + 1 < hangover then some ⟨x.party, x.hangover + 1, y.level⟩ else none

theorem hangoverStep_departed (gate hangover : Nat) (src : List Source) (set : List Talker) :
    hangoverStep gate hangover (departed src set) = set.filterMap (keptTalker gate hangover src) := by
  induction set with
  | nil => rfl
  | cons x set ih =>
    unfold hangoverStep departed at ih ⊢
    cases found : src.find? fun y => y.party == x.party with
    | none =>
      rw [List.filterMap_cons_none (by rw [levelIn, found]; rfl),
        List.filterMap_cons_none (by rw [keptTalker, found]; rfl)]
      exact ih
    | some y =>
      rw [List.filterMap_cons_some (b := { x with level := y.level }) (by rw [levelIn, found]; rfl), List.map_cons,
        List.filter_cons]
      dsimp only
      by_cases loud : gate ≤ y.level
      · rw [List.filterMap_cons_some (b := ⟨x.party, 0, y.level⟩) (by
          rw [keptTalker, found, Option.bind_some, if_pos loud]), ← ih, if_pos loud, if_pos (by
          rw [decide_eq_true loud]; rfl)]
      · by_cases short : x.hangover + 1 < hangover
        · rw [List.filterMap_cons_some (b := ⟨x.party, x.hangover + 1, y.level⟩) (by
            rw [keptTalker, found, Option.bind_some, if_neg loud, if_pos short]), ← ih, if_neg loud, if_pos (by
            rw [decide_eq_true short, Bool.or_true])]
        · rw [List.filterMap_cons_none (by
            rw [keptTalker, found, Option.bind_some, if_neg loud, if_neg short]), ← ih, if_neg loud, if_neg (by
            rw [decide_eq_false loud, decide_eq_false short]; exact Bool.false_ne_true)]

/-! ### The candidates in order -/

theorem before_trans {a b c : Party} (ab : a.before b = true) (bc : b.before c = true) : a.before c = true := by
  unfold Party.before at *
  rw [Bool.or_eq_true, Bool.and_eq_true, decide_eq_true_iff, decide_eq_true_iff, beq_iff_eq] at *
  rcases ab with ab | ⟨ab, ports⟩
  · rcases bc with bc | ⟨bc, -⟩
    · exact .inl (ab.trans bc)
    · exact .inl (bc ▸ ab)
  · rcases bc with bc | ⟨bc, ports'⟩
    · exact .inl (ab ▸ bc)
    · exact .inr ⟨ab.trans bc, ports.trans ports'⟩

theorem before_asymm {a b : Party} (ab : a.before b = true) : b.before a = false := by
  refine Bool.eq_false_iff.mpr fun ba => ?_
  unfold Party.before at ab ba
  rw [Bool.or_eq_true, Bool.and_eq_true, decide_eq_true_iff, decide_eq_true_iff, beq_iff_eq] at ab ba
  rcases ab with ab | ⟨ab, ports⟩
  · rcases ba with ba | ⟨ba, -⟩
    · omega
    · rw [ba] at ab
      omega
  · rcases ba with ba | ⟨-, ports'⟩
    · rw [ab] at ba
      omega
    · omega

/-- Two candidates in the order in which R141 takes them. -/
def Source.InOrder (y z : Source) : Prop :=
  z.level < y.level ∨ y.level = z.level ∧ z.party.before y.party = false

theorem inOrder_iff (y z : Source) : y.InOrder z ↔ z.before y = false := by
  unfold Source.InOrder Source.before
  rw [Bool.or_eq_false_iff, Bool.and_eq_false_iff, decide_eq_false_iff_not, beq_eq_false_iff_ne]
  constructor
  · rintro (less | ⟨same, later⟩)
    · exact ⟨by omega, .inl (by omega)⟩
    · exact ⟨by omega, .inr later⟩
  · rintro ⟨notMore, other | later⟩
    · exact .inl (by omega)
    · by_cases same : y.level = z.level
      · exact .inr ⟨same, later⟩
      · exact .inl (by omega)

theorem inOrder_of_before {a b : Source} (first : a.before b = true) : a.InOrder b := by
  unfold Source.before at first
  rw [Bool.or_eq_true, Bool.and_eq_true, decide_eq_true_iff, beq_iff_eq] at first
  rcases first with more | ⟨same, before⟩
  · exact .inl more
  · exact .inr ⟨same, before_asymm before⟩

/-- One that stands before another stands before whatever comes behind that. -/
theorem inOrder_trans {a b c : Source} (first : a.before b = true) (next : b.InOrder c) : a.InOrder c := by
  unfold Source.before at first
  rw [Bool.or_eq_true, Bool.and_eq_true, decide_eq_true_iff, beq_iff_eq] at first
  rcases first with more | ⟨same, before⟩
  · rcases next with less | ⟨same, -⟩
    · exact .inl (less.trans more)
    · exact .inl (same ▸ more)
  · rcases next with less | ⟨same', later⟩
    · exact .inl (same ▸ less)
    · refine .inr ⟨same.trans same', Bool.eq_false_iff.mpr fun ca => ?_⟩
      rw [before_trans ca before] at later
      cases later

theorem insertSource_perm (a : Source) (l : List Source) : (insertSource a l).Perm (a :: l) := by
  induction l with
  | nil => exact List.Perm.refl _
  | cons b l ih =>
    unfold insertSource
    split
    · exact List.Perm.refl _
    · exact (ih.cons b).trans (List.Perm.swap a b l)

theorem insertSource_sorted (a : Source) (l : List Source) (sorted : l.Pairwise Source.InOrder) :
    (insertSource a l).Pairwise Source.InOrder := by
  induction l with
  | nil => exact List.pairwise_singleton _ _
  | cons b l ih =>
    obtain ⟨ahead, rest⟩ := List.pairwise_cons.mp sorted
    unfold insertSource
    split
    · next first =>
      refine List.pairwise_cons.mpr ⟨fun c hc => ?_, sorted⟩
      rcases List.mem_cons.mp hc with rfl | hc
      · exact inOrder_of_before first
      · exact inOrder_trans first (ahead c hc)
    · next later =>
      refine List.pairwise_cons.mpr ⟨fun c hc => ?_, ih rest⟩
      rcases List.mem_cons.mp ((insertSource_perm a l).mem_iff.mp hc) with rfl | hc
      · exact (inOrder_iff b c).mpr (Bool.eq_false_iff.mpr later)
      · exact ahead c hc

theorem candidates_ordered (gate : Nat) (src : List Source) (set : List Talker) :
    (candidates gate src set).Perm (src.filter fun y => decide (gate ≤ y.level) && set.all fun x => x.party != y.party) ∧
    (candidates gate src set).Pairwise Source.InOrder := by
  have chosen : (fun x : Source => decide (x.level ≥ gate) && !(set.any fun t => t.party == x.party)) =
      fun y : Source => decide (gate ≤ y.level) && set.all fun x => x.party != y.party := by
    funext y
    rw [List.not_any_eq_all_not]
    rfl
  unfold candidates
  rw [chosen]
  generalize src.filter _ = l
  induction l with
  | nil => exact ⟨List.Perm.refl _, List.Pairwise.nil⟩
  | cons a l ih =>
    rw [List.foldr_cons]
    exact ⟨(insertSource_perm a _).trans (ih.1.cons a), insertSource_sorted a _ ih.2⟩

/-! ### A candidate meets the set: step 3 of R141 -/

theorem lowestTalker_mem {set : List Talker} {u : Talker} (lowest : lowestTalker set = some u) : u ∈ set := by
  induction set generalizing u with
  | nil => cases lowest
  | cons t ts ih =>
    unfold lowestTalker at lowest
    split at lowest
    · cases lowest
      exact List.mem_cons_self
    · next v found =>
      split at lowest
      · cases lowest
        exact List.mem_cons_self
      · cases lowest
        exact List.mem_cons_of_mem _ (ih found)

/-- The lowest talker, the latest among equals, by its place in the set. -/
theorem lowestTalker_at {set : List Talker} {n : Nat} {low : Talker} (place : set[n]? = some low)
    (lowest : ∀ (m : Nat) (x : Talker), set[m]? = some x → low.level < x.level ∨ low.level = x.level ∧ m ≤ n) :
    lowestTalker set = some low := by
  induction set generalizing n with
  | nil => cases place
  | cons t ts ih =>
    unfold lowestTalker
    cases n with
    | zero =>
      obtain rfl := Option.some.inj place
      cases found : lowestTalker ts with
      | none => rfl
      | some u =>
        obtain ⟨m, hm, rfl⟩ := List.getElem_of_mem (lowestTalker_mem found)
        have above := lowest (m + 1) ts[m] (by rw [List.getElem?_cons_succ, List.getElem?_eq_getElem hm])
        exact if_pos (by omega)
    | succ n =>
      have found := ih place fun m x hx => by
        have above := lowest (m + 1) x hx
        omega
      rw [found]
      have first := lowest 0 t rfl
      exact if_neg (by omega)

theorem withoutTalker_at {set : List Talker} {n : Nat} {low : Talker} (distinct : (set.map (·.party)).Nodup)
    (place : set[n]? = some low) : withoutTalker low.party set = set.eraseIdx n := by
  induction set generalizing n with
  | nil => cases place
  | cons t ts ih =>
    rw [List.map_cons, List.nodup_cons] at distinct
    unfold withoutTalker at ih ⊢
    cases n with
    | zero =>
      obtain rfl := Option.some.inj place
      have others : ∀ x ∈ ts, (x.party != t.party) = true := fun x hx =>
        bne_iff_ne.mpr fun same => distinct.1 (List.mem_map.mpr ⟨x, hx, same⟩)
      rw [List.filter_cons_of_neg (by rw [bne_self_eq_false]; exact Bool.false_ne_true),
        List.filter_eq_self.mpr others]
      rfl
    | succ n =>
      have member : low ∈ ts := List.mem_of_getElem? place
      have apart : (t.party != low.party) = true :=
        bne_iff_ne.mpr fun same => distinct.1 (List.mem_map.mpr ⟨low, member, same.symm⟩)
      rw [List.filter_cons_of_pos (p := fun t : Talker => t.party != low.party) apart, ih distinct.2 place]
      rfl

theorem meetCandidate_places (limit : Nat) (set : List Talker) (y : Source) :
    (set.length < limit → meetCandidate limit set y = set ++ [⟨y.party, 0, y.level⟩]) ∧
    (limit ≤ set.length → (set.map (·.party)).Nodup → ∀ (n : Nat) (low : Talker), set[n]? = some low →
      (∀ (m : Nat) (x : Talker), set[m]? = some x → low.level < x.level ∨ low.level = x.level ∧ m ≤ n) →
      meetCandidate limit set y =
        if low.level + low.level / 2 < y.level then set.eraseIdx n ++ [⟨y.party, 0, y.level⟩] else set) := by
  refine ⟨fun room => if_pos room, fun full distinct n low place lowest => ?_⟩
  unfold meetCandidate
  rw [if_neg (Nat.not_lt.mpr full), lowestTalker_at place lowest]
  dsimp only
  rw [withoutTalker_at distinct place]

/-! ### The sources of a channel (R140) -/

theorem sources_hoot {m : State} {ys : List Yielded} {k : Fin 8} {n : Nat} (bound : (m.channels[k]).binding = .hoot n)
    (x : Source) : x ∈ m.sources ys k ↔ ∃ y ∈ ys, y.circuit = .hoot n ∧ x = ⟨y.party, y.level⟩ := by
  have listed : m.sources ys k = (ys.filter fun y => y.circuit == .hoot n).map fun y => ⟨y.party, y.level⟩ := by
    unfold State.sources
    rw [bound]
  rw [listed, List.mem_map]
  constructor
  · rintro ⟨y, hy, rfl⟩
    obtain ⟨hy, circuit⟩ := List.mem_filter.mp hy
    exact ⟨y, hy, beq_iff_eq.mp circuit, rfl⟩
  · rintro ⟨y, hy, circuit, rfl⟩
    exact ⟨y, List.mem_filter.mpr ⟨hy, beq_iff_eq.mpr circuit⟩, rfl⟩

theorem handsetSource_iff (m : State) (n : LineNo) (h : Fin 2) : m.handsetSource n h = true ↔
    (∃ b ∈ (m.handsets[h]).bindings, b.circuit = .line n) ∧ (m.handsets[h]).onHook = false ∧
      (m.handsets[h]).muted = false := by
  unfold State.handsetSource State.isBound
  rw [Bool.and_eq_true, Bool.and_eq_true, List.any_eq_true, Bool.not_eq_true', Bool.not_eq_true', and_assoc]
  exact and_congr (exists_congr fun b => and_congr Iff.rfl beq_iff_eq) Iff.rfl

theorem farSource_iff (m : State) (n : LineNo) (j : Fin 8) : m.farSource n = some j ↔
    ∃ r : LineRecord, m.homeOf n = some m.cfg.station ∧ m.recordFor n = some j ∧ m.records[j] = some r ∧
      (r.state = .engaged ∨ r.state = .held) := by
  unfold State.farSource
  by_cases home : m.homeOf n = some m.cfg.station
  · rw [if_pos home]
    cases record : m.recordFor n with
    | none => exact ⟨fun h => (Option.some_ne_none _ h.symm).elim, fun ⟨_, _, h, _⟩ => (Option.some_ne_none _ h.symm).elim⟩
    | some i =>
      dsimp only
      cases stands : m.records[i] with
      | none =>
        refine ⟨fun h => (Option.some_ne_none _ h.symm).elim, fun ⟨r, _, same, at_j, _⟩ => ?_⟩
        rw [← Option.some.inj same, stands] at at_j
        exact (Option.some_ne_none _ at_j.symm).elim
      | some r =>
        dsimp only
        constructor
        · intro found
          split at found
          · next busy =>
            obtain rfl := Option.some.inj found
            exact ⟨r, home, rfl, stands, busy⟩
          · exact (Option.some_ne_none _ found.symm).elim
        · rintro ⟨r', -, same, at_j, busy⟩
          obtain rfl := Option.some.inj same
          obtain rfl := Option.some.inj (stands.symm.trans at_j)
          exact if_pos busy
  · rw [if_neg home]
    exact ⟨fun h => (Option.some_ne_none _ h.symm).elim, fun ⟨_, h, _⟩ => absurd h home⟩

theorem localSources_iff (m : State) (n : LineNo) (p : Port) : p ∈ m.localSources n ↔
    (∃ h : Fin 2, m.handsetSource n h = true ∧ p = .handset h) ∨ ∃ j : Fin 8, m.farSource n = some j ∧ p = .linePort j := by
  have every (h : Fin 2) : h ∈ bothHandsets := by fin_cases h <;> decide
  unfold State.localSources
  rw [List.mem_append, List.mem_map]
  refine or_congr ⟨?_, ?_⟩ ?_
  · rintro ⟨h, hh, rfl⟩
    exact ⟨h, (List.mem_filter.mp hh).2, rfl⟩
  · rintro ⟨h, source, rfl⟩
    exact ⟨h, List.mem_filter.mpr ⟨every h, source⟩, rfl⟩
  · cases m.farSource n with
    | none => exact ⟨fun h => (List.not_mem_nil h).elim, fun ⟨_, h, _⟩ => (Option.some_ne_none _ h.symm).elim⟩
    | some j =>
      rw [List.mem_singleton]
      exact ⟨fun h => ⟨j, rfl, h⟩, fun ⟨i, same, h⟩ => by rw [h, Option.some.inj same]⟩

theorem sources_line {m : State} {ys : List Yielded} {k : Fin 8} {n : LineNo} (bound : (m.channels[k]).binding = .line n)
    (x : Source) : x ∈ m.sources ys k ↔ (∃ y ∈ ys, y.circuit = .line n ∧ x = ⟨y.party, y.level⟩) ∨
      (∃ h : Fin 2, (∃ b ∈ (m.handsets[h]).bindings, b.circuit = .line n) ∧ (m.handsets[h]).onHook = false ∧
        (m.handsets[h]).muted = false ∧ x = ⟨m.own (.handset h), m.localLevel (.handset h)⟩) ∨
      ∃ (j : Fin 8) (r : LineRecord), m.homeOf n = some m.cfg.station ∧ m.recordFor n = some j ∧
        m.records[j] = some r ∧ (r.state = .engaged ∨ r.state = .held) ∧
        x = ⟨m.own (.linePort j), m.localLevel (.linePort j)⟩ := by
  have listed : m.sources ys k = ((ys.filter fun y => y.circuit == .line n).map fun y => ⟨y.party, y.level⟩) ++
      (m.localSources n).map fun p => ⟨m.own p, m.localLevel p⟩ := by
    unfold State.sources
    rw [bound]
  rw [listed, List.mem_append, List.mem_map, List.mem_map]
  refine or_congr ⟨?_, ?_⟩ ⟨?_, ?_⟩
  · rintro ⟨y, hy, rfl⟩
    obtain ⟨hy, circuit⟩ := List.mem_filter.mp hy
    exact ⟨y, hy, beq_iff_eq.mp circuit, rfl⟩
  · rintro ⟨y, hy, circuit, rfl⟩
    exact ⟨y, List.mem_filter.mpr ⟨hy, beq_iff_eq.mpr circuit⟩, rfl⟩
  · rintro ⟨p, hp, rfl⟩
    rcases (localSources_iff m n p).mp hp with ⟨h, source, rfl⟩ | ⟨j, far, rfl⟩
    · obtain ⟨holds, hook, open_⟩ := (handsetSource_iff m n h).mp source
      exact .inl ⟨h, holds, hook, open_, rfl⟩
    · obtain ⟨r, home, record, stands, busy⟩ := (farSource_iff m n j).mp far
      exact .inr ⟨j, r, home, record, stands, busy, rfl⟩
  · rintro (⟨h, holds, hook, open_, rfl⟩ | ⟨j, r, home, record, stands, busy, rfl⟩)
    · exact ⟨.handset h, (localSources_iff m n _).mpr (.inl ⟨h, (handsetSource_iff m n h).mpr ⟨holds, hook, open_⟩, rfl⟩), rfl⟩
    · exact ⟨.linePort j, (localSources_iff m n _).mpr
        (.inr ⟨j, (farSource_iff m n j).mpr ⟨r, home, record, stands, busy⟩, rfl⟩), rfl⟩

/-! ### The admission of a boundary -/

/-- The settings of the station that admits. -/
theorem beforeAdmission_settings (io : AudioIn) (s : State) :
    (s.beforeAdmission io).cfg = s.cfg ∧ (s.beforeAdmission io).talkerLimit = s.talkerLimit := by
  have fields (t : State) (b : Base) (same : t.base = b) : t.cfg = b.cfg ∧ t.talkerLimit = b.talkerLimit := by
    subst same
    exact ⟨rfl, rfl⟩
  obtain ⟨cfg, limit⟩ := fields _ _ (atPorts_base s)
  rw [beforeAdmission_eq, updateLocalLevels_alike, yieldStreams_alike]
  exact ⟨cfg, limit⟩

/-- The talkers that a boundary admits, before any stream entry retires. -/
theorem mixed_talkers (io : AudioIn) (s : State) (k : Fin 8) : ((s.mixed io).channels[k]).talkers =
    if (s.beforeAdmission io).channelPlays k = true then
      admitSources s.talkerLimit s.cfg.gate s.cfg.hangover ((s.beforeAdmission io).sources s.boundaryYields k)
        ((s.beforeAdmission io).channels[k]).talkers
    else ((s.beforeAdmission io).channels[k]).talkers := by
  obtain ⟨cfg, limit⟩ := beforeAdmission_settings io s
  rw [(mixed_from io s).channels, ← beforeAdmission_eq, ← boundaryYields_eq, admitAll_channel, cfg, limit]

/-- Where no entry retires the talkers of a boundary are those that it has admitted. -/
theorem boundary_talkers {s : State} (io : AudioIn) (loaded : s.loaded = true)
    (stays : ∀ (i : Fin 32) (e : StreamEntry), s.streams[i] = some e → 1 < e.silence) :
    (s.boundary io).channels = (s.mixed io).channels := by
  refine (boundary_finishes io loaded).steady fun i e stands => ?_
  have table : (s.mixed io).streams = mapTable s.atPorts.streams fun _ e => e.map fun x => (StreamEntry.yield x).2 := by
    rw [(mixed_from io s).alike]
  rw [table, mapTable_get] at stands
  obtain ⟨x, reached, rfl⟩ := Option.map_eq_some_iff.mp stands
  obtain ⟨before, stood, silence⟩ := atPorts_entry reached
  have long := stays i before stood
  rw [yield_silence, silence]
  omega

/-- Settles O44, by the three steps of an admission and the place of admission in a boundary. -/
theorem admissionTakesTheLoudest : Obligations.AdmissionTakesTheLoudest := by
  unfold Obligations.AdmissionTakesTheLoudest
  refine ⟨fun limit gate hangover src set kept named => ?_, meetCandidate_places, fun s m io k loaded before stays => ?_⟩
  · have same : kept = hangoverStep gate hangover (departed src set) := by
      rw [hangoverStep_departed, named]
      refine congrArg (fun f => List.filterMap f set) (funext fun x => ?_)
      unfold keptTalker
      cases src.find? fun y => y.party == x.party <;> rfl
    obtain ⟨perm, sorted⟩ := candidates_ordered gate src kept
    exact ⟨perm, sorted, by rw [same]; rfl⟩
  · subst before
    obtain ⟨cfg, limit⟩ := beforeAdmission_settings io s
    have own (p : Port) : (s.beforeAdmission io).own p = s.own p := by rw [State.own, cfg]; rfl
    refine ⟨⟨s.boundary io, rfl, ?_⟩, fun n bound x => sources_hoot bound x, fun n bound x => ?_⟩
    · rw [boundary_talkers io loaded stays]
      exact mixed_talkers io s k
    · rw [sources_line bound x, cfg]
      simp only [own]

end Sys2Proof.Machine
end

section
/-! PROOFS. The boundaries at which a hangover or a stream's silence ends (R141, R158; log 2). -/

namespace Sys2Proof.Machine

/-! ### A source whose hangover ends -/

theorem source_found {src : List Source} {y : Source} (distinct : (src.map (·.party)).Nodup) (member : y ∈ src) :
    (src.find? fun x => x.party == y.party) = some y := by
  cases found : src.find? fun x => x.party == y.party with
  | none => exact absurd (beq_self_eq_true y.party) (by simpa using List.find?_eq_none.mp found y member)
  | some z =>
    have same := List.find?_some found
    have same : z.party = y.party := beq_iff_eq.mp same
    rw [List.inj_on_of_nodup_map distinct (List.mem_of_find?_eq_some found) member same]

theorem mem_departed {src : List Source} {set : List Talker} {t : Talker} : t ∈ departed src set ↔
    ∃ x ∈ set, ∃ y, (src.find? fun z => z.party == x.party) = some y ∧ t = { x with level := y.level } := by
  unfold departed levelIn
  rw [List.mem_filterMap]
  refine exists_congr fun x => and_congr Iff.rfl ?_
  rw [Option.map_map, Option.map_eq_some_iff]
  exact exists_congr fun y => and_congr Iff.rfl ⟨Eq.symm, Eq.symm⟩

theorem meetCandidate_mem {limit : Nat} {set : List Talker} {x : Source} {t : Talker}
    (member : t ∈ meetCandidate limit set x) : t ∈ set ∨ t.party = x.party := by
  have joined {l : List Talker} (h : t ∈ l ++ [⟨x.party, 0, x.level⟩]) : t ∈ l ∨ t.party = x.party := by
    rcases List.mem_append.mp h with h | h
    · exact .inl h
    · exact .inr (by rw [List.mem_singleton.mp h])
  unfold meetCandidate at member
  split at member
  · exact joined member
  · split at member
    · split at member
      · rcases joined member with h | h
        · exact .inl (List.mem_of_mem_filter h)
        · exact .inr h
      · exact .inl member
    · exact .inl member

theorem meetCandidates_mem {limit : Nat} {l : List Source} {set : List Talker} {t : Talker}
    (member : t ∈ l.foldl (meetCandidate limit) set) : t ∈ set ∨ ∃ x ∈ l, t.party = x.party := by
  induction l generalizing set with
  | nil => exact .inl member
  | cons x l ih =>
    rcases ih member with h | ⟨y, hy, same⟩
    · rcases meetCandidate_mem h with h | h
      · exact .inl h
      · exact .inr ⟨x, List.mem_cons_self, h⟩
    · exact .inr ⟨y, List.mem_cons_of_mem _ hy, same⟩

/-- A source below GATE whose hangover count reaches HANGOVER is not in the set that admission leaves (R141). -/
theorem admitSources_leaves {limit gate hangover : Nat} {src : List Source} {set : List Talker} {x : Talker} {y : Source}
    (talkers : (set.map (·.party)).Nodup) (sources : (src.map (·.party)).Nodup) (talks : x ∈ set) (heard : y ∈ src)
    (same : y.party = x.party) (quiet : y.level < gate) (long : hangover ≤ x.hangover + 1) :
    ∀ t ∈ admitSources limit gate hangover src set, t.party ≠ x.party := by
  intro t member party
  have found : (src.find? fun z => z.party == x.party) = some y := same ▸ source_found sources heard
  rcases meetCandidates_mem member with kept | ⟨z, candidate, same'⟩
  · rw [hangoverStep_departed] at kept
    obtain ⟨x', hx', kept⟩ := List.mem_filterMap.mp kept
    have party' : t.party = x'.party := by
      unfold keptTalker at kept
      obtain ⟨y', -, kept⟩ := Option.bind_eq_some_iff.mp kept
      split at kept
      · exact (Option.some.inj kept) ▸ rfl
      · split at kept
        · exact (Option.some.inj kept) ▸ rfl
        · cases kept
    obtain rfl := List.inj_on_of_nodup_map talkers hx' talks (party'.symm.trans party)
    rw [keptTalker, found, Option.bind_some, if_neg (by omega), if_neg (by omega)] at kept
    cases kept
  · have chosen := (candidates_ordered gate src _).1.mem_iff.mp candidate
    obtain ⟨hz, admitted⟩ := List.mem_filter.mp chosen
    have loud := decide_eq_true_iff.mp (Bool.and_eq_true_iff.mp admitted).1
    obtain rfl := List.inj_on_of_nodup_map sources hz heard (same'.symm.trans (party.trans same.symm))
    omega

/-! ### HANGOVER_EXPIRY -/

theorem hangoverExpiry_eq (s : State) (io : AudioIn) (k : Fin 8) (p : Party) :
    exec (.hangoverExpiry k p.station p.port.octet io) s =
      .next (if s.hangoverFalls io k p then s.boundary io else s) := by
  have row : exec (.hangoverExpiry k p.station p.port.octet io) s = .next (match Port.ofCode p.port.octet with
    | some q => if s.hangoverFalls io k ⟨p.station, q⟩ then s.boundary io else s
    | none => s) := rfl
  rw [row, port_read]

theorem departed_any {src : List Source} {set : List Talker} {gate hangover : Nat} {p : Party} :
    ((departed src set).any fun t => t.party == p && t.level < gate && t.hangover + 1 ≥ hangover) = true ↔
      ∃ x ∈ set, x.party = p ∧ ∃ y, (src.find? fun z => z.party == x.party) = some y ∧
        y.level < gate ∧ hangover ≤ x.hangover + 1 := by
  rw [List.any_eq_true]
  constructor
  · rintro ⟨t, departs, judged⟩
    obtain ⟨x, hx, y, found, rfl⟩ := mem_departed.mp departs
    rw [Bool.and_eq_true, Bool.and_eq_true, beq_iff_eq, decide_eq_true_iff, decide_eq_true_iff] at judged
    obtain ⟨⟨party, quiet⟩, long⟩ := judged
    exact ⟨x, hx, party, y, found, quiet, long⟩
  · rintro ⟨x, hx, party, y, found, quiet, long⟩
    refine ⟨{ x with level := y.level }, mem_departed.mpr ⟨x, hx, y, found, rfl⟩, ?_⟩
    rw [Bool.and_eq_true, Bool.and_eq_true, beq_iff_eq, decide_eq_true_iff, decide_eq_true_iff]
    exact ⟨⟨party, quiet⟩, long⟩

theorem hangoverFalls_iff (s : State) (io : AudioIn) (k : Fin 8) (p : Party) : s.hangoverFalls io k p = true ↔
    s.loaded = true ∧ (s.beforeAdmission io).channelPlays k = true ∧
      ∃ x ∈ ((s.beforeAdmission io).channels[k]).talkers, x.party = p ∧
        ∃ y, (((s.beforeAdmission io).sources s.boundaryYields k).find? fun z => z.party == x.party) = some y ∧
          y.level < s.cfg.gate ∧ s.cfg.hangover ≤ x.hangover + 1 := by
  have cfg := (beforeAdmission_settings io s).1
  have falls : s.hangoverFalls io k p = (s.loaded && (s.beforeAdmission io).channelPlays k &&
      (departed ((s.beforeAdmission io).sources s.boundaryYields k) ((s.beforeAdmission io).channels[k]).talkers).any fun t =>
        t.party == p && t.level < (s.beforeAdmission io).cfg.gate && t.hangover + 1 ≥ (s.beforeAdmission io).cfg.hangover) := rfl
  rw [falls, cfg, Bool.and_eq_true, Bool.and_eq_true, and_assoc, departed_any]

/-- The boundary at which a hangover ends leaves the source out of the set. -/
theorem hangover_ends {s : State} {io : AudioIn} {k : Fin 8} {l : List Talker} {x : Talker} {y : Source}
    (left : ((s.boundary io).channels[k]).talkers = l) (loaded : s.loaded = true)
    (plays : (s.beforeAdmission io).channelPlays k = true)
    (talkers : (((s.beforeAdmission io).channels[k]).talkers.map (·.party)).Nodup)
    (sources : (((s.beforeAdmission io).sources s.boundaryYields k).map (·.party)).Nodup)
    (talks : x ∈ ((s.beforeAdmission io).channels[k]).talkers) (heard : y ∈ (s.beforeAdmission io).sources s.boundaryYields k)
    (same : y.party = x.party) (quiet : y.level < s.cfg.gate) (long : s.cfg.hangover ≤ x.hangover + 1) :
    ∀ t ∈ l, t.party ≠ x.party := by
  have admitted := mixed_talkers io s k
  rw [if_pos plays] at admitted
  obtain ⟨kept, shed, fields⟩ := (boundary_finishes io loaded).sheds k
  have leaves := admitSources_leaves (limit := s.talkerLimit) talkers sources talks heard same quiet long
  rw [← admitted] at leaves
  generalize s.boundary io = b at fields left
  generalize s.mixed io = m at fields shed leaves
  obtain rfl : kept = l := by rw [← left, fields]
  exact fun t member => leaves t (shed.subset member)

/-! ### STREAM_SILENCE_EXPIRY -/

theorem stream_retires {s : State} (io : AudioIn) {i : Fin 32} {e : StreamEntry} (stands : s.streams[i] = some e)
    (loaded : s.loaded = true) (ends : e.silence ≤ 1) : (s.boundary io).streams[i] = none := by
  obtain ⟨empty, each⟩ := (boundary_passes io loaded).stream i
  cases reached : s.atPorts.streams[i] with
  | none => exact empty reached
  | some x =>
    obtain ⟨before, stood, silence⟩ := atPorts_entry reached
    obtain rfl := Option.some.inj (stands.symm.trans stood)
    rw [each x reached]
    exact if_pos (by omega)

theorem streamSilenceExpiry_eq {s : State} (io : AudioIn) {i : Fin 32} {e : StreamEntry} (stands : s.streams[i] = some e) :
    exec (.streamSilenceExpiry i io) s = .next (if s.loaded && decide (e.silence ≤ 1) then s.boundary io else s) := by
  have row : exec (.streamSilenceExpiry i io) s = .next (if s.streamEnds i then s.boundary io else s) := rfl
  have ends : s.streamEnds i = (s.loaded && decide (e.silence ≤ 1)) := by
    unfold State.streamEnds
    rw [stands]
  rw [row, ends]

/-! ### The obligation -/

/-- Settles O43: the rows are the boundary exactly where the decision of R141 or R158 falls. -/
theorem talkersAndStreamsExpireAtABoundary : Obligations.TalkersAndStreamsExpireAtABoundary := by
  unfold Obligations.TalkersAndStreamsExpireAtABoundary
  intro s io
  constructor
  · rintro k p m rfl talkers sources
    rw [hangoverExpiry_eq]
    constructor
    · rintro ⟨loaded, plays, x, talks, rfl, y, heard, same, quiet, long⟩
      have falls := (hangoverFalls_iff s io k x.party).mpr
        ⟨loaded, plays, x, talks, rfl, y, same ▸ source_found sources heard, quiet, long⟩
      rw [if_pos falls]
      exact ⟨rfl, _, rfl, hangover_ends rfl loaded plays talkers sources talks heard same quiet long⟩
    · intro stays
      rw [if_neg]
      intro falls
      obtain ⟨loaded, plays, x, talks, rfl, y, found, quiet, long⟩ := (hangoverFalls_iff s io k p).mp falls
      have same := List.find?_some found
      rcases stays with unloaded | still | kept
      · exact absurd (unloaded.symm.trans loaded) Bool.false_ne_true
      · exact absurd (still.symm.trans plays) Bool.false_ne_true
      · rcases kept x talks rfl y (List.mem_of_find?_eq_some found) (beq_iff_eq.mp same) with loud | short <;> omega
  · intro i e stands
    rw [streamSilenceExpiry_eq io stands]
    constructor
    · intro loaded ends
      rw [if_pos (by simp [loaded, ends])]
      exact ⟨rfl, _, rfl, stream_retires io stands loaded ends⟩
    · intro stays
      rw [if_neg (by rcases stays with unloaded | lives <;> simp [*])]

end Sys2Proof.Machine
end

section
/-! SUPPORT. A block boundary at a station with one recorded port (R171, R177, R182). -/

namespace Sys2Proof.Machine

/-! ### The other taps -/

theorem setTap_others (k : Fin 8) (x : Tap) (s : State) {j : Fin 8} (apart : j ≠ k) : (s.setTap k x).taps[j] = s.taps[j] :=
  Vector.getElem_set_ne k.isLt j.isLt fun h => apart (Fin.ext h.symm)

theorem claim_taps {s t : State} {i : Fin 64} (claimed : s.claim = some (i, t)) : t.taps = s.taps := by
  unfold State.claim at claimed
  split at claimed
  · obtain ⟨-, rfl⟩ := Prod.mk.injEq .. ▸ Option.some.inj claimed
    rfl
  · cases claimed

theorem claimOrStarve_others (k : Fin 8) (x : Tap) (s : State) {j : Fin 8} (apart : j ≠ k) :
    (s.claimOrStarve k x).taps[j] = s.taps[j] := by
  unfold State.claimOrStarve
  split
  · next i t claimed => exact (setTap_others k _ _ apart).trans (by rw [claim_taps claimed])
  · rw [State.starve, notify_taps]
    exact setTap_others k _ _ apart

theorem closeSegment_taps (x : Tap) (last : Bool) (s : State) : (s.closeSegment x last).taps = s.taps := by
  unfold State.closeSegment
  split <;> rfl

theorem tapAppend_others (k : Fin 8) (near far : Block) (gap : Bool) (s : State) {j : Fin 8} (apart : j ≠ k) :
    (s.tapAppend k near far gap).taps[j] = s.taps[j] := by
  unfold State.tapAppend
  split
  · split
    · dsimp only
      split
      · rfl
      · rw [claimOrStarve_others k _ _ apart, closeSegment_taps]
    · rfl
  · rfl

theorem countOwed_taps (k : Fin 8) (x : Tap) (s : State) : (s.countOwed k x).2.taps = s.taps := by
  unfold State.countOwed
  split
  · split <;> rfl
  · rfl

theorem afterOwedLast_others (k : Fin 8) (x : Tap) (s : State) {j : Fin 8} (apart : j ≠ k) :
    (s.afterOwedLast k x).taps[j] = s.taps[j] := by
  unfold State.afterOwedLast
  split
  · exact setTap_others k _ s apart
  · dsimp only
    split
    · exact setTap_others k _ _ apart
    · exact (congrArg (fun v => v[j]) (notify_taps _ _)).trans (setTap_others k _ _ apart)

theorem closingBoundary_others (k : Fin 8) (x : Tap) (s : State) {j : Fin 8} (apart : j ≠ k) :
    (s.closingBoundary k x).taps[j] = s.taps[j] := by
  unfold State.closingBoundary
  split
  · next i t claimed =>
    dsimp only
    rw [afterOwedLast_others k _ _ apart, countOwed_taps, ← claim_taps claimed]
    exact setTap_others k _ _ apart
  · dsimp only
    rw [setTap_others k _ _ apart, countOwed_taps]

/-- A tap's work at a boundary leaves the other taps. -/
theorem tapBoundary_others (k : Fin 8) (near far : Block) (gap : Bool) (s : State) {j : Fin 8} (apart : j ≠ k) :
    (s.tapBoundary k near far gap).taps[j] = s.taps[j] := by
  unfold State.tapBoundary
  split
  · rfl
  · split
    · rfl
    · exact tapAppend_others k near far gap s apart
    · split
      · next i t claimed =>
        rw [tapAppend_others k _ _ _ _ apart, ← claim_taps claimed]
        exact setTap_others k _ _ apart
      · exact setTap_others k _ _ apart
    · exact closingBoundary_others k _ s apart

theorem tapBoundary_none {k : Fin 8} (near far : Block) (gap : Bool) {s : State} (none : s.taps[k] = none) :
    s.tapBoundary k near far gap = s := by
  unfold State.tapBoundary
  rw [none]

/-- The ports before a port and behind it. -/
theorem allPorts_split (k : Fin 8) : ∃ pre post, allPorts = pre ++ k :: post ∧ k ∉ pre ∧ k ∉ post := by
  obtain ⟨pre, post, split⟩ := List.append_of_mem (mem_allPorts k)
  have distinct : (pre ++ k :: post).Nodup := split ▸ (by decide : allPorts.Nodup)
  obtain ⟨-, behind, apart⟩ := List.nodup_append.mp distinct
  exact ⟨pre, post, split, fun h => apart k h k List.mem_cons_self rfl, (List.nodup_cons.mp behind).1⟩

/-- A boundary with one tap is that tap's work. -/
theorem recordTaps_one (ys : List Yielded) {s : State} (k : Fin 8) (alone : ∀ j : Fin 8, j ≠ k → s.taps[j] = none) :
    s.recordTaps ys = s.tapBoundary k s.lineOut[k] (s.farBlock k) (s.gapAt ys k) := by
  have idle (l : List (Fin 8)) (u : State) (rest : ∀ j ∈ l, u.taps[j] = none) :
      l.foldl (fun s k => s.tapBoundary k s.lineOut[k] (s.farBlock k) (s.gapAt ys k)) u = u := by
    induction l with
    | nil => rfl
    | cons j l ih =>
      rw [List.foldl_cons, tapBoundary_none _ _ _ (rest j List.mem_cons_self)]
      exact ih fun i hi => rest i (List.mem_cons_of_mem _ hi)
  obtain ⟨pre, post, split, before, behind⟩ := allPorts_split k
  unfold State.recordTaps
  rw [split, List.foldl_append, idle pre s fun j hj => alone j fun h => before (h ▸ hj), List.foldl_cons]
  refine idle post _ fun j hj => ?_
  have apart : j ≠ k := fun h => behind (h ▸ hj)
  rw [tapBoundary_others k _ _ _ s apart]
  exact alone j apart

/-! ### Blocks that were not REAL (R182) -/

theorem yield_real (e : StreamEntry) : e.yield.1 = .real ↔ ¬e.queue.length < if e.playing then 1 else 2 := by
  obtain ⟨filling, queued, concealed, dry⟩ := yield_cases e _ rfl
  cases playing : e.playing with
  | false =>
    rw [if_neg Bool.false_ne_true]
    match queue : e.queue with
    | [] => rw [filling playing (by rw [queue]; simp)]; exact ⟨nofun, fun h => absurd (by simp) h⟩
    | [x] => rw [filling playing (by rw [queue]; simp)]; exact ⟨nofun, fun h => absurd (by simp) h⟩
    | x :: y :: rest => rw [queued x (y :: rest) queue (.inr nofun)]; exact ⟨fun _ => by simp, fun _ => rfl⟩
  | true =>
    rw [if_pos rfl]
    match queue : e.queue with
    | [] =>
      by_cases few : e.concealed ≤ 1
      · obtain ⟨b, -, yields⟩ := concealed playing queue few
        rw [yields]
        exact ⟨nofun, fun h => absurd (by simp) h⟩
      · rw [dry playing queue (by omega)]
        exact ⟨nofun, fun h => absurd (by simp) h⟩
    | x :: rest => rw [queued x rest queue (.inl playing)]; exact ⟨fun _ => by simp, fun _ => rfl⟩

theorem mem_yields {s : State} {y : Yielded} :
    y ∈ s.yields ↔ ∃ (i : Fin 32) (e : StreamEntry), s.streams[i] = some e ∧ y = e.yielded := by
  rw [yields_eq, List.mem_filterMap]
  constructor
  · rintro ⟨x, hx, made⟩
    obtain ⟨e, rfl, rfl⟩ := Option.map_eq_some_iff.mp made
    obtain ⟨i, hi, here⟩ := List.getElem_of_mem hx
    rw [Vector.getElem_toList] at here
    exact ⟨⟨i, by simpa using hi⟩, e, here, rfl⟩
  · rintro ⟨i, e, stands, rfl⟩
    exact ⟨some e, List.mem_of_getElem (i := i.val) (h := by simp) (by rw [Vector.getElem_toList]; exact stands), rfl⟩

/-- Of an ACTIVE member in ENGAGED. -/
theorem mem_activeSet {s : State} {k : Fin 8} {p : Party} : p ∈ s.activeSet k ↔
    ∃ (r : LineRecord) (m : Member), s.records[k] = some r ∧ r.state = .engaged ∧ m ∈ r.members ∧ m.mode = .active ∧
      m.party = p := by
  cases stands : s.records[k] with
  | none =>
    have empty : s.activeSet k = [] := by
      unfold State.activeSet
      rw [stands]
    rw [empty]
    exact ⟨fun h => absurd h List.not_mem_nil, fun ⟨_, _, same, _⟩ => absurd same nofun⟩
  | some r =>
    rw [activeSet_eq stands]
    by_cases engaged : r.state = .engaged
    · rw [if_pos engaged, List.mem_map]
      constructor
      · rintro ⟨m, listed, rfl⟩
        obtain ⟨listed, active⟩ := List.mem_filter.mp listed
        exact ⟨r, m, rfl, engaged, listed, beq_iff_eq.mp active, rfl⟩
      · rintro ⟨r', m, same, -, listed, active, rfl⟩
        obtain rfl := Option.some.inj same
        exact ⟨m, List.mem_filter.mpr ⟨listed, beq_iff_eq.mpr active⟩, rfl⟩
    · rw [if_neg engaged]
      exact ⟨fun h => absurd h List.not_mem_nil, fun ⟨_, _, same, state, _⟩ => absurd (Option.some.inj same ▸ state) engaged⟩

theorem gapAt_iff (s : State) (k : Fin 8) : s.gapAt s.yields k = true ↔ s.TakesUnreal k := by
  have missing (p : Party) : (!(s.yields.any fun y =>
      y.circuit == lineCircuit (s.portCfg k).line && y.party == p && y.kind == .real)) = true ↔
      ∀ (i : Fin 32) (e : StreamEntry), s.streams[i] = some e → e.circuit = .line (s.portCfg k).line →
        e.party = p → e.queue.length < if e.playing then 1 else 2 := by
    rw [Bool.not_eq_true', List.any_eq_false]
    constructor
    · intro none i e stands circuit party
      have apart := none e.yielded (mem_yields.mpr ⟨i, e, stands, rfl⟩)
      rw [Bool.and_eq_true, Bool.and_eq_true, beq_iff_eq, beq_iff_eq, beq_iff_eq] at apart
      exact Decidable.not_not.mp fun long => apart ⟨⟨circuit, party⟩, (yield_real e).mpr long⟩
    · intro short y hy judged
      obtain ⟨i, e, stands, rfl⟩ := mem_yields.mp hy
      rw [Bool.and_eq_true, Bool.and_eq_true, beq_iff_eq, beq_iff_eq, beq_iff_eq] at judged
      obtain ⟨⟨circuit, party⟩, real⟩ := judged
      exact (yield_real e).mp real (short i e stands circuit party)
  unfold State.gapAt State.TakesUnreal
  rw [List.any_eq_true]
  constructor
  · rintro ⟨p, active, judged⟩
    obtain ⟨r, m, stands, engaged, listed, mode, rfl⟩ := mem_activeSet.mp active
    obtain ⟨remote, unreal⟩ := Bool.and_eq_true_iff.mp judged
    exact ⟨r, m, stands, engaged, listed, mode, bne_iff_ne.mp remote, (missing m.party).mp unreal⟩
  · rintro ⟨r, m, stands, engaged, listed, mode, remote, short⟩
    exact ⟨m.party, mem_activeSet.mpr ⟨r, m, stands, engaged, listed, mode, rfl⟩,
      Bool.and_eq_true_iff.mpr ⟨bne_iff_ne.mpr remote, (missing m.party).mpr short⟩⟩

end Sys2Proof.Machine
end

section
/-! SUPPORT. What a tap finds at a block boundary behind mixes, frames and voices (R171, R177; log 17). -/

namespace Sys2Proof.Machine

theorem readWork_fields (p : LinePort) : ∃ last store, p.readWork.port = { p with lastBlock := last, store := store } := by
  unfold LinePort.readWork PortWork.readStore
  dsimp only
  split
  · exact ⟨_, p.store, rfl⟩
  · split
    · exact ⟨_, _, rfl⟩
    · exact ⟨_, p.store, rfl⟩

theorem farBlock_alike {s t : State} {k : Fin 8} (records : t.records[k] = s.records[k]) (ports : t.ports[k] = s.ports[k]) :
    t.farBlock k = s.farBlock k := by
  unfold State.farBlock
  rw [records, ports]

theorem tick_parties (r : LineRecord) : r.tick.parties = r.parties := by
  unfold LineRecord.parties LineRecord.tick
  rw [List.map_map]
  rfl

theorem tick_active (r : LineRecord) : (r.tick.members.filter fun m => m.mode == .active).map (·.party) =
    (r.members.filter fun m => m.mode == .active).map (·.party) := by
  have each (l : List Member) : (((l.map fun m => { m with recallTimer := m.recallTimer.tick }).filter
      fun m => m.mode == .active).map (·.party) : List Party) = (l.filter fun m => m.mode == .active).map (·.party) := by
    rw [List.filter_map, List.map_map]
    rfl
  exact each r.members

theorem partySet_ticked {s t : State} {k : Fin 8} (ticked : t.records[k] = s.records[k].map LineRecord.tick) :
    t.partySet k = s.partySet k := by
  unfold State.partySet
  rw [ticked]
  cases s.records[k] with
  | none => rfl
  | some r => exact tick_parties r

theorem activeSet_ticked {s t : State} {k : Fin 8} (ticked : t.records[k] = s.records[k].map LineRecord.tick) :
    t.activeSet k = s.activeSet k := by
  unfold State.activeSet
  rw [ticked]
  cases s.records[k] with
  | none => rfl
  | some r =>
    have same : r.tick.state = r.state := rfl
    dsimp only [Option.map_some]
    rw [same, tick_active]

theorem gapAt_alike {s t : State} (ys : List Yielded) {k : Fin 8} (active : t.activeSet k = s.activeSet k)
    (cfg : t.cfg = s.cfg) : t.gapAt ys k = s.gapAt ys k := by
  unfold State.gapAt State.portCfg
  rw [active, cfg]

/-- A station behind the mixes, frames and voices of a boundary that finds carrier on every port, as a tap sees it. -/
structure State.BeforeTaps (s m : State) (k : Fin 8) : Prop where
  taps : m.taps = s.taps
  ring : m.ring = s.ring
  claimIndex : m.claimIndex = s.claimIndex
  recordingCount : m.recordingCount = s.recordingCount
  cfg : m.cfg = s.cfg
  stationTime : m.stationTime = nextBoundary s.stationTime
  notices : m.notices = s.notices
  record : m.records[k] = s.records[k].map LineRecord.tick
  settled : (m.ports[k]).settled = (s.ports[k]).settled
  alarms : (m.ports[k]).alarms = (s.ports[k]).alarms

theorem reachBoundary_record (s : State) (k : Fin 8) : s.reachBoundary.records[k] = s.records[k].map LineRecord.tick :=
  mapTable_get s.records (fun _ r => r.map LineRecord.tick) k

theorem reachBoundary_beforeTaps (s : State) (k : Fin 8) : s.BeforeTaps s.reachBoundary k :=
  ⟨rfl, rfl, rfl, rfl, rfl, rfl, rfl, reachBoundary_record s k, rfl, rfl⟩

theorem atPorts_beforeTaps {s : State} (carried : ∀ k : Fin 8, s.carrier[k] = true) (k : Fin 8) :
    s.BeforeTaps s.atPorts k := by
  obtain ⟨ports, lines, read, each⟩ := readStores_fields s.reachBoundary
  obtain ⟨port, -⟩ := each k
  have kept : ports[k].settled = (s.ports[k]).settled ∧ ports[k].alarms = (s.ports[k]).alarms := by
    rw [port]
    split
    · obtain ⟨last, store, fields⟩ := readWork_fields s.reachBoundary.ports[k]
      rw [fields]
      exact ⟨rfl, rfl⟩
    · exact ⟨rfl, rfl⟩
  have before := reachBoundary_beforeTaps s k
  rw [atPorts_carried carried, read]
  generalize s.reachBoundary = u at before
  exact ⟨before.taps, before.ring, before.claimIndex, before.recordingCount, before.cfg, before.stationTime, before.notices,
    before.record, kept.1, kept.2⟩

/-- The station to which the taps' work of a boundary comes. -/
def State.voiced (io : AudioIn) (s : State) : State := (s.mixed io).buildFrames.sendVoices io

theorem voiced_beforeTaps {s : State} (io : AudioIn) (carried : ∀ k : Fin 8, s.carrier[k] = true) (k : Fin 8) :
    s.BeforeTaps (s.voiced io) k := by
  have before := atPorts_beforeTaps carried k
  have mixed := (mixed_from io s).alike
  unfold State.voiced
  generalize s.mixed io = m at mixed ⊢
  generalize s.atPorts = u at before mixed
  have before : s.BeforeTaps m k := by
    generalize m.channels = v1, m.marks = v2, m.earpieceOut = v3, m.speakerOut = v4, m.lineOut = v5,
      m.live.clipsHandset = v6, m.live.clipsSpeaker = v7, m.live.clipsLine = v8 at mixed
    subst mixed
    exact ⟨before.taps, before.ring, before.claimIndex, before.recordingCount, before.cfg, before.stationTime,
      before.notices, before.record, before.settled, before.alarms⟩
  clear mixed
  obtain ⟨ports, framed, each⟩ := buildFrames_eq m
  rw [framed]
  have voiced := (sendVoices_voiceWork io { m with ports := ports }).alike
  have port : (ports[k]).settled = (m.ports[k]).settled ∧ (ports[k]).alarms = (m.ports[k]).alarms := by
    obtain ⟨frame, index, parity, fields⟩ := framedPort_eq m k
    rw [each k, fields]
    exact ⟨rfl, rfl⟩
  generalize State.sendVoices io { m with ports := ports } = v at voiced ⊢
  generalize v.txQueue = v1, v.transmitting = v2, v.mediumIdle = v3, v.mediumLooks = v4, v.sequences = v5,
    v.live.txOverruns = v6 at voiced
  subst voiced
  exact ⟨before.taps, before.ring, before.claimIndex, before.recordingCount, before.cfg, before.stationTime, before.notices,
    before.record, port.1.trans before.settled, port.2.trans before.alarms⟩

/-- What the retirement of streams leaves of a tap's work and of what it takes. -/
theorem retireStreams_taped (w : State) (k : Fin 8) : w.retireStreams.taps = w.taps ∧ w.retireStreams.ring = w.ring ∧
    w.retireStreams.claimIndex = w.claimIndex ∧ w.retireStreams.notices = w.notices ∧
    w.retireStreams.recordingCount = w.recordingCount ∧ w.retireStreams.lineOut = w.lineOut ∧
    w.retireStreams.farBlock k = w.farBlock k := by
  obtain ⟨channels, marks, retired, -⟩ := removeStreams_fields (fun e => e.silence == 0) w
  rw [State.retireStreams, retired]
  exact ⟨rfl, rfl, rfl, rfl, rfl, rfl, rfl⟩

theorem State.TapsWork.blocks {s t : State} (work : s.TapsWork t) (k : Fin 8) :
    t.lineOut = s.lineOut ∧ t.farBlock k = s.farBlock k := by
  have alike := work.alike
  clear work
  generalize t.taps = v1, t.recordingCount = v2, t.ring = v3, t.claimIndex = v4, t.notices = v5, t.overflow = v6,
    t.live.lostPairs = v7 at alike
  subst alike
  exact ⟨rfl, rfl⟩

/-- A boundary with carrier on every port and one tap is that tap's work (R171). -/
theorem boundary_taped {s : State} (io : AudioIn) (loaded : s.loaded = true) {k : Fin 8}
    (quiet : ∀ j : Fin 8, s.carrier[j] = true ∧ (j ≠ k → s.taps[j] = none)) : ∃ m w : State, s.BeforeTaps m k ∧
      w = m.tapBoundary k (s.boundary io).lineOut[k] ((s.boundary io).farBlock k) (s.gapAt s.yields k) ∧
      (s.boundary io).taps = w.taps ∧ (s.boundary io).ring = w.ring ∧ (s.boundary io).claimIndex = w.claimIndex ∧
      (s.boundary io).notices = w.notices := by
  have carried j := (quiet j).1
  have before := voiced_beforeTaps io carried k
  have whole : s.boundary io = ((s.voiced io).recordTaps s.yields).retireStreams := by
    rw [boundary_loaded io loaded, boundaryYields_carried carried]
    rfl
  have taped := recordTaps_tapsWork s.yields (s.voiced io)
  have alone (j : Fin 8) (apart : j ≠ k) : (s.voiced io).taps[j] = none := by
    have taps := before.taps
    generalize s.voiced io = m at taps
    rw [taps]
    exact (quiet j).2 apart
  have work := recordTaps_one s.yields k alone
  obtain ⟨taps, ring, index, notices, -, out, far⟩ := retireStreams_taped ((s.voiced io).recordTaps s.yields) k
  rw [← whole] at taps ring index notices out far
  clear whole
  generalize s.boundary io = t at taps ring index notices out far ⊢
  generalize s.voiced io = m at *
  refine ⟨m, m.recordTaps s.yields, before, ?_, taps, ring, index, notices⟩
  have gap : m.gapAt s.yields k = s.gapAt s.yields k := gapAt_alike _ (activeSet_ticked before.record) before.cfg
  obtain ⟨outs, fars⟩ := taped.blocks k
  rw [out, far, outs, fars, ← gap]
  exact work

end Sys2Proof.Machine
end

section
/-! SUPPORT. The open segment of a tap (R177, R180 to R182). -/

namespace Sys2Proof.Machine

/-! ### Claims and segments -/

theorem claim_free {s : State} (free : (s.ring[s.claimIndex]).owner = .free) :
    s.claim = some (s.claimIndex, { s with claimIndex := s.claimIndex + 1 }) := if_pos free

theorem claim_taken {s : State} (taken : (s.ring[s.claimIndex]).owner ≠ .free) : s.claim = none := if_neg taken

theorem claimOrStarve_free {s : State} (k : Fin 8) (x : Tap) (free : (s.ring[s.claimIndex]).owner = .free) :
    s.claimOrStarve k x = ({ s with claimIndex := s.claimIndex + 1 } : State).openSegment k x s.claimIndex := by
  unfold State.claimOrStarve
  rw [claim_free free]

theorem claimOrStarve_taken {s : State} (k : Fin 8) (x : Tap) (taken : (s.ring[s.claimIndex]).owner ≠ .free) :
    s.claimOrStarve k x = s.starve k x := by
  unfold State.claimOrStarve
  rw [claim_taken taken]

/-- A descriptor with the pairs of a boundary behind those that it holds (R180, R182). -/
def Descriptor.appended (d : Descriptor) (near far : Block) (gap : Bool) (now : Time) : Descriptor :=
  { d with
    pairs := d.pairs ++ near.toList.zip far.toList
    startTime := if d.pairs = [] then now else d.startTime
    gap := d.gap || gap }

theorem samplePairs_length (near far : Block) : (near.toList.zip far.toList).length = 16 := by simp

theorem appended_length (d : Descriptor) (near far : Block) (gap : Bool) (now : Time) :
    (d.appended near far gap now).pairs.length = d.pairs.length + 16 := by
  rw [Descriptor.appended, List.length_append, samplePairs_length]

theorem appended_close {d : Descriptor} (near far : Block) (gap last : Bool) (now : Time) :
    (d.appended near far gap now).close last now =
      { d.appended near far gap now with owner := .ready, last := last } := by
  have held : (d.appended near far gap now).pairs ≠ [] := fun none => by
    have length := appended_length d near far gap now
    rw [none, List.length_nil] at length
    omega
  rw [Descriptor.close, if_neg held]

theorem tapAppend_eq {s : State} {k : Fin 8} {x : Tap} {i : Fin 64} (near far : Block) (gap : Bool)
    (tapped : s.taps[k] = some x) (fills : x.filling = some i) : s.tapAppend k near far gap =
      if (s.ring[i]).pairs.length + 16 < 256 then
        { s with ring := s.ring.set i ((s.ring[i]).appended near far gap s.stationTime) }
      else (State.closeSegment x false { s with ring := s.ring.set i ((s.ring[i]).appended near far gap s.stationTime) }).claimOrStarve
        k { x with filling := none } := by
  unfold State.tapAppend
  rw [tapped]
  dsimp only
  rw [fills]
  dsimp only
  have length := appended_length (s.ring[i]) near far gap s.stationTime
  by_cases short : (s.ring[i]).pairs.length + 16 < 256
  · rw [if_pos short]
    exact if_pos (length ▸ short)
  · rw [if_neg short]
    exact if_neg (length ▸ short)

theorem closeSegment_eq {s : State} {x : Tap} {i : Fin 64} (last : Bool) (fills : x.filling = some i) :
    s.closeSegment x last = { s with ring := s.ring.set i ((s.ring[i]).close last s.stationTime) } := by
  unfold State.closeSegment
  rw [fills]
  rfl

/-- A segment that is not FREE and closes or stays open frees no descriptor. -/
theorem set_free {ring : Vector Descriptor 64} {i j : Fin 64} {d : Descriptor} (old : (ring[i]).owner ≠ .free)
    (new : d.owner ≠ .free) : ((ring.set i d)[j]).owner = .free ↔ (ring[j]).owner = .free := by
  by_cases here : i = j
  · subst here
    rw [show (ring.set i d)[i] = d from Vector.getElem_set_self _]
    exact ⟨fun h => absurd h new, fun h => absurd h old⟩
  · rw [show (ring.set i d)[j] = ring[j] from Vector.getElem_set_ne i.isLt j.isLt fun h => here (Fin.ext h)]

/-! ### A boundary at a RECORDING tap -/

theorem tapBoundary_recording {s : State} {k : Fin 8} {x : Tap} (near far : Block) (gap : Bool)
    (tapped : s.taps[k] = some x) (records : x.state = .recording) :
    s.tapBoundary k near far gap = s.tapAppend k near far gap := by
  unfold State.tapBoundary
  rw [tapped]
  dsimp only
  rw [records]

/-- What a segment that fills leaves of its descriptor and of its tap (R180, R184). -/
theorem tapAppend_fills {s : State} {k : Fin 8} {x : Tap} {i : Fin 64} (near far : Block) (gap : Bool)
    (tapped : s.taps[k] = some x) (records : x.state = .recording) (fills : x.filling = some i)
    (open_ : (s.ring[i]).owner = .filling) (full : 256 ≤ (s.ring[i]).pairs.length + 16) :
    (s.tapAppend k near far gap).ring[i] =
        { (s.ring[i]).appended near far gap s.stationTime with owner := .ready, last := false } ∧
      ((s.ring[s.claimIndex]).owner = .free → (s.tapAppend k near far gap).claimIndex = s.claimIndex + 1 ∧
        (s.tapAppend k near far gap).taps[k] = some { x with
          filling := some s.claimIndex, nextSegment := x.nextSegment + 1#16, lostPairs := 0#16 } ∧
        ((s.tapAppend k near far gap).ring[s.claimIndex]).owner = .filling ∧
        ((s.tapAppend k near far gap).ring[s.claimIndex]).segment = x.nextSegment) ∧
      ((s.ring[s.claimIndex]).owner ≠ .free → (s.tapAppend k near far gap).claimIndex = s.claimIndex ∧
        (s.tapAppend k near far gap).taps[k] = some { x with state := .starved, filling := none }) := by
  have append := tapAppend_eq near far gap tapped fills
  rw [if_neg (by omega), closeSegment_eq false fills] at append
  have inner : (s.ring.set i ((s.ring[i]).appended near far gap s.stationTime))[i] =
      (s.ring[i]).appended near far gap s.stationTime := Vector.getElem_set_self _
  dsimp only at append
  rw [inner, appended_close, Vector.set_set] at append
  have closed : ({ (s.ring[i]).appended near far gap s.stationTime with owner := .ready, last := false }).owner ≠ .free := nofun
  generalize { (s.ring[i]).appended near far gap s.stationTime with owner := .ready, last := false } = d at append closed ⊢
  have unfree : (s.ring[i]).owner ≠ .free := fun h => absurd (open_.symm.trans h) (by decide)
  by_cases free : (s.ring[s.claimIndex]).owner = .free
  · have apart : i.val ≠ s.claimIndex.val := fun h => by
      obtain rfl : i = s.claimIndex := Fin.ext h
      exact unfree free
    rw [claimOrStarve_free k _ ((set_free unfree closed).mpr free)] at append
    rw [append]
    refine ⟨(Vector.getElem_set_ne s.claimIndex.isLt i.isLt apart.symm).trans (Vector.getElem_set_self _),
      fun _ => ⟨rfl, ?_, ?_, ?_⟩, fun taken => absurd free taken⟩
    · exact (Vector.getElem_set_self _).trans (by rw [← records])
    · exact congrArg Descriptor.owner (Vector.getElem_set_self _)
    · exact congrArg Descriptor.segment (Vector.getElem_set_self _)
  · have taken : ((s.ring.set i d)[s.claimIndex]).owner ≠ .free := fun h => free ((set_free unfree closed).mp h)
    rw [claimOrStarve_taken k _ taken, State.starve] at append
    have ring := congrArg State.ring append
    have taps := congrArg State.taps append
    have index := congrArg State.claimIndex append
    rw [notify_ring] at ring
    rw [notify_taps] at taps
    rw [notify_claimIndex] at index
    rw [ring, taps, index]
    exact ⟨Vector.getElem_set_self _, fun h => absurd h free, fun _ => ⟨rfl, Vector.getElem_set_self _⟩⟩

end Sys2Proof.Machine
end

section
/-! SUPPORT. The ALARM mark of an open segment at a port's work (R182). -/

namespace Sys2Proof.Machine

/-- Nothing of the recording engine but, with a defect newly declared, the ALARM mark of the segment that port `k` holds
open (R182). -/
structure State.Alarmed (k : Fin 8) (i : Fin 64) (s t : State) : Prop where
  taps : t.taps = s.taps
  ring : t.ring = if (s.ports[k]).alarms.declaresMore (t.ports[k]).alarms
    then s.ring.set i { s.ring[i] with alarm := true } else s.ring

/-- Taps and ring left alone. -/
structure State.Unrecorded (s t : State) : Prop where
  taps : t.taps = s.taps
  ring : t.ring = s.ring

theorem State.Unrecorded.trans {s t u : State} (p : s.Unrecorded t) (q : t.Unrecorded u) : s.Unrecorded u :=
  ⟨q.taps.trans p.taps, q.ring.trans p.ring⟩

theorem State.Alarmed.then {k : Fin 8} {i : Fin 64} {s t u : State} (p : s.Alarmed k i t) (q : t.Unrecorded u)
    (ports : u.ports = t.ports) : s.Alarmed k i u :=
  ⟨q.taps.trans p.taps, by rw [q.ring, ports]; exact p.ring⟩

theorem State.Works.unrecorded {s t : State} (works : s.Works t) : s.Unrecorded t := by
  have alike := works.alike
  clear works
  generalize t.mirrors = v1, t.handsets = v2, t.held = v3, t.pendingAsks = v4, t.channels = v5, t.sequences = v6,
    t.streams = v7, t.marks = v8, t.notices = v9, t.overflow = v10 at alike
  subst alike
  exact ⟨rfl, rfl⟩

theorem send_unrecorded (target : Station) (b : Body) (s : State) : s.Unrecorded (s.send target b) := by
  have alike : s.send target b = _ := send_alike target b s
  generalize s.send target b = t at alike ⊢
  generalize t.txQueue = v1, t.transmitting = v2, t.mediumIdle = v3, t.mediumLooks = v4, t.live = v5 at alike
  subst alike
  exact ⟨rfl, rfl⟩

theorem restartRefresh_unrecorded (k : Fin 8) (s : State) : s.Unrecorded (s.restartRefresh k) := by
  unfold State.restartRefresh
  split
  · split <;> exact ⟨rfl, rfl⟩
  · exact ⟨rfl, rfl⟩

theorem syncStreams_unrecorded (s : State) : s.Unrecorded s.syncStreams := by
  have alike := (syncStreams_retunes s).alike
  generalize s.syncStreams = t at alike ⊢
  generalize t.streams = v1, t.channels = v2, t.marks = v3 at alike
  subst alike
  exact ⟨rfl, rfl⟩

theorem tapEvent_still {s : State} {k : Fin 8} {old : List (Party × Mode)} (same : old = s.partySet k) :
    s.tapEvent k old = s := by
  unfold State.tapEvent
  split
  · rfl
  · exact if_pos same

/-- An announcement of a line without own entries. -/
theorem announce_unrecorded {s : State} {k : Fin 8} {r : LineRecord} (stands : s.records[k] = some r)
    (foreign : r.foreign s.cfg.station) : s.Unrecorded (s.announce k) :=
  ((send_unrecorded ..).trans (restartRefresh_unrecorded ..)).trans (announce_foreign stands foreign).unrecorded

theorem commitRecord_puts (k : Fin 8) (x : LineRecord) (s : State) : ∃ before : LineState,
    s.commitRecord k x = ((s.setRecord k
      (x.settle before (s.portCfg k) (s.outCause k x) (s.ports[k]).alarms (s.blocks 10000))).tapEvent k
        (s.partySet k)).syncStreams := ⟨_, rfl⟩

/-- A record put in place with the parties that it had. -/
theorem commitRecord_unrecorded {s : State} {k : Fin 8} {x : LineRecord}
    (parties : s.outCause k x = true → x.members = []) (same : x.parties = s.partySet k) :
    s.Unrecorded (s.commitRecord k x) := by
  obtain ⟨before, put⟩ := commitRecord_puts k x s
  rw [put]
  have kept : (x.settle before (s.portCfg k) (s.outCause k x) (s.ports[k]).alarms (s.blocks 10000)).parties = x.parties := by
    cases out : s.outCause k x with
    | false => rfl
    | true =>
      unfold LineRecord.parties
      rw [parties out]
      rfl
  generalize x.settle before (s.portCfg k) (s.outCause k x) (s.ports[k]).alarms (s.blocks 10000) = y at kept ⊢
  have set : (s.setRecord k y).partySet k = y.parties := by
    have record : (s.setRecord k y).records[k] = some y := Vector.getElem_set_self _
    unfold State.partySet
    rw [record]
  rw [tapEvent_still (by rw [set, kept, same])]
  exact State.Unrecorded.trans (t := s.setRecord k y) ⟨rfl, rfl⟩ (syncStreams_unrecorded _)

/-! ### A port's work -/

theorem markAlarm_marks {s : State} {k : Fin 8} {x : Tap} {i : Fin 64} (tapped : s.taps[k] = some x)
    (fills : x.filling = some i) : s.markAlarm k = { s with ring := s.ring.set i { s.ring[i] with alarm := true } } := by
  obtain ⟨state, number, next, filling, lost, owed⟩ := x
  obtain rfl : filling = some i := fills
  unfold State.markAlarm
  rw [tapped]
  rfl

theorem portWorked_alarmed {s : State} {k : Fin 8} {x : Tap} {i : Fin 64} (w : PortWork) (tapped : s.taps[k] = some x)
    (fills : x.filling = some i) : s.Alarmed k i (s.portWorked k w) := by
  obtain ⟨n, o, fields⟩ := notifyAll_frame (w.events (s.portCfg k).line k)
    ((s.setPort k w.port).count (·.addLine k w.parityErrors w.ooaPeriods w.lineSlips))
  have worked : s.portWorked k w = if (s.ports[k]).alarms.declaresMore w.port.alarms
      then (((s.setPort k w.port).count (·.addLine k w.parityErrors w.ooaPeriods w.lineSlips)).notifyAll
        (w.events (s.portCfg k).line k)).markAlarm k
      else ((s.setPort k w.port).count (·.addLine k w.parityErrors w.ooaPeriods w.lineSlips)).notifyAll
        (w.events (s.portCfg k).line k) := rfl
  have taps : (((s.setPort k w.port).count (·.addLine k w.parityErrors w.ooaPeriods w.lineSlips)).notifyAll
      (w.events (s.portCfg k).line k)).taps = s.taps := by rw [fields]; rfl
  have ring : (((s.setPort k w.port).count (·.addLine k w.parityErrors w.ooaPeriods w.lineSlips)).notifyAll
      (w.events (s.portCfg k).line k)).ring = s.ring := by rw [fields]; rfl
  have port : (((s.setPort k w.port).count (·.addLine k w.parityErrors w.ooaPeriods w.lineSlips)).notifyAll
      (w.events (s.portCfg k).line k)).ports[k] = w.port := by rw [fields]; exact Vector.getElem_set_self _
  rw [worked]
  clear worked fields
  generalize State.notifyAll _ _ = u at taps ring port ⊢
  by_cases declares : (s.ports[k]).alarms.declaresMore w.port.alarms = true
  · rw [if_pos declares, markAlarm_marks (x := x) (i := i) (by rw [taps]; exact tapped) fills, ring]
    refine ⟨taps, ?_⟩
    dsimp only
    rw [port, if_pos declares]
  · rw [if_neg declares]
    refine ⟨taps, ?_⟩
    rw [port, if_neg declares]
    exact ring

theorem cfg_of_ports {s t : State} {ports : Vector LinePort 8} (base : t.base = { s.base with ports := ports }) :
    t.cfg = s.cfg := congrArg Base.cfg base

theorem ports_of_base {s t : State} (base : t.base = s.base) : t.ports = s.ports := congrArg Base.ports base

/-- A port's work that keeps the OUT mark, on a settled line without own entries. -/
theorem commitPort_alarmed {s : State} {k : Fin 8} {x : Tap} {i : Fin 64} {r : LineRecord} {w : PortWork}
    (tapped : s.taps[k] = some x) (fills : x.filling = some i) (stands : s.records[k] = some r)
    (foreign : r.foreign s.cfg.station) (empty : s.outCause k r = true → r.members = [] ∧ r.listeners = [])
    (out : w.port.out = (s.ports[k]).out) : s.Alarmed k i (s.commitPort k w) := by
  have worked := portWorked_alarmed w tapped fills
  rcases commitPort_cases k w s with ⟨same, -⟩ | ⟨r', stands', changed⟩
  · rw [same]
    exact worked
  · obtain ⟨ring, marks, overflow, fields⟩ := portWorked_fields k w s
    have base : (s.portWorked k w).base = { s.base with ports := s.ports.set k w.port } := by rw [fields]; rfl
    have record : (s.portWorked k w).records[k] = some r := by rw [fields]; exact stands
    obtain rfl := Option.some.inj (record.symm.trans stands')
    have cause (y : LineRecord) (conflict : y.conflict = r.conflict) : (s.portWorked k w).outCause k y = s.outCause k r := by
      have port : (s.portWorked k w).ports[k] = w.port := by rw [fields]; exact ported_here k w s
      have away : (s.portWorked k w).awayFromFloor = s.awayFromFloor := by rw [fields]; rfl
      rw [State.outCause, port, out, conflict, away]
      rfl
    rw [changed]
    clear changed fields
    generalize s.portWorked k w = u at *
    have taken : (r.takePort (u.outCause k r) (s.ports[k]).accepted w.port).members = r.members ∧
        (r.takePort (u.outCause k r) (s.ports[k]).accepted w.port).listeners = r.listeners ∧
        (r.takePort (u.outCause k r) (s.ports[k]).accepted w.port).conflict = r.conflict := by
      unfold LineRecord.takePort
      split <;> exact ⟨rfl, rfl, rfl⟩
    generalize r.takePort (u.outCause k r) (s.ports[k]).accepted w.port = y at taken ⊢
    obtain ⟨members, listeners, conflict⟩ := taken
    have set : u.partySet k = r.parties := by
      unfold State.partySet
      rw [record]
    have put := commitRecord_unrecorded (s := u) (k := k) (x := y)
      (fun cause' => by rw [members]; exact (empty ((cause y conflict).symm.trans cause')).1)
      (by rw [set, LineRecord.parties, LineRecord.parties, members])
    have base' := commitRecord_base k y u
    obtain ⟨before, here⟩ := commitRecord_here k y u
    have lists : ∃ z : LineRecord, (u.commitRecord k y).records[k] = some z ∧ z.foreign s.cfg.station := by
      have own : y.foreign s.cfg.station := by
        unfold LineRecord.foreign
        rw [members, listeners]
        exact foreign
      refine ⟨_, here, (settle_rests (a := (u.ports[k]).alarms) before _ _ fun cause' => ?_).foreign own⟩
      rw [members, listeners]
      exact empty ((cause y conflict).symm.trans cause')
    have station : (u.commitRecord k y).cfg.station = s.cfg.station :=
      congrArg (·.station) (cfg_of_ports (base'.trans base))
    have ports : (u.commitRecord k y).ports = u.ports := ports_of_base base'
    have after := worked.then put ports
    generalize u.commitRecord k y = v at after lists station ⊢
    obtain ⟨z, stands'', foreign'⟩ := lists
    unfold State.announceChange
    split
    · exact after
    · exact after.then (announce_unrecorded stands'' (by rw [station]; exact foreign'))
        (ports_of_base (announce_base k v))

theorem workPort_alarmed {s : State} {k : Fin 8} {x : Tap} {i : Fin 64} {r : LineRecord}
    {f : PortSettings → PortWork → PortWork} (keeps : ∀ c w, (f c w).port.out = w.port.out)
    (tapped : s.taps[k] = some x) (fills : x.filling = some i) (stands : s.records[k] = some r)
    (foreign : r.foreign s.cfg.station) (empty : s.outCause k r = true → r.members = [] ∧ r.listeners = []) :
    s.Alarmed k i (s.workPort k f) := by
  cases used : s.used k with
  | true =>
    rw [workPort_used used f]
    exact commitPort_alarmed tapped fills stands foreign empty (keeps _ _)
  | false =>
    rw [workPort_unused used f]
    exact ⟨rfl, (if_neg (by simp [Alarms.declaresMore])).symm⟩

theorem declaresMore_iff (a b : Alarms) :
    a.declaresMore b = true ↔ ∃ d : Defect, a.holds d = false ∧ b.holds d = true := by
  constructor
  · intro declares
    rw [Alarms.declaresMore] at declares
    simp only [Bool.or_eq_true, Bool.and_eq_true, Bool.not_eq_true'] at declares
    rcases declares with ((((h | h) | h) | h) | h)
    · exact ⟨.los, h.2, h.1⟩
    · exact ⟨.lol, h.2, h.1⟩
    · exact ⟨.labelMismatch, h.2, h.1⟩
    · exact ⟨.degraded, h.2, h.1⟩
    · exact ⟨.farDefect, h.2, h.1⟩
  · rintro ⟨d, before, after⟩
    rw [Alarms.declaresMore]
    cases d <;> simp only [Alarms.holds] at before after <;> simp [before, after]

end Sys2Proof.Machine
end

section
/-! PROOFS. Full segments, GAP and ALARM (R177, R180, R182, R184). -/

namespace Sys2Proof.Machine

/-! ### SEGMENT_FULL -/

theorem segmentFull_eq {s : State} (io : AudioIn) {k : Fin 8} {x : Tap} {i : Fin 64} (loaded : s.loaded = true)
    (tapped : s.taps[k] = some x) (records : x.state = .recording) (fills : x.filling = some i) :
    exec (.segmentFull k io) s = .next (if 256 ≤ (s.ring[i]).pairs.length + 16 then s.boundary io else s) := by
  have row : exec (.segmentFull k io) s = .next (if s.segmentFills k then s.boundary io else s) := rfl
  have judged : s.segmentFills k = decide (256 ≤ (s.ring[i]).pairs.length + 16) := by
    unfold State.segmentFills
    rw [tapped]
    dsimp only
    rw [fills, records, loaded]
    rfl
  rw [row, judged]
  congr 1
  exact if_congr decide_eq_true_iff rfl rfl

/-- The descriptor that the statement of R180 gives, at the time of the boundary. -/
theorem appended_eq {s m : State} {k : Fin 8} (before : s.BeforeTaps m k) (i : Fin 64) (near far : Block) (gap : Bool) :
    (m.ring[i]).appended near far gap m.stationTime = { s.ring[i] with
      pairs := (s.ring[i]).pairs ++ near.toList.zip far.toList
      startTime := if (s.ring[i]).pairs = [] then nextBoundary s.stationTime else (s.ring[i]).startTime
      gap := (s.ring[i]).gap || gap } := by
  rw [before.ring, before.stationTime]
  rfl

theorem boundary_segment {s : State} (io : AudioIn) {k : Fin 8} {x : Tap} {i : Fin 64} {gap : Bool}
    (loaded : s.loaded = true) (takes : gap = true ↔ s.TakesUnreal k) (tapped : s.taps[k] = some x)
    (records : x.state = .recording) (fills : x.filling = some i) (open_ : (s.ring[i]).owner = .filling)
    (quiet : ∀ j : Fin 8, s.carrier[j] = true ∧ (j ≠ k → s.taps[j] = none)) :
    ∃ d : Descriptor, d = { s.ring[i] with
        pairs := (s.ring[i]).pairs ++ ((s.boundary io).lineOut[k]).toList.zip ((s.boundary io).farBlock k).toList
        startTime := if (s.ring[i]).pairs = [] then nextBoundary s.stationTime else (s.ring[i]).startTime
        gap := (s.ring[i]).gap || gap } ∧
      ((s.ring[i]).pairs.length + 16 < 256 → (s.boundary io).taps[k] = some x ∧ (s.boundary io).ring[i] = d) ∧
      (256 ≤ (s.ring[i]).pairs.length + 16 → (s.boundary io).ring[i] = { d with owner := .ready, last := false } ∧
        ((s.ring[s.claimIndex]).owner = .free → (s.boundary io).claimIndex = s.claimIndex + 1 ∧
          (s.boundary io).taps[k] = some { x with
            filling := some s.claimIndex, nextSegment := x.nextSegment + 1#16, lostPairs := 0#16 } ∧
          ((s.boundary io).ring[s.claimIndex]).owner = .filling ∧
          ((s.boundary io).ring[s.claimIndex]).segment = x.nextSegment) ∧
        ((s.ring[s.claimIndex]).owner ≠ .free → (s.boundary io).claimIndex = s.claimIndex ∧
          (s.boundary io).taps[k] = some { x with state := .starved, filling := none })) := by
  have judged : gap = s.gapAt s.yields k := Bool.eq_iff_iff.mpr (takes.trans (gapAt_iff s k).symm)
  obtain ⟨m, w, before, work, taps, ring, index, -⟩ := boundary_taped io loaded quiet
  rw [← judged] at work
  generalize s.boundary io = t at *
  have tapped' : m.taps[k] = some x := by rw [before.taps]; exact tapped
  have append := appended_eq before i t.lineOut[k] (t.farBlock k) gap
  rw [tapBoundary_recording _ _ _ tapped' records] at work
  rw [taps, ring, index]
  refine ⟨_, rfl, fun short => ?_, fun full => ?_⟩
  · rw [tapAppend_eq _ _ _ tapped' fills, if_pos (by rw [before.ring]; exact short)] at work
    rw [work]
    exact ⟨tapped', (Vector.getElem_set_self _).trans append⟩
  · have filled := tapAppend_fills t.lineOut[k] (t.farBlock k) gap tapped' records fills (by rw [before.ring]; exact open_)
      (by rw [before.ring]; exact full)
    rw [← work, append] at filled
    simp only [before.ring, before.claimIndex] at filled
    exact filled

/-! ### The obligation -/

/-- The three stimuli of a line port, as work on it that keeps the OUT mark. -/
theorem stimulus_alarmed {s : State} {k : Fin 8} {x : Tap} {i : Fin 64} {r : LineRecord} {c : Instr}
    (tapped : s.taps[k] = some x) (fills : x.filling = some i) (stands : s.records[k] = some r)
    (foreign : r.foreign s.cfg.station) (empty : s.outCause k r = true → r.members = [] ∧ r.listeners = [])
    (stimulus : c = .carrierFall k ∨ c = .carrierRise k ∨ ∃ o : Octet, c = .lineOctetReceived k o) :
    ∃ t, exec c s = .next t ∧ s.Alarmed k i t := by
  have still : s.Alarmed k i s := ⟨rfl, (if_neg (by simp [Alarms.declaresMore])).symm⟩
  have worked (f : PortSettings → PortWork → PortWork) (keeps : ∀ c w, (f c w).port.out = w.port.out) :
      s.Alarmed k i (s.workPort k f) := workPort_alarmed keeps tapped fills stands foreign empty
  have pinned (level : Bool) (f : PortSettings → PortWork → PortWork) (keeps : ∀ c w, (f c w).port.out = w.port.out) :
      s.Alarmed k i (State.workPort k f { s with carrier := s.carrier.set k level }) := by
    have done := workPort_alarmed (s := { s with carrier := s.carrier.set k level }) keeps tapped fills stands foreign empty
    exact ⟨done.taps, done.ring⟩
  rcases stimulus with rfl | rfl | ⟨o, rfl⟩
  · refine ⟨s.fallCarrier k, rfl, ?_⟩
    unfold State.fallCarrier
    split
    · exact pinned false _ fun c w => takeCarrierFall_out c w
    · exact still
  · refine ⟨s.raiseCarrier k, rfl, ?_⟩
    unfold State.raiseCarrier
    split
    · exact still
    · exact pinned true _ fun c w => endPeriod_out c false w
  · refine ⟨s.takeLineOctet k o, rfl, ?_⟩
    unfold State.takeLineOctet
    split
    · exact worked _ fun c w => takeOctet_out c o w
    · exact still

/-- Settles O46, by the one tap's work at the boundary and the ALARM mark of a port's work. -/
theorem segmentsFillMarkAndClose : Obligations.SegmentsFillMarkAndClose := by
  unfold Obligations.SegmentsFillMarkAndClose
  constructor
  · intro s io k x i gap loaded takes tapped records fills open_ quiet
    have row := segmentFull_eq io loaded tapped records fills
    obtain ⟨d, rfl, short, full⟩ := boundary_segment io loaded takes tapped records fills open_ quiet
    refine ⟨fun few => ?_, fun many => ?_⟩
    · obtain ⟨tap, ring⟩ := short few
      exact ⟨by rw [row, if_neg (by omega)], _, rfl, tap, ring⟩
    · obtain ⟨ring, free, taken⟩ := full many
      rw [if_pos many] at row
      exact ⟨row, _, row, ring, free, taken⟩
  · intro s k x i r c tapped fills stands settled foreign stimulus
    obtain ⟨t, runs, alarmed⟩ := stimulus_alarmed tapped fills stands foreign settled.out_empty stimulus
    have ring := alarmed.ring
    refine ⟨t, runs, alarmed.taps, fun declared => ?_, fun kept => ?_⟩
    · rw [ring, if_pos ((declaresMore_iff ..).mpr declared)]
    · rw [ring, if_neg]
      intro declared
      obtain ⟨d, before, after⟩ := (declaresMore_iff ..).mp declared
      rcases kept d with held | clear
      · rw [before] at held; cases held
      · rw [after] at clear; cases clear

end Sys2Proof.Machine
end

section
/-! SUPPORT. The life of a tap outside a full segment (R177 to R186). -/

namespace Sys2Proof.Machine

/-- The descriptor in which a tap opens a segment (R178). -/
def State.opening (s : State) (k : Fin 8) (n segment : BitVec 16) (lost : Count) : Descriptor :=
  ⟨.filling, n, segment, decide (segment = 0#16), false, (s.portCfg k).line, k, s.stationTime, decide (lost ≠ 0#16), lost,
    (s.ports[k]).alarms.any, false, s.partySet k, (s.ports[k]).settled, []⟩

theorem openedDescriptor_eq (s : State) (k : Fin 8) (x : Tap) :
    s.openedDescriptor k x = s.opening k (x.number.getD 0#16) x.nextSegment x.lostPairs := by
  have truncated : (x.lostPairs != 0#16) = decide (x.lostPairs ≠ 0#16) := by rw [decide_not]; rfl
  unfold State.openedDescriptor State.opening
  rw [truncated]
  rfl

/-! ### A party change (R179, R181, R183, R185, R186) -/

section
variable {s : State} {k : Fin 8} {x : Tap} {now old : List (Party × Mode)}

theorem tapEvent_starts (tapped : s.taps[k] = some x) (some : s.partySet k ≠ []) : s.tapEvent k [] = s.tapStart k x := by
  unfold State.tapEvent
  rw [tapped]
  exact (if_neg fun h => some h.symm).trans (if_pos rfl)

theorem tapEvent_ends (tapped : s.taps[k] = some x) (some : old ≠ []) (none : s.partySet k = []) :
    s.tapEvent k old = s.tapEnd k x := by
  unfold State.tapEvent
  rw [tapped, none]
  exact (if_neg some).trans ((if_neg some).trans (if_pos rfl))

theorem tapEvent_changes (tapped : s.taps[k] = some x) (before : old ≠ []) (after : s.partySet k ≠ [])
    (apart : old ≠ s.partySet k) : s.tapEvent k old = s.tapPartyChange k x := by
  unfold State.tapEvent
  rw [tapped]
  exact (if_neg apart).trans ((if_neg before).trans (if_neg after))

/-- The first party of an IDLE tap (R179, R184). -/
theorem tapStart_idle (idle : x.state = .idle) :
    ((s.ring[s.claimIndex]).owner = .free → s.tapStart k x = { s with
      recordingCount := s.recordingCount + 1#16, claimIndex := s.claimIndex + 1
      ring := s.ring.set s.claimIndex (s.opening k s.recordingCount 0#16 0#16)
      taps := s.taps.set k (some ⟨.recording, some s.recordingCount, 1#16, some s.claimIndex, 0#16, x.owedStart⟩) }) ∧
    ((s.ring[s.claimIndex]).owner ≠ .free → s.tapStart k x = State.notify
      (.recordStarved (s.portCfg k).line k s.recordingCount) { s with
        recordingCount := s.recordingCount + 1#16
        taps := s.taps.set k (some ⟨.starved, some s.recordingCount, 0#16, none, 0#16, x.owedStart⟩) }) := by
  have start : s.tapStart k x = State.claimOrStarve k
      { x with number := some s.recordingCount, nextSegment := 0#16, lostPairs := 0#16 }
      { s with recordingCount := s.recordingCount + 1#16 } := by
    unfold State.tapStart
    rw [idle]
    rfl
  rw [start]
  constructor
  · intro free
    rw [claimOrStarve_free (s := { s with recordingCount := s.recordingCount + 1#16 }) k _ free, State.openSegment,
      openedDescriptor_eq]
    rfl
  · intro taken
    rw [claimOrStarve_taken (s := { s with recordingCount := s.recordingCount + 1#16 }) k _ taken]
    rfl

theorem tapStart_closing (closing : x.state = .closing) : s.tapStart k x =
    { s with taps := s.taps.set k (some { x with owedStart := some (x.owedStart.getD 0#16) }) } := by
  unfold State.tapStart
  rw [closing]
  rfl

theorem tapPartyChange_still (state : x.state = .starved ∨ x.state = .closing) : s.tapPartyChange k x = s := by
  unfold State.tapPartyChange
  rcases state with state | state <;> rw [state]

theorem tapEnd_starved (starved : x.state = .starved) :
    s.tapEnd k x = { s with taps := s.taps.set k (some { x with state := .closing }) } := by
  unfold State.tapEnd
  rw [starved]
  rfl

theorem tapEnd_recording {i : Fin 64} (records : x.state = .recording) (fills : x.filling = some i) :
    s.tapEnd k x = { s with
      ring := s.ring.set i ((s.ring[i]).close true s.stationTime)
      taps := s.taps.set k (some { x with state := .idle, number := none, nextSegment := 0#16, filling := none }) } := by
  unfold State.tapEnd
  rw [records]
  dsimp only
  rw [closeSegment_eq true fills]
  rfl

/-- A change of the parties of a RECORDING tap (R181, R184). -/
theorem tapPartyChange_recording {i : Fin 64} {number : BitVec 16} (records : x.state = .recording)
    (fills : x.filling = some i) (numbered : x.number = some number) (open_ : (s.ring[i]).owner = .filling) :
    ((s.ring[s.claimIndex]).owner = .free → s.tapPartyChange k x = { s with
      claimIndex := s.claimIndex + 1
      ring := (s.ring.set i ((s.ring[i]).close false s.stationTime)).set s.claimIndex
        (s.opening k number x.nextSegment x.lostPairs)
      taps := s.taps.set k (some { x with
        nextSegment := x.nextSegment + 1#16, filling := some s.claimIndex, lostPairs := 0#16 }) }) ∧
    ((s.ring[s.claimIndex]).owner ≠ .free → s.tapPartyChange k x = State.notify
      (.recordStarved (s.portCfg k).line k number) { s with
        ring := s.ring.set i ((s.ring[i]).close false s.stationTime)
        taps := s.taps.set k (some { x with state := .starved, filling := none }) }) := by
  have change : s.tapPartyChange k x = State.claimOrStarve k { x with filling := none }
      { s with ring := s.ring.set i ((s.ring[i]).close false s.stationTime) } := by
    unfold State.tapPartyChange
    rw [records]
    dsimp only
    rw [closeSegment_eq false fills]
  have unfree : (s.ring[i]).owner ≠ .free := fun h => absurd (open_.symm.trans h) (by decide)
  have closed : ((s.ring[i]).close false s.stationTime).owner ≠ .free := by
    rw [show ((s.ring[i]).close false s.stationTime).owner = .ready from rfl]
    decide
  rw [change]
  constructor
  · intro free
    rw [claimOrStarve_free (s := { s with ring := s.ring.set i ((s.ring[i]).close false s.stationTime) }) k _
      ((set_free unfree closed).mpr free), State.openSegment, openedDescriptor_eq]
    dsimp only
    rw [numbered, ← records]
    rfl
  · intro taken
    rw [claimOrStarve_taken (s := { s with ring := s.ring.set i ((s.ring[i]).close false s.stationTime) }) k _
      fun h => taken ((set_free unfree closed).mp h), State.starve]
    dsimp only
    rw [numbered]
    rfl

/-! ### A boundary at a STARVED tap (R184) -/

theorem tapBoundary_starved {number : BitVec 16} (near far : Block) (gap : Bool) (tapped : s.taps[k] = some x)
    (starved : x.state = .starved) (numbered : x.number = some number) :
    ((s.ring[s.claimIndex]).owner = .free → s.tapBoundary k near far gap = { s with
      claimIndex := s.claimIndex + 1
      ring := s.ring.set s.claimIndex { s.opening k number x.nextSegment x.lostPairs with
        gap := gap, pairs := near.toList.zip far.toList }
      taps := s.taps.set k (some { x with
        state := .recording, nextSegment := x.nextSegment + 1#16, filling := some s.claimIndex, lostPairs := 0#16 }) }) ∧
    ((s.ring[s.claimIndex]).owner ≠ .free → s.tapBoundary k near far gap = { s with
      taps := s.taps.set k (some { x with lostPairs := x.lostPairs.add 16 })
      live := { s.live with lostPairs := s.live.lostPairs.set k ((s.live.lostPairs[k]).add 16) } }) := by
  constructor
  · intro free
    have work : s.tapBoundary k near far gap = State.tapAppend k near far gap
        (State.openSegment k x s.claimIndex { s with claimIndex := s.claimIndex + 1 }) := by
      unfold State.tapBoundary
      rw [tapped]
      dsimp only
      rw [starved]
      dsimp only
      rw [claim_free free]
    have opened : State.openSegment k x s.claimIndex { s with claimIndex := s.claimIndex + 1 } = { s with
        claimIndex := s.claimIndex + 1
        ring := s.ring.set s.claimIndex (s.opening k number x.nextSegment x.lostPairs)
        taps := s.taps.set k (some { x with
          state := .recording, nextSegment := x.nextSegment + 1#16, filling := some s.claimIndex, lostPairs := 0#16 }) } := by
      rw [State.openSegment, openedDescriptor_eq, numbered]
      rfl
    rw [work, opened, tapAppend_eq near far gap (Vector.getElem_set_self _) rfl]
    dsimp only
    rw [show (s.ring.set s.claimIndex (s.opening k number x.nextSegment x.lostPairs))[s.claimIndex] =
      s.opening k number x.nextSegment x.lostPairs from Vector.getElem_set_self _, Vector.set_set]
    exact if_pos (show ([] : List (Sample × Sample)).length + 16 < 256 by decide)
  · intro taken
    have work : s.tapBoundary k near far gap = s.loseBoundary k x := by
      unfold State.tapBoundary
      rw [tapped]
      dsimp only
      rw [starved]
      dsimp only
      rw [claim_taken taken]
    rw [work]
    rfl

end

end Sys2Proof.Machine
end

section
/-! PROOFS. The life of a tap outside a full segment (R88, R171, R177 to R186). -/

namespace Sys2Proof.Machine

/-! ### A boundary at a CLOSING tap (R185, R186) -/

/-- The zero-pair LAST segment that a CLOSING tap owes (R185). -/
def State.owedLast (s : State) (k : Fin 8) (n segment : BitVec 16) (lost : Count) : Descriptor :=
  ⟨.ready, n, segment, decide (segment = 0#16), true, (s.portCfg k).line, k, s.stationTime, decide (lost ≠ 0#16), lost,
    (s.ports[k]).alarms.any, false, [], (s.ports[k]).settled, []⟩

section
variable {s : State} {k : Fin 8} {x : Tap} {number : BitVec 16}

theorem tapBoundary_closing (near far : Block) (gap : Bool) (tapped : s.taps[k] = some x) (closing : x.state = .closing) :
    s.tapBoundary k near far gap = s.closingBoundary k x := by
  unfold State.tapBoundary
  rw [tapped]
  dsimp only
  rw [closing]

/-- The pairs of a boundary counted against an owed start. -/
theorem countOwed_owed {c : Count} (owed : x.owedStart = some c) : s.countOwed k x =
    ({ x with owedStart := some (if s.partySet k = [] then c else c.add 16) },
      { s with live := if s.partySet k = [] then s.live
        else { s.live with lostPairs := s.live.lostPairs.set k ((s.live.lostPairs[k]).add 16) } }) := by
  unfold State.countOwed
  rw [owed]
  dsimp only
  by_cases none : s.partySet k = []
  · rw [if_pos none, if_pos none, if_pos none, ← owed]
  · rw [if_neg none, if_neg none, if_neg none]
    rfl

theorem countOwed_none (owed : x.owedStart = none) : s.countOwed k x = (x, s) := by
  unfold State.countOwed
  rw [owed]

/-- A CLOSING tap that finds no descriptor FREE. -/
theorem closingBoundary_taken (taken : (s.ring[s.claimIndex]).owner ≠ .free) :
    s.closingBoundary k x = State.setTap k (s.countOwed k x).1 (s.countOwed k x).2 := by
  unfold State.closingBoundary
  rw [claim_taken taken]

/-- A CLOSING tap that claims: its owed LAST written, the next claim one further. -/
theorem closingBoundary_free (numbered : x.number = some number) (free : (s.ring[s.claimIndex]).owner = .free) :
    ∃ u : State, u = { s with
        claimIndex := s.claimIndex + 1
        ring := s.ring.set s.claimIndex (s.owedLast k number x.nextSegment x.lostPairs)
        taps := s.taps.set k (some { x with nextSegment := x.nextSegment + 1#16, lostPairs := 0#16 }) } ∧
      s.closingBoundary k x = State.afterOwedLast k
        (u.countOwed k { x with nextSegment := x.nextSegment + 1#16, lostPairs := 0#16 }).1
        (u.countOwed k { x with nextSegment := x.nextSegment + 1#16, lostPairs := 0#16 }).2 := by
  have written : State.writeOwedLast k x s.claimIndex { s with claimIndex := s.claimIndex + 1 } = { s with
      claimIndex := s.claimIndex + 1
      ring := s.ring.set s.claimIndex (s.owedLast k number x.nextSegment x.lostPairs)
      taps := s.taps.set k (some { x with nextSegment := x.nextSegment + 1#16, lostPairs := 0#16 }) } := by
    unfold State.writeOwedLast
    rw [openedDescriptor_eq, numbered]
    rfl
  refine ⟨_, rfl, ?_⟩
  rw [← written]
  unfold State.closingBoundary
  rw [claim_free free]

theorem afterOwedLast_none (unowed : x.owedStart = none) : s.afterOwedLast k x =
    { s with taps := s.taps.set k (some { x with state := .idle, number := none, nextSegment := 0#16 }) } := by
  unfold State.afterOwedLast
  rw [unowed]
  rfl

theorem afterOwedLast_owed {c : Count} (owed : x.owedStart = some c) :
    (s.partySet k = [] → s.afterOwedLast k x = { s with
      recordingCount := s.recordingCount + 1#16
      taps := s.taps.set k (some { x with
        number := some s.recordingCount, nextSegment := 0#16, lostPairs := c, owedStart := none }) }) ∧
    (s.partySet k ≠ [] → s.afterOwedLast k x = State.notify (.recordStarved (s.portCfg k).line k s.recordingCount) { s with
      recordingCount := s.recordingCount + 1#16
      taps := s.taps.set k (some ⟨.starved, some s.recordingCount, 0#16, none, c, none⟩) }) := by
  have set : (s.beginRecording { x with lostPairs := c, owedStart := none }).2.partySet k = s.partySet k := rfl
  unfold State.afterOwedLast
  rw [owed]
  dsimp only
  rw [set]
  exact ⟨fun none => (if_pos none).trans rfl, fun some => (if_neg some).trans rfl⟩

/-- A CLOSING tap that owes no start. -/
theorem closing_owes_none (near far : Block) (gap : Bool) (tapped : s.taps[k] = some x) (closing : x.state = .closing)
    (numbered : x.number = some number) (owed : x.owedStart = none) :
    ((s.ring[s.claimIndex]).owner ≠ .free → s.tapBoundary k near far gap = s) ∧
    ((s.ring[s.claimIndex]).owner = .free → s.tapBoundary k near far gap = { s with
      claimIndex := s.claimIndex + 1, ring := s.ring.set s.claimIndex (s.owedLast k number x.nextSegment x.lostPairs)
      taps := s.taps.set k
        (some { x with state := .idle, number := none, nextSegment := 0#16, lostPairs := 0#16 }) }) := by
  rw [tapBoundary_closing near far gap tapped closing]
  constructor
  · intro taken
    rw [closingBoundary_taken taken, countOwed_none owed]
    have still : s.taps.set k (some x) = s.taps := by
      rw [← tapped]
      exact Vector.set_getElem_self _
    show { s with taps := s.taps.set k (some x) } = s
    rw [still]
  · intro free
    obtain ⟨u, rfl, work⟩ := closingBoundary_free (k := k) numbered free
    rw [work, countOwed_none (x := { x with nextSegment := x.nextSegment + 1#16, lostPairs := 0#16 }) owed,
      afterOwedLast_none (x := { x with nextSegment := x.nextSegment + 1#16, lostPairs := 0#16 }) owed]
    dsimp only
    exact congrArg (fun taps => { s with
      claimIndex := s.claimIndex + 1, ring := s.ring.set s.claimIndex (s.owedLast k number x.nextSegment x.lostPairs)
      taps := taps }) (Vector.set_set ..)

/-- A CLOSING tap that owes a start. -/
theorem closing_owes_start (near far : Block) (gap : Bool) (tapped : s.taps[k] = some x) (closing : x.state = .closing)
    (numbered : x.number = some number) {c owed : Count} {live : Counters} (owes : x.owedStart = some c)
    (counted : owed = if s.partySet k = [] then c else c.add 16)
    (lost : live = if s.partySet k = [] then s.live
      else { s.live with lostPairs := s.live.lostPairs.set k ((s.live.lostPairs[k]).add 16) }) :
    ((s.ring[s.claimIndex]).owner ≠ .free → s.tapBoundary k near far gap =
      { s with live := live, taps := s.taps.set k (some { x with owedStart := some owed }) }) ∧
    ((s.ring[s.claimIndex]).owner = .free → s.partySet k = [] → s.tapBoundary k near far gap = { s with
      claimIndex := s.claimIndex + 1, ring := s.ring.set s.claimIndex (s.owedLast k number x.nextSegment x.lostPairs)
      recordingCount := s.recordingCount + 1#16
      taps := s.taps.set k (some ⟨.closing, some s.recordingCount, 0#16, x.filling, owed, none⟩) }) ∧
    ((s.ring[s.claimIndex]).owner = .free → s.partySet k ≠ [] → s.tapBoundary k near far gap = State.notify
      (.recordStarved (s.portCfg k).line k s.recordingCount) { s with
        claimIndex := s.claimIndex + 1, ring := s.ring.set s.claimIndex (s.owedLast k number x.nextSegment x.lostPairs)
        recordingCount := s.recordingCount + 1#16, live := live
        taps := s.taps.set k (some ⟨.starved, some s.recordingCount, 0#16, none, owed, none⟩) }) := by
  rw [tapBoundary_closing near far gap tapped closing]
  refine ⟨fun taken => ?_, fun free none => ?_, fun free some => ?_⟩
  · rw [closingBoundary_taken taken, countOwed_owed owes, ← counted, ← lost]
    rfl
  · obtain ⟨u, fields, work⟩ := closingBoundary_free (k := k) numbered free
    have parties : u.partySet k = [] := by rw [fields]; exact none
    have count := countOwed_owed (s := u) (k := k) (x := { x with nextSegment := x.nextSegment + 1#16, lostPairs := 0#16 }) owes
    rw [if_pos none] at counted
    rw [if_pos parties, if_pos parties, ← counted] at count
    have after := (afterOwedLast_owed (s := u) (k := k) (x := { x with
      nextSegment := x.nextSegment + 1#16, lostPairs := 0#16, owedStart := some owed }) rfl).1 parties
    have tap : (⟨.closing, some s.recordingCount, 0#16, x.filling, owed, Option.none⟩ : Tap) = { x with
        number := some s.recordingCount, nextSegment := 0#16, lostPairs := owed, owedStart := Option.none } := by
      rw [← closing]
    rw [tap, work, count]
    refine after.trans ?_
    subst fields
    exact congrArg (fun taps => { s with
      claimIndex := s.claimIndex + 1, ring := s.ring.set s.claimIndex (s.owedLast k number x.nextSegment x.lostPairs)
      recordingCount := s.recordingCount + 1#16, taps := taps }) (Vector.set_set ..)
  · obtain ⟨u, fields, work⟩ := closingBoundary_free (k := k) numbered free
    have parties : u.partySet k ≠ [] := by rw [fields]; exact some
    have count := countOwed_owed (s := u) (k := k) (x := { x with nextSegment := x.nextSegment + 1#16, lostPairs := 0#16 }) owes
    have before : u.live = s.live := by rw [fields]
    rw [if_neg some] at counted lost
    rw [if_neg parties, if_neg parties, before, ← counted, ← lost] at count
    have after := (afterOwedLast_owed (s := { u with live := live }) (k := k) (x := { x with
      nextSegment := x.nextSegment + 1#16, lostPairs := 0#16, owedStart := Option.some owed }) rfl).2 parties
    rw [work, count]
    refine after.trans ?_
    subst fields
    exact congrArg (fun taps => State.notify (.recordStarved (s.portCfg k).line k s.recordingCount) { s with
      claimIndex := s.claimIndex + 1, ring := s.ring.set s.claimIndex (s.owedLast k number x.nextSegment x.lostPairs)
      recordingCount := s.recordingCount + 1#16, live := live, taps := taps }) (Vector.set_set ..)

end

/-! ### The end of a hold-over (R88, R183) -/

theorem holdOver_ends {s : State} {k : Fin 8} {x : Tap} {r : LineRecord} (tapped : s.taps[k] = some x)
    (stands : s.records[k] = some r) (due : r.holdOver = some 0) :
    ∃ t, exec (.holdOverExpiry k) s = .next t ∧ t.taps[k] = some (x.left r.parties) ∧
      ∀ i : Fin 64, r.members ≠ [] → x.state = .recording → x.filling = some i →
        (t.ring[i]).owner = .ready ∧ (t.ring[i]).last = true ∧ (t.ring[i]).pairs = (s.ring[i]).pairs := by
  have row : exec (.holdOverExpiry k) s =
      .next (State.announceChange (s.commitRecord k { r with members := [], listeners := [], holdOver := none }) s k) := by
    have unfolded : exec (.holdOverExpiry k) s = .next (s.onRecord k fun r s =>
        if r.holdOver.due then
          (s.commitRecord k { r with members := [], listeners := [], holdOver := none }).announceChange s k
        else s) := rfl
    rw [unfolded, State.onRecord, stands]
    dsimp only
    rw [if_pos (by rw [due]; rfl)]
  have parties : s.partySet k = r.parties := by
    unfold State.partySet
    rw [stands]
  have emptied (c : PortSettings) (before : LineState) (out : Bool) (a : Alarms) (n : Nat) :
      (LineRecord.settle before c out a n { r with members := [], listeners := [], holdOver := none }).members = [] ∧
      (LineRecord.settle before c out a n { r with members := [], listeners := [], holdOver := none }).listeners = [] := by
    cases out <;> exact ⟨rfl, rfl⟩
  obtain ⟨before, put⟩ := commitRecord_puts k { r with members := [], listeners := [], holdOver := none } s
  obtain ⟨members, listeners⟩ := emptied (s.portCfg k) before
    (s.outCause k { r with members := [], listeners := [], holdOver := none }) (s.ports[k]).alarms (s.blocks 10000)
  rw [parties] at put
  generalize LineRecord.settle before (s.portCfg k) _ (s.ports[k]).alarms (s.blocks 10000) _ = y at put members listeners
  have gone : (s.setRecord k y).partySet k = [] := by
    have record : (s.setRecord k y).records[k] = some y := Vector.getElem_set_self _
    unfold State.partySet
    rw [record]
    exact congrArg (List.map fun m : Member => (m.party, m.mode)) members
  obtain ⟨⟨taps, ring, alike⟩, -, left, -, closed, last⟩ := tapEvent_emptied k r.parties gone
  have told := syncStreams_unrecorded ((s.setRecord k y).tapEvent k r.parties)
  have record : ((s.setRecord k y).tapEvent k r.parties).syncStreams.records[k] = some y := by
    have kept := (syncStreams_retunes ((s.setRecord k y).tapEvent k r.parties)).alike
    rw [kept, alike]
    exact Vector.getElem_set_self _
  rw [← put] at told record
  have tapped' : (s.commitRecord k { r with members := [], listeners := [], holdOver := none }).taps[k] =
      some (x.left r.parties) := by
    rw [told.taps]
    exact left x tapped
  have rung (i : Fin 64) : (s.ring[i]).maybeClosed
      (s.commitRecord k { r with members := [], listeners := [], holdOver := none }).ring[i] := by
    rw [told.ring]
    exact closed i
  have ended (i : Fin 64) (some : r.parties ≠ []) (records : x.state = .recording) (fills : x.filling = Option.some i) :
      ((s.commitRecord k { r with members := [], listeners := [], holdOver := none }).ring[i]).owner = .ready ∧
      ((s.commitRecord k { r with members := [], listeners := [], holdOver := none }).ring[i]).last = true := by
    rw [told.ring]
    exact last x i tapped some records fills
  rw [row]
  clear put told
  generalize s.commitRecord k { r with members := [], listeners := [], holdOver := none } = u at *
  have announced : u.Unrecorded (u.announceChange s k) := by
    unfold State.announceChange
    split
    · exact ⟨rfl, rfl⟩
    · exact announce_unrecorded record ⟨fun m hm => absurd (members ▸ hm) List.not_mem_nil,
        fun l hl => absurd (listeners ▸ hl) List.not_mem_nil⟩
  refine ⟨_, rfl, by rw [announced.taps]; exact tapped', fun i listed records fills => ?_⟩
  rw [announced.ring]
  obtain ⟨ready, final⟩ := ended i (fun empty => listed (List.map_eq_nil_iff.mp empty)) records fills
  exact ⟨ready, final, (rung i).1⟩

end Sys2Proof.Machine
end

section
/-! PROOFS. The life of a tap, as the recording engine's statement has it (10; R88, R171, R177 to R186). -/

namespace Sys2Proof.Machine

/-- Settles O47, by the cases of a tap's state and the station that a boundary hands to its one tap. -/
theorem tapsFollowTheParties : Obligations.TapsFollowTheParties := by
  unfold Obligations.TapsFollowTheParties
  refine ⟨?_, ?_, ?_⟩
  · rintro s k x number _ old _ tapped rfl numbered rfl
    refine ⟨tapEvent_still, fun none some idle => ?_, fun none some closing => ?_, fun before after state => ?_, ?_,
      fun some none starved => ?_, fun near far gap starved => ?_⟩
    · rw [none, tapEvent_starts tapped some]
      exact tapStart_idle idle
    · rw [none, tapEvent_starts tapped some]
      exact tapStart_closing closing
    · by_cases same : old = s.partySet k
      · exact tapEvent_still same
      · rw [tapEvent_changes tapped before after same]
        exact tapPartyChange_still state
    · rintro i _ records fills open_ rfl
      refine ⟨fun some none => ?_, fun before after apart => ?_⟩
      · rw [tapEvent_ends tapped some none]
        exact tapEnd_recording records fills
      · rw [tapEvent_changes tapped before after apart]
        exact tapPartyChange_recording records fills (numbered (by rw [records]; decide)) open_
    · rw [tapEvent_ends tapped some none]
      exact tapEnd_starved starved
    · exact tapBoundary_starved near far gap tapped starved (numbered (by rw [starved]; decide))
  · rintro s k x number near far gap _ tapped closing numbered rfl
    refine ⟨closing_owes_none near far gap tapped closing numbered, fun c owed live owes counted lost => ?_⟩
    exact closing_owes_start near far gap tapped closing numbered owes counted lost
  · intro s k x r tapped stands
    refine ⟨fun _ due => holdOver_ends tapped stands due, fun io loaded quiet => ?_⟩
    obtain ⟨m, w, before, rfl, taps, ring, index, notices⟩ := boundary_taped io loaded quiet
    exact ⟨s.boundary io, m, s.gapAt s.yields k, rfl, gapAt_iff s k, before.taps, before.ring, before.claimIndex,
      before.recordingCount, before.cfg, partySet_ticked before.record, before.stationTime, before.notices, before.settled,
      before.alarms, taps, ring, index, notices⟩

end Sys2Proof.Machine
end

section
/-! PROOFS. The VOICE frames of a boundary (R2, R71, R104, R144). -/

namespace Sys2Proof.Machine

/-! ### One sending, or none -/

theorem sequenceOf_kept {u : State} (x : Sending) :
    (u.dropSilentCounts [x]).sequenceOf x.circuit x.port = u.sequenceOf x.circuit x.port := by
  have kept : (u.dropSilentCounts [x]).sequences.find? (fun q => q.circuit == x.circuit && q.port == x.port) =
      u.sequences.find? fun q => q.circuit == x.circuit && q.port == x.port := by
    unfold State.dropSilentCounts
    rw [List.find?_filter]
    congr 1
    funext q
    rw [List.any_cons, List.any_nil, Bool.or_false, Bool.beq_comm (a := x.circuit), Bool.beq_comm (a := x.port)]
    simp only [and_self, Bool.decide_eq_true]
  unfold State.sequenceOf
  rw [kept]

theorem advanceSequence_kept {u : State} (x : Sending) :
    ((u.dropSilentCounts [x]).advanceSequence x.circuit x.port).sequences =
      [⟨x.circuit, x.port, u.sequenceOf x.circuit x.port + 1#8⟩] := by
  have dropped : ((u.dropSilentCounts [x]).dropSequence x.circuit x.port).sequences = [] := by
    refine List.filter_eq_nil_iff.mpr fun q hq => ?_
    have pair := (List.mem_filter.mp hq).2
    rw [List.any_cons, List.any_nil, Bool.or_false, Bool.and_eq_true, beq_iff_eq, beq_iff_eq] at pair
    obtain ⟨circuit, port⟩ := pair
    simp [circuit, port]
  unfold State.advanceSequence
  rw [sequenceOf_kept]
  dsimp only
  rw [dropped]
  rfl

/-- A boundary's one VOICE frame at a queue with room. -/
theorem sendVoices_one {u : State} {io : AudioIn} {x : Sending} (listed : u.sendings io = [x])
    (active : u.stationState = .active) (room : u.txQueue.length < 24) :
    (u.sendVoices io).carries Config.allStations
        (.voice ⟨x.circuit, x.port, u.sequenceOf x.circuit x.port, true, x.block⟩) ∧
      (u.sendVoices io).sequences = [⟨x.circuit, x.port, u.sequenceOf x.circuit x.port + 1#8⟩] := by
  have work : u.sendVoices io = State.send Config.allStations
      (.voice ⟨x.circuit, x.port, u.sequenceOf x.circuit x.port, true, x.block⟩)
      ((u.dropSilentCounts [x]).advanceSequence x.circuit x.port) := by
    unfold State.sendVoices
    rw [listed]
    dsimp only [List.foldl_cons, List.foldl_nil]
    rw [State.sendVoice, sequenceOf_kept]
  have kept (v : State) (b : Body) : (v.send Config.allStations b).sequences = v.sequences := by
    rw [show v.send Config.allStations b = _ from send_alike Config.allStations b v]
  rw [work, kept, advanceSequence_kept]
  exact ⟨send_carries _ _ ((u.dropSilentCounts [x]).advanceSequence x.circuit x.port) active room ⟨nofun, nofun⟩, rfl⟩

theorem sendVoices_none {u : State} {io : AudioIn} (listed : u.sendings io = []) :
    u.sendVoices io = { u with sequences := [] } := by
  unfold State.sendVoices State.dropSilentCounts
  rw [listed]
  dsimp only [List.foldl_nil]
  rw [List.filter_eq_nil_iff.mpr fun q _ => by rw [List.any_nil]; exact Bool.false_ne_true]

/-! ### What the voices of a boundary find -/

/-- A line port's work that touches no record. -/
structure State.PortsOnly (s t : State) : Prop where
  alike : t = { s with
    ports := t.ports, ring := t.ring, marks := t.marks, notices := t.notices, overflow := t.overflow, live := t.live }

theorem State.PortsOnly.trans {s t u : State} (p : s.PortsOnly t) (q : t.PortsOnly u) : s.PortsOnly u :=
  ⟨by rw [q.alike, p.alike]⟩

theorem State.PortsOnly.records {s t : State} (p : s.PortsOnly t) : t.records = s.records := by rw [p.alike]

theorem commitPort_unlined {s : State} {k : Fin 8} (w : PortWork) (bare : s.records[k] = none) :
    s.PortsOnly (s.commitPort k w) := by
  obtain ⟨ring, marks, overflow, fields⟩ := portWorked_fields k w s
  rcases commitPort_cases k w s with ⟨same, -⟩ | ⟨r, stands, -⟩
  · rw [same, fields]
    exact ⟨rfl⟩
  · have kept : (s.portWorked k w).records[k] = none := by rw [fields]; exact bare
    exact absurd (kept.symm.trans stands) nofun

theorem readStores_portsOnly (u : State) : u.PortsOnly u.readStores := by
  obtain ⟨ports, lines, read, -⟩ := readStores_fields u
  rw [read]
  exact ⟨rfl⟩

theorem standInPeriods_unlined {u : State} (bare : ∀ k : Fin 8, u.records[k] = none) : u.PortsOnly u.standInPeriods := by
  refine foldl_preserves (fun t => u.PortsOnly t) _ (fun t k ht => ?_) allPorts u ⟨rfl⟩
  split
  · exact ht
  · unfold State.workPort
    split
    · exact ht.trans (commitPort_unlined _ (by rw [ht.records]; exact bare k))
    · exact ht

/-- With no line record at all a boundary's line ports change nothing that its voices are made of. -/
theorem atPorts_unlined {s : State} (bare : ∀ k : Fin 8, s.records[k] = none) : s.reachBoundary.PortsOnly s.atPorts := by
  rw [atPorts_eq]
  refine (standInPeriods_unlined fun k => ?_).trans (readStores_portsOnly _)
  rw [reachBoundary_record, bare k]
  rfl

theorem atPorts_portsOnly {s : State} (carried : ∀ k : Fin 8, s.carrier[k] = true) : s.reachBoundary.PortsOnly s.atPorts := by
  rw [atPorts_carried carried]
  exact readStores_portsOnly _

/-- The fields that the voices of a boundary are made of. -/
structure State.BeforeVoices (s u : State) : Prop where
  stationState : u.stationState = s.stationState
  cfg : u.cfg = s.cfg
  queue : u.txQueue = s.txQueue.map fun e => { e with life := e.life - 1 }
  sequences : u.sequences = s.sequences
  handsets : u.handsets = s.handsets
  talk : u.talk = s.talk
  bindings : ∀ k : Fin 8, (u.channels[k]).binding = (s.channels[k]).binding
  records : ∀ k : Fin 8, u.records[k] = s.records[k].map LineRecord.tick

theorem reachBoundary_beforeVoices (s : State) : s.BeforeVoices s.reachBoundary := by
  have channels : s.reachBoundary.channels = mapTable s.channels fun _ c =>
      { c with wait := c.wait.map fun w => { w with timer := w.timer - 1 } } := rfl
  exact ⟨rfl, rfl, rfl, rfl, rfl, rfl, fun k => by rw [channels, mapTable_get], reachBoundary_record s⟩

theorem State.BeforeVoices.reached {s u v : State} (p : s.BeforeVoices u) (q : u.PortsOnly v) : s.BeforeVoices v := by
  have alike := q.alike
  clear q
  generalize v.ports = v1, v.ring = v2, v.marks = v3, v.notices = v4, v.overflow = v5, v.live = v6 at alike
  subst alike
  exact ⟨p.stationState, p.cfg, p.queue, p.sequences, p.handsets, p.talk, p.bindings, p.records⟩

theorem MixedFrom_beforeVoices {s u m : State} {io : AudioIn} (p : s.BeforeVoices u) (q : u.MixedFrom io m) :
    s.BeforeVoices m := by
  have bindings (k : Fin 8) : (m.channels[k]).binding = (s.channels[k]).binding := by
    have same : ((u.yieldStreams).updateLocalLevels io).channels = u.channels := by
      rw [updateLocalLevels_alike, yieldStreams_alike]
    rw [q.channels, admitAll_channel, same]
    exact p.bindings k
  have alike := q.alike
  clear q
  generalize m.channels = v1, m.marks = v2, m.earpieceOut = v3, m.speakerOut = v4, m.lineOut = v5,
    m.live.clipsHandset = v6, m.live.clipsSpeaker = v7, m.live.clipsLine = v8 at alike bindings
  subst alike
  exact ⟨p.stationState, p.cfg, p.queue, p.sequences, p.handsets, p.talk, bindings, p.records⟩

/-- The station whose voices a boundary sends: the frames of its line ports are built. -/
theorem boundary_voices {s : State} (io : AudioIn) (loaded : s.loaded = true)
    (reached : s.reachBoundary.PortsOnly s.atPorts) : ∃ u : State, s.BeforeVoices u ∧
      (s.boundary io).txQueue = (u.sendVoices io).txQueue ∧ (s.boundary io).sequences = (u.sendVoices io).sequences ∧
      (s.boundary io).ports = u.ports := by
  have before := MixedFrom_beforeVoices ((reachBoundary_beforeVoices s).reached reached) (mixed_from io s)
  rw [boundary_loaded io loaded]
  generalize s.mixed io = m at before ⊢
  generalize s.boundaryYields = ys
  obtain ⟨ports, framed, -⟩ := buildFrames_eq m
  rw [framed]
  have voiced := (sendVoices_voiceWork io { m with ports := ports }).alike
  refine ⟨{ m with ports := ports }, ⟨before.stationState, before.cfg, before.queue, before.sequences, before.handsets,
    before.talk, before.bindings, before.records⟩, ?_⟩
  have same : (State.sendVoices io { m with ports := ports }).ports = ports := by rw [voiced]
  generalize State.sendVoices io { m with ports := ports } = v at same ⊢
  have taped := (recordTaps_tapsWork ys v).alike
  generalize v.recordTaps ys = w at taped ⊢
  obtain ⟨channels, marks, retired, -⟩ := removeStreams_fields (fun e => e.silence == 0) w
  rw [State.retireStreams, retired]
  exact ⟨by rw [taped], by rw [taped], by rw [taped]; exact same⟩

end Sys2Proof.Machine
end

section
/-! PROOFS. A station's own voices at a boundary (R2, R71, R104, R144). -/

namespace Sys2Proof.Machine

/-! ### Senders -/

theorem farSendings_none {u : State} (still : ∀ (k : Fin 8) (r : LineRecord), u.records[k] = some r →
    r.sendsFar u.cfg.station = false) : u.farSendings = [] := by
  unfold State.farSendings
  refine List.filterMap_eq_nil_iff.mpr fun k _ => ?_
  cases stands : u.records[k] with
  | none => rfl
  | some r => exact if_neg (by rw [still k r stands]; exact Bool.false_ne_true)

theorem farSendings_one {u : State} {k : Fin 8} {r : LineRecord} (stands : u.records[k] = some r)
    (alone : ∀ j : Fin 8, j ≠ k → u.records[j] = none) (sends : r.sendsFar u.cfg.station = true) :
    u.farSendings = [⟨lineCircuit (u.portCfg k).line, .linePort k, (u.ports[k]).lastBlock⟩] := by
  obtain ⟨pre, post, split, before, behind⟩ := allPorts_split k
  have listed (f : Fin 8 → Option Sending) (x : Sending) (here : f k = some x) (idle : ∀ j : Fin 8, j ≠ k → f j = none) :
      allPorts.filterMap f = [x] := by
    rw [split, List.filterMap_append, List.filterMap_cons_some here,
      List.filterMap_eq_nil_iff.mpr fun j hj => idle j fun h => before (h ▸ hj),
      List.filterMap_eq_nil_iff.mpr fun j hj => idle j fun h => behind (h ▸ hj)]
    rfl
  unfold State.farSendings
  refine listed _ _ ?_ fun j apart => ?_
  · rw [stands]
    exact if_pos sends
  · rw [alone j apart]

theorem handsetSendings_none {u : State} (io : AudioIn) (hung : ∀ h : Fin 2, (u.handsets[h]).onHook = true) :
    u.handsetSendings io = [] := by
  unfold State.handsetSendings
  exact List.flatMap_eq_nil_iff.mpr fun h _ => if_pos (by rw [hung h]; rfl)

theorem handsetSendings_one {u : State} (io : AudioIn) {h : Fin 2} {b : Binding} (off : (u.handsets[h]).onHook = false)
    (open_ : (u.handsets[h]).muted = false) (bound : (u.handsets[h]).bindings = [b])
    (other : (u.handsets[1 - h]).onHook = true) :
    u.handsetSendings io = [⟨b.circuit, .handset h, io.mouthpiece[h]⟩] := by
  have each (j : Fin 2) : (if (u.handsets[j]).onHook || (u.handsets[j]).muted then []
      else (u.handsets[j]).bindings.map fun b => (⟨b.circuit, .handset j, io.mouthpiece[j]⟩ : Sending)) =
      if j = h then [⟨b.circuit, .handset h, io.mouthpiece[h]⟩] else [] := by
    by_cases here : j = h
    · subst here
      rw [off, open_, bound]
      exact (if_pos rfl).symm
    · obtain rfl : j = 1 - h := by omega
      rw [other, if_neg here]
      rfl
  have all : u.handsetSendings io = bothHandsets.flatMap fun j =>
      if j = h then [⟨b.circuit, .handset h, io.mouthpiece[h]⟩] else [] := congrArg bothHandsets.flatMap (funext each)
  rw [all]
  match h with
  | 0 => rfl
  | 1 => rfl

theorem micSendings_none {u : State} (io : AudioIn) (quiet : u.talk = none) : u.micSendings io = [] := by
  unfold State.micSendings
  rw [quiet]

theorem micSendings_one {u : State} (io : AudioIn) {k : Fin 8} {n : Nat} (talks : u.talk = some k)
    (bound : (u.channels[k]).binding = .hoot n) : u.micSendings io = [⟨.hoot n, .mic, io.microphone⟩] := by
  unfold State.micSendings
  rw [talks]
  dsimp only
  rw [bound]

theorem sendings_active {u : State} (io : AudioIn) (active : u.stationState = .active) :
    u.sendings io = u.farSendings ++ u.handsetSendings io ++ u.micSendings io :=
  if_pos (by rw [State.isActive, active]; rfl)

/-- A boundary that sends one VOICE frame: the frame waits and the count of its pair is the one that stands. -/
theorem boundary_sends {s u t : State} {io : AudioIn} {x : Sending} (before : s.BeforeVoices u)
    (active : s.stationState = .active) (room : s.txQueue.length < 24) (listed : u.sendings io = [x])
    (queue : t.txQueue = (u.sendVoices io).txQueue) (counts : t.sequences = (u.sendVoices io).sequences) :
    t.carries Config.allStations (.voice ⟨x.circuit, x.port, s.sequenceOf x.circuit x.port, true, x.block⟩) ∧
      t.sequences = [⟨x.circuit, x.port, s.sequenceOf x.circuit x.port + 1#8⟩] := by
  have same : u.sequenceOf x.circuit x.port = s.sequenceOf x.circuit x.port := by
    unfold State.sequenceOf
    rw [before.sequences]
  obtain ⟨carried, sequences⟩ := sendVoices_one listed (before.stationState.trans active)
    (by rw [before.queue, List.length_map]; exact room)
  rw [same] at carried sequences
  exact ⟨carries_of_queue queue carried, counts.trans sequences⟩

theorem sequenceOf_one {t : State} {c : Circuit} {p : Port} {n : Octet} (one : t.sequences = [⟨c, p, n⟩]) :
    t.sequenceOf c p = n := by
  unfold State.sequenceOf
  rw [one]
  simp

theorem sendsFar_tick (own : Station) (r : LineRecord) : r.tick.sendsFar own = r.sendsFar own := by
  have members (l : List Member) : (l.map fun m => { m with recallTimer := m.recallTimer.tick }).any
      (fun m => m.party.station != own) = l.any fun m => m.party.station != own := by
    rw [List.any_map]
    rfl
  unfold LineRecord.sendsFar
  exact congrArg (fun b => (r.state == .engaged || r.state == .held) && (b || r.listeners.any fun l => l.party.station != own))
    (members r.members)

theorem sendsFar_iff (own : Station) (r : LineRecord) : r.sendsFar own = true ↔ (r.state = .engaged ∨ r.state = .held) ∧
    ((∃ m ∈ r.members, m.party.station ≠ own) ∨ ∃ l ∈ r.listeners, l.party.station ≠ own) := by
  unfold LineRecord.sendsFar
  simp only [Bool.and_eq_true, Bool.or_eq_true, beq_iff_eq, List.any_eq_true, bne_iff_ne]

/-! ### The obligation -/

/-- Settles O41, by the senders that a boundary finds and the one frame that they offer. -/
theorem boundarySendsOwnVoices : Obligations.BoundarySendsOwnVoices := by
  unfold Obligations.BoundarySendsOwnVoices
  constructor
  · intro s io active room bare
    have loaded : s.loaded = true := by rw [State.loaded, active]
    obtain ⟨u, before, queue, counts, -⟩ := boundary_voices io loaded (atPorts_unlined bare)
    have far : u.farSendings = [] := farSendings_none fun k r stands => by
      rw [before.records k, bare k] at stands
      exact absurd stands nofun
    have listed := sendings_active io (before.stationState.trans active)
    refine ⟨s.boundary io, rfl, fun h b off open_ bound other quiet => ?_, fun k n hung talks bound => ?_⟩
    · rw [far, handsetSendings_one io (by rw [before.handsets]; exact off) (by rw [before.handsets]; exact open_)
        (by rw [before.handsets]; exact bound) (by rw [before.handsets]; exact other),
        micSendings_none io (before.talk.trans quiet)] at listed
      obtain ⟨carried, sequences⟩ := boundary_sends before active room listed queue counts
      exact ⟨carried, sequenceOf_one sequences⟩
    · rw [far, handsetSendings_none io (by rw [before.handsets]; exact hung),
        micSendings_one io (before.talk.trans talks) ((before.bindings k).trans bound)] at listed
      obtain ⟨carried, sequences⟩ := boundary_sends before active room listed queue counts
      exact ⟨carried, sequenceOf_one sequences⟩
  · intro s io k r active room carried stands alone hung quiet
    have loaded : s.loaded = true := by rw [State.loaded, active]
    obtain ⟨u, before, queue, counts, ports⟩ := boundary_voices io loaded (atPorts_portsOnly carried)
    have listed := sendings_active io (before.stationState.trans active)
    rw [handsetSendings_none io (by rw [before.handsets]; exact hung), micSendings_none io (before.talk.trans quiet),
      List.append_nil, List.append_nil] at listed
    have record : u.records[k] = some r.tick := by rw [before.records k, stands]; rfl
    have others (j : Fin 8) (apart : j ≠ k) : u.records[j] = none := by rw [before.records j, alone j apart]; rfl
    have sends : r.tick.sendsFar u.cfg.station = r.sendsFar s.cfg.station := by rw [sendsFar_tick, before.cfg]
    refine ⟨s.boundary io, rfl, fun busy remote => ?_, fun still => ?_⟩
    · have far := (sendsFar_iff s.cfg.station r).mpr ⟨busy, remote⟩
      rw [farSendings_one record others (sends.trans far)] at listed
      have line : (u.portCfg k).line = (s.portCfg k).line := by rw [State.portCfg, before.cfg]; rfl
      rw [line, ← ports] at listed
      exact boundary_sends before active room listed queue counts
    · have far : r.sendsFar s.cfg.station = false := by
        refine Bool.eq_false_iff.mpr fun h => ?_
        obtain ⟨busy, remote⟩ := (sendsFar_iff s.cfg.station r).mp h
        rcases still with idle | ⟨members, listeners⟩
        · exact busy.elim idle.1 idle.2
        · rcases remote with ⟨m, hm, apart⟩ | ⟨l, hl, apart⟩
          · exact apart (members m hm)
          · exact apart (listeners l hl)
      rw [farSendings_none fun j x stands' => by
        by_cases here : j = k
        · subst here
          obtain rfl := Option.some.inj (record.symm.trans stands')
          exact sends.trans far
        · exact absurd ((others j here).symm.trans stands') nofun] at listed
      have sent := sendVoices_none listed
      rw [queue, counts, sent]
      exact ⟨before.queue, rfl⟩

end Sys2Proof.Machine
end
